-- ==== Sys2Proof/Word.lean ====
section
/-! DEFINITION. The machine's smallest unit. The manual counts everything in integers (4.1) and speaks of bits only
for the characters of its two links, the CRC and the flag fields: those are the only bit vectors of the model. -/

namespace Sys2Proof

/-- One character of a link, or one byte of a table (R65, R178, Table 62). -/
abbrev Byte := BitVec 8

/-- A field of two characters, most significant first (R198). -/
abbrev Half := BitVec 16

end Sys2Proof
end

