-- ==== Sys2Proof/Syntax.lean ====
section
/-! DEFINITION. The commands: one constructor of `Instr` per row of spec/opcode_table.json, with what the outside
world gives it. The table gives its rows no fields; an operand stands here only where the row's text names a value
that the machine's own state does not hold already (which contact, which channel, which characters). The thirteen
request rows take their values from the request in hand (R188), so they carry none. -/

namespace Sys2Proof

/-- The three contact inputs (Table 1). -/
inductive Contact where
  | rotor | surface | bottom
deriving DecidableEq, Repr

/-- The two stage sources (1.1). -/
inductive Source where
  | primary | secondary
deriving DecidableEq, Repr

/-- The levels of the input lines, read at a reset (R128, R85, R187): a contact is closed, LINK and CTS are high,
the reply pair is low. -/
structure Lines where
  rotorClosed : Bool
  surfaceClosed : Bool
  bottomClosed : Bool
  link : Bool
  cts : Bool
  replyLow : Bool
deriving DecidableEq, Repr

/-- The characters of a loop frame after its address (R67): kind, payload (its length is the length character) and
the CRC received. -/
structure FrameBody where
  kind : Byte
  payload : List Byte
  crc : Half
deriving DecidableEq, Repr

/-- A reception failure of Table 31 other than GAP, which has a row of its own. MARK brings the character that cut
the frame: it is the address of a new frame (R72). -/
inductive FrameFault where
  | framing | length | mark (addr : Byte) | crc | stray
deriving DecidableEq, Repr

/-- How a frame on the reply pair comes to its end: with its second CRC character, or with a failure before it. -/
inductive FrameEnd where
  | complete (b : FrameBody)
  | failed (f : FrameFault)
deriving DecidableEq, Repr

/-- An inbound uplink frame after its sync pair (Table 66). -/
structure UplinkFrame where
  station : Half
  kind : Byte
  seq : Half
  payload : List Byte
  crc : Half
deriving DecidableEq, Repr

/-- The faults of R184 that the row UPLINK_FRAME_ERROR names. -/
inductive UplinkFault where
  | framing | length | crc
deriving DecidableEq, Repr

/-- What the reply pair falls for (R71, R78): a character with its mark, whose data bits are the address of a frame, or
a low level that begins none and is no part of one: a character without a mark that R71 ignores, or less than a character.
The second is the model's operand of the row FRAME_BEGINS (log entry 14). -/
inductive LineStart where
  | marked (addr : Byte) | unmarked
deriving DecidableEq, Repr

/-- What the uplink's receive side has heard, as the row SYNC_PAIR_RECEIVED brings it (log entry 36): in HUNTING,
`discarded` characters that continued no sync pair, and after them, where `found`, the second sync character. -/
structure UplinkHeard where
  discarded : Nat
  found : Bool
deriving DecidableEq, Repr

/-- The commands, in the order of the table. -/
inductive Instr where
  /-- Main supply up: whether the backup supply held, the seconds it counted meanwhile, the input lines. -/
  | powerOnReset (backupHeld : Bool) (elapsed : Nat) (lines : Lines)
  | resetLineAssert
  | warmReset
  | coldReset
  | requestTaken
  | readStatus
  | readRecords
  | readTable
  | writeTableConfig
  | writeTableChannels
  | writeTableRatingStaged
  | writeTableRules
  | writeTablePatterns
  | writeTablePlan
  | activateRating
  | addShift
  | deleteShift
  | startRun
  | abortRun
  | silence
  | warningTest
  | setClock
  | resetPart
  | intervalBoundary
  | staleTimerExpiry (src : Source)
  | historyStep
  | standDownExpiry
  | warningTestEnd
  | pollDue (ch : Fin 24)
  | pollSkip (ch : Fin 24)
  | commandFrameSent
  | replyTimeout
  | replyReceived (body : FrameBody)
  | receptionFailure (fault : FrameFault)
  | receptionGap
  | unsolicitedFrame (fin : FrameEnd)
  | breakDetected
  /-- The reply pair returns high, after a break or after a shorter low level. -/
  | breakEnd
  | loopJammed
  | loopCleared
  | grantBegin
  | grantFrameReceived (fin : FrameEnd)
  | grantTimeout
  | claimWaitExpiry
  | interleaveEnd
  | contactClosure (c : Contact)
  | exposureExpiry
  | timeLimitExpiry
  | missingPulseExpiry
  | settleExpiry
  | traverseTimeout
  | cableTimeout
  | enquiryInterval
  | retrieveTimeout
  | inverseLookup
  | uplinkItemEnd
  | ctsFall
  | ctsRise
  | linkFall
  | linkRise
  | uplinkFrameReceived (f : UplinkFrame)
  | uplinkFrameError (fault : UplinkFault)
  | uplinkReceiveGap
  | contactOpening (c : Contact)
  | frameBegins (start : LineStart)
  | syncPairReceived (heard : UplinkHeard)
deriving DecidableEq, Repr

end Sys2Proof
end

