-- ==== Sys2Proof/Decode.lean ====
section
/-! DEFINITION. The command a word spells. The commands of this block are events and requests: no row of
spec/opcode_table.json gives bits, so no word spells one (log entry 1). The bytes of a request are read by
`parseRequest` in Machine/Control.lean. -/

namespace Sys2Proof

/-- No row gives bits. -/
def decodeTableWord (_nbits _w : Nat) : Option Instr := none

end Sys2Proof
end

