-- ==== Sys2Proof/Config.lean ====
section
/-! DEFINITION. The values the manual leaves open. Each is an opaque constant: nothing in Lean can tell what it is, and
a claim that holds holds whatever it is. -/

namespace Sys2Proof

/-- The request code a reply carries when the request it answers has no characters at all: R189 has every reply carry
the request code it answers, and an empty payload has none. Free value (log entry 6). -/
opaque Config.codeOfEmptyRequest : Byte

end Sys2Proof
end

