-- ==== Sys2Proof/Machine/State.lean ====
section
/-! DEFINITION. The state of the HG-340, block by block (Table 2), as plain data, and its value right after reset.
Times of the station clock are seconds; times of the timebase are milliseconds (4.3). A time called *fine* counts
units of 1/96,000 s, of which a millisecond holds 96 and one bit of either link a whole number, so that a period in
character times is exact (R65). -/

namespace Sys2Proof.Machine

/-- The machine has no fault: every event the manual describes leaves a next state, and one that cannot arise in a
state is not taken there. -/
inductive Fault
deriving DecidableEq, Repr

/-- Why a command has no meaning. -/
inductive Refusal where
  /-- Raised by `exec` for a row that has no meaning yet, by its name. Safe: nothing is claimed of it. -/
  | notModelled (mnemonic : String)
deriving DecidableEq, Repr

/-! ## Clocks and tables -/

/-- The two time bases (4.3, R14, R15). `subMs` is the model's: how far the running second has gone. -/
structure Clocks where
  time : Nat
  valid : Bool
  subMs : Nat
  timebase : Nat
deriving DecidableEq, Repr

/-- The tables kept as written (Tables 62, 64 and 65): each a list of its bytes. RATING-LIVE and SHIFTS are owned by
the rating unit and are not written through, so they stand in `Rat`. -/
structure Tables where
  config : List Byte
  channels : List Byte
  staged : List Byte
  rules : List Byte
  patterns : List Byte
  plan0 : List Byte
  plan1 : List Byte
  plan2 : List Byte
  plan3 : List Byte
deriving DecidableEq, Repr

/-! ## STG, the stage unit (Table 8) -/

inductive SourceState where
  | noData | valid | stale
deriving DecidableEq, Repr

/-- A scaled sample: millimetres, and whether scaling clamped it (R2). -/
structure Sample where
  mm : Int
  clamped : Bool
deriving DecidableEq, Repr

/-- What STG holds for one source. -/
structure SourceRec where
  state : SourceState
  last : Option Sample
  lastTime : Option Nat
  suspect : Option Sample
  staleAt : Option Nat
deriving DecidableEq, Repr

inductive Selection where
  | none | primary | secondary
deriving DecidableEq, Repr

/-- The selected stage with its flags (R11, R12). -/
structure Selected where
  mm : Int
  clamped : Bool
  alignLimit : Bool
  secondaryUsed : Bool
deriving DecidableEq, Repr

/-- The flags of Table 12, in its order. -/
structure IntervalFlags where
  clamped : Bool
  alignLimit : Bool
  secondaryUsed : Bool
  stageLost : Bool
  missedPolls : Bool
  belowRating : Bool
  extrapolated : Bool
  extrapLimit : Bool
  clockSet : Bool
  resetClosed : Bool
  clockInvalid : Bool
deriving DecidableEq, Repr

/-- The accumulator of the open interval (R19). -/
structure Accum where
  count : Nat
  stageSum : Int
  low : Option Int
  high : Option Int
  last : Option Int
  disSum : Nat
  disCount : Nat
  primary : Bool
  secondary : Bool
  flags : IntervalFlags
  ratingId : Option Nat
  shiftStart : Option Nat
deriving DecidableEq, Repr

structure Stg where
  prim : SourceRec
  sec : SourceRec
  selection : Selection
  recovery : Nat
  offset : Int
  selected : Option Selected
  /-- Newest first, 64 entries (R17). -/
  history : List (Option Int)
  historyAt : Nat
  openStart : Nat
  nextBoundary : Nat
  acc : Accum
deriving DecidableEq, Repr

/-! ## RAT, the rating unit (Table 13) -/

/-- A rating in use: no breakpoints, or 2 to 48 of them (Table 14). -/
structure Bank where
  ratingId : Nat
  limit : Nat
  points : List (Int × Nat)
deriving DecidableEq, Repr

/-- A shift record: its start time and 1 to 4 (stage, shift) points. -/
structure ShiftRec where
  start : Nat
  points : List (Int × Int)
deriving DecidableEq, Repr

/-- An instant discharge result (Table 18). -/
structure RatResult where
  discharge : Option Nat
  stage : Int
  shift : Int
  eff : Int
  clamped : Bool
  belowRating : Bool
  extrapolated : Bool
  extrapLimit : Bool
  noRating : Bool
  ratingId : Option Nat
  shiftStart : Option Nat
deriving DecidableEq, Repr

structure Rat where
  live : Bank
  /-- Strictly increasing start times, at most 16 (R26). -/
  shifts : List ShiftRec
  latest : Option RatResult
deriving DecidableEq, Repr

/-- What a placement in the shift table did (R28). -/
inductive Placement where
  | replaced | inserted | evicted (start : Nat)
deriving DecidableEq, Repr

/-! ## WRN, the warning unit (Table 21) -/

inductive RuleState where
  | off | armed | pending (k : Nat) | triggered
deriving DecidableEq, Repr

structure StandDown where
  start : Nat
  level : Nat
  expiry : Nat
deriving DecidableEq, Repr

structure WarnTest where
  level : Nat
  stopAt : Nat
deriving DecidableEq, Repr

structure Wrn where
  rules : List RuleState
  stageLost : Bool
  target : Nat
  level : Nat
  standDown : Option StandDown
  resetHold : Bool
  silenced : Bool
  test : Option WarnTest
  /-- OUT-A is bit 0, OUT-D bit 3. -/
  outputs : BitVec 4
deriving DecidableEq, Repr

/-! ## PLS, the pulse inputs (Table 40) -/

structure Input where
  closed : Bool
  lastAccepted : Option Nat
  accepted : Nat
  ignored : Nat
deriving DecidableEq, Repr

inductive RotorMode where
  | gate | period
deriving DecidableEq, Repr

inductive RotorState where
  | idle | armed | counting | done
deriving DecidableEq, Repr

/-- A rotor result (R123). -/
structure RotorResult where
  mode : RotorMode
  n : Nat
  t : Nat
  countClamped : Bool
  periodShort : Bool
  noRotation : Bool
  p : Nat
  start : Option Nat
  stop : Nat
deriving DecidableEq, Repr

/-- The rotor measurement; `exposureAt` is the exposure timer in GATE and the time-limit timer in PERIOD. -/
structure Rotor where
  state : RotorState
  mode : RotorMode
  exposure : Nat
  revs : Nat
  p : Nat
  missTimeout : Nat
  count : Nat
  clamped : Bool
  start : Option Nat
  exposureAt : Option Nat
  missAt : Option Nat
  result : Option RotorResult
deriving DecidableEq, Repr

inductive LatchState where
  | idle | armed | latched
deriving DecidableEq, Repr

/-- The values of a latch: the cable count with its age, or `none` for NO-POSITION, and the closure time (R126). -/
structure LatchVal where
  cable : Option (Int × Nat)
  closedAt : Nat
deriving DecidableEq, Repr

structure Latch where
  state : LatchState
  armTime : Option Nat
  value : Option LatchVal
deriving DecidableEq, Repr

structure Pls where
  rotorIn : Input
  surfaceIn : Input
  bottomIn : Input
  rotor : Rotor
  surface : Latch
  bottom : Latch
deriving DecidableEq, Repr

/-! ## Records (Tables 12, 25, 52, 53 and 58) -/

inductive Quality where
  | noData | partly | good
deriving DecidableEq, Repr

structure IntervalRec where
  start : Nat
  count : Nat
  mean : Option Int
  low : Option Int
  high : Option Int
  last : Option Int
  meanDischarge : Option Nat
  primary : Bool
  secondary : Bool
  flags : IntervalFlags
  quality : Quality
  ratingId : Option Nat
  shiftStart : Option Nat
deriving DecidableEq, Repr

inductive WarnCause where
  | rule (n : Nat) | standDown | stageLost | resetCold
deriving DecidableEq, Repr

structure WarnRec where
  time : Nat
  valid : Bool
  old : Nat
  new : Nat
  cause : WarnCause
  stage : Option Int
  discharge : Option Nat
deriving DecidableEq, Repr

inductive NoticeBody where
  | stageLost
  | stageRestored (src : Source)
  | loopJammed
  | loopCleared (ms skipped : Nat)
  | test (level duration current : Nat)
  | runRetrieved (planId start : Nat) (startValid : Bool) (clockEnd : Nat) (home : Bool)
deriving DecidableEq, Repr

structure Notice where
  time : Nat
  valid : Bool
  body : NoticeBody
deriving DecidableEq, Repr

/-- The flags of one vertical: its own and those of its points (R158, R160). -/
structure VertFlags where
  alternateUsed : Bool
  shallowVertical : Bool
  shallowPoint : Bool
  noRotation : Bool
  periodShort : Bool
  countClamped : Bool
  velocityClamped : Bool
deriving DecidableEq, Repr

/-- The flags of a gauging, in the order of R167. -/
structure GaugeFlags where
  retrieveTimeout : Bool
  abortedCommand : Bool
  abortedWarning : Bool
  abortedTimeout : Bool
  abortedWinchFault : Bool
  abortedLoop : Bool
  positionError : Bool
  abortedReset : Bool
  verts : VertFlags
  stageGap : Bool
  unsteady : Bool
  noRating : Bool
  outOfRating : Bool
  shiftAdopted : Bool
  shiftLimit : Bool
deriving DecidableEq, Repr

/-- The outcome of a run (R149), in the manual's order. -/
inductive RunOutcome where
  | complete | abortedCommand | abortedWarning | abortedTimeout | abortedWinchFault | abortedLoop
  | positionError | abortedReset | abortedPower
deriving DecidableEq, Repr

inductive Grade where
  | good | fair | poor
deriving DecidableEq, Repr

structure VertRec where
  entry : Nat
  x : Nat
  depth : Nat
  velocities : List Nat
  mean : Nat
  width : Nat
  discharge : Nat
  latch : Option Int
  flags : VertFlags
deriving DecidableEq, Repr

structure GaugeRec where
  plan : Nat
  planId : Nat
  start : Nat
  startValid : Bool
  stop : Nat
  stopValid : Bool
  outcome : RunOutcome
  flags : GaugeFlags
  grade : Grade
  total : Nat
  gaugeHeight : Option Int
  stageChange : Option Int
  indicated : Option Int
  placement : Option Placement
  ratingId : Option Nat
  verticals : List VertRec
deriving DecidableEq, Repr

inductive Content where
  | interval (r : IntervalRec)
  | warning (r : WarnRec)
  | notice (r : Notice)
  | gauging (r : GaugeRec)
deriving DecidableEq, Repr

/-- A record in the store; `sent` is its report state. -/
structure StoreRec where
  seq : Nat
  content : Content
  sent : Bool
deriving DecidableEq, Repr

/-- REC's ring: the list oldest first, the next sequence number, the slots in use (10.1). -/
structure Store where
  records : List StoreRec
  nextSeq : Nat
  slotsUsed : Nat
deriving DecidableEq, Repr

/-! ## RUN, the run engine (chapter 8) -/

inductive RunState where
  | idle | traverse | verify | surfaceSeek | sound | pointSeek | settle | expose | lift | retrieve | close
deriving DecidableEq, Repr

inductive ReleaseMode where
  | whenDone | onDemand | hold
deriving DecidableEq, Repr

/-- What RUN hands the loop controller (R83). -/
inductive CmdKind where
  | poll
  | traverseTo (x : Nat)
  | cableTo (count : Int)
  | halt
  | retrieve
  | grant (limit : Nat) (mode : ReleaseMode)
deriving DecidableEq, Repr

/-- A reception failure kind of a transaction, as counted and kept (R71, R72). -/
inductive RxFault where
  | timeout | framing | gap | length | mark | crc | stray
deriving DecidableEq, Repr

/-- The outcome of a command, as LOOP tells it (R83): sent without reply, answered, failed with its kind (R73), or
replaced by a later one before it was sent. -/
inductive CmdOutcome where
  | sent | answered | failed (k : RxFault) | replaced
deriving DecidableEq, Repr

/-- A command with the winch address it names; `id` is the model's, to match an outcome to its command. -/
structure RunCmd where
  kind : CmdKind
  addr : Nat
  id : Nat
deriving DecidableEq, Repr

inductive WinchState where
  | idle | moving | atTarget | obstructed | fault | home
deriving DecidableEq, Repr

structure Position where
  x : Nat
  cable : Int
  winch : WinchState
  addr : Nat
  arrived : Nat
deriving DecidableEq, Repr

/-- The run marker (R133). -/
structure Marker where
  plan : Nat
  planId : Nat
  addr : Nat
  start : Nat
  startValid : Bool
  written : Bool
deriving DecidableEq, Repr

inductive PointKind where
  | p02 | p06 | p08 | surface | bottom
deriving DecidableEq, Repr

/-- A point still to be measured: its cable count and SHALLOW-POINT (R142). -/
structure PointSpec where
  kind : PointKind
  cable : Int
  shallow : Bool
deriving DecidableEq, Repr

/-- A point result (R158). -/
structure PointResult where
  kind : PointKind
  cable : Int
  mode : RotorMode
  n : Nat
  t : Nat
  p : Nat
  segment : Option Nat
  velocity : Nat
  shallow : Bool
  countClamped : Bool
  periodShort : Bool
  noRotation : Bool
  velocityClamped : Bool
deriving DecidableEq, Repr

/-- The vertical in progress (8.4). -/
structure Vertical where
  entry : Nat
  targetX : Nat
  alternate : Bool
  surface : Option Int
  bottom : Option Int
  depth : Option Int
  shallow : Bool
  points : List PointSpec
  results : List PointResult
deriving DecidableEq, Repr

/-- A completed vertical (R160). -/
structure DoneVert where
  entry : Nat
  x : Nat
  alternate : Bool
  depth : Nat
  results : List PointResult
  mean : Nat
  latch : Option Int
  flags : VertFlags
deriving DecidableEq, Repr

/-- What CLOSE computes (R161 to R166). `asked` is the inverse lookup that waits for its answer. -/
structure Calc where
  panels : List (Nat × Nat)
  total : Nat
  gaugeHeight : Option Int
  stageChange : Option Int
  stageGap : Bool
  unsteady : Bool
  asked : Option Nat
  noRating : Bool
  outOfRating : Bool
  ratingId : Option Nat
  indicated : Option Int
deriving DecidableEq, Repr

/-- The working run record (R132). `fromMarker`: the run is a retrieval that began at a reset (R156). -/
structure RunRec where
  plan : Nat
  planId : Nat
  start : Nat
  startValid : Bool
  startStage : Option Int
  verticals : List DoneVert
  outcome : Option RunOutcome
  flags : GaugeFlags
  figures : Option Calc
  fromMarker : Bool
deriving DecidableEq, Repr

structure Run where
  state : RunState
  marker : Option Marker
  held : Option Nat
  position : Option Position
  record : Option RunRec
  cursor : Option Nat
  vertical : Option Vertical
  /-- The node of the grant that LOOP has told RUN of, while it is held (R103, R111). -/
  grantKnown : Option Nat
  /-- The command handed last, with its outcome still to come (`true`) or known. -/
  nextId : Nat
  lastCmd : Option (RunCmd × Bool)
  /-- The outcome that LOOP has told last, with its command's id (R73, R83). -/
  told : Option (Nat × CmdOutcome)
  /-- The latest move command handed in the present state, and whether its effect counts (R136). -/
  moveId : Option Nat
  moveSent : Bool
  /-- HALT whose outcome POINT-SEEK awaits (R142). -/
  haltId : Option Nat
  /-- A RETRIEVE has been sent or answered (R147). -/
  retrieveSent : Bool
  /-- A grant was held at the entry to VERIFY (R138). -/
  verifyGrant : Bool
  traverseAt : Option Nat
  cableAt : Option Nat
  /-- The expiry of a traverse or cable timer has come and is still to be taken, the timer having been stopped or
  restarted by another event of that moment (R151). -/
  traverseLapsed : Bool
  cableLapsed : Bool
  settleAt : Option Nat
  retrieveAt : Option Nat
  enquiryAt : Option Nat
deriving DecidableEq, Repr

/-! ## LOOP, the loop controller (chapters 4 and 6) -/

structure FaultCounts where
  timeout : Nat
  framing : Nat
  gap : Nat
  length : Nat
  mark : Nat
  crc : Nat
  stray : Nat
deriving DecidableEq, Repr

inductive PollOutcome where
  | good | failed (k : RxFault)
deriving DecidableEq, Repr

/-- One entry of the poll schedule (4.6). `announced` is the model's: the event at which the poll fell due has been
taken for the present due time. -/
structure Poll where
  due : Nat
  announced : Bool
  missed : Bool
  last : Option PollOutcome
  skipped : Nat
deriving DecidableEq, Repr

/-- Who asked for a transaction (R82). -/
inductive Asker where
  | poll (ch : Nat)
  | run (c : RunCmd)
deriving DecidableEq, Repr

/-- The course of a transaction (R71): its opening frame waits for the transmitter, is on it, has been sent (with the
fine expiry of the reply timeout), or a reply has begun. -/
inductive TxnPhase where
  | queued | sending | waiting (expiry : Nat) | replying
deriving DecidableEq, Repr

structure Txn where
  asker : Asker
  addr : Nat
  phase : TxnPhase
deriving DecidableEq, Repr

/-- What a frame in progress on the reply pair is received as (R71, R75, R104). -/
inductive RxContext where
  | reply | granted | unsolicited
deriving DecidableEq, Repr

structure RxFrame where
  addr : Byte
  context : RxContext
deriving DecidableEq, Repr

/-- A SERVICE-OUT frame; `resets` marks the last fragment of a RESET-PART reply (R195). -/
structure SvcFrame where
  addr : Nat
  payload : List Byte
  resets : Bool
deriving DecidableEq, Repr

/-- A frame on the command pair (Table 29). -/
inductive CmdFrame where
  | claim
  | winch (c : RunCmd)
  | service (f : SvcFrame)
  | opening (addr : Nat) (k : CmdKind)
deriving DecidableEq, Repr

/-- The frame on the transmitter and the fine time at which its last character ends. -/
structure OnAir where
  frame : CmdFrame
  doneAt : Nat
deriving DecidableEq, Repr

inductive GrantState where
  | idle | opening | held | closing | claiming
deriving DecidableEq, Repr

inductive ClaimCause where
  | duePoll | warning | runEngine | timeout
deriving DecidableEq, Repr

inductive GrantEnd where
  | burstEnd | claimAnswered | limit | noBurstEnd | jammed
deriving DecidableEq, Repr

/-- The claim wait (R110): its length, and its fine expiry, absent while a frame arriving holds it. -/
structure ClaimWait where
  length : Nat
  expiry : Option Nat
deriving DecidableEq, Repr

/-- The grant record (6.1); `recorded` is a claim recorded in OPENING. -/
structure Grant where
  state : GrantState
  node : Nat
  limit : Nat
  mode : ReleaseMode
  count : Nat
  began : Nat
  timerAt : Option Nat
  wait : Option ClaimWait
  cause : Option ClaimCause
  recorded : Option ClaimCause
  interleaveAt : Option Nat
  lastEnd : Option (GrantEnd × Nat)
  begun : Nat
  endedBurstEnd : Nat
  endedClaimAnswered : Nat
  endedLimit : Nat
  endedNoBurstEnd : Nat
  endedJammed : Nat
deriving DecidableEq, Repr

/-- The jam in force: its entry and the polls skipped in it (R77, R80). -/
structure Jam where
  entered : Nat
  skipped : Nat
deriving DecidableEq, Repr

structure Loop where
  rate : Nat
  txn : Option Txn
  rx : Option RxFrame
  jam : Option Jam
  /-- A break is present; the fine time of the falling edge that began it. -/
  lineBreak : Option Nat
  /-- The fine time at which the line was found low by a reset, a break not yet recognised (R85). -/
  lowSince : Option Nat
  /-- The fine time since which the line counts as high (R78). -/
  highSince : Nat
  sched : List (Option Poll)
  nodeFail : List Nat
  faults : FaultCounts
  unsolicited : Nat
  droppedService : Nat
  claimPlace : Bool
  /-- The winch command place and the service queue, each frame with its place in the order of handing over (R70). -/
  winchPlace : Option (RunCmd × Nat)
  serviceQ : List (SvcFrame × Nat)
  handNo : Nat
  tx : Option OnAir
  pendingCmd : Option RunCmd
  grant : Grant
deriving DecidableEq, Repr

/-! ## CHT, the channel table (chapter 5) -/

/-- The treatment of an entry (5.1), with the number of the first field that failed. -/
inductive Treatment where
  | active | disabled | invalid (field : Nat) | duplicate
deriving DecidableEq, Repr

inductive DiscardReason where
  | form | kind | nodeFault | shortSample
deriving DecidableEq, Repr

/-- What CHT keeps per entry (R92, R98). -/
structure EntryStats where
  classified : Nat
  delivered : Nat
  forwarded : Nat
  discarded : Nat
  reason : Option DiscardReason
  nodeStatus : Option Byte
  lastDelivery : Option Nat
deriving DecidableEq, Repr

structure Cht where
  view : List Treatment
  stats : List EntryStats
  winchClassified : Nat
  winchDiscarded : Nat
  winchReason : Option DiscardReason
  unknownAddr : Option Byte
  unknownTime : Option Nat
  unknownCount : Nat
deriving DecidableEq, Repr

/-! ## UPL, the uplink port (chapter 10) -/

structure FwdItem where
  number : Nat
  channel : Nat
  addr : Nat
  time : Nat
  valid : Bool
  kind : Byte
  payload : List Byte
deriving DecidableEq, Repr

/-- A reply for the uplink: the sequence field it answers and its payload. -/
structure Reply where
  seq : Half
  payload : List Byte
deriving DecidableEq, Repr

inductive ReportClass where
  | reply | warning | forward | gauging | interval
deriving DecidableEq, Repr

/-- The item in the frame buffer (R174, R177): its class, its sequence or forward number, its frames as built, and how
far its sending has come, in fine units of character time. `dropped`: the forward queue has lost the item since its
selection (R175, R179). -/
structure TxItem where
  cls : ReportClass
  number : Nat
  frames : List (List Byte)
  elapsed : Nat
  dropped : Bool := false
deriving DecidableEq, Repr

structure Upl where
  rate : Nat
  buffer : Option TxItem
  slot : Option Reply
  fwdQ : List FwdItem
  nextFwd : Nat
  assembling : Bool
  /-- The timebase at the latest character of the frame being assembled that a command has told of (R184). -/
  lastChar : Option Nat
  /-- What is still to go, in fine units, of the character in whose course its item was abandoned (R180); a
  reset cuts it (log entry 60). -/
  tail : Nat
  framing : Nat
  gap : Nat
  length : Nat
  crc : Nat
  linkLost : Nat
  foreign : Nat
  kindDiscards : Nat
  huntDiscards : Nat
  ready : Bool
deriving DecidableEq, Repr

/-! ## CTL, the control decoder (chapter 11) -/

/-- The path a request came by, with its return item (R188). -/
inductive Origin where
  | uplink (seq : Half)
  | service (addr : Nat)
deriving DecidableEq, Repr

structure Request where
  origin : Origin
  payload : List Byte
deriving DecidableEq, Repr

/-- A request whose form is good (Tables 61 and 68). -/
inductive Req where
  | readStatus (section_ page : Nat)
  | readRecords (first limit offset : Nat)
  | readTable (table offset length : Nat)
  | writeTable (table offset : Nat) (data : List Byte)
  | activateRating
  | addShift (start count : Nat) (points : List (Int × Int))
  | deleteShift (start : Nat)
  | startRun (plan : Nat)
  | abortRun
  | silence
  | warningTest (level duration : Nat)
  | setClock (time : Nat)
  | resetPart (cold : Bool)
deriving DecidableEq, Repr

/-- The request in hand (R188): `work` is what its owner has still to carry out, absent once its reply is built. -/
structure InHand where
  request : Request
  work : Option Req
deriving DecidableEq, Repr

/-- A reply built but not yet handed over whole (R189). -/
inductive PendingReply where
  | slot (r : Reply)
  | fragments (frames : List SvcFrame)
deriving DecidableEq, Repr

inductive ResetKind where
  | powerOn | warm | cold
deriving DecidableEq, Repr

/-- The reset in waiting (R195): its reply stands in the reply slot; its reply has gone, so that it begins. -/
structure ResetWait where
  cold : Bool
  placed : Bool
  gone : Bool
deriving DecidableEq, Repr

/-- The last refused request: its code, whether it came by the uplink, the reply code (R190). -/
structure Refused where
  code : Byte
  byUplink : Bool
  reply : Byte
deriving DecidableEq, Repr

structure Ctl where
  queue : List Request
  inHand : Option InHand
  pendingReply : Option PendingReply
  resetWait : Option ResetWait
  droppedBusy : Nat
  lastRefusal : Option Refused
deriving DecidableEq, Repr

/-! ## The whole machine -/

structure State where
  clk : Clocks
  tbl : Tables
  stg : Stg
  rat : Rat
  wrn : Wrn
  pls : Pls
  run : Run
  loop : Loop
  cht : Cht
  store : Store
  upl : Upl
  ctl : Ctl
  lines : Lines
  /-- The RESET line is asserted (R196). -/
  resetLine : Bool
  lastReset : ResetKind
  /-- The commands that wait, first in first out. -/
  pending : List Instr
deriving DecidableEq, Repr

def State.setClk (s : State) (b : Clocks) : State := { s with clk := b }
def State.setTbl (s : State) (b : Tables) : State := { s with tbl := b }
def State.setStg (s : State) (b : Stg) : State := { s with stg := b }
def State.setRat (s : State) (b : Rat) : State := { s with rat := b }
def State.setWrn (s : State) (b : Wrn) : State := { s with wrn := b }
def State.setPls (s : State) (b : Pls) : State := { s with pls := b }
def State.setRun (s : State) (b : Run) : State := { s with run := b }
def State.setLoop (s : State) (b : Loop) : State := { s with loop := b }
def State.setCht (s : State) (b : Cht) : State := { s with cht := b }
def State.setStore (s : State) (b : Store) : State := { s with store := b }
def State.setUpl (s : State) (b : Upl) : State := { s with upl := b }
def State.setCtl (s : State) (b : Ctl) : State := { s with ctl := b }
def State.setLines (s : State) (b : Lines) : State := { s with lines := b }

/-! ## The state right after reset: a delivered part at its first POWER-ON, with no backup supply before it -/

def noIntervalFlags : IntervalFlags :=
  ⟨false, false, false, false, false, false, false, false, false, false, false⟩

def noVertFlags : VertFlags := ⟨false, false, false, false, false, false, false⟩

def noGaugeFlags : GaugeFlags :=
  ⟨false, false, false, false, false, false, false, false, noVertFlags, false, false, false, false, false, false⟩

def emptyAccum : Accum :=
  { count := 0, stageSum := 0, low := none, high := none, last := none, disSum := 0, disCount := 0,
    primary := false, secondary := false, flags := noIntervalFlags, ratingId := none, shiftStart := none }

/-- A source after any reset (R21). -/
def freshSource : SourceRec :=
  { state := .noData, last := none, lastTime := none, suspect := none, staleAt := none }

/-- An input after any reset, at the level of its line (R128). -/
def freshInput (closed : Bool) : Input := { closed := closed, lastAccepted := none, accepted := 0, ignored := 0 }

def idleRotor : Rotor :=
  { state := .idle, mode := .gate, exposure := 0, revs := 0, p := 0, missTimeout := 0, count := 0, clamped := false,
    start := none, exposureAt := none, missAt := none, result := none }

def idleLatch : Latch := { state := .idle, armTime := none, value := none }

/-- RUN with nothing in progress, keeping its non-volatile marker (R156). -/
def idleRun (marker : Option Marker) : Run :=
  { state := .idle, marker := marker, held := none, position := none, record := none, cursor := none,
    vertical := none, grantKnown := none, nextId := 0, lastCmd := none, told := none, moveId := none, moveSent := false,
    haltId := none, retrieveSent := false, verifyGrant := false, traverseAt := none, cableAt := none,
    traverseLapsed := false, cableLapsed := false, settleAt := none, retrieveAt := none, enquiryAt := none }

/-- The grant record after any reset (R114). -/
def freshGrant : Grant :=
  { state := .idle, node := 0, limit := 1, mode := .whenDone, count := 0, began := 0, timerAt := none, wait := none,
    cause := none, recorded := none, interleaveAt := none, lastEnd := none, begun := 0, endedBurstEnd := 0,
    endedClaimAnswered := 0, endedLimit := 0, endedNoBurstEnd := 0, endedJammed := 0 }

/-- LOOP after any reset (R85), before its schedule is built. -/
def freshLoop (rate : Nat) (replyLow : Bool) (sched : List (Option Poll)) : Loop :=
  { rate := rate, txn := none, rx := none, jam := none, lineBreak := none,
    lowSince := if replyLow then some 0 else none, highSince := 0, sched := sched,
    nodeFail := List.replicate 30 0, faults := ⟨0, 0, 0, 0, 0, 0, 0⟩, unsolicited := 0, droppedService := 0,
    claimPlace := false, winchPlace := none, serviceQ := [], handNo := 0, tx := none, pendingCmd := none,
    grant := freshGrant }

def freshStats : EntryStats :=
  { classified := 0, delivered := 0, forwarded := 0, discarded := 0, reason := none, nodeStatus := none,
    lastDelivery := none }

/-- CHT after any reset (R100), with the view recomputed. -/
def freshCht (view : List Treatment) : Cht :=
  { view := view, stats := List.replicate 24 freshStats, winchClassified := 0, winchDiscarded := 0,
    winchReason := none, unknownAddr := none, unknownTime := none, unknownCount := 0 }

/-- UPL after any reset (R187). DESIGN CHOICE (log entry 60): the character in progress at the reset is cut at once, so
that `tail` is 0. -/
def freshUpl (rate : Nat) : Upl :=
  { rate := rate, buffer := none, slot := none, fwdQ := [], nextFwd := 0, assembling := false, lastChar := none,
    tail := 0, framing := 0, gap := 0, length := 0, crc := 0, linkLost := 0, foreign := 0, kindDiscards := 0,
    huntDiscards := 0, ready := true }

/-- CTL after any reset (R197). -/
def freshCtl : Ctl :=
  { queue := [], inHand := none, pendingReply := none, resetWait := none, droppedBusy := 0, lastRefusal := none }

/-- CONFIG as delivered (Table 64). -/
def deliveredConfig : List Byte :=
  [0, 150, 3, 132, 3, 0, 100, 0, 60, 15, 30, 60, 120, 2, 37, 128, 20, 10, 1, 244, 5, 5, 5, 10, 1, 44, 37, 128, 0, 1,
   0, 0]

/-- PATTERNS as delivered (Table 26): on-set and silenceable set of QUIET, WATCH, ALERT and FLOOD. -/
def deliveredPatterns : List Byte := [0, 0, 1, 0, 3, 2, 7, 6]

/-- Every table as delivered: all entries disabled, banks and plans at 0 (R22, R129, 3.1, 5.1). -/
def deliveredTables : Tables :=
  { config := deliveredConfig, channels := List.replicate 360 0, staged := List.replicate 293 0,
    rules := List.replicate 168 0, patterns := deliveredPatterns, plan0 := List.replicate 323 0,
    plan1 := List.replicate 323 0, plan2 := List.replicate 323 0, plan3 := List.replicate 323 0 }

def emptyBank : Bank := { ratingId := 0, limit := 0, points := [] }

def State.reset : State :=
  { clk := { time := 0, valid := false, subMs := 0, timebase := 0 }
    tbl := deliveredTables
    stg :=
      { prim := freshSource, sec := freshSource, selection := .none, recovery := 0, offset := 0, selected := none,
        history := List.replicate 64 none, historyAt := 60000, openStart := 0, nextBoundary := 900,
        acc := { emptyAccum with flags := { noIntervalFlags with stageLost := true, clockInvalid := true } } }
    rat := { live := emptyBank, shifts := [], latest := none }
    wrn :=
      { rules := List.replicate 12 .off, stageLost := true, target := 0, level := 0, standDown := none,
        resetHold := true, silenced := false, test := none, outputs := 0 }
    pls :=
      { rotorIn := freshInput false, surfaceIn := freshInput false, bottomIn := freshInput false, rotor := idleRotor,
        surface := idleLatch, bottom := idleLatch }
    run := idleRun none
    loop := freshLoop 9600 false (List.replicate 24 none)
    cht := freshCht (List.replicate 24 .disabled)
    store := { records := [], nextSeq := 0, slotsUsed := 0 }
    upl := freshUpl 9600
    ctl := freshCtl
    lines := ⟨false, false, false, false, false, false⟩
    resetLine := false
    lastReset := .powerOn
    pending := [] }

end Sys2Proof.Machine
end

