-- ==== Sys2Proof/Machine/Ops.lean ====
section
/-! DEFINITION. The operations every block shares: rounding (4.2), clamping (R1), saturating counts, the byte order of
fields (R198), the cyclic code of both links (R67, R177), the two time units, and taking an event. -/

namespace Sys2Proof.Machine

/-! ## Numbers -/

/-- 4.2: the quotient rounded to the nearest integer, a half away from zero. The divisor is above 0. -/
def roundDiv (n d : Int) : Int :=
  if 0 ≤ n then (2 * n + d) / (2 * d) else -((2 * (-n) + d) / (2 * d))

/-- `roundDiv` of two counts. -/
def roundDivNat (n d : Nat) : Nat := (2 * n + d) / (2 * d)

/-- R1: below the range the lower limit, above it the upper limit. -/
def clampNat (lo hi n : Nat) : Nat := if n < lo then lo else if hi < n then hi else n

def clampInt (lo hi n : Int) : Int := if n < lo then lo else if hi < n then hi else n

/-- One more, saturating at 65,535 (R73, R75, R80, R98, R111, R184). -/
def inc16 (n : Nat) : Nat := if n < 65535 then n + 1 else 65535

/-- The largest listed value at or below `n`, or `least` where there is none (R1, R65, R176). -/
def largestListed (least : Nat) (listed : List Nat) (n : Nat) : Nat :=
  listed.foldl (fun best v => if v ≤ n then v else best) least

/-- The largest number of calendar seconds (R14). -/
def clockMax : Nat := 4294967295

/-! ## Bytes (R198: the most significant byte first, signed fields in two's complement) -/

/-- `n` in `w` bytes. -/
def beNat : Nat → Nat → List Byte
  | 0, _ => []
  | w + 1, n => beNat w (n / 256) ++ [BitVec.ofNat 8 n]

/-- A signed number in `w` bytes. -/
def beInt (w : Nat) (n : Int) : List Byte := beNat w (n % (256 ^ w : Nat)).toNat

/-- An optional signed field: 0 where it is absent. -/
def beIntOpt (w : Nat) (n : Option Int) : List Byte := beInt w (n.getD 0)

def beNatOpt (w : Nat) (n : Option Nat) : List Byte := beNat w (n.getD 0)

def boolByte (b : Bool) : Byte := if b then 1 else 0

/-- One bit per flag, the first in bit 0 (R198). -/
def bitsNat : List Bool → Nat
  | [] => 0
  | b :: bs => (if b then 1 else 0) + 2 * bitsNat bs

def u8 (t : List Byte) (o : Nat) : Nat := (t.getD o 0).toNat
def u16 (t : List Byte) (o : Nat) : Nat := u8 t o * 256 + u8 t (o + 1)
def u32 (t : List Byte) (o : Nat) : Nat := u16 t o * 65536 + u16 t (o + 2)

/-- The number that `n`, below `m`, stands for in two's complement. -/
def signed (m n : Nat) : Int := if 2 * n < m then (n : Int) else (n : Int) - m

def i16 (t : List Byte) (o : Nat) : Int := signed 65536 (u16 t o)
def i32 (t : List Byte) (o : Nat) : Int := signed 4294967296 (u32 t o)

/-- A table with `data` written at `off`; the caller has checked that it fits (R193). -/
def writeBytes (t : List Byte) (off : Nat) (data : List Byte) : List Byte :=
  t.take off ++ data ++ t.drop (off + data.length)

/-- The first `n` bytes, filled up with zeros. -/
def padTo (n : Nat) (bs : List Byte) : List Byte := (bs ++ List.replicate (n - bs.length) 0).take n

/-! ## The cyclic code x^16 + x^12 + x^5 + 1, from all ones, each character most significant bit first -/

def crcShift (r : Half) : Half := if r.msb then (r <<< 1) ^^^ 0x1021 else r <<< 1

def crcChar (r : Half) (b : Byte) : Half :=
  let r := r ^^^ (b.setWidth 16 <<< 8)
  crcShift (crcShift (crcShift (crcShift (crcShift (crcShift (crcShift (crcShift r)))))))

def crc16 (bs : List Byte) : Half := bs.foldl crcChar 0xFFFF

/-! ## Time -/

/-- A millisecond, and a second, in fine units. -/
def fineMs : Nat := 96
def fineSecond : Nat := 96000

/-- R65: one loop character, eleven bit periods, in fine units. -/
def loopChar (rate : Nat) : Nat := 11 * (fineSecond / rate)

/-- R178: one uplink character, ten bit periods. -/
def uplinkChar (rate : Nat) : Nat := 10 * (fineSecond / rate)

def State.now (s : State) : Nat := s.clk.timebase

def State.fineNow (s : State) : Nat := fineMs * s.clk.timebase

/-- A timer is due: it runs and its expiry is reached. -/
def dueAt (timer : Option Nat) (now : Nat) : Bool :=
  match timer with
  | some t => t ≤ now
  | none => false

/-! ## Taking an event -/

/-- R196: while the RESET line stays asserted the part takes no event. -/
def taken (s : State) (f : State → State) : Host.Outcome State Fault Refusal :=
  .next (if s.resetLine then s else f s)

/-- An event that touches the state only where it can arise. -/
def whenever (p : Bool) (f : State → State) (s : State) : State := if p then f s else s

end Sys2Proof.Machine
end

