-- ==== Sys2Proof/Machine/Operands.lean ====
section
/-! DEFINITION. Reading the tables: every CONFIG field clamped as its block clamps it (R1, Tables 9, 23, 28, 37, 41,
59 and 64), and the rows of CHANNELS, RULES, PATTERNS and the plan tables (Table 65), with the examinations that the
manual makes of a row by its bytes alone. -/

namespace Sys2Proof.Machine

/-! ## CONFIG (Table 64) -/

def cfgSpikeLimit (c : List Byte) : Nat := clampNat 1 2000 (u16 c 0)
/-- Milliseconds. -/
def cfgStaleLimit (c : List Byte) : Nat := 1000 * clampNat 10 7200 (u16 c 2)
def cfgRecovery (c : List Byte) : Nat := clampNat 1 10 (u8 c 4)
def cfgAlignLimit (c : List Byte) : Nat := clampNat 0 2000 (u16 c 5)
/-- Seconds. -/
def cfgHistoryStep (c : List Byte) : Nat := clampNat 10 600 (u16 c 7)
/-- R1: minutes, the largest listed length at or below the stored value. -/
def cfgIntervalLength (c : List Byte) : Nat := largestListed 1 [1, 2, 5, 10, 15, 30, 60] (u8 c 9)
/-- The stand-down time of level 1, 2 or 3 in milliseconds (Table 23). -/
def cfgStandDown (c : List Byte) (level : Nat) : Nat := 60000 * clampNat 0 240 (u8 c (9 + level))
def cfgStopLevel (c : List Byte) : Nat := clampNat 1 4 (u8 c 13)
def listedRates : List Nat := [1200, 2400, 4800, 9600, 19200]
def cfgLoopRate (c : List Byte) : Nat := largestListed 1200 listedRates (u16 c 14)
/-- Character times. -/
def cfgReplyTimeout (c : List Byte) : Nat := clampNat 4 255 (u8 c 16)
/-- Milliseconds. -/
def cfgGrantTimeout (c : List Byte) : Nat := 1000 * clampNat 1 60 (u8 c 17)
def cfgInterleave (c : List Byte) : Nat := clampNat 0 10000 (u16 c 18)
def cfgDebounce (c : List Byte) : Contact → Nat
  | .rotor => clampNat 2 50 (u8 c 20)
  | .surface => clampNat 2 50 (u8 c 21)
  | .bottom => clampNat 2 50 (u8 c 22)
/-- Milliseconds. -/
def cfgMissingPulse (c : List Byte) : Nat := 1000 * clampNat 1 60 (u8 c 23)
def cfgAdoptLimit (c : List Byte) : Nat := clampNat 1 2000 (u16 c 24)
def cfgUplinkRate (c : List Byte) : Nat := largestListed 1200 listedRates (u16 c 26)
def cfgStationId (c : List Byte) : Nat := clampNat 1 65535 (u16 c 28)
/-- R191: the uplink write mask bit of a table. -/
def cfgWriteMask (c : List Byte) (table : Nat) : Bool := (u16 c 30).testBit table

/-! ## Access by table number (Table 62) -/

def tableSize : Nat → Nat
  | 0 => 32
  | 1 => 360
  | 2 => 293
  | 3 => 293
  | 4 => 337
  | 5 => 168
  | 6 => 8
  | _ => 323

/-- Plan table `n`, 0 to 3. -/
def Tables.plan (t : Tables) : Nat → List Byte
  | 0 => t.plan0
  | 1 => t.plan1
  | 2 => t.plan2
  | _ => t.plan3

def Tables.setPlan (t : Tables) (n : Nat) (bs : List Byte) : Tables :=
  match n with
  | 0 => { t with plan0 := bs }
  | 1 => { t with plan1 := bs }
  | 2 => { t with plan2 := bs }
  | _ => { t with plan3 := bs }

/-! ## CHANNELS (Tables 33 and 65) -/

inductive Role where
  | stagePrimary | stageSecondary | winch | forward | service
deriving DecidableEq, Repr

def Role.ofCode : Nat → Option Role
  | 0 => some .stagePrimary
  | 1 => some .stageSecondary
  | 2 => some .winch
  | 3 => some .forward
  | 4 => some .service
  | _ => none

/-- R87: the roles that at most one entry holds. -/
def Role.single : Role → Bool
  | .stagePrimary => true
  | .stageSecondary => true
  | .winch => true
  | _ => false

/-- The stage source of a stage role. -/
def Role.source? : Role → Option Source
  | .stagePrimary => some .primary
  | .stageSecondary => some .secondary
  | _ => none

structure ChanEntry where
  enabled : Nat
  addr : Nat
  role : Nat
  index : Nat
  gain : Int
  offset : Int
  period : Nat
  phase : Nat
  alsoForward : Nat
deriving DecidableEq, Repr

def chanEntry (t : List Byte) (i : Nat) : ChanEntry :=
  let o := 15 * i
  { enabled := u8 t o, addr := u8 t (o + 1), role := u8 t (o + 2), index := u8 t (o + 3), gain := i32 t (o + 4),
    offset := i16 t (o + 8), period := u16 t (o + 10), phase := u16 t (o + 12), alsoForward := u8 t (o + 14) }

/-- R86: the number of the first field outside Table 33. DESIGN CHOICE (log entry 55): the fields are numbered from 0 in the
order of Table 33, Enabled the first. The offset always lies within its range, being two bytes. An enabled field that is
neither yes nor no fails as field 0 (DEDUCED from R198, log entry 20). -/
def ChanEntry.badField (e : ChanEntry) : Option Nat :=
  if e.enabled ≠ 1 then some 0
  else if e.addr < 1 ∨ 30 < e.addr then some 1
  else if 4 < e.role then some 2
  else if e.index < 1 ∨ 4 < e.index then some 3
  else if e.gain < -1048576 ∨ 1048575 < e.gain then some 4
  else if e.period < 1 ∨ 3600 < e.period then some 6
  else if e.period ≤ e.phase then some 7
  else if 1 < e.alsoForward then some 8
  else none

/-- The entry is enabled and passes R86. -/
def ChanEntry.eligible (e : ChanEntry) : Bool := e.enabled = 1 ∧ e.badField = none

/-- R87: a lower-numbered eligible entry holds the same single-holder role. -/
def displaced (t : List Byte) (i : Nat) : Bool :=
  match Role.ofCode (chanEntry t i).role with
  | some r =>
    r.single && (List.range i).any fun j =>
      (chanEntry t j).eligible && (chanEntry t j).role == (chanEntry t i).role
  | none => false

/-- R86, R87: the treatment of entry `i`. -/
def treatmentOf (t : List Byte) (i : Nat) : Treatment :=
  let e := chanEntry t i
  if e.enabled = 0 then .disabled
  else
    match e.badField with
    | some f => .invalid f
    | none => if displaced t i then .duplicate else .active

/-- R88: the whole view. -/
def viewOf (t : List Byte) : List Treatment := (List.range 24).map (treatmentOf t)

/-- Whether the view treats entry `i` as ACTIVE. -/
def activeIn (view : List Treatment) (i : Nat) : Bool := view.getD i .disabled == .active

/-- The role of entry `i` while it is ACTIVE. -/
def activeRole (view : List Treatment) (t : List Byte) (i : Nat) : Option Role :=
  if activeIn view i then Role.ofCode (chanEntry t i).role else none

/-- R87: the entry that holds a single-holder role, the lowest-numbered ACTIVE one. -/
def holderOf (view : List Treatment) (t : List Byte) (r : Role) : Option Nat :=
  (List.range 24).find? fun i => activeRole view t i == some r

/-! ## RULES (Tables 22 and 65) -/

structure RuleEntry where
  enabled : Nat
  source : Nat
  trigger : Int
  reset : Int
  persistence : Nat
  target : Nat
  failSafe : Bool
  window : Nat
deriving DecidableEq, Repr

def ruleEntry (t : List Byte) (i : Nat) : RuleEntry :=
  let o := 14 * i
  { enabled := u8 t o, source := u8 t (o + 1), trigger := i32 t (o + 2), reset := i32 t (o + 6),
    persistence := u8 t (o + 10), target := u8 t (o + 11), failSafe := u8 t (o + 12) = 1, window := u8 t (o + 13) }

/-- The range of a rule's trigger and reset levels by source (Table 22). -/
def ruleRange : Nat → Int × Int
  | 0 => (-2000, 20000)
  | 1 => (0, 100000000)
  | _ => (-60000, 60000)

/-- R42: enabled and within Table 22. -/
def RuleEntry.valid (e : RuleEntry) : Bool :=
  let r := ruleRange e.source
  e.enabled = 1 ∧ e.source ≤ 2 ∧ r.1 ≤ e.trigger ∧ e.trigger ≤ r.2 ∧ r.1 ≤ e.reset ∧ e.reset ≤ r.2 ∧
    e.reset < e.trigger ∧ 1 ≤ e.persistence ∧ e.persistence ≤ 60 ∧ 1 ≤ e.target ∧ e.target ≤ 3 ∧
    (e.source = 2 → 1 ≤ e.window ∧ e.window ≤ 63)

/-! ## PATTERNS (R54) -/

def patternOn (t : List Byte) (level : Nat) : BitVec 4 := (t.getD (2 * level) 0).setWidth 4
def patternSilence (t : List Byte) (level : Nat) : BitVec 4 := (t.getD (2 * level + 1) 0).setWidth 4

/-! ## RATING-STAGED (R22, Table 65) -/

def stagedId (t : List Byte) : Nat := u16 t 0
def stagedLimit (t : List Byte) : Nat := u16 t 2
def stagedCount (t : List Byte) : Nat := u8 t 4
def stagedPoint (t : List Byte) (i : Nat) : Int × Nat := (i16 t (5 + 6 * i), u32 t (7 + 6 * i))

/-! ## PLAN-0 to PLAN-3 (Tables 46, 47 and 65) -/

inductive Method where
  | onePoint | twoPoint | threePoint | surface
deriving DecidableEq, Repr

def Method.ofCode : Nat → Method
  | 0 => .onePoint
  | 1 => .twoPoint
  | 2 => .threePoint
  | _ => .surface

/-- R101: a mode other than the three listed is WHEN-DONE. -/
def ReleaseMode.ofCode : Nat → ReleaseMode
  | 1 => .onDemand
  | 2 => .hold
  | _ => .whenDone

/-- R117: a mode other than the two listed is GATE. -/
def RotorMode.ofCode : Nat → RotorMode
  | 1 => .period
  | _ => .gate

structure PlanHeader where
  planId : Nat
  method : Nat
  a1 : Nat
  b1 : Nat
  nBreak : Nat
  a2 : Nat
  b2 : Nat
  p : Nat
  weightOffset : Nat
  exposureMode : Nat
  exposure : Nat
  revs : Nat
  settle : Nat
  traverseTimeout : Nat
  cableTimeout : Nat
  tolerance : Nat
  burstLimit : Nat
  traverseMode : Nat
  cableMode : Nat
  unsteadyLimit : Nat
  k : Nat
  adopt : Nat
  count : Nat
deriving DecidableEq, Repr

def planHeader (t : List Byte) : PlanHeader :=
  { planId := u16 t 0, method := u8 t 2, a1 := u16 t 3, b1 := u32 t 5, nBreak := u32 t 9, a2 := u16 t 13,
    b2 := u32 t 15, p := u8 t 19, weightOffset := u16 t 20, exposureMode := u8 t 22, exposure := u16 t 23,
    revs := u16 t 25, settle := u8 t 27, traverseTimeout := u16 t 28, cableTimeout := u16 t 30, tolerance := u16 t 32,
    burstLimit := u8 t 34, traverseMode := u8 t 35, cableMode := u8 t 36, unsteadyLimit := u16 t 37, k := u16 t 39,
    adopt := u8 t 41, count := u8 t 42 }

/-- Table 46: each header field with its range, in the order of Table 65, which is the order of R190's numbers. -/
def PlanHeader.fields (h : PlanHeader) : List (Nat × Nat × Nat) :=
  [(h.planId, 1, 65535), (h.method, 0, 3), (h.a1, 0, 500), (h.b1, 1, 5000000), (h.nBreak, 0, 100000), (h.a2, 0, 500),
   (h.b2, 1, 5000000), (h.p, 1, 16), (h.weightOffset, 0, 500), (h.exposureMode, 0, 1), (h.exposure, 10, 300),
   (h.revs, 1, 1000), (h.settle, 0, 120), (h.traverseTimeout, 10, 600), (h.cableTimeout, 5, 300),
   (h.tolerance, 10, 2000), (h.burstLimit, 1, 32), (h.traverseMode, 0, 2), (h.cableMode, 0, 2),
   (h.unsteadyLimit, 0, 2000), (h.k, 700, 1000), (h.adopt, 0, 1), (h.count, 0, 40)]

/-- The number of the first header field out of range. -/
def PlanHeader.badField (h : PlanHeader) : Option Nat :=
  h.fields.findIdx? fun f => f.1 < f.2.1 || f.2.2 < f.1

structure PlanEntry where
  kind : Nat
  x : Nat
  method : Nat
  alternate : Nat
deriving DecidableEq, Repr

def planEntry (t : List Byte) (i : Nat) : PlanEntry :=
  let o := 43 + 7 * i
  { kind := u8 t o, x := u32 t (o + 1), method := u8 t (o + 5), alternate := u8 t (o + 6) }

/-- The codes of an entry's kind (Table 47, R198). -/
def kindEdgeLeft : Nat := 0
def kindMeasure : Nat := 1
def kindEdgeRight : Nat := 2
def kindSpare : Nat := 3

/-- The method of a MEASURE entry; DEFAULT, code 4, is the header's (Table 47). -/
def methodOf (h : PlanHeader) (e : PlanEntry) : Method :=
  if e.method = 4 then Method.ofCode h.method else Method.ofCode e.method

/-- The nearest EDGE or MEASURE entry before entry `i`. -/
def pathBefore (t : List Byte) (i : Nat) : Option PlanEntry :=
  (((List.range i).map (planEntry t)).filter fun e => e.kind < kindSpare).getLast?

/-- The nearest EDGE or MEASURE entry after entry `i` of a list of `count`. -/
def pathAfter (t : List Byte) (count i : Nat) : Option PlanEntry :=
  (((List.range (count - (i + 1))).map fun j => planEntry t (i + 1 + j)).filter fun e => e.kind < kindSpare).head?

/-- R130: the alternate of MEASURE entry `i` names a SPARE that lies strictly between its neighbours. -/
def alternateGood (t : List Byte) (count i : Nat) : Bool :=
  let l := (planEntry t i).alternate
  l == 255 ||
    (decide (l < count) && (planEntry t l).kind == kindSpare &&
      (pathBefore t i).any (fun e => e.x < (planEntry t l).x) &&
      (pathAfter t count i).any (fun e => (planEntry t l).x < e.x))

/-- Entry `i` is the last of the list, SPAREs apart: they may stand anywhere in it (R130; log entry 24). -/
def isLastEntry (t : List Byte) (count i : Nat) : Bool :=
  (planEntry t i).kind != kindSpare &&
    (List.range (count - (i + 1))).all fun j => (planEntry t (i + 1 + j)).kind == kindSpare

/-- The last entry of the list, SPAREs apart, which a good plan has as its EDGE-RIGHT. -/
def lastEntry (t : List Byte) (count : Nat) : Option PlanEntry :=
  (((List.range count).map (planEntry t)).filter fun e => e.kind != kindSpare).getLast?

/-- R130 step 3 at entry `i`. -/
def entryGood (t : List Byte) (count i : Nat) : Bool :=
  let e := planEntry t i
  decide (e.kind ≤ 3 ∧ e.x ≤ 500000 ∧ (i = 0 ↔ e.kind = kindEdgeLeft) ∧
      (isLastEntry t count i = true ↔ e.kind = kindEdgeRight) ∧
      (e.kind = kindMeasure → e.method ≤ 4)) &&
    (i == 0 || e.kind == kindSpare || (pathBefore t i).any fun b => b.x < e.x) &&
    (e.kind != kindMeasure || alternateGood t count i)

/-- A fault position of a plan as R190 codes it: the position byte and the fault field byte. -/
def planFault (t : List Byte) : Option (Nat × Nat) :=
  let h := planHeader t
  match h.badField with
  | some f => some (240, f)
  | none =>
    if h.count < 3 ∨ 40 < h.count then some (241, 0)
    else
      match (List.range h.count).find? fun i => !entryGood t h.count i with
      | some i => some (i, 0)
      | none => if (List.range h.count).any fun i => (planEntry t i).kind == kindMeasure then none else some (242, 0)

/-- The first MEASURE entry at or after index `i` (R132, R145). -/
def nextMeasure (t : List Byte) (i : Nat) : Option Nat :=
  ((List.range (planHeader t).count).filter fun j => i ≤ j && (planEntry t j).kind == kindMeasure).head?

end Sys2Proof.Machine
end

