-- ==== Sys2Proof/Machine/Flags.lean ====
section
/-! DEFINITION. Flag fields and coded values: the union of flags, and the numbers under which R198 sends them (a flag
field has one bit per flag in the order its table lists them; an enumerated field counts from 0 in the manual's
order unless a layout gives codes). -/

namespace Sys2Proof.Machine

/-! ## Interval flags (Table 12) -/

def IntervalFlags.union (a b : IntervalFlags) : IntervalFlags :=
  { clamped := a.clamped || b.clamped, alignLimit := a.alignLimit || b.alignLimit,
    secondaryUsed := a.secondaryUsed || b.secondaryUsed, stageLost := a.stageLost || b.stageLost,
    missedPolls := a.missedPolls || b.missedPolls, belowRating := a.belowRating || b.belowRating,
    extrapolated := a.extrapolated || b.extrapolated, extrapLimit := a.extrapLimit || b.extrapLimit,
    clockSet := a.clockSet || b.clockSet, resetClosed := a.resetClosed || b.resetClosed,
    clockInvalid := a.clockInvalid || b.clockInvalid }

/-- R19: the flags that one selected stage and its discharge bring. -/
def sampleFlags (v : Selected) (r : RatResult) : IntervalFlags :=
  { noIntervalFlags with
    clamped := v.clamped || r.clamped, alignLimit := v.alignLimit, secondaryUsed := v.secondaryUsed,
    belowRating := r.belowRating, extrapolated := r.extrapolated, extrapLimit := r.extrapLimit }

def IntervalFlags.bits (f : IntervalFlags) : Nat :=
  bitsNat [f.clamped, f.alignLimit, f.secondaryUsed, f.stageLost, f.missedPolls, f.belowRating, f.extrapolated,
    f.extrapLimit, f.clockSet, f.resetClosed, f.clockInvalid]

/-! ## Gauging flags (R167) -/

def VertFlags.union (a b : VertFlags) : VertFlags :=
  { alternateUsed := a.alternateUsed || b.alternateUsed, shallowVertical := a.shallowVertical || b.shallowVertical,
    shallowPoint := a.shallowPoint || b.shallowPoint, noRotation := a.noRotation || b.noRotation,
    periodShort := a.periodShort || b.periodShort, countClamped := a.countClamped || b.countClamped,
    velocityClamped := a.velocityClamped || b.velocityClamped }

/-- The flags of one point (R158). -/
def PointResult.flags (r : PointResult) : VertFlags :=
  { alternateUsed := false, shallowVertical := false, shallowPoint := r.shallow, noRotation := r.noRotation,
    periodShort := r.periodShort, countClamped := r.countClamped, velocityClamped := r.velocityClamped }

def VertFlags.list (f : VertFlags) : List Bool :=
  [f.alternateUsed, f.shallowVertical, f.shallowPoint, f.noRotation, f.periodShort, f.countClamped, f.velocityClamped]

def VertFlags.bits (f : VertFlags) : Nat := bitsNat f.list

def GaugeFlags.bits (f : GaugeFlags) : Nat :=
  bitsNat ([f.retrieveTimeout, f.abortedCommand, f.abortedWarning, f.abortedTimeout, f.abortedWinchFault, f.abortedLoop,
    f.positionError, f.abortedReset] ++ f.verts.list ++
    [f.stageGap, f.unsteady, f.noRating, f.outOfRating, f.shiftAdopted, f.shiftLimit])

/-- The name of an abort cause among the flags (R151, R167). An outcome that no cause gives has none. -/
def GaugeFlags.withCause (f : GaugeFlags) : RunOutcome → GaugeFlags
  | .abortedCommand => { f with abortedCommand := true }
  | .abortedWarning => { f with abortedWarning := true }
  | .abortedTimeout => { f with abortedTimeout := true }
  | .abortedWinchFault => { f with abortedWinchFault := true }
  | .abortedLoop => { f with abortedLoop := true }
  | .positionError => { f with positionError := true }
  | .abortedReset => { f with abortedReset := true }
  | .complete => f
  | .abortedPower => f

/-! ## Discharge flags (Table 18), coded for READ-STATUS -/

def RatResult.flagBits (r : RatResult) : Nat :=
  bitsNat [r.clamped, r.belowRating, r.extrapolated, r.extrapLimit, r.noRating]

/-! ## Codes -/

def sourceCode : Source → Nat
  | .primary => 0
  | .secondary => 1

def SourceState.code : SourceState → Nat
  | .noData => 0
  | .valid => 1
  | .stale => 2

/-- Table 8: PRIMARY, SECONDARY or NONE. -/
def Selection.code : Selection → Nat
  | .primary => 0
  | .secondary => 1
  | .none => 2

def Quality.code : Quality → Nat
  | .noData => 0
  | .partly => 1
  | .good => 2

/-- Table 12: none, PRIMARY, SECONDARY, or both. -/
def sourcesCode (primary secondary : Bool) : Nat := (if primary then 1 else 0) + (if secondary then 2 else 0)

def WarnCause.code : WarnCause → Nat
  | .rule n => n
  | .standDown => 12
  | .stageLost => 13
  | .resetCold => 14

def RunOutcome.code : RunOutcome → Nat
  | .complete => 0
  | .abortedCommand => 1
  | .abortedWarning => 2
  | .abortedTimeout => 3
  | .abortedWinchFault => 4
  | .abortedLoop => 5
  | .positionError => 6
  | .abortedReset => 7
  | .abortedPower => 8

def Grade.code : Grade → Nat
  | .good => 0
  | .fair => 1
  | .poor => 2

def Placement.code : Placement → Nat
  | .replaced => 0
  | .inserted => 1
  | .evicted _ => 2

def Placement.removed : Placement → Nat
  | .evicted t => t
  | _ => 0

/-- Table 68. -/
def RunState.code : RunState → Nat
  | .idle => 0
  | .traverse => 1
  | .verify => 2
  | .surfaceSeek => 3
  | .sound => 4
  | .pointSeek => 5
  | .settle => 6
  | .expose => 7
  | .lift => 8
  | .retrieve => 9
  | .close => 10

def WinchState.code : WinchState → Nat
  | .idle => 0
  | .moving => 1
  | .atTarget => 2
  | .obstructed => 3
  | .fault => 4
  | .home => 5

def WinchState.ofCode : Nat → Option WinchState
  | 0 => some .idle
  | 1 => some .moving
  | 2 => some .atTarget
  | 3 => some .obstructed
  | 4 => some .fault
  | 5 => some .home
  | _ => none

def ReleaseMode.code : ReleaseMode → Nat
  | .whenDone => 0
  | .onDemand => 1
  | .hold => 2

/-- Table 63: the kind codes of the command pair. -/
def CmdKind.code : CmdKind → Nat
  | .poll => 1
  | .traverseTo _ => 2
  | .cableTo _ => 3
  | .halt => 4
  | .retrieve => 5
  | .grant _ _ => 6

/-- Table 63: the kind codes of the reply pair. -/
def kindSample : Byte := 16
def kindEmpty : Byte := 17
def kindPosition : Byte := 18
def kindBurstEnd : Byte := 19
def kindServiceIn : Byte := 20

def RxFault.code : RxFault → Nat
  | .timeout => 0
  | .framing => 1
  | .gap => 2
  | .length => 3
  | .mark => 4
  | .crc => 5
  | .stray => 6

def GrantState.code : GrantState → Nat
  | .idle => 0
  | .opening => 1
  | .held => 2
  | .closing => 3
  | .claiming => 4

def ClaimCause.code : ClaimCause → Nat
  | .duePoll => 0
  | .warning => 1
  | .runEngine => 2
  | .timeout => 3

def GrantEnd.code : GrantEnd → Nat
  | .burstEnd => 0
  | .claimAnswered => 1
  | .limit => 2
  | .noBurstEnd => 3
  | .jammed => 4

def Treatment.code : Treatment → Nat
  | .active => 0
  | .disabled => 1
  | .invalid _ => 2
  | .duplicate => 3

def DiscardReason.code : DiscardReason → Nat
  | .form => 0
  | .kind => 1
  | .nodeFault => 2
  | .shortSample => 3

def RotorState.code : RotorState → Nat
  | .idle => 0
  | .armed => 1
  | .counting => 2
  | .done => 3

def RotorMode.code : RotorMode → Nat
  | .gate => 0
  | .period => 1

def LatchState.code : LatchState → Nat
  | .idle => 0
  | .armed => 1
  | .latched => 2

/-- The classes of an item, in the order of precedence (10.2). -/
def ReportClass.code : ReportClass → Nat
  | .reply => 0
  | .warning => 1
  | .forward => 2
  | .gauging => 3
  | .interval => 4

def ResetKind.code : ResetKind → Nat
  | .powerOn => 0
  | .warm => 1
  | .cold => 2

/-- Table 69. -/
def replyOk : Byte := 0
def replyBusy : Byte := 1
def replyBadRequest : Byte := 2
def replyBadTable : Byte := 3
def replyOrigin : Byte := 4
def replyInvalid : Byte := 5
def replyBadPlan : Byte := 6
def replyNotIdle : Byte := 7
def replyInhibited : Byte := 8
def replyNoWinch : Byte := 9

end Sys2Proof.Machine
end

