-- ==== Sys2Proof/Machine/Formats.lean ====
section
/-! DEFINITION. The byte layouts of records and frames (11.6): the slots of a record (Table 67), the frames of the
command pair (Table 63) and of the uplink (Table 66), the bytes of RATING-LIVE and SHIFTS (Table 65). -/

namespace Sys2Proof.Machine

/-! ## Records in slots of 44 bytes -/

def IntervalRec.bytes (r : IntervalRec) : List Byte :=
  beNat 4 r.start ++ beNat 2 r.count ++ beIntOpt 2 r.mean ++ beIntOpt 2 r.low ++ beIntOpt 2 r.high ++
    beIntOpt 2 r.last ++ beNatOpt 4 r.meanDischarge ++ beNat 1 (sourcesCode r.primary r.secondary) ++
    beNat 2 r.flags.bits ++ beNat 1 r.quality.code ++ beNatOpt 2 r.ratingId ++ beNatOpt 4 r.shiftStart ++
    beNat 1 (bitsNat [r.mean.isSome, r.low.isSome, r.high.isSome, r.last.isSome, r.meanDischarge.isSome,
      r.ratingId.isSome, r.shiftStart.isSome])

def WarnRec.bytes (r : WarnRec) : List Byte :=
  beNat 4 r.time ++ [boolByte r.valid] ++ beNat 1 r.old ++ beNat 1 r.new ++ beNat 1 r.cause.code ++
    beIntOpt 2 r.stage ++ beNatOpt 4 r.discharge ++ beNat 1 (bitsNat [r.stage.isSome, r.discharge.isSome])

/-- Tables 58 and 67. DESIGN CHOICE (log entry 43): of a count of polls skipped above 65,535, which no rule bounds, and of
a jam longer than 2^32 ms, the two and the four bytes of the layout carry the low ones. -/
def NoticeBody.bytes : NoticeBody → List Byte
  | .stageLost => [1]
  | .stageRestored src => 2 :: beNat 1 (sourceCode src)
  | .loopJammed => [3]
  | .loopCleared ms skipped => 4 :: (beNat 4 ms ++ beNat 2 skipped)
  | .test level duration current => 5 :: (beNat 1 level ++ beNat 1 duration ++ beNat 1 current)
  | .runRetrieved planId start valid clockEnd home =>
    6 :: (beNat 2 planId ++ beNat 4 start ++ [boolByte valid] ++ beNat 4 clockEnd ++ [if home then 0 else 1])

def Notice.bytes (n : Notice) : List Byte := beNat 4 n.time ++ [boolByte n.valid] ++ n.body.bytes

def GaugeRec.headerBytes (r : GaugeRec) : List Byte :=
  beNat 1 r.plan ++ beNat 2 r.planId ++ beNat 4 r.start ++ beNat 4 r.stop ++
    beNat 1 (bitsNat [r.startValid, r.stopValid]) ++ beNat 1 r.outcome.code ++ beNat 4 r.flags.bits ++
    beNat 1 r.grade.code ++ beNat 4 r.total ++ beIntOpt 2 r.gaugeHeight ++ beIntOpt 2 r.stageChange ++
    beIntOpt 2 r.indicated ++ beNat 1 ((r.placement.map Placement.code).getD 0) ++
    beNat 4 ((r.placement.map Placement.removed).getD 0) ++ beNatOpt 2 r.ratingId ++ beNat 1 r.verticals.length ++
    beNat 1 (bitsNat [r.gaugeHeight.isSome, r.stageChange.isSome, r.indicated.isSome, r.placement.isSome,
      r.ratingId.isSome])

/-- Table 67. DESIGN CHOICE (log entry 53): the point velocities beyond the point count are 0. -/
def VertRec.bytes (v : VertRec) : List Byte :=
  beNat 1 v.entry ++ beNat 4 v.x ++ beNat 2 v.flags.bits ++ beNat 2 v.depth ++ beNat 1 v.velocities.length ++
    beNat 2 (v.velocities.getD 0 0) ++ beNat 2 (v.velocities.getD 1 0) ++ beNat 2 (v.velocities.getD 2 0) ++
    beNat 2 v.mean ++ beNat 4 v.width ++ beNat 4 v.discharge ++ beIntOpt 2 v.latch ++
    beNat 1 (bitsNat [v.latch.isSome])

/-- Table 57: the slots a record needs. -/
def Content.slotCount : Content → Nat
  | .gauging r => 2 + r.verticals.length
  | _ => 1

/-- The record's slots, each of 44 bytes. DESIGN CHOICE (log entry 53): the bytes of a slot that Table 67 leaves unfilled, but
for those of a gauging header, which it makes 0, are 0. -/
def Content.slots : Content → List (List Byte)
  | .interval r => [padTo 44 r.bytes]
  | .warning r => [padTo 44 r.bytes]
  | .notice n => [padTo 44 n.bytes]
  | .gauging r =>
    padTo 44 r.headerBytes :: padTo 44 (r.headerBytes.drop 44) :: r.verticals.map fun v => padTo 44 v.bytes

/-- The record kind codes of Table 66. -/
def Content.kindCode : Content → Byte
  | .interval _ => 1
  | .warning _ => 2
  | .notice _ => 3
  | .gauging _ => 4

/-- Table 57: the report class. -/
def Content.cls : Content → ReportClass
  | .interval _ => .interval
  | .warning _ => .warning
  | .notice _ => .warning
  | .gauging _ => .gauging

/-! ## Frames of the command pair (R67, Table 63) -/

/-- Table 63. The burst limit sent is the one taken (R101). -/
def CmdKind.payload : CmdKind → List Byte
  | .traverseTo x => beNat 4 x
  | .cableTo c => beInt 4 c
  | .grant limit mode => beNat 1 (clampNat 1 32 limit) ++ beNat 1 mode.code
  | _ => []

/-- The characters of a frame after its address: kind, length, payload, CRC. -/
def loopBody (kind : Nat) (payload : List Byte) : List Byte :=
  let body := beNat 1 kind ++ beNat 1 payload.length ++ payload
  body ++ beNat 2 (crc16 body).toNat

/-- The data bits of a frame's characters; the first alone has its mark bit at 1. -/
def CmdFrame.chars : CmdFrame → List Byte
  | .claim => [31]
  | .winch c => beNat 1 c.addr ++ loopBody c.kind.code c.kind.payload
  | .service f => beNat 1 f.addr ++ loopBody 7 f.payload
  | .opening addr k => beNat 1 addr ++ loopBody k.code k.payload

/-! ## Frames of the uplink (R177, Table 66) -/

def uplinkBody (station kind seq : Nat) (payload : List Byte) : List Byte :=
  beNat 2 station ++ beNat 1 kind ++ beNat 2 seq ++ beNat 1 payload.length ++ payload

def uplinkFrame (station kind seq : Nat) (payload : List Byte) : List Byte :=
  let body := uplinkBody station kind seq payload
  [0xA7, 0x3C] ++ body ++ beNat 2 (crc16 body).toNat

/-- R177: the slots cut into parts of up to four. Fuel is the number of slots. -/
def cutParts : Nat → List (List Byte) → List (List (List Byte))
  | 0, _ => []
  | n + 1, slots => if slots.isEmpty then [] else slots.take 4 :: cutParts n (slots.drop 4)

/-- R177: the REPORT frames of a record. -/
def reportFrames (station : Nat) (r : StoreRec) : List (List Byte) :=
  let parts := cutParts r.content.slots.length r.content.slots
  parts.zipIdx.map fun (part, i) =>
    uplinkFrame station 3 r.seq
      ([r.content.kindCode, boolByte r.sent] ++ beNat 1 i ++ beNat 1 parts.length ++ part.flatten)

def replyFrame (station : Nat) (r : Reply) : List Byte := uplinkFrame station 2 r.seq.toNat r.payload

def forwardFrame (station : Nat) (f : FwdItem) : List Byte :=
  uplinkFrame station 4 f.number
    (beNat 1 f.channel ++ beNat 1 f.addr ++ beNat 4 f.time ++ [boolByte f.valid, f.kind] ++
      beNat 1 f.payload.length ++ f.payload)

/-! ## RATING-LIVE and SHIFTS as READ-TABLE shows them (R22, R24, R192) -/

def Bank.bytes (b : Bank) : List Byte :=
  padTo 293
    (beNat 2 b.ratingId ++ beNat 2 b.limit ++ beNat 1 b.points.length ++
      (b.points.map fun p => beInt 2 p.1 ++ beNat 4 p.2).flatten)

/-- R26, Table 65. DESIGN CHOICE (log entry 53): the point places beyond the record's own point count are 0. -/
def ShiftRec.bytes (r : ShiftRec) : List Byte :=
  padTo 21
    (beNat 4 r.start ++ beNat 1 r.points.length ++ (r.points.map fun p => beInt 2 p.1 ++ beInt 2 p.2).flatten)

def shiftBytes (rs : List ShiftRec) : List Byte :=
  padTo 337 (beNat 1 rs.length ++ (rs.map ShiftRec.bytes).flatten)

/-- A table's bytes by its number (Table 62). -/
def State.tableBytes (s : State) : Nat → List Byte
  | 0 => s.tbl.config
  | 1 => s.tbl.channels
  | 2 => s.tbl.staged
  | 3 => s.rat.live.bytes
  | 4 => shiftBytes s.rat.shifts
  | 5 => s.tbl.rules
  | 6 => s.tbl.patterns
  | n => s.tbl.plan (n - 7)

end Sys2Proof.Machine
end

