-- ==== Sys2Proof/Machine/Rating.lean ====
section
/-! DEFINITION. RAT, the rating unit (chapter 2): the shift in force, stage to discharge, the inverse lookup, activation
of the STAGED bank, and the shift table. -/

namespace Sys2Proof.Machine

/-! ## The shift in force (R31, R32) -/

/-- R31: the record with the latest start time at or before the clock, while the clock is VALID. -/
def applicable (rs : List ShiftRec) (c : Clocks) : Option ShiftRec :=
  if c.valid then (rs.filter fun r => r.start ≤ c.time).getLast? else none

/-- R32: the shift at stage `h` on the points of a record. -/
def shiftOn : List (Int × Int) → Int → Int
  | [], _ => 0
  | [p], _ => p.2
  | p :: q :: rest, h =>
    if h ≤ p.1 then p.2
    else if h < q.1 then p.2 + roundDiv ((q.2 - p.2) * (h - p.1)) (q.1 - p.1)
    else shiftOn (q :: rest) h

/-- R31, R32: the shift at `h`; 0 when no record applies. -/
def shiftAt (r : Option ShiftRec) (h : Int) : Int :=
  match r with
  | some r => shiftOn r.points h
  | none => 0

/-! ## Entering the rating (R34, R35) -/

def dischargeMax : Int := 100000000

/-- R34: interpolation on the segment that holds `he`, the last one for the last breakpoint. -/
def interpolate : List (Int × Nat) → Int → Int
  | p :: q :: rest, he =>
    if he < q.1 ∨ rest = [] then (p.2 : Int) + roundDiv (((q.2 : Int) - p.2) * (he - p.1)) (q.1 - p.1)
    else interpolate (q :: rest) he
  | [p], _ => p.2
  | [], _ => 0

/-- The last segment of a rating. -/
def lastSegment : List (Int × Nat) → (Int × Nat) × (Int × Nat)
  | [p, q] => (p, q)
  | _ :: rest => lastSegment rest
  | [] => ((0, 0), (0, 0))

/-- R35: the last segment extended to the stage `e`. -/
def extended (points : List (Int × Nat)) (e : Int) : Int :=
  let g := lastSegment points
  (g.2.2 : Int) + roundDiv (((g.2.2 : Int) - g.1.2) * (e - g.2.1)) (g.2.1 - g.1.1)

/-- R35 step 1. -/
def ceilingOf (b : Bank) : Int := extended b.points ((lastSegment b.points).2.1 + b.limit)

/-- R25, R33 to R35: the result for stage `h` under a bank and the shift record in force. -/
def instantDischarge (b : Bank) (r : Option ShiftRec) (h : Int) : RatResult :=
  let sh := shiftAt r h
  let he := clampInt (-2000) 20000 (h + sh)
  let base : RatResult :=
    { discharge := none, stage := h, shift := sh, eff := he, clamped := decide (he ≠ h + sh), belowRating := false,
      extrapolated := false, extrapLimit := false, noRating := false, ratingId := some b.ratingId,
      shiftStart := r.map ShiftRec.start }
  match b.points with
  | [] => { base with noRating := true, ratingId := none }
  | p :: _ =>
    let last := (lastSegment b.points).2.1
    if he < p.1 then { base with discharge := some 0, belowRating := true }
    else if he ≤ last then { base with discharge := some (interpolate b.points he).toNat }
    else
      let inLimit := decide (he ≤ last + b.limit)
      let q := if inLimit then extended b.points he else ceilingOf b
      if dischargeMax < q then { base with discharge := some dischargeMax.toNat, extrapLimit := true }
      else { base with discharge := some q.toNat, extrapolated := inLimit, extrapLimit := !inLimit }

/-- The result for stage `h` from the tables and the clock as they stand (R24, R31). -/
def State.discharge (s : State) (h : Int) : RatResult :=
  instantDischarge s.rat.live (applicable s.rat.shifts s.clk) h

/-! ## The inverse lookup (R37, R38) -/

inductive LookupAnswer where
  | noRating
  | outOfRating (ratingId : Nat)
  | stage (he : Int) (ratingId : Nat)
deriving DecidableEq, Repr

/-- R38: the effective stage on the segment that holds `q`. -/
def invert : List (Int × Nat) → Nat → Int
  | p :: r :: rest, q =>
    if q < r.2 ∨ rest = [] then p.1 + roundDiv ((r.1 - p.1) * ((q : Int) - p.2)) ((r.2 : Int) - p.2)
    else invert (r :: rest) q
  | [p], _ => p.1
  | [], _ => 0

/-- R37. -/
def inverseLookup (b : Bank) (q : Nat) : LookupAnswer :=
  match b.points with
  | [] => .noRating
  | p :: _ =>
    if q < p.2 ∨ (lastSegment b.points).2.2 < q then .outOfRating b.ratingId
    else .stage (invert b.points q) b.ratingId

/-! ## Activation (R23, R24) -/

/-- R23 step 4 at breakpoint `i`. -/
def stagedPointGood (t : List Byte) (i : Nat) : Bool :=
  let p := stagedPoint t i
  let b := stagedPoint t (i - 1)
  decide (-2000 ≤ p.1 ∧ p.1 ≤ 20000 ∧ p.2 ≤ 100000000 ∧ (i = 0 ∨ (b.1 < p.1 ∧ b.2 < p.2)))

/-- R23: the first fault of the STAGED bank, as R190 codes its position. -/
def stagedFault (t : List Byte) : Option Nat :=
  if stagedId t < 1 then some 240
  else if 2000 < stagedLimit t then some 241
  else if stagedCount t < 2 ∨ 48 < stagedCount t then some 242
  else (List.range (stagedCount t)).find? fun i => !stagedPointGood t i

/-- R24: the LIVE bank that a good STAGED bank gives. -/
def stagedBank (t : List Byte) : Bank :=
  { ratingId := stagedId t, limit := stagedLimit t, points := (List.range (stagedCount t)).map (stagedPoint t) }

/-! ## The shift table (R27, R28, R29) -/

/-- R27 step 2 at point `j`. -/
def shiftPointGood (ps : List (Int × Int)) (j : Nat) : Bool :=
  let p := ps.getD j (0, 0)
  let b := ps.getD (j - 1) (0, 0)
  decide (-2000 ≤ p.1 ∧ p.1 ≤ 20000 ∧ -2000 ≤ p.2 ∧ p.2 ≤ 2000 ∧ (j = 0 ∨ b.1 < p.1))

/-- R27: the first fault of an offered record; `count` is the point count as offered. -/
def shiftFault (count : Nat) (ps : List (Int × Int)) : Option Nat :=
  if count < 1 ∨ 4 < count then some 240
  else (List.range count).find? fun j => !shiftPointGood ps j

/-- A record put where it keeps the start times increasing. -/
def insertShift (r : ShiftRec) : List ShiftRec → List ShiftRec
  | [] => [r]
  | x :: rest => if r.start < x.start then r :: x :: rest else x :: insertShift r rest

/-- R28. -/
def placeShift (r : ShiftRec) (rs : List ShiftRec) : List ShiftRec × Placement :=
  if rs.any fun x => x.start == r.start then (rs.map fun x => if x.start = r.start then r else x, .replaced)
  else if rs.length < 16 then (insertShift r rs, .inserted)
  else (insertShift r rs.tail, .evicted ((rs.head?.map ShiftRec.start).getD 0))

end Sys2Proof.Machine
end

