-- ==== Sys2Proof/Machine/Store.lean ====
section
/-! DEFINITION. REC and UPL, the record store and the uplink transmitter (chapter 10): append and removal, the choice of
the next item, the forward queue, the reply slot, READ-RECORDS, and the course of a transmission. -/

namespace Sys2Proof.Machine

/-! ## The choice of the next item (R174, R177) -/

/-- The oldest UNSENT record of a class. -/
def oldestUnsent (records : List StoreRec) (c : ReportClass) : Option StoreRec :=
  records.find? fun r => !r.sent && r.content.cls == c

def recordItem (station : Nat) (c : ReportClass) (r : StoreRec) : TxItem :=
  { cls := c, number := r.seq, frames := reportFrames station r, elapsed := 0 }

/-- R174: the first class in order of precedence that holds a candidate gives the item; its frames are built here with
the station id now in force (R177). -/
def nextItem (station : Nat) (store : Store) (u : Upl) : Option TxItem :=
  match u.slot with
  | some r => some { cls := .reply, number := r.seq.toNat, frames := [replyFrame station r], elapsed := 0 }
  | none =>
    match oldestUnsent store.records .warning with
    | some r => some (recordItem station .warning r)
    | none =>
      match u.fwdQ with
      | f :: _ => some { cls := .forward, number := f.number, frames := [forwardFrame station f], elapsed := 0 }
      | [] =>
        match oldestUnsent store.records .gauging with
        | some r => some (recordItem station .gauging r)
        | none => (oldestUnsent store.records .interval).map (recordItem station .interval)

/-- R174: with the frame buffer empty and LINK up, UPL selects. -/
def uplinkSelect (s : State) : State :=
  if s.upl.buffer.isNone && s.lines.link then
    s.setUpl { s.upl with buffer := nextItem (cfgStationId s.tbl.config) s.store s.upl }
  else s

/-- R176: a changed rate takes effect with the buffer empty and the assembly hunting. -/
def uplinkRateEffect (s : State) : State :=
  if s.upl.buffer.isNone && !s.upl.assembling then s.setUpl { s.upl with rate := cfgUplinkRate s.tbl.config } else s

/-! ## Append and removal (R171, R172) -/

/-- R172: the oldest records go, whole, until `need` slots of 2,048 are free; with the slots then in use. -/
def makeRoom (need : Nat) : List StoreRec → Nat → List StoreRec × Nat
  | [], used => ([], used)
  | r :: rest, used =>
    if 2048 - used < need then makeRoom need rest (used - r.content.slotCount) else (r :: rest, used)

/-- The store after an append. -/
def Store.append (st : Store) (c : Content) : Store :=
  let kept := makeRoom c.slotCount st.records st.slotsUsed
  { records := kept.1 ++ [{ seq := st.nextSeq, content := c, sent := false }],
    nextSeq := (st.nextSeq + 1) % 65536, slotsUsed := kept.2 + c.slotCount }

/-- R171: the append, after which UPL may select (R174). -/
def append (c : Content) (s : State) : State := uplinkSelect (s.setStore (s.store.append c))

/-- A notice record with the station clock and its valid flag (Table 58). -/
def appendNotice (body : NoticeBody) (s : State) : State :=
  append (.notice { time := s.clk.time, valid := s.clk.valid, body := body }) s

/-- R173, R179: the record of a number becomes SENT, if the store still holds it. DESIGN CHOICE (log entry 52): where the
record copied has been removed and the store holds a later one of the same number, that one is marked. -/
def Store.markSent (st : Store) (n : Nat) : Store :=
  { st with records := st.records.map fun r => if r.seq = n then { r with sent := true } else r }

/-! ## The forward queue (R175) and the reply slot (R181) -/

/-- R175, R179: the oldest item leaves a full queue; a copy of it that is being sent is marked. -/
def Upl.dropOldest (u : Upl) : Upl :=
  match u.fwdQ with
  | [] => u
  | f :: rest =>
    { u with
      fwdQ := rest,
      buffer := u.buffer.map fun it =>
        { it with dropped := it.dropped || (it.cls == .forward && it.number == f.number) } }

/-- R175: the item takes the next forward number; a full queue first loses its oldest. -/
def forwardAdd (channel : Nat) (addr : Byte) (kind : Byte) (payload : List Byte) (s : State) : State :=
  let item : FwdItem :=
    { number := s.upl.nextFwd, channel := channel, addr := addr.toNat, time := s.clk.time, valid := s.clk.valid,
      kind := kind, payload := payload }
  let u := if s.upl.fwdQ.length < 8 then s.upl else s.upl.dropOldest
  uplinkSelect (s.setUpl { u with fwdQ := u.fwdQ ++ [item], nextFwd := (u.nextFwd + 1) % 65536 })

/-- R181: the reply goes into the slot, which the caller has found empty. -/
def placeInSlot (r : Reply) (s : State) : State := uplinkSelect (s.setUpl { s.upl with slot := some r })

/-! ## The course of a transmission (R178, R179) -/

/-- The whole length of an item in fine units at a character time of `cu`. -/
def TxItem.whole (it : TxItem) (cu : Nat) : Nat := (it.frames.map List.length).sum * cu

/-- R178: a span of sending. With CTS low the character begun is finished and no other begins. -/
def TxItem.advance (it : TxItem) (cts : Bool) (cu span : Nat) : TxItem :=
  let reach := it.elapsed + span
  let bound := if cts then it.whole cu else (it.elapsed + cu - 1) / cu * cu
  { it with elapsed := max it.elapsed (min reach (min bound (it.whole cu))) }

/-- R180: what is still to go of the character in progress; none is between two characters (log entry 36). -/
def TxItem.inCourse (it : TxItem) (cu : Nat) : Nat := (cu - it.elapsed % cu) % cu

/-- R178, R180: one millisecond of the transmitter. A character whose item was abandoned goes on to its end, and what is
then left of the millisecond is the item's in the buffer. -/
def Upl.sendMs (u : Upl) (cts : Bool) : Upl :=
  { u with
    tail := u.tail - fineMs, buffer := u.buffer.map fun it => it.advance cts (uplinkChar u.rate) (fineMs - u.tail) }

/-- The last stop bit of the last frame has been sent. -/
def TxItem.ended (it : TxItem) (cu : Nat) : Bool := decide (it.whole cu ≤ it.elapsed)

/-- R178: the transmitter is PAUSED between two characters. -/
def TxItem.paused (it : TxItem) (cts : Bool) (cu : Nat) : Bool := !cts && it.elapsed % cu == 0 && !it.ended cu

/-- The part being sent: the frames whose characters have all gone. -/
def TxItem.part (it : TxItem) (cu : Nat) : Nat :=
  let rec go (n : Nat) : List (List Byte) → Nat
    | [] => 0
    | f :: rest => if f.length * cu ≤ n ∧ rest ≠ [] then 1 + go (n - f.length * cu) rest else 0
  go it.elapsed it.frames

/-- The item that the buffer holds has been sent whole. -/
def State.itemEnded (s : State) : Bool :=
  match s.upl.buffer with
  | some it => it.ended (uplinkChar s.upl.rate)
  | none => false

/-! ## READ-RECORDS (R182, R183, Table 70) -/

/-- One record carried: its heading and its slots from `first`, `n` of them. -/
def carried (r : StoreRec) (first n : Nat) : List Byte :=
  beNat 2 r.seq ++ [r.content.kindCode, boolByte r.sent] ++ beNat 1 first ++ beNat 1 n ++ beNat 1 r.content.slotCount ++
    ((r.content.slots.drop first).take n).flatten

/-- R183: the whole records that follow the first, within the limits that remain. -/
def carryWhole : List StoreRec → Nat → Nat → Nat → List StoreRec
  | [], _, _, _ => []
  | r :: rest, limit, slots, bytes =>
    let k := r.content.slotCount
    if limit = 0 ∨ slots < k ∨ bytes < 7 + 44 * k then []
    else r :: carryWhole rest (limit - 1) (slots - k) (bytes - (7 + 44 * k))

/-- The fields of a reply after its two codes (Table 70). -/
def recordsReply (mark oldest continueAt continuePart count : Nat) (body : List Byte) : List Byte :=
  beNat 1 mark ++ beNat 2 oldest ++ beNat 2 continueAt ++ beNat 1 continuePart ++ beNat 1 count ++ body

/-- R183: the reply that starts at the head of `records`, slots before `part` passed over. -/
def readFrom (records : List StoreRec) (nextSeq mark oldest limit part : Nat) : List Byte :=
  match records with
  | [] => recordsReply mark oldest nextSeq 0 0 []
  | r :: rest =>
    let left := r.content.slotCount - part
    if 4 < left then recordsReply mark oldest r.seq (part + 4) 1 (carried r part 4)
    else
      let more := carryWhole rest (limit - 1) (4 - left) (200 - 9 - (7 + 44 * left))
      let after := ((rest.drop more.length).head?.map StoreRec.seq).getD nextSeq
      recordsReply mark oldest after 0 (1 + more.length)
        (carried r part left ++ (more.map fun m => carried m 0 m.content.slotCount).flatten)

/-- R182: the reply fields, or nothing for BAD-REQUEST. -/
def readRecords (st : Store) (first limit part : Nat) : Option (List Byte) :=
  if limit < 1 ∨ 8 < limit then none
  else
    match st.records, st.records.getLast? with
    | oldest :: _, some newest =>
      match st.records.findIdx? fun r => r.seq == first with
      | some i =>
        let held := st.records.drop i
        if (held.head?.map fun r => decide (r.content.slotCount ≤ part)).getD true then none
        else some (readFrom held st.nextSeq 0 0 limit part)
      | none =>
        let ahead := (first + 65536 - newest.seq) % 65536
        if 1 ≤ ahead ∧ ahead ≤ 32768 then some (recordsReply 2 0 st.nextSeq 0 0 [])
        else some (readFrom st.records st.nextSeq 3 oldest.seq limit 0)
    | _, _ => some (recordsReply 1 0 st.nextSeq 0 0 [])

end Sys2Proof.Machine
end

