-- ==== Sys2Proof/Machine/Pulse.lean ====
section
/-! DEFINITION. PLS, the pulse inputs (chapter 7): debounce, the rotor measurement and the two latches, as operations on
PLS's own state. What RUN does with a result or a latch is RUN's. -/

namespace Sys2Proof.Machine

/-! ## Closures and debounce (R115) -/

/-- R115: a closure at `t` is accepted: none before it, or the debounce time has passed since. -/
def Input.accepts (i : Input) (debounce t : Nat) : Bool :=
  match i.lastAccepted with
  | none => true
  | some l => decide (l + debounce ≤ t)

/-- R115: the input after a closure at `t`. -/
def Input.closure (i : Input) (debounce t : Nat) : Input :=
  if i.accepts debounce t then { i with closed := true, lastAccepted := some t, accepted := inc16 i.accepted }
  else { i with closed := true, ignored := inc16 i.ignored }

def Pls.input (p : Pls) : Contact → Input
  | .rotor => p.rotorIn
  | .surface => p.surfaceIn
  | .bottom => p.bottomIn

def Pls.setInput (p : Pls) (c : Contact) (i : Input) : Pls :=
  match c with
  | .rotor => { p with rotorIn := i }
  | .surface => { p with surfaceIn := i }
  | .bottom => { p with bottomIn := i }

/-! ## The rotor measurement (R117 to R124) -/

/-- R117: an arm at `now`, taken in every state; the parameters are clamped. -/
def armRotor (mode : RotorMode) (exposure revs p missTimeout now : Nat) : Rotor :=
  let e := clampNat 10 300 exposure
  { state := if mode = .gate then .counting else .armed, mode := mode, exposure := e, revs := clampNat 1 1000 revs,
    p := clampNat 1 16 p, missTimeout := missTimeout, count := 0, clamped := false,
    start := if mode = .gate then some now else none,
    exposureAt := if mode = .gate then some (now + 1000 * e) else none, missAt := some (now + missTimeout),
    result := none }

/-- R123: the measurement ends and holds its result; no timer runs in DONE. -/
def Rotor.finish (r : Rotor) (t stop : Nat) (short noRotation : Bool) : Rotor :=
  { r with
    state := .done, exposureAt := none, missAt := none,
    result := some
      { mode := r.mode, n := r.count, t := t, countClamped := r.clamped, periodShort := short, noRotation := noRotation,
        p := r.p, start := r.start, stop := stop } }

/-- R118: one more pulse in GATE, the count clamped at 65,535. -/
def Rotor.gatePulse (r : Rotor) (t : Nat) : Rotor :=
  { r with count := inc16 r.count, clamped := r.clamped || r.count == 65535, missAt := some (t + r.missTimeout) }

/-- R119: the first closure of a PERIOD measurement. -/
def Rotor.periodStart (r : Rotor) (t : Nat) : Rotor :=
  { r with
    state := .counting, count := 0, start := some t, exposureAt := some (t + 1000 * r.exposure),
    missAt := some (t + r.missTimeout) }

/-- R119: a later closure of a PERIOD measurement, the one that reaches R × P ending it. -/
def Rotor.periodPulse (r : Rotor) (t : Nat) : Rotor :=
  let r' := { r with count := r.count + 1, missAt := some (t + r.missTimeout) }
  if r'.count = r.revs * r.p then r'.finish (t - r.start.getD t) t false false else r'

/-- R116, R118, R119: an accepted ROTOR closure at `t`. -/
def Rotor.pulse (r : Rotor) (t : Nat) : Rotor :=
  match r.state with
  | .idle => r
  | .done => r
  | .armed => r.periodStart t
  | .counting => if r.mode = .gate then r.gatePulse t else r.periodPulse t

/-- R118: the exposure timer expires. -/
def Rotor.exposureEnd (r : Rotor) (now : Nat) : Rotor :=
  r.finish (1000 * r.exposure) (r.exposureAt.getD now) false false

/-- R120: the time limit expires. -/
def Rotor.limitEnd (r : Rotor) (now : Nat) : Rotor :=
  r.finish (1000 * r.exposure) (r.exposureAt.getD now) true false

/-- R121: the missing-pulse timer expires; in ARMED there is no start, and N and T are 0. -/
def Rotor.missingEnd (r : Rotor) (now : Nat) : Rotor :=
  let stop := r.missAt.getD now
  match r.start with
  | none => { r with count := 0 }.finish 0 stop false true
  | some t => r.finish (stop - t) stop false true

/-- The result handed to RUN by an event that took `before` to `after` (R123). -/
def rotorHanded (before after : Rotor) : Option RotorResult :=
  if before.state != .done && after.state == .done then after.result else none

/-- R118: the exposure timer of a GATE measurement is due. -/
def Rotor.exposureDue (r : Rotor) (now : Nat) : Bool :=
  r.state == .counting && r.mode == .gate && dueAt r.exposureAt now

/-- R120: the time-limit timer of a PERIOD measurement is due. -/
def Rotor.limitDue (r : Rotor) (now : Nat) : Bool :=
  r.state == .counting && r.mode == .period && dueAt r.exposureAt now

/-- R121: the missing-pulse timer is due. -/
def Rotor.missingDue (r : Rotor) (now : Nat) : Bool :=
  (r.state == .armed || r.state == .counting) && dueAt r.missAt now

/-! ## The latches (R125, R126) -/

/-- R125: an arm, taken in every state. -/
def armedLatch (now : Nat) : Latch := { state := .armed, armTime := some now, value := none }

/-- R126: an accepted closure at `t` of an ARMED latch; a position counts that arrived at or after the arm time. -/
def Latch.closure (l : Latch) (pos : Option Position) (t : Nat) : Latch :=
  match l.state with
  | .armed =>
    let cable :=
      match pos with
      | some p =>
        if l.armTime.getD 0 ≤ p.arrived then some (p.cable, min (t - p.arrived) 65535) else none
      | none => none
    { l with state := .latched, value := some { cable := cable, closedAt := t } }
  | _ => l

/-- The latch handed to RUN by a closure that took `before` to `after`. -/
def latchHanded (before after : Latch) : Option LatchVal :=
  if before.state == .armed && after.state == .latched then after.value else none

/-- R124: a cancel; no timer runs and no result is held. DESIGN CHOICE (log entry 51): the mode, which R124 does not name,
stays that of the measurement cancelled. -/
def Rotor.cancel (r : Rotor) : Rotor :=
  { r with state := .idle, exposureAt := none, missAt := none, result := none }

/-- R150: the rotor measurement cancelled (R124) and both latches disarmed (R125; the arm time: log entry 45). -/
def Pls.release (p : Pls) : Pls := { p with rotor := p.rotor.cancel, surface := idleLatch, bottom := idleLatch }

/-- Both latches disarmed (R141). DESIGN CHOICE (log entry 45): a disarm also clears the arm time, which R125 does not
name. -/
def Pls.disarm (p : Pls) : Pls := { p with surface := idleLatch, bottom := idleLatch }

end Sys2Proof.Machine
end

