-- ==== Sys2Proof/Machine/Loop.lean ====
section
/-! DEFINITION. LOOP, the loop controller (chapters 4 and 6): the command pair transmitter and its three places, the
arbiter, the run-engine command, claims, failure counts, the poll schedule. What it tells RUN is in Reception.lean. -/

namespace Sys2Proof.Machine

/-! ## Readings of the line and the grant -/

/-- 6.1: the grant is held in HELD, CLOSING and CLAIMING. -/
def Grant.held (g : Grant) : Bool := g.state == .held || g.state == .closing || g.state == .claiming

/-- The reply pair is free: no transaction is outstanding and no grant is held. -/
def Loop.pairFree (l : Loop) : Bool := l.txn.isNone && !l.grant.held

def Loop.jammed (l : Loop) : Bool := l.jam.isSome

/-- The node `addr` holds a grant. -/
def Loop.grantedTo (l : Loop) (addr : Nat) : Bool := l.grant.held && l.grant.node == addr

/-- `n` character times from the fine time `t` (R65). -/
def State.charsFrom (s : State) (t n : Nat) : Nat := t + n * loopChar s.loop.rate

/-! ## Failure counts and counters (R73, R74) -/

def Loop.nodeCount (l : Loop) (addr : Nat) : Nat := if addr = 0 then 0 else l.nodeFail.getD (addr - 1) 0

def Loop.setNodeCount (l : Loop) (addr n : Nat) : Loop :=
  if addr = 0 then l else { l with nodeFail := l.nodeFail.set (addr - 1) n }

/-- R74: one more failure of a node, saturating at 255. -/
def Loop.failNode (l : Loop) (addr : Nat) : Loop := l.setNodeCount addr (min (l.nodeCount addr + 1) 255)

def FaultCounts.count (c : FaultCounts) : RxFault → FaultCounts
  | .timeout => { c with timeout := inc16 c.timeout }
  | .framing => { c with framing := inc16 c.framing }
  | .gap => { c with gap := inc16 c.gap }
  | .length => { c with length := inc16 c.length }
  | .mark => { c with mark := inc16 c.mark }
  | .crc => { c with crc := inc16 c.crc }
  | .stray => { c with stray := inc16 c.stray }

def Loop.countFault (l : Loop) (k : RxFault) : Loop := { l with faults := l.faults.count k }

/-! ## The poll schedule (4.6) -/

def Loop.poll? (l : Loop) (ch : Nat) : Option Poll := (l.sched.getD ch none)

def Loop.setPoll (l : Loop) (ch : Nat) (p : Poll) : Loop := { l with sched := l.sched.set ch (some p) }

/-- The poll period of a channel in milliseconds. -/
def State.pollPeriod (s : State) (ch : Nat) : Nat := 1000 * (chanEntry s.tbl.channels ch).period

/-- R79, R82: the due poll with the earliest due time, the lower channel number between equal ones. -/
def earliestDue (sched : List (Option Poll)) (now : Nat) : Option (Nat × Poll) :=
  sched.zipIdx.foldl
    (fun best e =>
      match e.1 with
      | some p =>
        if p.due ≤ now then
          match best with
          | some b => if p.due < b.2.due then some (e.2, p) else best
          | none => some (e.2, p)
        else best
      | none => best)
    none

/-! ## The arbiter (R82, R83) -/

/-- R82: the conditions under which a transaction may be opened. -/
def Loop.mayChoose (l : Loop) : Bool := l.pairFree && !l.jammed && l.lineBreak.isNone

/-- R82 step 1: a GRANT may not be sent while the interleave runs. -/
def Loop.sendable (l : Loop) (c : RunCmd) : Bool :=
  match c.kind with
  | .grant _ _ => l.grant.interleaveAt.isNone
  | _ => true

/-- A run-engine command is chosen; a GRANT makes the grant OPENING (R102). -/
def Loop.openCommand (l : Loop) (c : RunCmd) : Loop :=
  let l := { l with txn := some { asker := .run c, addr := c.addr, phase := .queued }, pendingCmd := none }
  match c.kind with
  | .grant limit mode =>
    { l with
      grant :=
        { l.grant with
          state := .opening, node := c.addr, limit := clampNat 1 32 limit, mode := mode, count := 0, timerAt := none,
          wait := none, cause := none, recorded := none } }
  | _ => l

/-- A due poll is taken: its due time advances by one period from the due time (R79). -/
def Loop.openPoll (l : Loop) (ch addr period : Nat) (p : Poll) : Loop :=
  { l.setPoll ch { p with due := p.due + period, announced := false } with
    txn := some { asker := .poll ch, addr := addr, phase := .queued } }

/-- R82. -/
def choose (s : State) : State :=
  if !s.loop.mayChoose then s
  else
    match s.loop.pendingCmd.filter s.loop.sendable with
    | some c => s.setLoop (s.loop.openCommand c)
    | none =>
      match earliestDue s.loop.sched s.now with
      | some (ch, p) =>
        s.setLoop (s.loop.openPoll ch (chanEntry s.tbl.channels ch).addr (s.pollPeriod ch) p)
      | none => s

/-! ## The command pair (R70) -/

/-- The frame of a command that opens a transaction or is sent without reply. -/
def Asker.kind : Asker → CmdKind
  | .poll _ => .poll
  | .run c => c.kind

/-- R70 step 2: the waiting winch command and the service queue, in the order of handing over. -/
def Loop.takeWaiting (l : Loop) : Option (CmdFrame × Loop) :=
  match l.winchPlace, l.serviceQ with
  | some (c, n), (f, m) :: rest =>
    if n < m then some (.winch c, { l with winchPlace := none }) else some (.service f, { l with serviceQ := rest })
  | some (c, _), [] => some (.winch c, { l with winchPlace := none })
  | none, (f, _) :: rest => some (.service f, { l with serviceQ := rest })
  | none, [] => none

/-- R70 step 3: the opening frame of the chosen transaction, if not yet sent. -/
def Loop.takeOpening (l : Loop) : Option (CmdFrame × Loop) :=
  match l.txn with
  | some t =>
    if t.phase = .queued then
      some (.opening t.addr t.asker.kind, { l with txn := some { t with phase := .sending } })
    else none
  | none => none

/-- R70: the frame the idle transmitter takes next. -/
def Loop.takeNext (l : Loop) : Option (CmdFrame × Loop) :=
  if l.claimPlace then some (.claim, { l with claimPlace := false })
  else
    match l.takeWaiting with
    | some r => some r
    | none => l.takeOpening

/-- R189: fragments of a SERVICE reply go to the service queue while it has free places; the reply leaves CTL with its
last fragment. -/
def feedService (s : State) : State :=
  match s.ctl.pendingReply with
  | some (.fragments fs) =>
    let room := 4 - s.loop.serviceQ.length
    let left := fs.drop room
    let entries := (fs.take room).zipIdx.map fun (f, i) => (f, s.loop.handNo + i)
    let s := s.setLoop { s.loop with serviceQ := s.loop.serviceQ ++ entries, handNo := s.loop.handNo + entries.length }
    if left.isEmpty then s.setCtl { s.ctl with pendingReply := none, inHand := none }
    else s.setCtl { s.ctl with pendingReply := some (.fragments left) }
  | _ => s

/-- R70: an idle transmitter takes the next frame, to begin at the fine time `t`; a place freed in the service queue is
filled (R189). -/
def kickFrom (t : Nat) (s : State) : State :=
  match s.loop.tx with
  | some _ => s
  | none =>
    match s.loop.takeNext with
    | some (f, l) =>
      feedService (s.setLoop { l with tx := some { frame := f, doneAt := s.charsFrom t f.chars.length } })
    | none => s

/-- R65: a changed bit rate takes effect with the reply pair free, no grant held and the transmitter idle. -/
def rateEffect (s : State) : State :=
  if s.loop.pairFree && s.loop.tx.isNone then s.setLoop { s.loop with rate := cfgLoopRate s.tbl.config } else s

/-- What LOOP does at the end of every event that can bring it work: the rate (R65), the choice (R82), the transmitter
(R70), which begins at the fine time `t`. -/
def settleFrom (t : Nat) (s : State) : State := kickFrom t (choose (rateEffect s))

/-- `settleFrom` the present moment. -/
def settle (s : State) : State := settleFrom s.fineNow s

/-! ## The run-engine command (R83) -/

/-- R70: the kinds that go to the winch command place of a granted node. -/
def CmdKind.isWinch : CmdKind → Bool
  | .traverseTo _ => true
  | .cableTo _ => true
  | .halt => true
  | .retrieve => true
  | _ => false

/-- R70: a winch command into its place; a waiting one is replaced. -/
def Loop.placeWinch (l : Loop) (c : RunCmd) : Loop :=
  { l with winchPlace := some (c, l.handNo), handNo := l.handNo + 1 }

/-- R83: the command that waits, not yet chosen or sent, in the place that the command `c` is to take. -/
def Loop.replacedBy (l : Loop) (c : RunCmd) : Option RunCmd :=
  if c.kind.isWinch && l.grantedTo c.addr then l.winchPlace.map Prod.fst else l.pendingCmd

/-- R83: a command handed over by RUN. -/
def Loop.hand (l : Loop) (c : RunCmd) : Loop :=
  if c.kind.isWinch && l.grantedTo c.addr then l.placeWinch c else { l with pendingCmd := some c }

/-! ## Claims and the end of a grant (R108, R110, R111) -/

/-- R108: a claim, by the state of the grant. DESIGN CHOICE (log entry 44): a claim in CLAIMING merges with an earlier
CLAIM that still waits in its place (R70); one that is on the transmitter counts as sent, and a second CLAIM follows.
DESIGN CHOICE (log entry 58): of two claims in OPENING the later one is the one recorded. -/
def Loop.claim (l : Loop) (cause : ClaimCause) : Loop :=
  match l.grant.state with
  | .idle => l
  | .opening =>
    match cause with
    | .duePoll => l
    | .timeout => l
    | _ => { l with grant := { l.grant with recorded := some cause } }
  | .claiming =>
    match cause with
    | .duePoll => l
    | .timeout => l
    | _ => { l with claimPlace := true, grant := { l.grant with cause := some cause } }
  | _ =>
    { l with claimPlace := true, grant := { l.grant with state := .claiming, timerAt := none, cause := some cause } }

def Grant.countEnd (g : Grant) : GrantEnd → Grant
  | .burstEnd => { g with endedBurstEnd := inc16 g.endedBurstEnd }
  | .claimAnswered => { g with endedClaimAnswered := inc16 g.endedClaimAnswered }
  | .limit => { g with endedLimit := inc16 g.endedLimit }
  | .noBurstEnd => { g with endedNoBurstEnd := inc16 g.endedNoBurstEnd }
  | .jammed => { g with endedJammed := inc16 g.endedJammed }

/-- R111: the end of a grant at LOOP, with the interleave time read at `now`. -/
def Loop.endGrant (l : Loop) (cause : GrantEnd) (interleave now : Nat) : Loop :=
  { l with
    claimPlace := false,
    grant :=
      { l.grant.countEnd cause with
        state := .idle, timerAt := none, wait := none, cause := none, recorded := none,
        interleaveAt := if interleave = 0 then none else some (now + interleave),
        lastEnd := some (cause, l.grant.count) } }

/-- R110: the claim wait starts at the fine time `t`, its length read now; a frame that is arriving holds it. -/
def startClaimWait (t : Nat) (s : State) : State :=
  let n := cfgReplyTimeout s.tbl.config
  s.setLoop
    { s.loop with
      grant :=
        { s.loop.grant with
          wait := some { length := n, expiry := if s.loop.rx.isSome then none else some (s.charsFrom t n) } } }

/-- R110: a frame that begins holds the claim wait. -/
def Grant.holdWait (g : Grant) : Grant := { g with wait := g.wait.map fun w => { w with expiry := none } }

/-- R110: the claim wait restarts at the end of a frame. -/
def restartClaimWait (s : State) : State :=
  s.setLoop
    { s.loop with
      grant :=
        { s.loop.grant with
          wait := s.loop.grant.wait.map fun w => { w with expiry := some (s.charsFrom s.fineNow w.length) } } }

/-! ## The schedule after a write and after a reset (R81, R85) -/

def newPoll (due : Nat) : Poll := { due := due, announced := false, missed := false, last := none, skipped := 0 }

/-- R81 for one entry: its view and fields before and after the write. -/
def pollAfterWrite (now : Nat) (before after : Bool) (old new : ChanEntry) (p : Option Poll) : Option Poll :=
  match after, before, p with
  | false, _, _ => none
  | true, true, some p =>
    if old.period = new.period ∧ old.phase = new.phase then some p
    else some { p with due := now + 1000 * new.phase, announced := false }
  | true, _, _ => some (newPoll (now + 1000 * new.phase))

/-- R85: the schedule from timebase 0. -/
def freshSchedule (view : List Treatment) (channels : List Byte) : List (Option Poll) :=
  (List.range 24).map fun i =>
    if activeIn view i then some (newPoll (1000 * (chanEntry channels i).phase)) else none

end Sys2Proof.Machine
end

