-- ==== Sys2Proof/Machine/Gauging.lean ====
section
/-! DEFINITION. The gauging computation (chapter 9): point velocity, depth and vertical mean, mid-section discharge, mean
gauge height, indicated shift, grade, and the gauging record. -/

namespace Sys2Proof.Machine

/-! ## Point velocity (R157, R158) -/

/-- R157 step 2: the segment of the meter rating. -/
def meterSegment (h : PlanHeader) (r : RotorResult) : Nat :=
  if h.nBreak * r.p * r.t ≤ r.n * 1000000 then 2 else 1

/-- R157 step 3, before the clamp. -/
def meterVelocity (h : PlanHeader) (r : RotorResult) : Nat :=
  if meterSegment h r = 2 then h.a2 + roundDivNat (h.b2 * r.n) (r.p * r.t)
  else h.a1 + roundDivNat (h.b1 * r.n) (r.p * r.t)

/-- R157, R158: the point result that a rotor result gives. -/
def pointResult (h : PlanHeader) (s : PointSpec) (r : RotorResult) : PointResult :=
  let v := if r.noRotation then 0 else meterVelocity h r
  { kind := s.kind, cable := s.cable, mode := r.mode, n := r.n, t := r.t, p := r.p,
    segment := if r.noRotation then none else some (meterSegment h r), velocity := min v 10000, shallow := s.shallow,
    countClamped := r.countClamped, periodShort := r.periodShort, noRotation := r.noRotation,
    velocityClamped := decide (10000 < v) }

/-! ## Depth, points and mean (R141, R142, R159, R160) -/

/-- R142: a point at its cable count, held to the bottom count. -/
def pointAt (bottom : Int) (kind : PointKind) (cable : Int) : PointSpec :=
  if bottom < cable then { kind := kind, cable := bottom, shallow := true }
  else { kind := kind, cable := cable, shallow := false }

/-- R141, R142: the points of a vertical of depth `d` at the surface count `surface`. -/
def pointsOf (m : Method) (surface bottom d : Int) (shallow : Bool) : List PointSpec :=
  let frac (tenths : Int) : Int := surface + roundDiv (tenths * d) 10
  if shallow then [{ kind := .bottom, cable := bottom, shallow := false }]
  else
    match m with
    | .onePoint => [pointAt bottom .p06 (frac 6)]
    | .twoPoint => [pointAt bottom .p02 (frac 2), pointAt bottom .p08 (frac 8)]
    | .threePoint => [pointAt bottom .p02 (frac 2), pointAt bottom .p06 (frac 6), pointAt bottom .p08 (frac 8)]
    | .surface => [pointAt bottom .surface (surface + 100)]

/-- R159: the depth recorded. -/
def recordedDepth (d : Int) : Nat := (clampInt 0 61000 d).toNat

/-- R160: the mean velocity of a vertical from its point velocities, in the order measured. -/
def meanVelocity (h : PlanHeader) (m : Method) (shallow : Bool) (vs : List Nat) : Nat :=
  if shallow then vs.getD 0 0
  else
    match m with
    | .onePoint => vs.getD 0 0
    | .twoPoint => roundDivNat (vs.getD 0 0 + vs.getD 1 0) 2
    | .threePoint => roundDivNat (vs.getD 0 0 + 2 * vs.getD 1 0 + vs.getD 2 0) 4
    | .surface => roundDivNat (vs.getD 0 0 * h.k) 1000

/-- R160: the flags of a vertical with those of its points. -/
def vertFlags (alternate shallow : Bool) (rs : List PointResult) : VertFlags :=
  rs.foldl (fun f r => f.union r.flags) { noVertFlags with alternateUsed := alternate, shallowVertical := shallow }

/-! ## The mid-section discharge (R161 to R163) -/

/-- R162: width and partial discharge of each vertical, from the position before it to the one after. -/
def panelsOf (prev : Nat) (right : Nat) : List DoneVert → List (Nat × Nat)
  | [] => []
  | v :: rest =>
    let next := (rest.head?.map DoneVert.x).getD right
    let w := roundDivNat (next - prev) 2
    (w, roundDivNat (v.mean * v.depth * w) 1000000) :: panelsOf v.x right rest

/-! ## Stage during the walk (R164) -/

def latchesOf (vs : List DoneVert) : List Int := vs.filterMap DoneVert.latch

def greatest (ls : List Int) : Int := ls.foldl max (ls.headD 0)
def least (ls : List Int) : Int := ls.foldl min (ls.headD 0)

/-- R161 to R165: what CLOSE computes at its entry, the inverse lookup still to be answered. -/
def closeFigures (plan : List Byte) (vs : List DoneVert) (startStage : Option Int) : Calc :=
  let h := planHeader plan
  let panels := panelsOf (planEntry plan 0).x (((lastEntry plan h.count).map PlanEntry.x).getD 0) vs
  let total := (panels.map Prod.snd).sum
  let ls := latchesOf vs
  { panels := panels, total := total,
    gaugeHeight := if ls.isEmpty then none else some (roundDiv ls.sum ls.length),
    stageChange :=
      match ls.getLast?, startStage with
      | some l, some a => some (l - a)
      | _, _ => none
    stageGap := !vs.isEmpty && ls.isEmpty,
    unsteady := !ls.isEmpty && decide ((h.unsteadyLimit : Int) < greatest ls - least ls),
    asked := if vs.isEmpty then none else some (min total 100000000), noRating := false, outOfRating := false,
    ratingId := none, indicated := none }

/-- R165, R166: the answer of the inverse lookup taken in. -/
def Calc.answer (c : Calc) (a : LookupAnswer) : Calc :=
  let c := { c with asked := none }
  match a with
  | .noRating => { c with noRating := true }
  | .outOfRating i => { c with outOfRating := true, ratingId := some i }
  | .stage he i =>
    if 100000000 < c.total then { c with outOfRating := true, ratingId := some i }
    else { c with ratingId := some i, indicated := c.gaugeHeight.map fun m => he - m }

/-- What a gauging without a vertical holds (R170). -/
def emptyCalc : Calc :=
  { panels := [], total := 0, gaugeHeight := none, stageChange := none, stageGap := false, unsteady := false,
    asked := none, noRating := false, outOfRating := false, ratingId := none, indicated := none }

/-! ## Flags, grade and adoption (R167 to R169) -/

/-- R167: the union of the run, vertical, point and computation flags. -/
def gaugeFlags (run : GaugeFlags) (vs : List DoneVert) (c : Calc) : GaugeFlags :=
  { run with
    verts := vs.foldl (fun f v => f.union v.flags) run.verts, stageGap := run.stageGap || c.stageGap,
    unsteady := run.unsteady || c.unsteady, noRating := run.noRating || c.noRating,
    outOfRating := run.outOfRating || c.outOfRating }

/-- The flags without those that a FAIR gauging may carry. -/
def GaugeFlags.beyondFair (f : GaugeFlags) : GaugeFlags :=
  { f with
    verts :=
      { f.verts with alternateUsed := false, shallowVertical := false, shallowPoint := false, noRotation := false } }

/-- R168. -/
def gradeOf (outcome : RunOutcome) (f : GaugeFlags) : Grade :=
  if outcome = .complete ∧ f.beyondFair = noGaugeFlags then
    if f.verts.shallowPoint || f.verts.shallowVertical || f.verts.noRotation then .fair else .good
  else .poor

/-- R169 conditions 1 to 3. -/
def adoptable (grade : Grade) (adopt : Nat) (c : Calc) : Bool := grade == .good && adopt == 1 && c.indicated.isSome

/-- R169 condition 4. -/
def withinAdoptLimit (limit : Nat) (c : Calc) : Bool := decide ((c.indicated.getD 0).natAbs ≤ limit)

/-! ## The record (R170) -/

def vertRecords (vs : List DoneVert) (panels : List (Nat × Nat)) : List VertRec :=
  (vs.zip panels).map fun (v, w, q) =>
    { entry := v.entry, x := v.x, depth := v.depth, velocities := v.results.map PointResult.velocity, mean := v.mean,
      width := w, discharge := q, latch := v.latch, flags := v.flags }

def gaugeRecord (r : RunRec) (outcome : RunOutcome) (c : Calc) (flags : GaugeFlags) (grade : Grade)
    (placement : Option Placement) (clk : Clocks) : GaugeRec :=
  { plan := r.plan, planId := r.planId, start := r.start, startValid := r.startValid, stop := clk.time,
    stopValid := clk.valid, outcome := outcome, flags := flags, grade := grade, total := c.total,
    gaugeHeight := c.gaugeHeight, stageChange := c.stageChange, indicated := c.indicated, placement := placement,
    ratingId := c.ratingId, verticals := vertRecords r.verticals c.panels }

end Sys2Proof.Machine
end

