-- ==== Sys2Proof/Machine/Run.lean ====
section
/-! DEFINITION. RUN, the run engine (chapter 8), as operations on the whole state: what it hands LOOP, arms at PLS, asks
of RAT and writes to REC. No operation here chooses a transaction or starts a transmission: the event that calls it
ends with LOOP's own `settle`. -/

namespace Sys2Proof.Machine

/-- R134: the working states. -/
def RunState.working : RunState → Bool
  | .idle => false
  | .retrieve => false
  | .close => false
  | _ => true

/-- R135: the states that move the winch. -/
def RunState.moves : RunState → Bool
  | .traverse => true
  | .surfaceSeek => true
  | .sound => true
  | .pointSeek => true
  | .lift => true
  | _ => false

/-- The plan table that a run record names. -/
def State.planOf (s : State) (r : RunRec) : List Byte := s.tbl.plan r.plan

/-- The plan of the run in progress, and its header. -/
def State.plan (s : State) : List Byte := s.tbl.plan ((s.run.record.map RunRec.plan).getD 0)

def State.header (s : State) : PlanHeader := planHeader s.plan

/-- RUN's current stage reading: the selected stage, absent while stage is lost (R12, R132, R145). -/
def State.stageNow (s : State) : Option Int := s.stg.selected.map Selected.mm

/-! ## Commands and moves (R83, R135) -/

/-- The outcome says that the command has gone out (R136, R147). -/
def CmdOutcome.reached : CmdOutcome → Bool
  | .sent => true
  | .answered => true
  | .failed _ => false
  | .replaced => false

/-- RUN takes note of an outcome: of the latest move command, and of the last command handed. -/
def Run.note (r : Run) (id : Nat) (o : CmdOutcome) : Run :=
  { r with
    told := some (id, o), moveSent := r.moveSent || (r.moveId == some id && o.reached),
    lastCmd := r.lastCmd.map fun (c, wait) => (c, wait && c.id != id) }

/-- R83: RUN is told that a command has been replaced. No rule gives RUN anything more to do at it (log entry 22). -/
def tellReplaced (old : Option RunCmd) (s : State) : State :=
  match old with
  | some c => s.setRun (s.run.note c.id .replaced)
  | none => s

/-- RUN hands LOOP a command for the winch address it holds; of one that it replaces RUN is told so (R83). -/
def handRun (k : CmdKind) (s : State) : State :=
  match s.run.held with
  | none => s
  | some a =>
    let c : RunCmd := { kind := k, addr := a, id := s.run.nextId }
    tellReplaced (s.loop.replacedBy c)
      ((s.setRun { s.run with nextId := s.run.nextId + 1, lastCmd := some (c, true), enquiryAt := none }).setLoop
        (s.loop.hand c))

/-- R145: the lift count. -/
def liftCount (surface : Int) : Int := max (surface - 500) (-1000)

/-- R135: the move command of the present state. -/
def Run.moveCommand (r : Run) : Option CmdKind :=
  match r.state, r.vertical with
  | .traverse, some v => some (.traverseTo v.targetX)
  | .surfaceSeek, _ => some (.cableTo 60000)
  | .sound, _ => some (.cableTo 60000)
  | .pointSeek, some v => v.points.head?.map fun p => .cableTo p.cable
  | .lift, some v => some (.cableTo (liftCount (v.surface.getD 0)))
  | _, _ => none

/-- RUN hands the move command of the present state and watches for its report (R136). -/
def handMove (s : State) : State :=
  match s.run.moveCommand with
  | some k =>
    let t := handRun k s
    t.setRun { t.run with moveId := some s.run.nextId, moveSent := false }
  | none => s

/-- R135: the GRANT of a move state, with the plan's burst limit and release mode. -/
def State.grantCommand (s : State) : CmdKind :=
  let mode := if s.run.state = .traverse then s.header.traverseMode else s.header.cableMode
  .grant s.header.burstLimit (ReleaseMode.ofCode mode)

/-- The winch node holds a grant. -/
def State.winchGranted (s : State) : Bool :=
  match s.run.held with
  | some a => s.loop.grantedTo a
  | none => false

/-- R135: a move is obtained by its command under a grant, and otherwise by a GRANT. -/
def obtainMove (s : State) : State := if s.winchGranted then handMove s else handRun s.grantCommand s

/-- A state is entered: no move command has been handed in it (R136). -/
def Run.enter (r : Run) (st : RunState) : Run :=
  { r with state := st, moveId := none, moveSent := false, haltId := none }

/-- R151: the traverse timer stops; if its expiry has come by then, that stays to be taken in the state that follows. -/
def Run.stopTraverse (r : Run) (now : Nat) : Run :=
  { r with traverseLapsed := r.traverseLapsed || dueAt r.traverseAt now, traverseAt := none }

/-- R151: the cable timer stops, in the same way. -/
def Run.stopCable (r : Run) (now : Nat) : Run :=
  { r with cableLapsed := r.cableLapsed || dueAt r.cableAt now, cableAt := none }

/-- R151: both timers stop. -/
def Run.stopTimers (r : Run) (now : Nat) : Run := (r.stopTraverse now).stopCable now

/-! ## The states of a vertical (R137 to R145) -/

/-- R137: TRAVERSE toward `x`, with a fresh traverse timer. -/
def enterTraverse (entry x : Nat) (alternate : Bool) (s : State) : State :=
  let v : Vertical :=
    { entry := entry, targetX := x, alternate := alternate, surface := none, bottom := none, depth := none,
      shallow := false, points := [], results := [] }
  obtainMove
    (s.setRun
      { (s.run.stopTimers s.now).enter .traverse with
        cursor := some entry, vertical := some v, traverseAt := some (s.now + 1000 * s.header.traverseTimeout),
        settleAt := none, enquiryAt := none })

/-- R138: VERIFY, with an enquiry where no grant is held. -/
def enterVerify (s : State) : State :=
  let held := s.winchGranted
  let t := s.setRun { s.run.enter .verify with verifyGrant := held }
  if held then t else handRun .poll t

/-- R138: back to TRAVERSE, the traverse timer running on. -/
def resumeTraverse (s : State) : State := obtainMove (s.setRun { s.run.enter .traverse with enquiryAt := none })

/-- R140. -/
def enterSurfaceSeek (s : State) : State :=
  let t := s.setPls { s.pls with surface := armedLatch s.now }
  obtainMove
    (t.setRun
      { (s.run.stopTimers s.now).enter .surfaceSeek with
        enquiryAt := none, cableAt := some (s.now + 1000 * s.header.cableTimeout) })

/-- R140, R141: SOUND with the surface count; the lowering goes on under the command of SURFACE-SEEK (R136). -/
def enterSound (v : Vertical) (surface : Int) (s : State) : State :=
  let t := s.setPls { s.pls with bottom := armedLatch s.now }
  t.setRun
    { s.run.stopCable s.now with
      state := .sound, vertical := some { v with surface := some surface },
      cableAt := some (s.now + 1000 * s.header.cableTimeout) }

/-- R141: the bottom count fixes depth and points; HALT is handed and POINT-SEEK awaits its outcome (R142). -/
def enterFirstPoint (v : Vertical) (bottom : Int) (s : State) : State :=
  let h := s.header
  let surface := v.surface.getD 0
  let d := bottom - surface + h.weightOffset
  let shallow := decide (d ≤ (h.weightOffset : Int))
  let m := methodOf h (planEntry s.plan v.entry)
  let v' : Vertical :=
    { v with
      bottom := some bottom, depth := some d, shallow := shallow, points := pointsOf m surface bottom d shallow,
      results := [] }
  let t := s.setPls s.pls.disarm
  handRun .halt
    (t.setRun
      { (s.run.stopCable s.now).enter .pointSeek with
        vertical := some v', haltId := some s.run.nextId, cableAt := some (s.now + 1000 * h.cableTimeout) })

/-- R142, R144: POINT-SEEK for a later point. -/
def enterNextPoint (s : State) : State :=
  obtainMove
    (s.setRun
      { (s.run.stopCable s.now).enter .pointSeek with cableAt := some (s.now + 1000 * s.header.cableTimeout) })

/-- R144: EXPOSE arms the rotor with the plan's values. -/
def enterExpose (s : State) : State :=
  let h := s.header
  let r := armRotor (RotorMode.ofCode h.exposureMode) h.exposure h.revs h.p (cfgMissingPulse s.tbl.config) s.now
  (s.setPls { s.pls with rotor := r }).setRun { (s.run.stopCable s.now).enter .expose with settleAt := none }

/-- R143: SETTLE; with a settle time of 0 RUN passes straight to EXPOSE. -/
def enterSettle (s : State) : State :=
  let t :=
    s.setRun
      { (s.run.stopCable s.now).enter .settle with settleAt := some (s.now + 1000 * s.header.settle) }
  if s.header.settle = 0 then enterExpose t else t

/-- R145. -/
def enterLift (s : State) : State :=
  obtainMove
    (s.setRun { (s.run.stopCable s.now).enter .lift with cableAt := some (s.now + 1000 * s.header.cableTimeout) })

/-! ## Retrieval, finish and CLOSE (R146 to R149, R156) -/

/-- R147: RETRIEVE, with its timer. No vertical is in progress in it. DESIGN CHOICE (log entry 46): the vertical cursor
is absent in RETRIEVE. -/
def enterRetrieve (s : State) : State :=
  let t := s.setPls s.pls.release
  handRun .retrieve
    (t.setRun
      { (s.run.stopTimers s.now).enter .retrieve with
        cursor := none, vertical := none, retrieveSent := false, verifyGrant := false, settleAt := none,
        enquiryAt := none,
        retrieveAt := some (s.now + 1000 * s.header.traverseTimeout) })

/-- RUN back in IDLE: marker cleared, address released, latest position kept (R149, R156). -/
def Run.toIdle (r : Run) : Run :=
  { idleRun none with position := r.position, grantKnown := r.grantKnown, nextId := r.nextId, told := r.told }

/-- R30: the adoption at RAT, with its placement. -/
def adopt (start : Nat) (shift : Int) (s : State) : State × Option Placement :=
  match shiftFault 1 [(0, shift)] with
  | some _ => (s, none)
  | none =>
    let p := placeShift { start := start, points := [(0, shift)] } s.rat.shifts
    (s.setRat { s.rat with shifts := p.1 }, some p.2)

/-- R149, R167 to R170: the finish, with the outcome given: grade, adoption, record, marker, IDLE, as one event. -/
def finishRun (r : RunRec) (outcome : RunOutcome) (s : State) : State :=
  let c := r.figures.getD emptyCalc
  let f := gaugeFlags r.flags r.verticals c
  let grade := gradeOf outcome f
  let wanted := adoptable grade (planHeader (s.planOf r)).adopt c
  let within := withinAdoptLimit (cfgAdoptLimit s.tbl.config) c
  let a := if wanted && within && s.clk.valid then adopt s.clk.time (c.indicated.getD 0) s else (s, none)
  let f := { f with shiftAdopted := a.2.isSome, shiftLimit := wanted && !within }
  let t := append (.gauging (gaugeRecord r outcome c f grade a.2 s.clk)) a.1
  t.setRun t.run.toIdle

/-- R146: CLOSE has its figures; a run that completed every vertical is COMPLETE and is retrieved, an aborted one
finishes. -/
def endClose (r : RunRec) (c : Calc) (s : State) : State :=
  match r.outcome with
  | none => enterRetrieve (s.setRun { s.run with record := some { r with figures := some c, outcome := some .complete } })
  | some o => finishRun { r with figures := some c } o s

/-- R146: CLOSE; it ends at its entry when no lookup is asked (R165). DESIGN CHOICE (log entry 46): the vertical cursor is
absent in CLOSE. -/
def enterClose (r : RunRec) (s : State) : State :=
  let c := closeFigures (s.planOf r) r.verticals r.startStage
  let t :=
    s.setRun
      { (s.run.stopTimers s.now).enter .close with
        cursor := none, vertical := none, settleAt := none, retrieveAt := none, enquiryAt := none, record := some { r with figures := some c } }
  match c.asked with
  | some _ => t
  | none => endClose r c t

/-- R156: the end of a retrieval that began at a reset. -/
def endMarkedRetrieval (m : Marker) (r : RunRec) (home : Bool) (s : State) : State :=
  if m.written then
    let t := appendNotice (.runRetrieved m.planId m.start m.startValid s.clk.time home) s
    t.setRun t.run.toIdle
  else finishRun r .abortedPower s

/-- R147: retrieval ends, at HOME or at its timer. -/
def endRetrieval (home : Bool) (s : State) : State :=
  match s.run.record with
  | none => s
  | some r =>
    let r := if home then r else { r with flags := { r.flags with retrieveTimeout := true } }
    let t := s.setRun { s.run with record := some r, retrieveAt := none, enquiryAt := none }
    match r.fromMarker, s.run.marker with
    | true, some m => endMarkedRetrieval m r home t
    | _, _ => if r.outcome = some .complete then finishRun r .complete t else enterClose r t

/-! ## Aborts (R150 to R152) -/

/-- R151: a cause taken in RETRIEVE or CLOSE is added to the flags. -/
def addCause (cause : RunOutcome) (s : State) : State :=
  s.setRun { s.run with record := s.run.record.map fun r => { r with flags := r.flags.withCause cause } }

/-- R150, R151: an abort cause. The claim is asked before the RETRIEVE is handed. -/
def abortRun (cause : RunOutcome) (s : State) : State :=
  if s.run.state.working then
    let t := s.setRun { s.run with record := s.run.record.map fun r => { r with outcome := some cause } }
    enterRetrieve (t.setLoop (t.loop.claim .runEngine))
  else if s.run.state = .idle then s
  else addCause cause s

/-- R152: LOOP reports a rise of a node's failure count. -/
def runCountRise (addr count : Nat) (s : State) : State :=
  if s.run.held = some addr ∧ 3 ≤ count then abortRun .abortedLoop s else s

/-! ## What a POSITION does (R134 to R148) -/

/-- R136: a position counts toward the move: its command has been reported sent, or the position answers it. -/
def Run.counts (r : Run) (answering : Option Nat) : Bool :=
  r.moveId.isSome && (r.moveSent || answering == r.moveId)

/-- R147: a position counts toward HOME: a RETRIEVE has been sent or answered, or the position answers it. -/
def Run.countsHome (r : Run) (answering : Option Nat) : Bool :=
  r.retrieveSent ||
    match r.lastCmd with
    | some (c, _) => c.kind == .retrieve && answering == some c.id
    | none => false

/-- The position of a stopped carriage in TRAVERSE (R137). -/
def WinchState.stopped : WinchState → Bool
  | .atTarget => true
  | .obstructed => true
  | .idle => true
  | .home => true
  | _ => false

/-- R139: the effective x of the last completed vertical, or of EDGE-LEFT. -/
def lastX (plan : List Byte) (r : RunRec) : Nat := ((r.verticals.getLast?.map DoneVert.x).getD (planEntry plan 0).x)

/-- R139: the SPARE a failed traverse may take. -/
def alternateFor (plan : List Byte) (r : RunRec) (v : Vertical) : Option Nat :=
  let l := (planEntry plan v.entry).alternate
  let x := (planEntry plan l).x
  if l ≠ 255 ∧ v.alternate = false ∧ lastX plan r < x then some x else none

/-- R139: a traverse has failed. -/
def failTraverse (r : RunRec) (v : Vertical) (s : State) : State :=
  match alternateFor (s.planOf r) r v with
  | some x => enterTraverse v.entry x true s
  | none => abortRun .positionError s

/-- R138: the confirming frame is judged. -/
def judgeConfirm (r : RunRec) (v : Vertical) (p : Position) (s : State) : State :=
  if p.winch = .moving then resumeTraverse s
  else if p.winch ≠ .obstructed ∧ ((p.x : Int) - v.targetX).natAbs ≤ s.header.tolerance then enterSurfaceSeek s
  else failTraverse r v s

/-- R145, R159, R160: the vertical as completed. -/
def completed (s : State) (v : Vertical) : DoneVert :=
  let m := methodOf s.header (planEntry s.plan v.entry)
  { entry := v.entry, x := v.targetX, alternate := v.alternate, depth := recordedDepth (v.depth.getD 0),
    results := v.results, mean := meanVelocity s.header m v.shallow (v.results.map PointResult.velocity),
    latch := s.stageNow, flags := vertFlags v.alternate v.shallow v.results }

/-- R145: LIFT has ended: the vertical is complete, and RUN goes to the next MEASURE entry or to CLOSE. -/
def completeVertical (r : RunRec) (v : Vertical) (s : State) : State :=
  let r := { r with verticals := r.verticals ++ [completed s v] }
  let t := s.setRun { s.run with record := some r }
  match nextMeasure s.plan (v.entry + 1) with
  | some i => enterTraverse i (planEntry s.plan i).x false t
  | none => enterClose r t

/-- R134 to R148, R151: a POSITION from the held address judged by the state RUN is in. -/
def judgePosition (p : Position) (answering : Option Nat) (s : State) : State :=
  if s.run.state.working && p.winch == .fault then abortRun .abortedWinchFault s
  else
    match s.run.state, s.run.record, s.run.vertical with
    | .traverse, _, _ => whenever (s.run.counts answering && p.winch.stopped) enterVerify s
    | .verify, some r, some v => judgeConfirm r v p s
    | .pointSeek, _, _ => whenever (s.run.counts answering && p.winch == .atTarget) enterSettle s
    | .lift, some r, some v => whenever (s.run.counts answering && p.winch == .atTarget) (completeVertical r v) s
    | .retrieve, _, _ =>
      if p.winch = .fault then addCause .abortedWinchFault s
      else whenever (s.run.countsHome answering && p.winch == .home) (endRetrieval true) s
    | .close, _, _ => whenever (p.winch == .fault) (addCause .abortedWinchFault) s
    | _, _, _ => s

/-- R134: a POSITION that the channel table passes on. -/
def runPosition (p : Position) (answering : Option Nat) (s : State) : State :=
  match s.run.held with
  | none => s.setRun { s.run with position := some p }
  | some a =>
    if p.addr = a then judgePosition p answering (s.setRun { s.run with position := some p }) else s

/-! ## What LOOP tells RUN (R83, R103, R111) -/

/-- The command of this id is the last handed. -/
def Run.isLast (r : Run) (id : Nat) : Option RunCmd := (r.lastCmd.map Prod.fst).filter fun c => c.id == id

/-- R138, R142, R147: what RUN does at the outcome of a command it handed over. -/
def runOutcome (id : Nat) (o : CmdOutcome) (s : State) : State :=
  let t := s.setRun (s.run.note id o)
  match s.run.state with
  | .pointSeek =>
    if s.run.haltId = some id then obtainMove (t.setRun { t.run with haltId := none }) else t
  | .retrieve =>
    match s.run.isLast id with
    | some c =>
      t.setRun
        { t.run with
          retrieveSent := t.run.retrieveSent || (c.kind == .retrieve && o.reached), enquiryAt := some (s.now + 1000) }
    | none => t
  | .verify =>
    match s.run.isLast id with
    | some c => if c.kind = .poll ∧ !o.reached then t.setRun { t.run with enquiryAt := some (s.now + 1000) } else t
    | none => t
  | _ => t

/-- R103, R135, R153: a grant has begun; RUN knows its node. A HALT whose outcome is awaited goes before the move (R142). -/
def runGrantBegun (s : State) : State :=
  let t := s.setRun { s.run with grantKnown := some s.loop.grant.node }
  if s.run.state.moves && s.run.haltId.isNone then handMove t else t

/-- R111, R135, R138: a grant has ended. -/
def runGrantEnded (s : State) : State :=
  let t := s.setRun { s.run with grantKnown := none }
  if s.run.state.moves && s.run.haltId.isNone then handRun s.grantCommand t
  else if s.run.state = .verify ∧ s.run.verifyGrant = true then
    handRun .poll (t.setRun { t.run with verifyGrant := false })
  else t

/-! ## What PLS hands RUN (R140, R141, R144) -/

/-- R144: a rotor result, left aside in any state but EXPOSE. -/
def runRotorResult (r : RotorResult) (s : State) : State :=
  match s.run.state, s.run.vertical with
  | .expose, some v =>
    match v.points with
    | p :: rest =>
      let v' := { v with points := rest, results := v.results ++ [pointResult s.header p r] }
      let t := s.setRun { s.run with vertical := some v' }
      if rest.isEmpty then enterLift t else enterNextPoint t
    | [] => s
  | _, _ => s

/-- R140: the surface latch. -/
def runSurfaceLatch (l : LatchVal) (s : State) : State :=
  match s.run.state, s.run.vertical with
  | .surfaceSeek, some v =>
    match l.cable with
    | some (c, _) => enterSound v c s
    | none => abortRun .positionError s
  | _, _ => s

/-- R141: the bottom latch. -/
def runBottomLatch (l : LatchVal) (s : State) : State :=
  match s.run.state, s.run.vertical with
  | .sound, some v =>
    match l.cable with
    | some (c, _) => enterFirstPoint v c s
    | none => abortRun .positionError s
  | _, _ => s

/-! ## START-RUN (R131 to R133) -/

/-- R132: an accepted START-RUN, for the winch at `addr`. -/
def beginRun (plan addr : Nat) (s : State) : State :=
  let bytes := s.tbl.plan plan
  let planId := (planHeader bytes).planId
  let marker : Marker :=
    { plan := plan, planId := planId, addr := addr, start := s.clk.time, startValid := s.clk.valid, written := false }
  let r : RunRec :=
    { plan := plan, planId := planId, start := s.clk.time, startValid := s.clk.valid, startStage := s.stageNow,
      verticals := [], outcome := none, flags := noGaugeFlags, figures := none, fromMarker := false }
  let t := s.setRun { s.run with marker := some marker, held := some addr, record := some r }
  match nextMeasure bytes 0 with
  | some i => enterTraverse i (planEntry bytes i).x false t
  | none => t

/-! ## RUN at a reset (R155, R156) -/

/-- R155: the outcome and flags of the record that a WARM reset closes. A complete run still in CLOSE is COMPLETE
(DEDUCED, log entry 25). -/
def resetOutcome (st : RunState) (r : RunRec) : RunOutcome × GaugeFlags :=
  if st.working then (.abortedReset, r.flags)
  else
    let flags := { r.flags with abortedReset := true }
    match r.outcome with
    | some o => (o, flags)
    | none => (if r.fromMarker then .abortedPower else .complete, flags)

/-- R155: the gauging record that a WARM reset writes, with the computation of CLOSE carried out at once, its inverse lookup
against the LIVE bank as it stands. DEDUCED (log entry 47): this holds also for a complete run in RETRIEVE, whose
figures CLOSE computed already, against the last sentence of R165. -/
def resetRecord (s : State) (r : RunRec) : GaugeRec :=
  let c := closeFigures (s.planOf r) r.verticals r.startStage
  let c :=
    match c.asked with
    | some q => c.answer (inverseLookup s.rat.live q)
    | none => c
  let o := resetOutcome s.run.state r
  let f := gaugeFlags o.2 r.verticals c
  gaugeRecord r o.1 c f .poor none s.clk

/-- R155: whether a WARM or COLD reset finds a run to close. -/
def State.runToClose (s : State) : Option RunRec :=
  match s.run.marker with
  | some m => if s.run.state ≠ .idle ∧ m.written = false then s.run.record else none
  | none => none

/-- R156: RUN after a reset, with the marker as it then stands. With a marker present it hands RETRIEVE, which becomes
the pending run-engine command before LOOP's first choice (R85). -/
def resetRun (marker : Option Marker) (s : State) : State :=
  match marker with
  | none => s.setRun (idleRun none)
  | some m =>
    let r : RunRec :=
      { plan := m.plan, planId := m.planId, start := m.start, startValid := m.startValid, startStage := none,
        verticals := [], outcome := none, flags := noGaugeFlags, figures := none, fromMarker := true }
    enterRetrieve (s.setRun { idleRun (some m) with held := some m.addr, record := some r })

end Sys2Proof.Machine
end

