-- ==== Sys2Proof/Machine/Warning.lean ====
section
/-! DEFINITION. WRN, the warning unit (chapter 3): rule evaluation, the target, rise, stand-down and fall, the relays,
the interlock, and what writes and resets do to it. -/

namespace Sys2Proof.Machine

/-! ## Rules (R42, R43, R46) -/

def Wrn.ruleState (w : Wrn) (i : Nat) : RuleState := w.rules.getD i .off

/-- R42, R43: the state of an entry as examined. -/
def examined (e : RuleEntry) : RuleState := if e.valid then .armed else .off

/-- R43: rule `i` has a byte within `len` bytes from `off`. -/
def ruleWritten (off len i : Nat) : Bool := decide (14 * i < off + len ∧ off < 14 * i + 14)

/-- R46, Table 24. -/
def RuleState.next (st : RuleState) (e : RuleEntry) (v : Int) : RuleState :=
  let reached (k : Nat) : RuleState := if k = e.persistence then .triggered else .pending k
  match st with
  | .off => .off
  | .armed => if e.trigger ≤ v then reached 1 else .armed
  | .pending k => if e.trigger ≤ v then reached (k + 1) else .armed
  | .triggered => if v < e.reset then .armed else .triggered

/-- One evaluation of all rules: each rule whose `value` is present is evaluated against it. -/
def Wrn.evaluate (w : Wrn) (table : List Byte) (value : RuleEntry → Option Int) : Wrn :=
  { w with
    rules :=
      w.rules.zipIdx.map fun (st, i) =>
        match value (ruleEntry table i) with
        | some v => st.next (ruleEntry table i) v
        | none => st }

/-- R44 steps 2 and 3: the value a rule sees when a selected stage arrives. -/
def stageValue (stage : Int) (discharge : Option Nat) (e : RuleEntry) : Option Int :=
  if e.source = 0 then some stage else if e.source = 1 then discharge.map Int.ofNat else none

/-- R45: the rate of rise a RISE rule sees at a history step; `step` is in seconds. -/
def riseValue (history : List (Option Int)) (step : Nat) (e : RuleEntry) : Option Int :=
  if e.source = 2 then
    match history.getD 0 none, history.getD e.window none with
    | some a, some b => some (roundDiv ((a - b) * 3600) (e.window * step))
    | _, _ => none
  else none

/-! ## The target and the cause (R48, R53) -/

/-- R47, R48: rule `i` counts toward the target. -/
def Wrn.counts (w : Wrn) (table : List Byte) (i : Nat) : Bool :=
  match w.ruleState i with
  | .off => false
  | .triggered => true
  | _ => w.stageLost && (ruleEntry table i).failSafe

/-- R48: the highest target among the rules that count, or 0. -/
def Wrn.targetOf (w : Wrn) (table : List Byte) : Nat :=
  (((List.range 12).filter (w.counts table)).map fun i => (ruleEntry table i).target).foldl max 0

/-- R53: the cause of a rise to `level`. -/
def Wrn.riseCause (w : Wrn) (table : List Byte) (level : Nat) : WarnCause :=
  match (List.range 12).find? fun i => w.ruleState i == .triggered && (ruleEntry table i).target == level with
  | some i => .rule i
  | none => .stageLost

/-! ## The relays (R55) -/

def Wrn.outputsOf (w : Wrn) (patterns : List Byte) : BitVec 4 :=
  match w.test with
  | some t => patternOn patterns t.level
  | none =>
    let on := patternOn patterns w.level
    if w.silenced then on &&& ~~~(patternSilence patterns w.level) else on

/-- R55: the outputs set again. -/
def drive (s : State) : State := s.setWrn { s.wrn with outputs := s.wrn.outputsOf s.tbl.patterns }

/-! ## The warning record (R53) -/

/-- The latest instant discharge (R36). -/
def State.dischargeNow (s : State) : Option Nat := s.rat.latest.bind RatResult.discharge

def warnRecord (old new : Nat) (cause : WarnCause) (s : State) : State :=
  append
    (.warning
      { time := s.clk.time, valid := s.clk.valid, old := old, new := new, cause := cause, stage := s.stageNow,
        discharge := s.dischargeNow })
    s

/-! ## The interlock (R59) -/

/-- R59: the interlock is in force. -/
def State.interlock (s : State) : Bool := decide (cfgStopLevel s.tbl.config ≤ s.wrn.level)

/-- R59: the receivers of a rise to or above the stop level: the loop controller claims, the run engine aborts. -/
def imposeInterlock (s : State) : State := abortRun .abortedWarning (s.setLoop (s.loop.claim .warning))

/-! ## Rise, stand-down and fall (R49 to R51) -/

/-- R49: the level rises to `target`. -/
def rise (target : Nat) (s : State) : State :=
  let old := s.wrn.level
  let cause := s.wrn.riseCause s.tbl.rules target
  let s := s.setWrn { s.wrn with level := target, standDown := none, silenced := false, test := none }
  let s := drive (warnRecord old target cause s)
  if cfgStopLevel s.tbl.config ≤ target then imposeInterlock s else s

/-- R51: the stand-down timer expires. -/
def standDownFall (s : State) : State :=
  let old := s.wrn.level
  let s := s.setWrn { s.wrn with level := s.wrn.target, standDown := none, test := none }
  drive (warnRecord old s.wrn.target .standDown s)

/-- R50, R51: the timer starts, unless it runs or the reset hold stands; a stand-down time of 0 expires at once. -/
def startStandDown (s : State) : State :=
  if s.wrn.standDown.isSome || s.wrn.resetHold then s
  else
    let d := cfgStandDown s.tbl.config s.wrn.level
    if d = 0 then standDownFall s
    else s.setWrn { s.wrn with standDown := some { start := s.now, level := s.wrn.level, expiry := s.now + d } }

/-- R48: the target is computed and compared with the level. -/
def applyTarget (s : State) : State :=
  let t := s.wrn.targetOf s.tbl.rules
  let s := s.setWrn { s.wrn with target := t }
  if s.wrn.level < t then rise t s
  else if t < s.wrn.level then startStandDown s
  else s.setWrn { s.wrn with standDown := none }

/-- R63: the end of an evaluation event; the reset hold ends with the first. -/
def endEvaluation (s : State) : State := applyTarget (s.setWrn { s.wrn with resetHold := false })

/-! ## What other units bring (R44, R45, R47) -/

/-- R44: a new selected stage with its instant discharge. -/
def wrnStage (stage : Int) (discharge : Option Nat) (s : State) : State :=
  endEvaluation
    (s.setWrn ({ s.wrn with stageLost := false }.evaluate s.tbl.rules (stageValue stage discharge)))

/-- R45: a history step. -/
def wrnHistory (s : State) : State :=
  endEvaluation
    (s.setWrn (s.wrn.evaluate s.tbl.rules (riseValue s.stg.history (cfgHistoryStep s.tbl.config))))

/-- R47: the report that stage is lost. -/
def wrnStageLost (s : State) : State := applyTarget (s.setWrn { s.wrn with stageLost := true })

/-! ## Writes (R43, R52, R60) -/

/-- R43: the entries with a byte in the written range take their new states; the table holds the new bytes. -/
def rulesWritten (off len : Nat) (s : State) : State :=
  applyTarget
    (s.setWrn
      { s.wrn with
        rules :=
          s.wrn.rules.zipIdx.map fun (st, i) =>
            if ruleWritten off len i then examined (ruleEntry s.tbl.rules i) else st })

/-- R52: a changed stand-down time of the level that the running timer holds. -/
def standDownChanged (old : List Byte) (s : State) : State :=
  match s.wrn.standDown with
  | some d =>
    let new := cfgStandDown s.tbl.config d.level
    if cfgStandDown old d.level = new then s
    else if d.start + new ≤ s.now then standDownFall s
    else s.setWrn { s.wrn with standDown := some { d with expiry := d.start + new } }
  | none => s

/-- R60: a changed stop level. The interlock that comes into force is imposed on the run engine alone. -/
def stopLevelChanged (old : List Byte) (s : State) : State :=
  if s.interlock && decide (s.wrn.level < cfgStopLevel old) then abortRun .abortedWarning s else s

/-! ## Resets (R62, R64) -/

/-- R62: the state taken up at a reset with the given level, the outputs set from it. -/
def wrnFresh (level : Nat) (s : State) : State :=
  drive
    (s.setWrn
      { s.wrn with
        rules := (List.range 12).map fun i => examined (ruleEntry s.tbl.rules i), stageLost := true, level := level,
        standDown := none, resetHold := true, silenced := false, test := none })

end Sys2Proof.Machine
end

