-- ==== Sys2Proof/Machine/Stage.lean ====
section
/-! DEFINITION. STG, the stage unit (chapter 1): scaling, the spike rule, validity and selection, alignment, the selected
stage and its loss, the history ring, and the intervals. -/

namespace Sys2Proof.Machine

def Stg.source (g : Stg) : Source → SourceRec
  | .primary => g.prim
  | .secondary => g.sec

def Stg.setSource (g : Stg) (src : Source) (r : SourceRec) : Stg :=
  match src with
  | .primary => { g with prim := r }
  | .secondary => { g with sec := r }

/-! ## Scaling (R2) -/

/-- R2: a raw count scaled to millimetres and clamped. -/
def scaleSample (raw : Nat) (gain offset : Int) : Sample :=
  let v := offset + roundDiv ((raw : Int) * gain) 65536
  { mm := clampInt (-2000) 20000 v, clamped := decide (v < -2000 ∨ 20000 < v) }

/-! ## The open interval (R18 to R20) -/

/-- R19: the flags added to the open interval. -/
def markInterval (f : IntervalFlags) (s : State) : State :=
  s.setStg { s.stg with acc := { s.stg.acc with flags := s.stg.acc.flags.union f } }

/-- R19: a new selected stage and its discharge enter the accumulator. DESIGN CHOICE (log entry 41): the stage sum and
the extremes stop with the sample count, the discharge sum with the discharge count, where R19 says of both counts
together that "the sums" then stop. -/
def Accum.add (a : Accum) (v : Selected) (r : RatResult) : Accum :=
  let open1 := decide (a.count < 65535)
  let open2 := decide (a.disCount < 65535)
  { count := inc16 a.count
    stageSum := if open1 then a.stageSum + v.mm else a.stageSum
    low := if open1 then some (match a.low with | some l => min l v.mm | none => v.mm) else a.low
    high := if open1 then some (match a.high with | some h => max h v.mm | none => v.mm) else a.high
    last := some v.mm
    disSum := if open2 then a.disSum + r.discharge.getD 0 else a.disSum
    disCount := if r.discharge.isSome then inc16 a.disCount else a.disCount
    primary := a.primary || !v.secondaryUsed
    secondary := a.secondary || v.secondaryUsed
    flags := a.flags.union (sampleFlags v r)
    ratingId := r.ratingId
    shiftStart := r.shiftStart }

/-- R20: the quality of an interval. -/
def qualityOf (a : Accum) : Quality :=
  if a.count = 0 then .noData
  else if a.flags.stageLost || a.flags.missedPolls || a.flags.clockSet || a.flags.resetClosed then .partly
  else .good

/-- R20, Table 12. -/
def intervalRecord (start : Nat) (a : Accum) : IntervalRec :=
  { start := start, count := a.count, mean := if a.count = 0 then none else some (roundDiv a.stageSum a.count),
    low := a.low, high := a.high, last := a.last,
    meanDischarge := if a.disCount = 0 then none else some (roundDivNat a.disSum a.disCount), primary := a.primary,
    secondary := a.secondary, flags := a.flags, quality := qualityOf a, ratingId := a.ratingId,
    shiftStart := a.shiftStart }

/-- R18: the boundary at or before `t`, for an interval length in minutes. -/
def boundaryBefore (minutes t : Nat) : Nat := t / (60 * minutes) * (60 * minutes)

/-- R18: the first boundary after `t`. -/
def boundaryAfter (minutes t : Nat) : Nat := boundaryBefore minutes t + 60 * minutes

/-- R20: the open interval is closed, its record written. -/
def closeInterval (s : State) : State := append (.interval (intervalRecord s.stg.openStart s.stg.acc)) s

/-- R18, R19: an interval opens at `start`, to close at the first boundary after `after`; its flags follow from the
loss of stage and from the clock. -/
def openInterval (start after : Nat) (s : State) : State :=
  s.setStg
    { s.stg with
      openStart := start, nextBoundary := boundaryAfter (cfgIntervalLength s.tbl.config) after,
      acc :=
        { emptyAccum with
          flags :=
            { noIntervalFlags with stageLost := s.stg.selection == .none, clockInvalid := !s.clk.valid } } }

/-! ## The selected stage (R11, R12) -/

/-- R11: the selected stage taken from SECONDARY. -/
def aligned (limit : Nat) (offset : Int) (v : Sample) : Selected :=
  if offset.natAbs ≤ limit then
    let sum := v.mm + offset
    { mm := clampInt (-2000) 20000 sum, clamped := v.clamped || decide (sum < -2000 ∨ 20000 < sum), alignLimit := false,
      secondaryUsed := true }
  else { mm := v.mm, clamped := v.clamped, alignLimit := true, secondaryUsed := true }

/-- R12: the value of a new selected stage. -/
def Stg.selectedValue (g : Stg) (limit : Nat) : Option Selected :=
  match g.selection with
  | .none => none
  | .primary =>
    g.prim.last.map fun v => { mm := v.mm, clamped := v.clamped, alignLimit := false, secondaryUsed := false }
  | .secondary => g.sec.last.map (aligned limit g.offset)

/-- R12: a new selected stage, handed on in order. -/
def publish (s : State) : State :=
  match s.stg.selectedValue (cfgAlignLimit s.tbl.config) with
  | none => s
  | some v =>
    let s := s.setStg { s.stg with selected := some v }
    let r := s.discharge v.mm
    let s := s.setRat { s.rat with latest := some r }
    let s := wrnStage v.mm r.discharge s
    s.setStg { s.stg with acc := s.stg.acc.add v r }

/-- R13: the selection becomes NONE and stage is lost. -/
def loseStage (s : State) : State :=
  let s := s.setStg { s.stg with selection := .none, selected := none }
  let s := s.setRat { s.rat with latest := none }
  let s := wrnStageLost s
  appendNotice .stageLost (markInterval { noIntervalFlags with stageLost := true } s)

/-- R9, R13: the selection leaves NONE for a source. -/
def restoreStage (src : Source) (s : State) : State :=
  appendNotice (.stageRestored src)
    (s.setStg
      { s.stg with
        selection := match src with | .primary => .primary | .secondary => .secondary,
        recovery := match src with | .primary => s.stg.recovery | .secondary => 0 })

/-! ## Validity and selection (R4 to R9) -/

/-- R4 step 4: the selection after an acceptance. -/
def selectAfter (src : Source) (s : State) : State :=
  match s.stg.selection, src with
  | .none, _ => restoreStage src s
  | .secondary, .primary =>
    if cfgRecovery s.tbl.config ≤ s.stg.recovery + 1 then
      s.setStg { s.stg with selection := .primary, recovery := 0 }
    else s.setStg { s.stg with recovery := s.stg.recovery + 1 }
  | _, _ => s

/-- R10: the alignment offset at an acceptance of SECONDARY. -/
def Stg.align (g : Stg) (v : Sample) : Stg :=
  match g.prim.state, g.prim.last with
  | .valid, some p => { g with offset := p.mm - v.mm }
  | _, _ => g

/-- The selection is the source itself. -/
def Selection.follows : Selection → Source → Bool
  | .primary, .primary => true
  | .secondary, .secondary => true
  | _, _ => false

/-- R4: one acceptance, at the arrival time `t`. -/
def accept (src : Source) (v : Sample) (t : Nat) (s : State) : State :=
  let r : SourceRec :=
    { s.stg.source src with
      state := .valid, last := some v, lastTime := some t, staleAt := some (t + cfgStaleLimit s.tbl.config) }
  let s := selectAfter src (s.setStg (s.stg.setSource src r))
  let s := if src = .secondary then s.setStg (s.stg.align v) else s
  if s.stg.selection.follows src then publish s else s

/-- R3: within the spike limit. -/
def near (limit : Nat) (a b : Int) : Bool := decide ((a - b).natAbs ≤ limit)

/-- R3, R8: a sample becomes the suspect. -/
def becomeSuspect (src : Source) (v : Sample) (s : State) : State :=
  let g := s.stg.setSource src { s.stg.source src with suspect := some v }
  s.setStg
    (if src = .primary ∧ s.stg.selection = .secondary then { g with recovery := 0 } else g)

def dropSuspect (src : Source) (s : State) : State :=
  s.setStg (s.stg.setSource src { s.stg.source src with suspect := none })

/-- R3: the judgement of a scaled sample. -/
def judgeSample (src : Source) (v : Sample) (t : Nat) (s : State) : State :=
  let limit := cfgSpikeLimit s.tbl.config
  let r := s.stg.source src
  match r.last, r.suspect with
  | none, _ => accept src v t s
  | some l, none => if near limit v.mm l.mm then accept src v t s else becomeSuspect src v s
  | some l, some q =>
    if near limit v.mm q.mm then accept src v t (accept src q t (dropSuspect src s))
    else if near limit v.mm l.mm then accept src v t (dropSuspect src s)
    else becomeSuspect src v s

/-- R2, R3: the delivery of a stage sample that arrived at `t`. -/
def stageSample (src : Source) (raw : Nat) (gain offset : Int) (t : Nat) (s : State) : State :=
  judgeSample src (scaleSample raw gain offset) t s

/-- R7, R8: the selection when a source becomes STALE. -/
def selectAfterStale (src : Source) (s : State) : State :=
  match s.stg.selection, src with
  | .primary, .primary =>
    if s.stg.sec.state = .valid then publish (s.setStg { s.stg with selection := .secondary, recovery := 0 })
    else loseStage s
  | .secondary, .secondary =>
    if s.stg.prim.state = .valid then publish (s.setStg { s.stg with selection := .primary, recovery := 0 })
    else loseStage s
  | .secondary, .primary => s.setStg { s.stg with recovery := 0 }
  | _, _ => s

/-- R5: a VALID source becomes STALE. -/
def becomeStale (src : Source) (s : State) : State :=
  selectAfterStale src
    (s.setStg (s.stg.setSource src { s.stg.source src with state := .stale, staleAt := none }))

/-- R5: the stale timer of a source is due. -/
def State.staleDue (s : State) (src : Source) : Bool :=
  (s.stg.source src).state == .valid && dueAt (s.stg.source src).staleAt s.now

/-- R6: a missing-sample notification. -/
def missingSample (src : Source) (s : State) : State :=
  let s := markInterval { noIntervalFlags with missedPolls := true } s
  if src = .primary ∧ s.stg.selection = .secondary then s.setStg { s.stg with recovery := 0 } else s

/-! ## Changed fields (R5, R17) -/

/-- R5: the stale expiry of a source under the limit now in force. -/
def SourceRec.restale (limit : Nat) (r : SourceRec) : SourceRec :=
  match r.staleAt, r.lastTime with
  | some _, some t => { r with staleAt := some (t + limit) }
  | _, _ => r

/-- R5: a changed stale limit; a source whose recomputed expiry is past becomes STALE at once. DESIGN CHOICE (log entry
42): where both are past, PRIMARY becomes STALE first. -/
def staleLimitChanged (old : List Byte) (s : State) : State :=
  if cfgStaleLimit old = cfgStaleLimit s.tbl.config then s
  else
    let limit := cfgStaleLimit s.tbl.config
    let s := s.setStg { s.stg with prim := s.stg.prim.restale limit, sec := s.stg.sec.restale limit }
    let s := if s.staleDue .primary then becomeStale .primary s else s
    if s.staleDue .secondary then becomeStale .secondary s else s

/-- R17: a changed history step clears the ring and restarts the timer. -/
def historyStepChanged (old : List Byte) (s : State) : State :=
  if cfgHistoryStep old = cfgHistoryStep s.tbl.config then s
  else
    s.setStg
      { s.stg with
        history := List.replicate 64 none, historyAt := s.now + 1000 * cfgHistoryStep s.tbl.config }

/-! ## Resets (R21) -/

/-- R21: STG after any reset, the timebase at 0; the new interval opens at the boundary at or before the clock. -/
def stgFresh (s : State) : State :=
  let s :=
    s.setStg
      { s.stg with
        prim := freshSource, sec := freshSource, selection := .none, recovery := 0, offset := 0, selected := none,
        history := List.replicate 64 none, historyAt := 1000 * cfgHistoryStep s.tbl.config }
  openInterval (boundaryBefore (cfgIntervalLength s.tbl.config) s.clk.time) s.clk.time s

end Sys2Proof.Machine
end

