-- ==== Sys2Proof/Machine/Control.lean ====
section
/-! DEFINITION. CTL, the control decoder (chapter 11): the queue and READY, the form of a request, the table and origin
checks, and the way of a reply to the reply slot or to the service queue. -/

namespace Sys2Proof.Machine

/-! ## The form of a request (R190 step 1, Table 68) -/

/-- The request code, the first payload character; of an empty payload there is none (free value, log entry 6). -/
def Request.code (r : Request) : Byte := r.payload.headD Config.codeOfEmptyRequest

/-- The point of an ADD-SHIFT at place `i`. -/
def offeredPoint (p : List Byte) (i : Nat) : Int × Int := (i16 p (6 + 4 * i), i16 p (8 + 4 * i))

/-- R190 step 1: the request that a payload holds, or nothing for BAD-REQUEST. -/
def parseRequest (p : List Byte) : Option Req :=
  let is (n : Nat) (r : Req) : Option Req := if p.length = n then some r else none
  match u8 p 0 with
  | 1 => if u8 p 1 ≤ 9 then is 3 (.readStatus (u8 p 1) (u8 p 2)) else none
  | 2 => is 5 (.readRecords (u16 p 1) (u8 p 3) (u8 p 4))
  | 3 => is 5 (.readTable (u8 p 1) (u16 p 2) (u8 p 4))
  | 4 => if 5 ≤ p.length then some (.writeTable (u8 p 1) (u16 p 2) (p.drop 4)) else none
  | 5 => is 1 .activateRating
  | 6 => is 22 (.addShift (u32 p 1) (u8 p 5) ((List.range (min (u8 p 5) 4)).map (offeredPoint p)))
  | 7 => is 5 (.deleteShift (u32 p 1))
  | 8 => if u8 p 1 ≤ 3 then is 2 (.startRun (u8 p 1)) else none
  | 9 => is 1 .abortRun
  | 10 => is 1 .silence
  | 11 => is 3 (.warningTest (u8 p 1) (u8 p 2))
  | 12 => is 5 (.setClock (u32 p 1))
  | 13 => if u8 p 1 ≤ 1 then is 2 (.resetPart (u8 p 1 == 1)) else none
  | _ => none

/-! ## The table and origin checks (R190 steps 2 and 3, R191 to R193) -/

/-- R192, R193: the request passes the table check. -/
def tableGood : Req → Bool
  | .readTable t off len => decide (t ≤ 10 ∧ 1 ≤ len ∧ len ≤ 192 ∧ off + len ≤ tableSize t)
  | .writeTable t off data =>
    decide (t ≤ 10 ∧ t ≠ 3 ∧ t ≠ 4 ∧ off + data.length ≤ tableSize t ∧ data.length ≤ 192)
  | _ => true

/-- R191: the request may come from this origin. -/
def originGood (config : List Byte) : Origin → Req → Bool
  | .service _, _ => true
  | .uplink _, .writeTable t _ _ => t != 0 && cfgWriteMask config t
  | .uplink _, .activateRating => cfgWriteMask config 3
  | .uplink _, .addShift _ _ _ => cfgWriteMask config 4
  | .uplink _, .deleteShift _ => cfgWriteMask config 4
  | .uplink _, .resetPart cold => !cold
  | .uplink _, _ => true

/-- R190 steps 1 to 3: the request to carry out, or the reply code of the first refusal. -/
def judgeRequest (config : List Byte) (r : Request) : Except Byte Req :=
  match parseRequest r.payload with
  | none => .error replyBadRequest
  | some q =>
    if !tableGood q then .error replyBadTable
    else if !originGood config r.origin q then .error replyOrigin
    else .ok q

/-! ## READY (R185) -/

/-- R185: READY after the queue came to hold `n` requests. -/
def readyAfter (n : Nat) (ready : Bool) : Bool := if 3 ≤ n then false else if n ≤ 1 then true else ready

/-- The control queue takes a new value, and READY follows it. -/
def setQueue (q : List Request) (s : State) : State :=
  (s.setCtl { s.ctl with queue := q }).setUpl { s.upl with ready := readyAfter q.length s.upl.ready }

/-! ## Replies (R189) -/

/-- R189: the fragments of a reply for the node at `addr`; `resets` is carried by the last. Fuel is the length. -/
def fragmentsOf (addr : Nat) (resets : Bool) : Nat → Nat → List Byte → List SvcFrame
  | 0, i, p => [{ addr := addr, payload := BitVec.ofNat 8 (i + 128) :: p, resets := resets }]
  | fuel + 1, i, p =>
    if p.length ≤ 47 then [{ addr := addr, payload := BitVec.ofNat 8 (i + 128) :: p, resets := resets }]
    else
      { addr := addr, payload := BitVec.ofNat 8 i :: p.take 47, resets := false } ::
        fragmentsOf addr resets fuel (i + 1) (p.drop 47)

/-- R189, R195: the reply leaves CTL for the empty slot; a reset that waits for it begins at once with LINK low. -/
def placeReply (r : Reply) (s : State) : State :=
  placeInSlot r
    (s.setCtl
      { s.ctl with
        pendingReply := none, inHand := none,
        resetWait := s.ctl.resetWait.map fun w => { w with placed := true, gone := w.gone || !s.lines.link } })

/-- R189: the reply to the request in hand goes its way; what finds no room is the pending reply. -/
def sendReply (payload : List Byte) (s : State) : State :=
  match s.ctl.inHand with
  | none => s
  | some h =>
    match h.request.origin with
    | .uplink seq =>
      let r : Reply := { seq := seq, payload := payload }
      if s.upl.slot.isNone then placeReply r s
      else s.setCtl { s.ctl with pendingReply := some (.slot r), inHand := some { h with work := none } }
    | .service addr =>
      let fs := fragmentsOf addr s.ctl.resetWait.isSome payload.length 0 payload
      feedService
        (s.setCtl { s.ctl with pendingReply := some (.fragments fs), inHand := some { h with work := none } })

/-- R189: a pending reply is offered again to the slot, which has been emptied. -/
def offerPending (s : State) : State :=
  match s.ctl.pendingReply with
  | some (.slot r) => if s.upl.slot.isNone then placeReply r s else s
  | _ => s

/-- The code of the request in hand. -/
def State.codeInHand (s : State) : Byte := ((s.ctl.inHand.map fun h => h.request.code).getD 0)

/-- The reply to the request in hand, with its two codes (Table 68). -/
def answer (code : Byte) (fields : List Byte) (s : State) : State := sendReply (s.codeInHand :: code :: fields) s

/-- The work in hand: the request CTL has taken and not yet answered. -/
def State.work (s : State) : Option Req := s.ctl.inHand.bind InHand.work

/-! ## Entering the queue and BUSY (R188, R189) -/

/-- R70, R189: a BUSY refusal, made outside the request in hand. The dropped-service count has no bound (4.5, log entry
43). -/
def refuseBusy (r : Request) (s : State) : State :=
  let payload := [r.code, replyBusy]
  match r.origin with
  | .uplink seq =>
    if s.upl.slot.isNone then placeInSlot { seq := seq, payload := payload } s
    else s.setCtl { s.ctl with droppedBusy := inc16 s.ctl.droppedBusy }
  | .service addr =>
    if s.loop.serviceQ.length < 4 then
      let f : SvcFrame := { addr := addr, payload := 0x80 :: payload, resets := false }
      s.setLoop { s.loop with serviceQ := s.loop.serviceQ ++ [(f, s.loop.handNo)], handNo := s.loop.handNo + 1 }
    else s.setLoop { s.loop with droppedService := s.loop.droppedService + 1 }

/-- R188: a request arrives. -/
def enqueue (r : Request) (s : State) : State :=
  if s.ctl.queue.length < 4 then setQueue (s.ctl.queue ++ [r]) s else refuseBusy r s

/-! ## Taking a request (R188, R190) -/

/-- R188: CTL may take a request. -/
def Ctl.mayTake (c : Ctl) : Bool := c.inHand.isNone && c.pendingReply.isNone && c.resetWait.isNone

/-- R190: the refusal of the request in hand at steps 1 to 3, recorded as the last refusal. -/
def refuseTaken (r : Request) (code : Byte) (s : State) : State :=
  let byUplink := match r.origin with | .uplink _ => true | .service _ => false
  answer code []
    (s.setCtl { s.ctl with lastRefusal := some { code := r.code, byUplink := byUplink, reply := code } })

/-- R188, R190: CTL takes the oldest request and judges it. -/
def takeRequest (s : State) : State :=
  match s.ctl.queue with
  | [] => s
  | r :: rest =>
    let t := setQueue rest s
    match judgeRequest s.tbl.config r with
    | .error code => refuseTaken r code (t.setCtl { t.ctl with inHand := some { request := r, work := none } })
    | .ok q => t.setCtl { t.ctl with inHand := some { request := r, work := some q } }

end Sys2Proof.Machine
end

