-- ==== Sys2Proof/Machine/Channel.lean ====
section
/-! DEFINITION. CHT, the channel table (chapter 5): where a good frame belongs, what its role makes of it, and the counts. -/

namespace Sys2Proof.Machine

/-- A good frame as LOOP hands it to CHT (R69, R73): with its arrival time, the channel polled, or the run-engine
command that it answers. -/
structure GoodFrame where
  addr : Byte
  kind : Byte
  payload : List Byte
  arrival : Nat
  polled : Option Nat
  answering : Option Nat
deriving DecidableEq, Repr

/-- Where R89 places a frame. -/
inductive Placing where
  | held | entry (i : Nat) | unknown
deriving DecidableEq, Repr

/-- The channel entry `i` as it stands. -/
def State.chan (s : State) (i : Nat) : ChanEntry := chanEntry s.tbl.channels i

/-- R89 step 3: the lowest ACTIVE entry with an address. -/
def State.lowestEntry (s : State) (addr : Nat) : Option Nat :=
  (List.range 24).find? fun i => activeIn s.cht.view i && (s.chan i).addr == addr

/-- R89 step 2: the polled channel, ACTIVE with the same address. -/
def State.polledEntry (s : State) (f : GoodFrame) : Option Nat :=
  f.polled.filter fun i => activeIn s.cht.view i && (s.chan i).addr == f.addr.toNat

/-- R89. -/
def State.placeOf (s : State) (f : GoodFrame) : Placing :=
  if (f.kind = kindPosition ∨ f.kind = kindBurstEnd) ∧ s.run.held = some f.addr.toNat then .held
  else
    match s.polledEntry f with
    | some i => .entry i
    | none =>
      match s.lowestEntry f.addr.toNat with
      | some i => .entry i
      | none => .unknown

/-! ## Counts (R97, R98) -/

def State.onStats (s : State) (i : Nat) (f : EntryStats → EntryStats) : State :=
  s.setCht { s.cht with stats := s.cht.stats.modify i f }

def EntryStats.discard (e : EntryStats) (r : DiscardReason) : EntryStats :=
  { e with discarded := inc16 e.discarded, reason := some r }

/-- A discard under an entry, or in the place of the held winch address. DESIGN CHOICE (log entry 49): the discard count of
that place holds at 65,535, as the counts of an entry do (R98). -/
def discard (p : Placing) (r : DiscardReason) (s : State) : State :=
  match p with
  | .entry i => s.onStats i fun e => e.discard r
  | .held => s.setCht { s.cht with winchDiscarded := inc16 s.cht.winchDiscarded, winchReason := some r }
  | .unknown => s

def countDelivered (p : Placing) (s : State) : State :=
  match p with
  | .entry i => s.onStats i fun e => { e with delivered := inc16 e.delivered }
  | _ => s

/-- R97: an unknown frame. -/
def unknownFrame (f : GoodFrame) (s : State) : State :=
  s.setCht
    { s.cht with
      unknownAddr := some f.addr, unknownTime := some f.arrival, unknownCount := inc16 s.cht.unknownCount }

/-! ## The roles (R91 to R96) -/

/-- R92: the delivery of a stage SAMPLE. -/
def deliverStage (i : Nat) (src : Source) (f : GoodFrame) (s : State) : State :=
  let e := s.chan i
  let n := f.payload.length
  if ¬(n = 3 ∨ n = 5 ∨ n = 7 ∨ n = 9) then discard (.entry i) .form s
  else if u8 f.payload 0 ≠ 0 then
    s.onStats i fun st => { st.discard .nodeFault with nodeStatus := f.payload.head? }
  else if (n - 1) / 2 < e.index then discard (.entry i) .shortSample s
  else
    let s := s.onStats i fun st =>
      { st with delivered := inc16 st.delivered, nodeStatus := some 0, lastDelivery := some f.arrival }
    stageSample src (u16 f.payload (2 * e.index - 1)) e.gain e.offset f.arrival s

/-- R93, R94: a forward item for the frame. -/
def forwardFrom (i : Nat) (f : GoodFrame) (s : State) : State :=
  forwardAdd i f.addr f.kind f.payload (s.onStats i fun st => { st with forwarded := inc16 st.forwarded })

/-- R91: the stage roles. -/
def handleStage (i : Nat) (src : Source) (f : GoodFrame) (s : State) : State :=
  if f.kind = kindSample then
    let t := deliverStage i src f s
    if (s.chan i).alsoForward = 1 then forwardFrom i f t else t
  else if f.kind = kindEmpty then s
  else discard (.entry i) .kind s

/-- R95: the POSITION that a payload holds. -/
def positionOf (payload : List Byte) (addr arrival : Nat) : Option Position :=
  let x := u32 payload 0
  let c := i32 payload 4
  if payload.length = 9 ∧ x ≤ 500000 ∧ -1000 ≤ c ∧ c ≤ 60000 then
    (WinchState.ofCode (u8 payload 8)).map fun w => { x := x, cable := c, winch := w, addr := addr, arrived := arrival }
  else none

/-- R91, R95: the WINCH role. The grant's own handling of a BURST-END follows at LOOP (R104). -/
def handleWinch (p : Placing) (f : GoodFrame) (s : State) : State :=
  if f.kind = kindPosition then
    match positionOf f.payload f.addr.toNat f.arrival with
    | some pos => runPosition pos f.answering (countDelivered p s)
    | none => discard p .form s
  else if f.kind = kindBurstEnd then if f.payload = [] then s else discard p .form s
  else if f.kind = kindEmpty then s
  else discard p .kind s

/-- R91, R94: the FORWARD role. -/
def handleForward (i : Nat) (f : GoodFrame) (s : State) : State :=
  if f.kind = kindEmpty then s else forwardFrom i f s

/-- R91, R96: the SERVICE role. -/
def handleService (i : Nat) (f : GoodFrame) (s : State) : State :=
  if f.kind = kindServiceIn then
    if f.payload = [] then discard (.entry i) .form s
    else enqueue { origin := .service f.addr.toNat, payload := f.payload } (countDelivered (.entry i) s)
  else if f.kind = kindEmpty then s
  else discard (.entry i) .kind s

/-- R91: a frame under entry `i`. -/
def handleEntry (i : Nat) (f : GoodFrame) (s : State) : State :=
  let t := s.onStats i fun st => { st with classified := inc16 st.classified }
  match Role.ofCode (s.chan i).role with
  | some .stagePrimary => handleStage i .primary f t
  | some .stageSecondary => handleStage i .secondary f t
  | some .winch => handleWinch (.entry i) f t
  | some .forward => handleForward i f t
  | some .service => handleService i f t
  | none => t

/-- R89 to R97: the classification of a good frame, one event. DESIGN CHOICE (log entry 49): the classified count of the
held winch address holds at 65,535, as the counts of an entry do (R98). -/
def classify (f : GoodFrame) (s : State) : State :=
  match s.placeOf f with
  | .held => handleWinch .held f (s.setCht { s.cht with winchClassified := inc16 s.cht.winchClassified })
  | .entry i => handleEntry i f s
  | .unknown => unknownFrame f s

/-- R95, R107: the frame is a BURST-END that CHT hands to the grant handling. -/
def State.endsBurst (s : State) (f : GoodFrame) : Bool :=
  f.kind == kindBurstEnd && f.payload.isEmpty &&
    match s.placeOf f with
    | .held => true
    | .entry i => Role.ofCode (s.chan i).role == some .winch
    | .unknown => false

/-! ## The view (R88, R81) -/

/-- R81: the schedule after a write to CHANNELS, from the view and the bytes before it. -/
def scheduleAfter (view : List Treatment) (old : List Byte) (s : State) : List (Option Poll) :=
  (List.range 24).map fun i =>
    pollAfterWrite s.now (activeIn view i) (activeIn s.cht.view i) (chanEntry old i) (s.chan i) (s.loop.poll? i)

/-- R88: the view recomputed after a write that found the table at `old`, and handed on to the loop controller. -/
def channelsWritten (old : List Byte) (s : State) : State :=
  let view := s.cht.view
  let s := s.setCht { s.cht with view := viewOf s.tbl.channels }
  s.setLoop { s.loop with sched := scheduleAfter view old s }

/-- R73, R80: a failed or skipped poll of a channel that holds a stage role notifies STG. -/
def notifyMissing (ch : Nat) (s : State) : State :=
  match (activeRole s.cht.view s.tbl.channels ch).bind Role.source? with
  | some src => missingSample src s
  | none => s

end Sys2Proof.Machine
end

