-- ==== Sys2Proof/Machine/Reception.lean ====
section
/-! DEFINITION. What LOOP does at the ends of frames, transactions and grants, with what it tells RUN, STG and CHT (4.4,
4.5, chapter 6). No operation here ends with `settle`: the command that calls it does. -/

namespace Sys2Proof.Machine

/-! ## Checking a frame (R67, R72) -/

/-- R67, R72: the first fault of a frame that came to its end with no fault of its characters. -/
def bodyFault (b : FrameBody) : Option RxFault :=
  if 48 < b.payload.length then some .length
  else if b.crc ≠ crc16 (b.kind :: BitVec.ofNat 8 b.payload.length :: b.payload) then some .crc
  else none

def faultKind : FrameFault → RxFault
  | .framing => .framing
  | .length => .length
  | .mark _ => .mark
  | .crc => .crc
  | .stray => .stray

/-- R72: the marked character that cut a frame. -/
def cutBy : FrameFault → Option Byte
  | .mark a => some a
  | _ => none

/-! ## The beginning of a frame (R71, R75, R104, R110) -/

/-- A marked character begins a frame, received as the state of the reply pair says. -/
def beginFrame (addr : Byte) (s : State) : State :=
  let l := s.loop
  if l.grant.held then
    s.setLoop { l with rx := some { addr := addr, context := .granted }, grant := l.grant.holdWait }
  else
    match l.txn with
    | some t =>
      match t.phase with
      | .waiting _ =>
        s.setLoop { l with rx := some { addr := addr, context := .reply }, txn := some { t with phase := .replying } }
      | _ => s.setLoop { l with rx := some { addr := addr, context := .unsolicited } }
    | none => s.setLoop { l with rx := some { addr := addr, context := .unsolicited } }

/-- After MARK the marked character begins a new frame (R72). -/
def afterFault (f : FrameFault) (s : State) : State :=
  match cutBy f with
  | some a => beginFrame a s
  | none => s

/-- R78: the reply pair has been seen high no longer than since `t`. -/
def Loop.highFrom (l : Loop) (t : Nat) : Loop := { l with highSince := t }

/-! ## Failure counts (R74) -/

/-- R74, R152: one more failure of a node; RUN is told each rise. -/
def nodeFailure (addr : Nat) (s : State) : State :=
  let old := s.loop.nodeCount addr
  let s := s.setLoop (s.loop.failNode addr)
  if old < s.loop.nodeCount addr then runCountRise addr (s.loop.nodeCount addr) s else s

/-! ## The end of a transaction (R73) -/

/-- The record of a poll's last outcome. -/
def Loop.pollOutcome (l : Loop) (ch : Nat) (o : PollOutcome) : Loop :=
  match l.poll? ch with
  | some p => l.setPoll ch { p with last := some o }
  | none => l

/-- R73: a good SAMPLE clears the MISSED mark. -/
def Loop.clearMissed (l : Loop) (ch : Nat) : Loop :=
  match l.poll? ch with
  | some p => l.setPoll ch { p with missed := false }
  | none => l

/-- The transaction is over and the reply pair free; only an unsolicited frame may still be arriving (R75). -/
def Loop.dropTxn (l : Loop) : Loop := { l with txn := none, rx := l.rx.filter fun r => r.context != .reply }

/-- R73: the outstanding transaction ends in failure. -/
def failTxn (k : RxFault) (s : State) : State :=
  match s.loop.txn with
  | none => s
  | some t =>
    let s := nodeFailure t.addr (s.setLoop (s.loop.dropTxn.countFault k))
    match t.asker with
    | .poll ch => notifyMissing ch (s.setLoop (s.loop.pollOutcome ch (.failed k)))
    | .run c => runOutcome c.id (.failed k) s

/-- R73: the outstanding transaction ends with its good reply. -/
def endTxnGood (b : FrameBody) (s : State) : State :=
  match s.loop.txn with
  | none => s
  | some t =>
    let l := s.loop.dropTxn.setNodeCount t.addr 0
    let f : GoodFrame :=
      { addr := BitVec.ofNat 8 t.addr, kind := b.kind, payload := b.payload, arrival := s.now, polled := none,
        answering := none }
    match t.asker with
    | .poll ch =>
      let l := l.pollOutcome ch .good
      let l := if b.kind = kindSample then l.clearMissed ch else l
      classify { f with polled := some ch } (s.setLoop l)
    | .run c => runOutcome c.id .answered (classify { f with answering := some c.id } (s.setLoop l))

/-- R72, R73: a reply that came to its end is judged. -/
def endReply (b : FrameBody) (s : State) : State :=
  match s.loop.txn, s.loop.rx with
  | some t, some r =>
    match bodyFault b with
    | some k => failTxn k s
    | none => if r.addr.toNat = t.addr then endTxnGood b s else failTxn .stray s
  | _, _ => s

/-- A reply is in progress. -/
def Loop.inReply (l : Loop) : Bool :=
  match l.txn, l.rx with
  | some t, some r => t.phase == .replying && r.context == .reply
  | _, _ => false

/-- The transaction waits for its reply, no reply begun (R71). -/
def Loop.waits (l : Loop) : Bool :=
  match l.txn with
  | some t => match t.phase with | .waiting _ => true | _ => false
  | none => false

/-- The reply timeout has expired at the fine time `now`. -/
def Loop.replyDue (l : Loop) (now : Nat) : Bool :=
  match l.txn with
  | some t => match t.phase with | .waiting e => decide (e ≤ now) | _ => false
  | none => false

/-- R71, R72: the failure that ends the transaction can arise: FRAMING also before a reply has begun, STRAY with another
address. -/
def Loop.mayFail (l : Loop) (f : FrameFault) : Bool :=
  match f with
  | .framing => (l.waits && l.rx.isNone) || l.inReply
  | .stray =>
    l.inReply &&
      match l.txn, l.rx with
      | some t, some r => r.addr.toNat != t.addr
      | _, _ => false
  | _ => l.inReply

/-! ## The end of a grant (R111) -/

/-- A frame that arrives when its grant is gone is received as unsolicited (R105). -/
def RxFrame.orphan (r : RxFrame) : RxFrame := if r.context = .granted then { r with context := .unsolicited } else r

/-- R111: the grant ends, and RUN is told. -/
def closeGrant (cause : GrantEnd) (s : State) : State :=
  let l := s.loop.endGrant cause (cfgInterleave s.tbl.config) s.now
  runGrantEnded (s.setLoop { l with rx := l.rx.map RxFrame.orphan })

/-! ## Frames under a grant (R104 to R107) -/

/-- A frame is in progress under a grant. -/
def Loop.inGrantFrame (l : Loop) : Bool :=
  l.grant.held &&
    match l.rx with
    | some r => r.context == .granted
    | none => false

/-- R104, R110: a frame under a grant is over; the claim wait, if it runs, restarts. -/
def endGrantRx (s : State) : State := restartClaimWait (s.setLoop { s.loop with rx := none })

/-- R104: a failed frame under a grant counts against the granted node. -/
def failGrantFrame (k : RxFault) (s : State) : State :=
  let s := endGrantRx (s.setLoop (s.loop.countFault k))
  nodeFailure s.loop.grant.node s

/-- R106: a POSITION that reports a state other than MOVING. -/
def reportsDone (payload : List Byte) : Bool :=
  payload.length == 9 &&
    match WinchState.ofCode (u8 payload 8) with
    | some w => w != .moving
    | none => false

/-- R106: the node's move is done; it owes BURST-END. -/
def grantDone (s : State) : State :=
  if s.loop.grant.state = .held ∧ s.loop.grant.mode ≠ .hold then
    startClaimWait s.fineNow (s.setLoop { s.loop with grant := { s.loop.grant with state := .closing } })
  else s

/-- R104 to R106: a POSITION from the granted node is counted, watched for the end of the move, and held to the limit. -/
def countPosition (payload : List Byte) (s : State) : State :=
  let s := s.setLoop { s.loop with grant := { s.loop.grant with count := s.loop.grant.count + 1 } }
  let s := if reportsDone payload then grantDone s else s
  if s.loop.grant.limit ≤ s.loop.grant.count then closeGrant .limit s else s

/-- R107: a BURST-END of the granted node. -/
def burstEnd (s : State) : State :=
  closeGrant (if s.loop.grant.state = .claiming then .claimAnswered else .burstEnd) s

/-- R104: a good frame under a grant: classified first, then the grant's own handling. -/
def goodGrantFrame (addr : Byte) (b : FrameBody) (s : State) : State :=
  let f : GoodFrame :=
    { addr := addr, kind := b.kind, payload := b.payload, arrival := s.now, polled := none, answering := none }
  let own := decide (addr.toNat = s.loop.grant.node)
  let ends := s.endsBurst f
  let s := endGrantRx s
  let s := if own then s.setLoop (s.loop.setNodeCount s.loop.grant.node 0) else s
  let s := classify f s
  if !own then s
  else if b.kind = kindPosition then countPosition b.payload s
  else if ends then burstEnd s
  else s

/-- R104: a frame under a grant comes to its end. A STRAY does not arise. -/
def endGrantFrame (fin : FrameEnd) (s : State) : State :=
  match fin, s.loop.rx with
  | .complete b, some r =>
    match bodyFault b with
    | some k => failGrantFrame k s
    | none => goodGrantFrame r.addr b s
  | .failed .stray, _ => s
  | .failed f, some _ => afterFault f (failGrantFrame (faultKind f) s)
  | _, none => s

/-! ## Unsolicited frames (R75) -/

/-- An unsolicited frame is in progress. -/
def Loop.inUnsolicited (l : Loop) : Bool :=
  match l.rx with
  | some r => r.context == .unsolicited
  | none => false

/-- R75, R110: an unsolicited frame, if one is in progress, is over; a claim wait, if one runs by then (log entry 16),
restarts at its end. -/
def endUnsolicitedRx (s : State) : State :=
  if s.loop.rx.isSome then restartClaimWait (s.setLoop { s.loop with rx := none }) else s

/-- R75: an unsolicited frame comes to its end. -/
def endUnsolicited (fin : FrameEnd) (s : State) : State :=
  match fin with
  | .complete b =>
    let t := endUnsolicitedRx s
    match bodyFault b with
    | some k => t.setLoop (t.loop.countFault k)
    | none => t.setLoop { t.loop with unsolicited := inc16 t.loop.unsolicited }
  | .failed .stray => s
  | .failed f =>
    let t := endUnsolicitedRx s
    afterFault f (t.setLoop (t.loop.countFault (faultKind f)))

/-- R71, R75, R76: a frame, or a low stop bit with no frame begun, can be taken as unsolicited, also under a grant. -/
def Loop.mayUnsolicited (l : Loop) (fin : FrameEnd) : Bool :=
  l.inUnsolicited || (fin == .failed .framing && l.rx.isNone && !l.waits)

/-! ## The command pair (R70, R103) -/

/-- The frame whose last character has been sent, with the fine time of its end. -/
def State.frameSent (s : State) : Option OnAir := s.loop.tx.filter fun a => decide (a.doneAt ≤ s.fineNow)

/-- The frame is the GRANT of an opening grant. -/
def CmdFrame.isGrant : CmdFrame → Bool
  | .opening _ (.grant _ _) => true
  | _ => false

/-- R71: the reply timeout starts at the fine time `sent`. -/
def startReplyTimeout (sent : Nat) (s : State) : State :=
  s.setLoop
    { s.loop with
      txn := s.loop.txn.map fun t => { t with phase := .waiting (s.charsFrom sent (cfgReplyTimeout s.tbl.config)) } }

/-- R70, R71, R83, R110, R189, R195: what a frame sent whole brings, its last character ended at the fine time `sent`. -/
def afterSent (f : CmdFrame) (sent : Nat) (s : State) : State :=
  match f with
  | .claim => if s.loop.grant.state = .claiming then startClaimWait sent s else s
  | .winch c => runOutcome c.id .sent s
  | .service f =>
    if f.resets then s.setCtl { s.ctl with resetWait := s.ctl.resetWait.map fun w => { w with gone := true } } else s
  | .opening _ _ => startReplyTimeout sent s

/-- R103 steps 1 and 2: the reply pair passes to the grant. The count of grants begun has no bound (4.5, log entry 48). -/
def holdGrant (s : State) : State :=
  s.setLoop
    { s.loop with
      txn := none, tx := none,
      grant :=
        { s.loop.grant with
          state := .held, count := 0, began := s.now, timerAt := some (s.now + cfgGrantTimeout s.tbl.config),
          wait := none, cause := none, begun := s.loop.grant.begun + 1 } }

/-- R103 step 4: a pending winch command for the granted node goes to the winch command place. DESIGN CHOICE (log entry
57): for R70's order it counts as handed over at this move, after the SERVICE-OUT frames that wait then. -/
def Loop.movePending (l : Loop) : Loop :=
  match l.pendingCmd with
  | some c => if c.kind.isWinch && l.grantedTo c.addr then { l.placeWinch c with pendingCmd := none } else l
  | none => l

/-- R70, R83: the command that the pending one replaces by moving to the winch command place. -/
def Loop.movedOver (l : Loop) : Option RunCmd :=
  match l.pendingCmd with
  | some c => if c.kind.isWinch && l.grantedTo c.addr then l.winchPlace.map Prod.fst else none
  | none => none

/-- R103 step 4 at LOOP and RUN. -/
def movePending (s : State) : State := tellReplaced s.loop.movedOver (s.setLoop s.loop.movePending)

/-- R103 step 5: a claim recorded in OPENING is made now. -/
def makeRecorded (s : State) : State :=
  match s.loop.grant.recorded with
  | some c =>
    let l := { s.loop with grant := { s.loop.grant with recorded := none } }
    s.setLoop (l.claim c)
  | none => s

/-- R77, R103: a grant begins, as one event. -/
def beginGrant (s : State) : State :=
  let id := match s.loop.txn with
    | some { asker := .run c, .. } => some c.id
    | _ => none
  let s := holdGrant s
  let s := match id with
    | some i => runOutcome i .answered s
    | none => s
  let s := runGrantBegun s
  let s := makeRecorded (movePending s)
  if s.loop.jammed then closeGrant .jammed s else s

end Sys2Proof.Machine
end

