-- ==== Sys2Proof/Machine/Status.lean ====
section
/-! DEFINITION. READ-STATUS (R194): the ten sections, each a copy of the items that its rule lists, in that order. An
item takes the width of its layout in 11.6, and otherwise 4 bytes for a quantity and 1 for a state; an item that is
only sometimes there is preceded by one byte, and is sent as 0 when absent (R198). Which values count as items is
the model's reading (log entry 18). -/

namespace Sys2Proof.Machine

/-! ## Items -/

/-- An optional item of a number, in `w` bytes. -/
def optNat (w : Nat) (v : Option Nat) : List Byte := boolByte v.isSome :: beNatOpt w v

/-- An optional item of a signed number. -/
def optInt (w : Nat) (v : Option Int) : List Byte := boolByte v.isSome :: beIntOpt w v

/-- An optional item of several fields, of `w` bytes in all. -/
def optBytes (w : Nat) (v : Option (List Byte)) : List Byte := boolByte v.isSome :: v.getD (List.replicate w 0)

/-- A value only while `p` holds. -/
def onlyIf (p : Bool) (v : α) : Option α := if p then some v else none

/-- The milliseconds left of a timer of the timebase. -/
def State.left (s : State) (timer : Option Nat) : Option Nat := timer.map fun t => t - s.now

/-- The milliseconds since a time of the timebase. -/
def State.since (s : State) (t : Option Nat) : Option Nat := t.map fun t => s.now - t

/-! ## Sections 0 to 9 -/

def statusPart (s : State) : List Byte :=
  beNat 1 s.lastReset.code ++ beNat 4 s.now ++ beNat 4 s.clk.time ++ [boolByte s.clk.valid] ++
    beNat 4 s.ctl.queue.length ++ [boolByte s.ctl.pendingReply.isSome] ++ beNat 4 s.ctl.droppedBusy ++
    optBytes 3 (s.ctl.lastRefusal.map fun r => [r.code, boolByte (!r.byUplink), r.reply])

/-- R194, Table 8: a source's state, last accepted value, its age, and suspect. DESIGN CHOICE (log entry 18): of the last
accepted value and of the suspect the millimetres are sent, without their flags. -/
def statusSource (s : State) (r : SourceRec) : List Byte :=
  beNat 1 r.state.code ++ optInt 2 (r.last.map Sample.mm) ++ optNat 4 (s.since r.lastTime) ++
    optInt 2 (r.suspect.map Sample.mm)

/-- The selected stage with its flags, in the bits of Table 12. -/
def Selected.bytes (v : Selected) : List Byte :=
  beInt 2 v.mm ++ beNat 2 (bitsNat [v.clamped, v.alignLimit, v.secondaryUsed])

def statusStg (s : State) : List Byte :=
  let g := s.stg
  statusSource s g.prim ++ statusSource s g.sec ++ beNat 1 g.selection.code ++ beNat 4 g.recovery ++ beInt 4 g.offset ++
    [boolByte (decide (cfgAlignLimit s.tbl.config < g.offset.natAbs))] ++ optBytes 4 (g.selected.map Selected.bytes) ++
    beNat 4 (g.historyAt - s.now) ++ beNat 4 g.openStart ++ beNat 2 g.acc.count

/-- R39. DESIGN CHOICE (log entry 18): the latest instant discharge is sent as four items, its value, its flags, its
rating id and its shift start time; the byte of flags is always there, 0 where there is no result. Of an empty LIVE bank the
id is not an optional item: its two bytes are 0, and the count is 0. -/
def statusRat (s : State) : List Byte :=
  let r := s.rat
  beNat 2 r.live.ratingId ++ beNat 1 r.live.points.length ++ beNat 2 (stagedId s.tbl.staged) ++
    beNat 1 (stagedCount s.tbl.staged) ++ beNat 1 r.shifts.length ++
    optNat 4 ((applicable r.shifts s.clk).map ShiftRec.start) ++ optNat 4 s.dischargeNow ++
    beNat 1 ((r.latest.map RatResult.flagBits).getD 0) ++ optNat 2 (r.latest.bind RatResult.ratingId) ++
    optNat 4 (r.latest.bind RatResult.shiftStart)

/-- R61: OFF, INVALID, ARMED, PENDING with its count, TRIGGERED. -/
def statusRule (s : State) (i : Nat) : List Byte :=
  match s.wrn.ruleState i with
  | .off => beNat 1 (if (ruleEntry s.tbl.rules i).enabled = 0 then 0 else 1) ++ optNat 4 none
  | .armed => beNat 1 2 ++ optNat 4 none
  | .pending k => beNat 1 3 ++ optNat 4 (some k)
  | .triggered => beNat 1 4 ++ optNat 4 none

/-- R61. The reset hold is coded in the order R61 lists it, standing 0 and ended 1 (R198). DESIGN CHOICE (log entry 18):
the silenced flag is 1 when set and 0 when clear, a relay output 1 when on and 0 when off. -/
def statusWrn (s : State) : List Byte :=
  let w := s.wrn
  beNat 1 w.level ++ beNat 1 w.target ++ [boolByte w.stageLost, boolByte w.silenced, boolByte w.standDown.isSome] ++
    optNat 1 (w.standDown.map StandDown.level) ++ optNat 4 (s.left (w.standDown.map StandDown.expiry)) ++
    [boolByte (!w.resetHold), boolByte w.test.isSome] ++ optNat 1 (w.test.map WarnTest.level) ++
    optNat 4 (s.left (w.test.map WarnTest.stopAt)) ++ [boolByte s.interlock] ++ beNat 1 (cfgStopLevel s.tbl.config) ++
    (List.range 4).map (fun i => boolByte (w.outputs.getLsbD i)) ++ ((List.range 12).map (statusRule s)).flatten

/-- A changed rate that waits. -/
def waitingRate (inForce config : Nat) : Option Nat := onlyIf (inForce != config) config

/-- R84: the reply pair: free, a transaction with its kind and address, or a grant with its node. -/
def statusPair (l : Loop) : List Byte :=
  beNat 1 (if l.grant.held then 2 else if l.txn.isSome then 1 else 0) ++
    optNat 1 (l.txn.map fun t => t.asker.kind.code) ++ optNat 1 (l.txn.map Txn.addr) ++
    optNat 1 (onlyIf l.grant.held l.grant.node)

/-- R84. DESIGN CHOICE (log entry 18): good is 0, a failure its kind from 1. -/
def PollOutcome.code : PollOutcome → Nat
  | .good => 0
  | .failed k => 1 + k.code

/-- R84. DESIGN CHOICE (log entry 18): the milliseconds to the due time, or by which it is late, are one signed item of 4
bytes, negative when late. -/
def statusPoll (s : State) (p : Poll) : List Byte :=
  beInt 4 ((p.due : Int) - s.now) ++ [boolByte p.missed] ++ optNat 1 (p.last.map PollOutcome.code) ++ beNat 4 p.skipped

def FaultCounts.list (c : FaultCounts) : List Nat :=
  [c.timeout, c.framing, c.gap, c.length, c.mark, c.crc, c.stray]

/-- R84. DESIGN CHOICE (log entry 18): whether a run-engine command is pending, and its kind, are one optional item of the
kind. -/
def statusLoop (s : State) : List Byte :=
  let l := s.loop
  [boolByte l.jammed, boolByte l.lineBreak.isSome] ++ beNat 2 l.rate ++
    optNat 2 (waitingRate l.rate (cfgLoopRate s.tbl.config)) ++ statusPair l ++
    optNat 1 (l.pendingCmd.map fun c => c.kind.code) ++ (l.sched.filterMap fun p => p.map (statusPoll s)).flatten ++
    (l.nodeFail.map (beNat 4)).flatten ++ (l.faults.list.map (beNat 4)).flatten ++ beNat 4 l.unsolicited ++
    beNat 4 l.droppedService

/-- The field number of an INVALID-ENTRY. -/
def Treatment.field? : Treatment → Option Nat
  | .invalid f => some f
  | _ => none

def statusEntry (t : Treatment) (e : EntryStats) : List Byte :=
  beNat 1 t.code ++ optNat 1 t.field? ++ optNat 1 (e.nodeStatus.map BitVec.toNat) ++ optNat 4 e.lastDelivery ++
    beNat 4 e.classified ++ beNat 4 e.delivered ++ beNat 4 e.forwarded ++ beNat 4 e.discarded ++
    optNat 1 (e.reason.map DiscardReason.code)

/-- R99. DESIGN CHOICE (log entry 18): the holder of a role is an optional item, and VACANT is its absence, a presence
byte 0 and a byte 0. -/
def statusCht (s : State) : List Byte :=
  let c := s.cht
  ((c.view.zip c.stats).map fun (t, e) => statusEntry t e).flatten ++
    ([Role.stagePrimary, .stageSecondary, .winch].map fun r =>
      optNat 1 (holderOf c.view s.tbl.channels r)).flatten ++
    beNat 4 c.winchClassified ++ beNat 4 c.winchDiscarded ++ optNat 1 (c.winchReason.map DiscardReason.code) ++
    optNat 1 (c.unknownAddr.map BitVec.toNat) ++ optNat 4 c.unknownTime ++ beNat 4 c.unknownCount

/-- R110, R114: the milliseconds left of the claim wait, rounded (4.2); while a frame arriving holds it, its whole length,
since it restarts at the frame's end (log entry 18). -/
def State.waitLeft (s : State) : Option Nat :=
  s.loop.grant.wait.map fun w =>
    roundDivNat (match w.expiry with
      | some e => e - s.fineNow
      | none => w.length * loopChar s.loop.rate) fineMs

/-- R114: each item in the states for which R114 names it, absent in the others. DESIGN CHOICE (log entry 18): the time to
the grant timer's expiry is absent in CLAIMING, where that timer is stopped (R108), and the claim wait is absent while
none runs, as in CLAIMING before the CLAIM has been sent. -/
def statusGrant (s : State) : List Byte :=
  let g := s.loop.grant
  let idle := g.state == .idle
  beNat 1 g.state.code ++ optNat 1 (onlyIf g.held g.node) ++ optNat 1 (onlyIf g.held g.limit) ++
    optNat 1 (onlyIf g.held g.mode.code) ++ optNat 4 (onlyIf g.held g.count) ++
    optNat 4 (onlyIf g.held (s.now - g.began)) ++ optNat 4 (s.left g.timerAt) ++ optNat 4 s.waitLeft ++
    optNat 1 (g.cause.map ClaimCause.code) ++ optNat 1 (g.recorded.map ClaimCause.code) ++
    optBytes 1 (onlyIf idle [boolByte g.interleaveAt.isSome]) ++
    optNat 4 (s.left (g.interleaveAt.filter fun _ => idle)) ++
    optNat 1 ((g.lastEnd.filter fun _ => idle).map fun e => e.1.code) ++
    optNat 4 ((g.lastEnd.filter fun _ => idle).map Prod.snd) ++ beNat 4 g.begun ++ beNat 4 g.endedBurstEnd ++
    beNat 4 g.endedClaimAnswered ++ beNat 4 g.endedLimit ++ beNat 4 g.endedNoBurstEnd ++ beNat 4 g.endedJammed

def statusInput (s : State) (i : Input) : List Byte :=
  [boolByte i.closed] ++ beNat 4 i.accepted ++ beNat 4 i.ignored ++ optNat 4 (s.since i.lastAccepted)

/-- R123: a held result. -/
def RotorResult.bytes (r : RotorResult) : List Byte :=
  beNat 1 r.mode.code ++ beNat 4 r.n ++ beNat 4 r.t ++
    beNat 1 (bitsNat [r.countClamped, r.periodShort, r.noRotation]) ++ beNat 1 r.p ++ optNat 4 r.start ++ beNat 4 r.stop

/-- R127. The mode is shown in every state: in IDLE after a cancel it is that of the cancelled measurement (log entry 51),
after a reset GATE (log entry 31). DESIGN CHOICE (log entry 59): R is among the parameters in force in GATE too, though only
PERIOD uses it (R117). -/
def statusRotor (s : State) (r : Rotor) : List Byte :=
  let runs := r.state == .armed || r.state == .counting
  beNat 1 r.state.code ++ beNat 1 r.mode.code ++ optNat 2 (onlyIf runs r.exposure) ++ optNat 2 (onlyIf runs r.revs) ++
    optNat 1 (onlyIf runs r.p) ++ optNat 4 (onlyIf runs r.count) ++ optNat 4 (s.since (r.start.filter fun _ => runs)) ++
    optNat 4 (s.left r.exposureAt) ++ optNat 4 (s.left r.missAt) ++ optBytes 20 (r.result.map RotorResult.bytes)

/-- R127: a latch. DESIGN CHOICE (log entry 18): NO-POSITION is a LATCHED latch whose cable count and age are absent, each a
presence byte 0 and zeros. -/
def statusLatch (l : Latch) : List Byte :=
  let cable := l.value.bind LatchVal.cable
  beNat 1 l.state.code ++ optNat 4 l.armTime ++ optInt 4 (cable.map Prod.fst) ++ optNat 4 (cable.map Prod.snd) ++
    optNat 4 (l.value.map LatchVal.closedAt)

/-- R127. -/
def statusPls (s : State) : List Byte :=
  statusInput s s.pls.rotorIn ++ statusInput s s.pls.surfaceIn ++ statusInput s s.pls.bottomIn ++
    statusRotor s s.pls.rotor ++ statusLatch s.pls.surface ++ statusLatch s.pls.bottom

def PointKind.code : PointKind → Nat
  | .p02 => 0
  | .p06 => 1
  | .p08 => 2
  | .surface => 3
  | .bottom => 4

/-- R153: the latest winch position with its age. DESIGN CHOICE (log entry 18): x, cable count, winch state and age; the
address of its frame is not among the bytes. -/
def Position.bytes (p : Position) (now : Nat) : List Byte :=
  beNat 4 p.x ++ beInt 4 p.cable ++ beNat 1 p.winch.code ++ beNat 4 (now - p.arrived)

def Marker.bytes (m : Marker) : List Byte :=
  beNat 1 m.plan ++ beNat 2 m.planId ++ beNat 1 m.addr ++ beNat 4 m.start ++ [boolByte m.startValid, boolByte m.written]

/-- R153: RUN knows a grant to be held for the winch. DESIGN CHOICE (log entry 18): the winch is the one whose address RUN
holds, so that with none held the answer is no. -/
def Run.knowsGrant (r : Run) : Bool := r.held.isSome && r.held == r.grantKnown

/-- R153. DESIGN CHOICE (log entry 18): the run's start time is the four bytes of the time alone, its valid byte being sent
with the marker; the milliseconds remaining are four optional items, of the traverse, cable, settle and retrieve timers,
each absent while its timer is stopped; the flags are the run flags of the working record alone, without those of its
verticals, their points or its computation; without a run the flags and the count of verticals are 0, and so is the
number of point results without a vertical. The depth takes the two bytes of Table 67, as it will be recorded (R159; log
entry 18). -/
def statusRun (s : State) : List Byte :=
  let r := s.run
  let v := r.vertical
  beNat 1 r.state.code ++ optNat 1 (r.record.map RunRec.plan) ++ optNat 2 (r.record.map RunRec.planId) ++
    optNat 4 (r.record.map RunRec.start) ++ optNat 1 r.held ++
    optBytes 13 (r.position.map fun p => p.bytes s.now) ++ [boolByte r.knowsGrant] ++ optNat 1 r.cursor ++
    optNat 4 (v.map Vertical.targetX) ++ optBytes 1 (v.map fun v => [boolByte v.alternate]) ++
    optInt 4 (v.bind Vertical.surface) ++ optInt 4 (v.bind Vertical.bottom) ++ optNat 2 ((v.bind Vertical.depth).map recordedDepth) ++
    optNat 1 ((v.bind fun v => v.points.head?).map fun p => p.kind.code) ++
    beNat 1 ((v.map fun v => v.results.length).getD 0) ++ optNat 4 (s.left r.traverseAt) ++ optNat 4 (s.left r.cableAt) ++
    optNat 4 (s.left r.settleAt) ++ optNat 4 (s.left r.retrieveAt) ++
    beNat 1 ((r.record.map fun c => c.verticals.length).getD 0) ++ optInt 2 (r.record.bind RunRec.startStage) ++
    optNat 1 ((r.record.bind RunRec.outcome).map RunOutcome.code) ++
    beNat 4 ((r.record.map fun c => c.flags.bits).getD 0) ++ optBytes 10 (r.marker.map Marker.bytes)

/-- R186: the UNSENT records of a class, and the oldest of them. -/
def statusClass (st : Store) (c : ReportClass) : List Byte :=
  beNat 4 (st.records.filter fun r => !r.sent && r.content.cls == c).length ++
    optNat 2 ((oldestUnsent st.records c).map StoreRec.seq)

/-- R186: the transmitter: idle, sending or PAUSED. DESIGN CHOICE (log entry 61): the buffer alone decides, so that the last
character of an abandoned item (`Upl.tail`, R180) is not shown. -/
def txCode (s : State) : Nat :=
  match s.upl.buffer with
  | none => 0
  | some it => if it.paused s.lines.cts (uplinkChar s.upl.rate) then 2 else 1

/-- R186. DESIGN CHOICE (log entry 18): the levels of LINK, CTS and READY are 1 for high and 0 for low. -/
def statusUpl (s : State) : List Byte :=
  let u := s.upl
  beNat 4 s.store.slotsUsed ++ beNat 4 s.store.records.length ++
    optNat 2 (s.store.records.head?.map StoreRec.seq) ++ optNat 2 (s.store.records.getLast?.map StoreRec.seq) ++
    beNat 2 s.store.nextSeq ++
    ([ReportClass.warning, .gauging, .interval].map (statusClass s.store)).flatten ++ beNat 4 u.fwdQ.length ++
    beNat 2 u.nextFwd ++ [boolByte u.slot.isSome] ++ beNat 1 (txCode s) ++
    optNat 1 (u.buffer.map fun it => it.cls.code) ++ optNat 2 (u.buffer.map TxItem.number) ++
    optNat 1 (u.buffer.map fun it => it.part (uplinkChar u.rate)) ++
    [boolByte s.lines.link, boolByte s.lines.cts, boolByte u.ready] ++ beNat 2 u.rate ++
    optNat 2 (waitingRate u.rate (cfgUplinkRate s.tbl.config)) ++ [boolByte u.assembling] ++
    ([u.framing, u.gap, u.length, u.crc, u.linkLost, u.foreign, u.kindDiscards, u.huntDiscards].map (beNat 4)).flatten

/-! ## Pages -/

/-- R194: the bytes of a section. -/
def statusSection (s : State) : Nat → List Byte
  | 0 => statusPart s
  | 1 => statusStg s
  | 2 => statusRat s
  | 3 => statusWrn s
  | 4 => statusLoop s
  | 5 => statusCht s
  | 6 => statusGrant s
  | 7 => statusPls s
  | 8 => statusRun s
  | _ => statusUpl s

/-- R194: the count of pages of 192 bytes. -/
def pageCount (bytes : List Byte) : Nat := max 1 ((bytes.length + 191) / 192)

/-- R194, Table 68: section, page, page count and the bytes of the page; a page past the end is the last one. -/
def statusReply (s : State) (sec page : Nat) : List Byte :=
  let bytes := statusSection s sec
  let n := pageCount bytes
  let k := min page (n - 1)
  beNat 1 sec ++ beNat 1 k ++ beNat 1 n ++ (bytes.drop (192 * k)).take 192

end Sys2Proof.Machine
end

