-- ==== Sys2Proof/Machine/Reset.lean ====
section
/-! DEFINITION. The three resets (R21, R40, R62, R64, R85, R100, R128, R155, R156, R187, R196, R197): what is closed
first, what each block takes up, and what begins again, all one event. -/

namespace Sys2Proof.Machine

/-! ## What a reset closes (R21, R155) -/

/-- R155: RUN closes the run in progress: a record at WARM, and the record-written mark. -/
def closeRun (kind : ResetKind) (s : State) : State :=
  match kind, s.runToClose with
  | .powerOn, _ => s
  | _, none => s
  | _, some r =>
    let t := if kind = .warm then append (.gauging (resetRecord s r)) s else s
    t.setRun { t.run with marker := t.run.marker.map fun m => { m with written := true } }

/-- R21: at a WARM reset the open interval is closed with RESET-CLOSED. -/
def closeOpenInterval (kind : ResetKind) (s : State) : State :=
  if kind = .warm then closeInterval (markInterval { noIntervalFlags with resetClosed := true } s) else s

/-! ## What each block takes up -/

/-- R187: UPL and REC. -/
def uplinkReset (kind : ResetKind) (s : State) : State :=
  let t := s.setUpl (freshUpl (cfgUplinkRate s.tbl.config))
  if kind = .cold then t.setStore { records := [], nextSeq := 0, slotsUsed := 0 } else t

/-- R128. -/
def freshPls (l : Lines) : Pls :=
  { rotorIn := freshInput l.rotorClosed, surfaceIn := freshInput l.surfaceClosed,
    bottomIn := freshInput l.bottomClosed, rotor := idleRotor, surface := idleLatch, bottom := idleLatch }

/-- R40, R85, R100, R128, R197: RAT, CHT, LOOP, PLS and CTL. -/
def blocksReset (s : State) : State :=
  let view := viewOf s.tbl.channels
  ((((s.setRat { s.rat with latest := none }).setCht (freshCht view)).setLoop
      (freshLoop (cfgLoopRate s.tbl.config) s.lines.replyLow (freshSchedule view s.tbl.channels))).setPls
    (freshPls s.lines)).setCtl freshCtl

/-- R62, R64: WRN, last of all, since a rise reaches LOOP and RUN. -/
def warningReset (kind : ResetKind) (s : State) : State :=
  if kind = .cold then applyTarget (warnRecord s.wrn.level 0 .resetCold (wrnFresh 0 s))
  else applyTarget (wrnFresh s.wrn.level s)

/-- Everything a reset does but the first choices after it. -/
def resetBlocks (kind : ResetKind) (s : State) : State :=
  let s := uplinkReset kind (s.setClk { s.clk with timebase := 0 })
  let s := closeRun kind (closeOpenInterval kind s)
  let s := blocksReset (stgFresh { s with resetLine := false, lastReset := kind })
  warningReset kind (resetRun s.run.marker s)

/-- R196: a reset of the given kind. Nothing is selected for the uplink until it is over (R187); then UPL selects, and
LOOP makes its first choice (R85). -/
def resetAll (kind : ResetKind) (s : State) : State :=
  let t := resetBlocks kind (s.setLines { s.lines with link := false })
  settle (uplinkSelect (t.setLines s.lines))

/-- R14: the clock after a power-down, with the seconds the backup supply counted, if it held. -/
def clockAfterPower (held : Bool) (elapsed : Nat) (c : Clocks) : Clocks :=
  if held then { c with time := min (c.time + elapsed) clockMax }
  else { c with time := 0, valid := false, subMs := 0 }

end Sys2Proof.Machine
end

