-- ==== Sys2Proof/Machine/ResetCommands.lean ====
section
/-! DEFINITION. The commands of the resets: POWER_ON_RESET, RESET_LINE_ASSERT, WARM_RESET, COLD_RESET (R195, R196). -/

namespace Sys2Proof.Machine

/-- R14, R196: the main supply comes up. It also overtakes an asserted RESET line and a reset in waiting. -/
def execPowerOnReset (backupHeld : Bool) (elapsed : Nat) (lines : Lines) (s : State) :
    Host.Outcome State Fault Refusal :=
  .next
    (resetAll .powerOn ((s.setClk (clockAfterPower backupHeld elapsed s.clk)).setLines lines))

/-- R196: the RESET line is asserted; the outputs stand as they are. -/
def execResetLineAssert (s : State) : Host.Outcome State Fault Refusal := .next { s with resetLine := true }

/-- R195, R196: the reset in waiting has seen its reply go. -/
def State.resetDue (s : State) (cold : Bool) : Bool :=
  match s.ctl.resetWait with
  | some w => w.gone && w.cold == cold
  | none => false

/-- R195, R196: a WARM reset begins at the release of the line, or when the reply of RESET-PART WARM has gone. -/
def execWarmReset (s : State) : Host.Outcome State Fault Refusal :=
  .next (if s.resetLine || s.resetDue false then resetAll .warm s else s)

/-- R195, R196: a COLD reset begins when the reply of RESET-PART COLD has gone. -/
def execColdReset (s : State) : Host.Outcome State Fault Refusal :=
  taken s fun s => if s.resetDue true then resetAll .cold s else s

end Sys2Proof.Machine
end

