-- ==== Sys2Proof/Machine/RequestCommands.lean ====
section
/-! DEFINITION. The commands of the control decoder: REQUEST_TAKEN, and the rows by which the owners of the thirteen
requests carry out the request in hand and answer it (R188 to R195). A row whose request is not the one in hand
changes nothing. -/

namespace Sys2Proof.Machine

/-- R188: a request can be taken. -/
def State.takeDue (s : State) : Bool := !s.ctl.queue.isEmpty && s.ctl.mayTake

/-- R188, R190. -/
def execRequestTaken (s : State) : Host.Outcome State Fault Refusal :=
  taken s fun s => if s.takeDue then settle (takeRequest s) else s

/-! ## Reading -/

/-- R194. -/
def execReadStatus (s : State) : Host.Outcome State Fault Refusal :=
  taken s fun s =>
    match s.work with
    | some (.readStatus sec page) => settle (answer replyOk (statusReply s sec page) s)
    | _ => s

/-- R182, R183. -/
def execReadRecords (s : State) : Host.Outcome State Fault Refusal :=
  taken s fun s =>
    match s.work with
    | some (.readRecords first limit part) =>
      match readRecords s.store first limit part with
      | some fields => settle (answer replyOk fields s)
      | none => settle (answer replyBadRequest [] s)
    | _ => s

/-- R192. -/
def execReadTable (s : State) : Host.Outcome State Fault Refusal :=
  taken s fun s =>
    match s.work with
    | some (.readTable t off len) =>
      settle (answer replyOk (beNat 1 t ++ beNat 2 off ++ ((s.tableBytes t).drop off).take len) s)
    | _ => s

/-! ## Writing tables (R193) -/

/-- Table 68: what a WRITE-TABLE is answered with. -/
def answerWrite (t off : Nat) (data : List Byte) (s : State) : State :=
  answer replyOk (beNat 1 t ++ beNat 2 off ++ beNat 1 data.length) s

/-- R193: CONFIG holds new bytes; each block whose clamped field changed acts. The interval length, the write mask and
the other fields act at their next use; the loop bit rate acts in `settle`. DESIGN CHOICE (log entry 42): within one
write R5 comes first, then R17, R52 and R60, so that the stop level is compared with the level that R5 and R52 leave. -/
def configWritten (old : List Byte) (s : State) : State :=
  uplinkRateEffect
    (stopLevelChanged old (standDownChanged old (historyStepChanged old (staleLimitChanged old s))))

/-- R193. -/
def execWriteTableConfig (s : State) : Host.Outcome State Fault Refusal :=
  taken s fun s =>
    match s.work with
    | some (.writeTable 0 off data) =>
      let t := s.setTbl { s.tbl with config := writeBytes s.tbl.config off data }
      settle (answerWrite 0 off data (configWritten s.tbl.config t))
    | _ => s

/-- R88, R193. -/
def execWriteTableChannels (s : State) : Host.Outcome State Fault Refusal :=
  taken s fun s =>
    match s.work with
    | some (.writeTable 1 off data) =>
      let t := s.setTbl { s.tbl with channels := writeBytes s.tbl.channels off data }
      settle (answerWrite 1 off data (channelsWritten s.tbl.channels t))
    | _ => s

/-- R22, R193. -/
def execWriteTableRatingStaged (s : State) : Host.Outcome State Fault Refusal :=
  taken s fun s =>
    match s.work with
    | some (.writeTable 2 off data) =>
      settle (answerWrite 2 off data (s.setTbl { s.tbl with staged := writeBytes s.tbl.staged off data }))
    | _ => s

/-- R43, R193. -/
def execWriteTableRules (s : State) : Host.Outcome State Fault Refusal :=
  taken s fun s =>
    match s.work with
    | some (.writeTable 5 off data) =>
      let t := s.setTbl { s.tbl with rules := writeBytes s.tbl.rules off data }
      settle (answerWrite 5 off data (rulesWritten off data.length t))
    | _ => s

/-- R54, R193. -/
def execWriteTablePatterns (s : State) : Host.Outcome State Fault Refusal :=
  taken s fun s =>
    match s.work with
    | some (.writeTable 6 off data) =>
      let t := s.setTbl { s.tbl with patterns := writeBytes s.tbl.patterns off data }
      settle (answerWrite 6 off data (drive t))
    | _ => s

/-- R129: the run marker names the plan table. -/
def State.markerNames (s : State) (plan : Nat) : Bool := (s.run.marker.map Marker.plan) == some plan

/-- R129, R193. -/
def execWriteTablePlan (s : State) : Host.Outcome State Fault Refusal :=
  taken s fun s =>
    match s.work with
    | some (.writeTable t off data) =>
      if t < 7 then s
      else if s.markerNames (t - 7) then settle (answer replyNotIdle [] s)
      else
        settle
          (answerWrite t off data (s.setTbl (s.tbl.setPlan (t - 7) (writeBytes (s.tbl.plan (t - 7)) off data))))
    | _ => s

/-! ## The rating unit (R23, R24, R27 to R29) -/

/-- A fault position with its fault field (R190, Table 68). -/
def faultFields (position field : Nat) : List Byte := beNat 1 position ++ beNat 1 field

/-- R23, R24. -/
def execActivateRating (s : State) : Host.Outcome State Fault Refusal :=
  taken s fun s =>
    match s.work with
    | some .activateRating =>
      match stagedFault s.tbl.staged with
      | some pos => settle (answer replyInvalid (faultFields pos 0) s)
      | none =>
        let b := stagedBank s.tbl.staged
        settle (answer replyOk (beNat 2 b.ratingId ++ beNat 1 b.points.length) (s.setRat { s.rat with live := b }))
    | _ => s

/-- R27, R28. -/
def execAddShift (s : State) : Host.Outcome State Fault Refusal :=
  taken s fun s =>
    match s.work with
    | some (.addShift start count points) =>
      match shiftFault count points with
      | some pos => settle (answer replyInvalid (faultFields pos 0) s)
      | none =>
        let p := placeShift { start := start, points := points } s.rat.shifts
        settle
          (answer replyOk (beNat 1 p.2.code ++ beNat 4 p.2.removed ++ beNat 1 p.1.length)
            (s.setRat { s.rat with shifts := p.1 }))
    | _ => s

/-- R29. -/
def execDeleteShift (s : State) : Host.Outcome State Fault Refusal :=
  taken s fun s =>
    match s.work with
    | some (.deleteShift start) =>
      if s.rat.shifts.any fun r => r.start == start then
        let left := s.rat.shifts.filter fun r => r.start != start
        settle (answer replyOk (beNat 1 left.length) (s.setRat { s.rat with shifts := left }))
      else settle (answer replyInvalid (faultFields 255 0) s)
    | _ => s

/-! ## The run engine (R131, R132, R151) -/

/-- R131: the first refusal of a START-RUN, with the fields of its reply. -/
def startRefusal (plan : Nat) (s : State) : Option (Byte × List Byte) :=
  if s.run.state ≠ .idle then some (replyNotIdle, [])
  else if s.interlock then some (replyInhibited, [])
  else if (holderOf s.cht.view s.tbl.channels .winch).isNone then some (replyNoWinch, [])
  else (planFault (s.tbl.plan plan)).map fun f => (replyBadPlan, faultFields f.1 f.2)

/-- The node address of the WINCH holder (R90). -/
def State.winchAddr (s : State) : Nat :=
  ((holderOf s.cht.view s.tbl.channels .winch).map fun i => (s.chan i).addr).getD 0

/-- R131, R132. -/
def execStartRun (s : State) : Host.Outcome State Fault Refusal :=
  taken s fun s =>
    match s.work with
    | some (.startRun plan) =>
      match startRefusal plan s with
      | some (code, fields) => settle (answer code fields s)
      | none =>
        settle
          (answer replyOk
            (beNat 2 (planHeader (s.tbl.plan plan)).planId ++ beNat 4 s.clk.time ++ [boolByte s.clk.valid])
            (beginRun plan s.winchAddr s))
    | _ => s

/-- R151. -/
def execAbortRun (s : State) : Host.Outcome State Fault Refusal :=
  taken s fun s =>
    match s.work with
    | some .abortRun =>
      settle
        (answer replyOk (beNat 1 s.run.state.code ++ [boolByte s.run.state.working]) (abortRun .abortedCommand s))
    | _ => s

/-! ## The warning unit (R56, R57) -/

/-- R56. -/
def execSilence (s : State) : Host.Outcome State Fault Refusal :=
  taken s fun s =>
    match s.work with
    | some .silence => settle (answer replyOk (beNat 1 s.wrn.level) (drive (s.setWrn { s.wrn with silenced := true })))
    | _ => s

/-- R57: an accepted warning test. -/
def beginTest (level duration : Nat) (s : State) : State :=
  appendNotice (.test level duration s.wrn.level)
    (drive (s.setWrn { s.wrn with test := some { level := level, stopAt := s.now + 1000 * duration } }))

/-- R57. -/
def execWarningTest (s : State) : Host.Outcome State Fault Refusal :=
  taken s fun s =>
    match s.work with
    | some (.warningTest level duration) =>
      if 1 ≤ level ∧ level ≤ 3 ∧ 5 ≤ duration ∧ duration ≤ 120 then
        settle (answer replyOk [] (beginTest level duration s))
      else settle (answer replyBadRequest [] s)
    | _ => s

/-! ## The clock (R16) -/

/-- R16: the clock takes the new time; the open interval is closed where its boundary is another. -/
def setClockTo (t : Nat) (s : State) : State :=
  let invalid := !s.clk.valid
  let s := s.setClk { s.clk with time := t, valid := true, subMs := 0 }
  let b := boundaryBefore (cfgIntervalLength s.tbl.config) t
  if b = s.stg.openStart then s
  else
    markInterval { noIntervalFlags with clockSet := true }
      (openInterval b t
        (closeInterval (markInterval { noIntervalFlags with clockSet := true, clockInvalid := invalid } s)))

/-- R16. -/
def execSetClock (s : State) : Host.Outcome State Fault Refusal :=
  taken s fun s =>
    match s.work with
    | some (.setClock t) => settle (answer replyOk [] (setClockTo t s))
    | _ => s

/-! ## RESET-PART (R195) -/

/-- R195: the reset waits until its reply has gone. -/
def execResetPart (s : State) : Host.Outcome State Fault Refusal :=
  taken s fun s =>
    match s.work with
    | some (.resetPart cold) =>
      settle
        (answer replyOk []
          (s.setCtl { s.ctl with resetWait := some { cold := cold, placed := false, gone := false } }))
    | _ => s

end Sys2Proof.Machine
end

