-- ==== Sys2Proof/Machine/StageCommands.lean ====
section
/-! DEFINITION. The timed commands of the stage and warning units: INTERVAL_BOUNDARY, STALE_TIMER_EXPIRY, HISTORY_STEP,
STAND_DOWN_EXPIRY, WARNING_TEST_END. One that is not due changes nothing. -/

namespace Sys2Proof.Machine

/-- R18: the station clock has reached the next boundary. -/
def State.boundaryDue (s : State) : Bool := decide (s.stg.nextBoundary ≤ s.clk.time)

/-- R18, R20. -/
def execIntervalBoundary (s : State) : Host.Outcome State Fault Refusal :=
  taken s fun s =>
    if s.boundaryDue then openInterval s.stg.nextBoundary s.stg.nextBoundary (closeInterval s) else s

/-- R5. -/
def execStaleTimerExpiry (src : Source) (s : State) : Host.Outcome State Fault Refusal :=
  taken s fun s => if s.staleDue src then settle (becomeStale src s) else s

/-- R17: the history step timer has expired. -/
def State.historyDue (s : State) : Bool := decide (s.stg.historyAt ≤ s.now)

/-- R17: the entry of the selected stage into the ring; the timer runs again from its expiry. -/
def enterHistory (s : State) : State :=
  s.setStg
    { s.stg with
      history := s.stageNow :: s.stg.history.take 63,
      historyAt := s.stg.historyAt + 1000 * cfgHistoryStep s.tbl.config }

/-- R17, R45. -/
def execHistoryStep (s : State) : Host.Outcome State Fault Refusal :=
  taken s fun s => if s.historyDue then settle (wrnHistory (enterHistory s)) else s

/-- R51: the stand-down timer is due. -/
def State.standDownDue (s : State) : Bool := dueAt (s.wrn.standDown.map StandDown.expiry) s.now

/-- R51. -/
def execStandDownExpiry (s : State) : Host.Outcome State Fault Refusal :=
  taken s fun s => if s.standDownDue then standDownFall s else s

/-- R58: the end time of a warning test is reached. -/
def State.testDue (s : State) : Bool := dueAt (s.wrn.test.map WarnTest.stopAt) s.now

/-- R58. -/
def execWarningTestEnd (s : State) : Host.Outcome State Fault Refusal :=
  taken s fun s => if s.testDue then drive (s.setWrn { s.wrn with test := none }) else s

end Sys2Proof.Machine
end

