-- ==== Sys2Proof/Machine/LoopCommands.lean ====
section
/-! DEFINITION. The commands of the loop controller outside a grant: polls, the command pair, transactions, unsolicited
frames, breaks and jams, and FRAME_BEGINS (chapter 4). -/

namespace Sys2Proof.Machine

/-! ## Polls (R79, R80, R109) -/

/-- R109: in the ON-DEMAND mode a poll that falls due makes a claim. -/
def duePollClaim (s : State) : State :=
  let g := s.loop.grant
  if g.mode = .onDemand ∧ (g.state = .held ∨ g.state = .closing) then s.setLoop (s.loop.claim .duePoll) else s

/-- R79: the poll of a channel has fallen due, and this has not been taken yet. -/
def State.pollDue (s : State) (ch : Nat) : Bool :=
  match s.loop.poll? ch with
  | some p => decide (p.due ≤ s.now) && !p.announced
  | none => false

/-- R79, R82, R109. -/
def execPollDue (ch : Fin 24) (s : State) : Host.Outcome State Fault Refusal :=
  taken s fun s =>
    match s.loop.poll? ch with
    | some p =>
      if s.pollDue ch then settle (duePollClaim (s.setLoop (s.loop.setPoll ch { p with announced := true }))) else s
    | none => s

/-- R80: a due poll has waited one period. -/
def State.skipDue (s : State) (ch : Nat) : Bool :=
  match s.loop.poll? ch with
  | some p => decide (p.due + s.pollPeriod ch ≤ s.now)
  | none => false

/-- R80: the poll is skipped; its new due time falls due at once. -/
def skipPoll (ch : Nat) (p : Poll) (s : State) : State :=
  let l :=
    s.loop.setPoll ch
      { p with due := p.due + s.pollPeriod ch, announced := true, missed := true, skipped := inc16 p.skipped }
  let l := { l with jam := l.jam.map fun j => { j with skipped := j.skipped + 1 } }
  duePollClaim (notifyMissing ch (s.setLoop l))

/-- R80, R82, R109. -/
def execPollSkip (ch : Fin 24) (s : State) : Host.Outcome State Fault Refusal :=
  taken s fun s =>
    match s.loop.poll? ch with
    | some p => if s.skipDue ch then settle (skipPoll ch p s) else s
    | none => s

/-! ## The command pair (R70) -/

/-- A frame other than a GRANT has been sent whole. -/
def State.sentDue (s : State) : Bool :=
  match s.frameSent with
  | some a => !a.frame.isGrant
  | none => false

/-- R70, R71, R83, R110. -/
def execCommandFrameSent (s : State) : Host.Outcome State Fault Refusal :=
  taken s fun s =>
    match s.frameSent with
    | some a =>
      if a.frame.isGrant then s
      else settleFrom a.doneAt (afterSent a.frame a.doneAt (s.setLoop { s.loop with tx := none }))
    | none => s

/-! ## Transactions (R71 to R73) -/

/-- The reply pair carries characters: it has been high only since now (R78). -/
def seenHigh (s : State) : State := s.setLoop (s.loop.highFrom s.fineNow)

/-- R71. -/
def execReplyTimeout (s : State) : Host.Outcome State Fault Refusal :=
  taken s fun s => if s.loop.replyDue s.fineNow then settle (failTxn .timeout s) else s

/-- R72, R73. -/
def execReplyReceived (body : FrameBody) (s : State) : Host.Outcome State Fault Refusal :=
  taken s fun s => if s.loop.inReply then settle (endReply body (seenHigh s)) else s

/-- R71, R72, R73. -/
def execReceptionFailure (fault : FrameFault) (s : State) : Host.Outcome State Fault Refusal :=
  taken s fun s =>
    if s.loop.mayFail fault then settle (afterFault fault (failTxn (faultKind fault) (seenHigh s))) else s

/-- R72: GAP ends the frame in progress, as what it was received as. -/
def gapIn (c : RxContext) (s : State) : State :=
  match c with
  | .reply => failTxn .gap s
  | .granted => failGrantFrame .gap s
  | .unsolicited =>
    let t := endUnsolicitedRx s
    t.setLoop (t.loop.countFault .gap)

/-- R72, R75, R104: more than 4 character times have passed in a frame. DESIGN CHOICE (log entry 54): the sender of the
command, which sees every character, judges that time. -/
def execReceptionGap (s : State) : Host.Outcome State Fault Refusal :=
  taken s fun s =>
    match s.loop.rx with
    | some r => settle (gapIn r.context (s.setLoop (s.loop.highFrom (s.fineNow - 4 * loopChar s.loop.rate))))
    | none => s

/-- R75. -/
def execUnsolicitedFrame (fin : FrameEnd) (s : State) : Host.Outcome State Fault Refusal :=
  taken s fun s => if s.loop.mayUnsolicited fin then settle (endUnsolicited fin (seenHigh s)) else s

/-! ## Breaks and jams (R76 to R78) -/

/-- R76: the level of the reply pair, which a reset reads. -/
def setReplyLow (low : Bool) (s : State) : State := s.setLines { s.lines with replyLow := low }

/-- R76, R85: no break is present, and a line found low by a reset has been low for 2 character times. -/
def State.mayBreak (s : State) : Bool :=
  s.loop.lineBreak.isNone &&
    match s.loop.lowSince with
    | some t => decide (t + 2 * loopChar s.loop.rate ≤ s.fineNow)
    | none => true

/-- R76: a break is recognised. Of a line that a reset found low, no character has been received, so that the one
FRAMING of its break is counted here (log entry 15); otherwise the row of the failed character has counted it. -/
def beginBreak (s : State) : State :=
  let l := { s.loop with lineBreak := some (s.loop.lowSince.getD (s.fineNow - 2 * loopChar s.loop.rate)), lowSince := none }
  s.setLoop (if s.loop.lowSince.isSome then l.countFault .framing else l)

/-- R76: a low level of 2 character times is a break. While the RESET line is asserted only the level is followed. -/
def execBreakDetected (s : State) : Host.Outcome State Fault Refusal :=
  .next
    (if s.resetLine then setReplyLow true s else if s.mayBreak then setReplyLow true (beginBreak s) else s)

/-- R76, R78, R82: the rise of the line, after a break or after a shorter low level. -/
def execBreakEnd (s : State) : Host.Outcome State Fault Refusal :=
  .next
    (if s.resetLine then setReplyLow false s
    else
      settle
        (setReplyLow false
          (s.setLoop { s.loop with lineBreak := none, lowSince := none, highSince := s.fineNow })))

/-- R77: the break has lasted 1,000 ms. -/
def State.jamDue (s : State) : Bool :=
  match s.loop.lineBreak with
  | some e => decide (e + fineSecond ≤ s.fineNow) && !s.loop.jammed
  | none => false

/-- R77: the entry to JAMMED. -/
def enterJam (s : State) : State :=
  let s := s.setLoop { s.loop with jam := some { entered := s.now, skipped := 0 } }
  let s := if s.loop.grant.held then closeGrant .jammed s else s
  appendNotice .loopJammed s

/-- R77. -/
def execLoopJammed (s : State) : Host.Outcome State Fault Refusal :=
  taken s fun s => if s.jamDue then settle (enterJam s) else s

/-- R78: the reply pair is high and has been for 10 character times. -/
def State.clearDue (s : State) : Bool :=
  s.loop.jammed && !s.lines.replyLow && s.loop.lineBreak.isNone && s.loop.lowSince.isNone && s.loop.rx.isNone &&
    decide (s.loop.highSince + 10 * loopChar s.loop.rate ≤ s.fineNow)

/-- R78: the return to RUNNING. -/
def leaveJam (j : Jam) (s : State) : State :=
  appendNotice (.loopCleared (s.now - j.entered) j.skipped) (s.setLoop { s.loop with jam := none })

/-- R78, R82. -/
def execLoopCleared (s : State) : Host.Outcome State Fault Refusal :=
  taken s fun s =>
    match s.loop.jam with
    | some j => if s.clearDue then settle (leaveJam j s) else s
    | none => s

/-! ## The beginning of a frame (R71, R72, R75, R104, R110) -/

/-- R72: a marked character within a frame cuts it. -/
def cutFrame (addr : Byte) (r : RxFrame) (s : State) : State :=
  match r.context with
  | .reply => afterFault (.mark addr) (failTxn .mark s)
  | .granted => endGrantFrame (.failed (.mark addr)) s
  | .unsolicited => endUnsolicited (.failed (.mark addr)) s

/-- R71: a marked character. None can arrive while a break is present. -/
def markedCharacter (addr : Byte) (s : State) : State :=
  if s.loop.lineBreak.isSome then s
  else
    let t := setReplyLow false (seenHigh (s.setLoop { s.loop with lowSince := none }))
    match s.loop.rx with
    | none => beginFrame addr t
    | some r => settle (cutFrame addr r t)

/-- R71, R78. A fall that is no frame's only leaves the line low; that level is followed while the RESET line is asserted
as well. -/
def execFrameBegins (start : LineStart) (s : State) : Host.Outcome State Fault Refusal :=
  match start with
  | .marked addr => taken s (markedCharacter addr)
  | .unmarked => .next (setReplyLow true s)

end Sys2Proof.Machine
end

