-- ==== Sys2Proof/Machine/GrantCommands.lean ====
section
/-! DEFINITION. The commands of a grant: GRANT_BEGIN, GRANT_FRAME_RECEIVED, GRANT_TIMEOUT, CLAIM_WAIT_EXPIRY,
INTERLEAVE_END (chapter 6). -/

namespace Sys2Proof.Machine

/-- R103: the last character of the GRANT frame has been sent. -/
def State.grantDue (s : State) : Bool :=
  match s.frameSent with
  | some a => a.frame.isGrant
  | none => false

/-- R77, R103. -/
def execGrantBegin (s : State) : Host.Outcome State Fault Refusal :=
  taken s fun s =>
    match s.frameSent with
    | some a => if a.frame.isGrant then settleFrom a.doneAt (beginGrant s) else s
    | none => s

/-- R104 to R107. -/
def execGrantFrameReceived (fin : FrameEnd) (s : State) : Host.Outcome State Fault Refusal :=
  taken s fun s => if s.loop.inGrantFrame then settle (endGrantFrame fin (seenHigh s)) else s

/-- R108: the grant timer is due, in HELD or CLOSING. -/
def State.grantTimerDue (s : State) : Bool :=
  (s.loop.grant.state == .held || s.loop.grant.state == .closing) && dueAt s.loop.grant.timerAt s.now

/-- R108. -/
def execGrantTimeout (s : State) : Host.Outcome State Fault Refusal :=
  taken s fun s => if s.grantTimerDue then settle (s.setLoop (s.loop.claim .timeout)) else s

/-- R110: the claim wait is due, in CLOSING or CLAIMING. -/
def State.waitDue (s : State) : Bool :=
  (s.loop.grant.state == .closing || s.loop.grant.state == .claiming) &&
    dueAt (s.loop.grant.wait.bind ClaimWait.expiry) s.fineNow

/-- R110, R111: the grant ends with NO-BURST-END, then the node's count rises. -/
def endUnanswered (s : State) : State :=
  let node := s.loop.grant.node
  nodeFailure node (closeGrant .noBurstEnd s)

/-- R110. -/
def execClaimWaitExpiry (s : State) : Host.Outcome State Fault Refusal :=
  taken s fun s => if s.waitDue then settle (endUnanswered s) else s

/-- R111: the interleave timer is due. -/
def State.interleaveDue (s : State) : Bool := dueAt s.loop.grant.interleaveAt s.now

/-- R82, R111. -/
def execInterleaveEnd (s : State) : Host.Outcome State Fault Refusal :=
  taken s fun s =>
    if s.interleaveDue then
      settle (s.setLoop { s.loop with grant := { s.loop.grant with interleaveAt := none } })
    else s

end Sys2Proof.Machine
end

