-- ==== Sys2Proof/Machine/PulseCommands.lean ====
section
/-! DEFINITION. The commands of the pulse inputs: CONTACT_CLOSURE, CONTACT_OPENING and the expiries of the rotor
measurement (chapter 7), each with what RUN does with a result or a latch handed to it. -/

namespace Sys2Proof.Machine

def withContact (l : Lines) (c : Contact) (closed : Bool) : Lines :=
  match c with
  | .rotor => { l with rotorClosed := closed }
  | .surface => { l with surfaceClosed := closed }
  | .bottom => { l with bottomClosed := closed }

/-- R123: a rotor result that the event ended with goes to RUN. -/
def handRotor (before : Rotor) (s : State) : State :=
  match rotorHanded before s.pls.rotor with
  | some r => runRotorResult r s
  | none => s

/-- R116: an accepted closure at the mechanism of its input. -/
def acceptedClosure (c : Contact) (s : State) : State :=
  let p := s.pls
  match c with
  | .rotor => handRotor p.rotor (s.setPls { p with rotor := p.rotor.pulse s.now })
  | .surface =>
    let l := p.surface.closure s.run.position s.now
    let t := s.setPls { p with surface := l }
    match latchHanded p.surface l with
    | some v => runSurfaceLatch v t
    | none => t
  | .bottom =>
    let l := p.bottom.closure s.run.position s.now
    let t := s.setPls { p with bottom := l }
    match latchHanded p.bottom l with
    | some v => runBottomLatch v t
    | none => t

/-- R115: a closure of an OPEN input. -/
def closeContact (c : Contact) (s : State) : State :=
  let i := s.pls.input c
  let d := cfgDebounce s.tbl.config c
  let t :=
    (s.setLines (withContact s.lines c true)).setPls (s.pls.setInput c (i.closure d s.now))
  if i.accepts d s.now then acceptedClosure c t else t

/-- R115, R116. While the RESET line is asserted only the line is followed (R196). -/
def execContactClosure (c : Contact) (s : State) : Host.Outcome State Fault Refusal :=
  .next
    (if s.resetLine then s.setLines (withContact s.lines c true)
    else if (s.pls.input c).closed then s
    else settle (closeContact c s))

/-- R115: the level follows an opening without debounce. -/
def execContactOpening (c : Contact) (s : State) : Host.Outcome State Fault Refusal :=
  .next
    (if s.resetLine then s.setLines (withContact s.lines c false)
    else
      (s.setLines (withContact s.lines c false)).setPls
        (s.pls.setInput c { s.pls.input c with closed := false }))

/-- R118. -/
def execExposureExpiry (s : State) : Host.Outcome State Fault Refusal :=
  taken s fun s =>
    if s.pls.rotor.exposureDue s.now then
      settle (handRotor s.pls.rotor (s.setPls { s.pls with rotor := s.pls.rotor.exposureEnd s.now }))
    else s

/-- R120. -/
def execTimeLimitExpiry (s : State) : Host.Outcome State Fault Refusal :=
  taken s fun s =>
    if s.pls.rotor.limitDue s.now then
      settle (handRotor s.pls.rotor (s.setPls { s.pls with rotor := s.pls.rotor.limitEnd s.now }))
    else s

/-- R121. -/
def execMissingPulseExpiry (s : State) : Host.Outcome State Fault Refusal :=
  taken s fun s =>
    if s.pls.rotor.missingDue s.now then
      settle (handRotor s.pls.rotor (s.setPls { s.pls with rotor := s.pls.rotor.missingEnd s.now }))
    else s

end Sys2Proof.Machine
end

