-- ==== Sys2Proof/Machine/RunCommands.lean ====
section
/-! DEFINITION. The timed commands of the run engine, and the answer of the inverse lookup (chapters 8 and 9). -/

namespace Sys2Proof.Machine

/-- R143: the settle timer is due. -/
def State.settleDue (s : State) : Bool := s.run.state == .settle && dueAt s.run.settleAt s.now

/-- R143, R144. -/
def execSettleExpiry (s : State) : Host.Outcome State Fault Refusal :=
  taken s fun s => if s.settleDue then settle (enterExpose s) else s

/-- R137, R151: the traverse timer is due, in TRAVERSE or VERIFY, or its expiry came at an event that has ended them. -/
def State.traverseDue (s : State) : Bool :=
  s.run.traverseLapsed || ((s.run.state == .traverse || s.run.state == .verify) && dueAt s.run.traverseAt s.now)

/-- R137, R150, R151: the expiry is taken, as a cause in the state that RUN is in. -/
def execTraverseTimeout (s : State) : Host.Outcome State Fault Refusal :=
  taken s fun s =>
    if s.traverseDue then
      settle (abortRun .abortedTimeout (s.setRun { s.run with traverseAt := none, traverseLapsed := false }))
    else s

/-- R140 to R145, R151: the cable timer is due, in a state of the cable, or its expiry came at an event that has ended
it. -/
def State.cableDue (s : State) : Bool :=
  s.run.cableLapsed ||
    ((s.run.state == .surfaceSeek || s.run.state == .sound || s.run.state == .pointSeek || s.run.state == .lift) &&
      dueAt s.run.cableAt s.now)

/-- R140, R150, R151: the expiry is taken, as a cause in the state that RUN is in. -/
def execCableTimeout (s : State) : Host.Outcome State Fault Refusal :=
  taken s fun s =>
    if s.cableDue then
      settle (abortRun .abortedTimeout (s.setRun { s.run with cableAt := none, cableLapsed := false }))
    else s

/-- R138, R147: an enquiry interval has passed in VERIFY or RETRIEVE. -/
def State.enquiryDue (s : State) : Bool :=
  (s.run.state == .verify || s.run.state == .retrieve) && dueAt s.run.enquiryAt s.now

/-- R138, R147: an enquiry POLL, or the RETRIEVE again until one has been sent or answered. -/
def enquire (s : State) : State :=
  let t := s.setRun { s.run with enquiryAt := none }
  if s.run.state = .retrieve ∧ s.run.retrieveSent = false then handRun .retrieve t else handRun .poll t

/-- R147. -/
def execEnquiryInterval (s : State) : Host.Outcome State Fault Refusal :=
  taken s fun s => if s.enquiryDue then settle (enquire s) else s

/-- R147: the retrieve timer is due. -/
def State.retrieveDue (s : State) : Bool := s.run.state == .retrieve && dueAt s.run.retrieveAt s.now

/-- R147. -/
def execRetrieveTimeout (s : State) : Host.Outcome State Fault Refusal :=
  taken s fun s => if s.retrieveDue then settle (endRetrieval false s) else s

/-- R146: the run record and figures of a CLOSE that waits for the lookup of a discharge. -/
def State.lookupAsked (s : State) : Option (RunRec × Calc × Nat) :=
  if s.run.state = .close then
    s.run.record.bind fun r => r.figures.bind fun c => c.asked.map fun q => (r, c, q)
  else none

/-- R37, R146, R166. -/
def execInverseLookup (s : State) : Host.Outcome State Fault Refusal :=
  taken s fun s =>
    match s.lookupAsked with
    | some (r, c, q) => settle (endClose r (c.answer (inverseLookup s.rat.live q)) s)
    | none => s

end Sys2Proof.Machine
end

