-- ==== Sys2Proof/Machine/UplinkCommands.lean ====
section
/-! DEFINITION. The commands of the uplink port: the end of an item, the modem's lines, and the receive assembly
(R178 to R185). -/

namespace Sys2Proof.Machine

/-- R179: the origin of an ended item is told. -/
def itemGone (it : TxItem) (s : State) : State :=
  match it.cls with
  | .reply =>
    offerPending
      ((s.setUpl { s.upl with slot := none }).setCtl
        { s.ctl with resetWait := s.ctl.resetWait.map fun w => { w with gone := w.gone || w.placed } })
  | .forward =>
    s.setUpl { s.upl with fwdQ := if it.dropped then s.upl.fwdQ else s.upl.fwdQ.filter fun f => f.number != it.number }
  | _ => s.setStore (s.store.markSent it.number)

/-- R179: the buffer is emptied, a waiting rate takes effect (R176), the origin is told, and UPL selects again. -/
def endItem (it : TxItem) (s : State) : State :=
  uplinkSelect (itemGone it (uplinkRateEffect (s.setUpl { s.upl with buffer := none })))

/-- R179. -/
def execUplinkItemEnd (s : State) : Host.Outcome State Fault Refusal :=
  taken s fun s =>
    match s.upl.buffer with
    | some it => if s.itemEnded then endItem it s else s
    | none => s

/-- R178: the transmitter will pause before its next character. -/
def execCtsFall (s : State) : Host.Outcome State Fault Refusal := .next (s.setLines { s.lines with cts := false })

/-- R178: a paused transmitter begins its next character. -/
def execCtsRise (s : State) : Host.Outcome State Fault Refusal := .next (s.setLines { s.lines with cts := true })

/-- R180: the item in the buffer is abandoned, the character in progress going on to its end; a reset that waits for that
reply begins (R195). An item selected in the course of such a character has sent nothing of itself yet. -/
def abandon (it : TxItem) (s : State) : State :=
  let t := s.setUpl { s.upl with buffer := none, tail := s.upl.tail + it.inCourse (uplinkChar s.upl.rate) }
  if it.cls = .reply then
    t.setCtl { t.ctl with resetWait := t.ctl.resetWait.map fun w => { w with gone := w.gone || w.placed } }
  else t

/-- R184: the frame being assembled ends with LINK. -/
def dropAssembly (u : Upl) : Upl :=
  if u.assembling then { u with assembling := false, lastChar := none, linkLost := inc16 u.linkLost } else u

/-- R180: LINK falls. -/
def linkLow (s : State) : State :=
  let s := s.setLines { s.lines with link := false }
  let s :=
    match s.upl.buffer with
    | some it => abandon it s
    | none => s
  uplinkRateEffect (s.setUpl (dropAssembly s.upl))

/-- R180, R184. While the RESET line is asserted only the line is followed (R196). -/
def execLinkFall (s : State) : Host.Outcome State Fault Refusal :=
  .next (if s.resetLine then s.setLines { s.lines with link := false } else linkLow s)

/-- R174, R180. -/
def execLinkRise (s : State) : Host.Outcome State Fault Refusal :=
  .next
    (if s.resetLine then s.setLines { s.lines with link := true }
    else uplinkSelect (s.setLines { s.lines with link := true }))

/-! ## Reception (R184, R185) -/

def Upl.countFault (u : Upl) : UplinkFault → Upl
  | .framing => { u with framing := inc16 u.framing }
  | .length => { u with length := inc16 u.length }
  | .crc => { u with crc := inc16 u.crc }

/-- R184: the fault of a frame whose characters have all come. -/
def uplinkFault (f : UplinkFrame) : Option UplinkFault :=
  if 200 < f.payload.length then some .length
  else if f.crc ≠ crc16 (uplinkBody f.station.toNat f.kind.toNat f.seq.toNat f.payload) then some .crc
  else none

/-- R184, R185: a good frame judged by its header. -/
def judgeUplink (f : UplinkFrame) (s : State) : State :=
  if f.station.toNat ≠ cfgStationId s.tbl.config ∧ f.station ≠ 0 then
    s.setUpl { s.upl with foreign := inc16 s.upl.foreign }
  else if f.kind ≠ 1 then s.setUpl { s.upl with kindDiscards := inc16 s.upl.kindDiscards }
  else enqueue { origin := .uplink f.seq, payload := f.payload } s

/-- R184: the assembly returns to HUNTING. -/
def hunting (u : Upl) : Upl := { u with assembling := false, lastChar := none }

/-- R184: a frame that ended without a fault of its characters. DESIGN CHOICE (log entry 50): the frame is judged first,
a BUSY reply to its request being selected with it, and only then may a waiting rate take effect (R176). -/
def endUplinkFrame (f : UplinkFrame) (s : State) : State :=
  let t := s.setUpl (hunting s.upl)
  uplinkRateEffect
    (match uplinkFault f with
    | some k => t.setUpl (t.upl.countFault k)
    | none => judgeUplink f t)

/-- R184, R185. -/
def execUplinkFrameReceived (f : UplinkFrame) (s : State) : Host.Outcome State Fault Refusal :=
  taken s fun s => if s.upl.assembling then settle (endUplinkFrame f s) else s

/-- R184. -/
def execUplinkFrameError (fault : UplinkFault) (s : State) : Host.Outcome State Fault Refusal :=
  taken s fun s =>
    if s.upl.assembling then uplinkRateEffect (s.setUpl ((hunting s.upl).countFault fault)) else s

/-- R184: more than 250 ms of the timebase have passed since the latest character of the frame being assembled that a
command has told of (log entry 36). -/
def State.gapDue (s : State) : Bool := s.upl.assembling && decide (s.upl.lastChar.getD 0 + 250 < s.now)

/-- R184. -/
def execUplinkReceiveGap (s : State) : Host.Outcome State Fault Refusal :=
  taken s fun s =>
    if s.gapDue then uplinkRateEffect (s.setUpl { hunting s.upl with gap := inc16 s.upl.gap }) else s

/-- R184: what the hunt brings: the characters discarded, and the sync pair, if found. -/
def Upl.hunted (u : Upl) (h : UplinkHeard) (now : Nat) : Upl :=
  { u with
    assembling := h.found, lastChar := if h.found then some now else none,
    huntDiscards := min (u.huntDiscards + h.discarded) 65535 }

/-- R184. DESIGN CHOICE (log entry 56): the receive side hunts and assembles whatever the level of LINK. Inside a frame nothing that is heard restarts it, a sync pair included; its characters are the frame's
latest. -/
def execSyncPairReceived (heard : UplinkHeard) (s : State) : Host.Outcome State Fault Refusal :=
  taken s fun s =>
    s.setUpl (if s.upl.assembling then { s.upl with lastChar := some s.now } else s.upl.hunted heard s.now)

end Sys2Proof.Machine
end

