-- ==== Sys2Proof/Machine/Tick.lean ====
section
/-! DEFINITION. What happens with no command waiting: the commands that time and the machine's own state have made due,
in one order of the model's choice, and otherwise the passing of one millisecond (4.3, R15; log entry 2). -/

namespace Sys2Proof.Machine

/-- The row by which its owner carries out a request (Table 61). A write to a table that is not written has none. -/
def ownerRow : Req → Option Instr
  | .readStatus _ _ => some .readStatus
  | .readRecords _ _ _ => some .readRecords
  | .readTable _ _ _ => some .readTable
  | .writeTable t _ _ =>
    match t with
    | 0 => some .writeTableConfig
    | 1 => some .writeTableChannels
    | 2 => some .writeTableRatingStaged
    | 3 => none
    | 4 => none
    | 5 => some .writeTableRules
    | 6 => some .writeTablePatterns
    | _ => some .writeTablePlan
  | .activateRating => some .activateRating
  | .addShift _ _ _ => some .addShift
  | .deleteShift _ => some .deleteShift
  | .startRun _ => some .startRun
  | .abortRun => some .abortRun
  | .silence => some .silence
  | .warningTest _ _ => some .warningTest
  | .setClock _ => some .setClock
  | .resetPart _ => some .resetPart

/-- One command, if it is due. -/
def due (p : Bool) (i : Instr) : List Instr := if p then [i] else []

/-- The commands of the control decoder and of the resets that are due. -/
def dueControl (s : State) : List Instr :=
  due (s.resetDue false) .warmReset ++ due (s.resetDue true) .coldReset ++ (s.work.bind ownerRow).toList ++
    due s.takeDue .requestTaken

/-- The timers of the stage and warning units that are due. -/
def dueStage (s : State) : List Instr :=
  due s.boundaryDue .intervalBoundary ++ due (s.staleDue .primary) (.staleTimerExpiry .primary) ++
    due (s.staleDue .secondary) (.staleTimerExpiry .secondary) ++ due s.historyDue .historyStep ++
    due s.standDownDue .standDownExpiry ++ due s.testDue .warningTestEnd

/-- What is due at the loop controller. -/
def dueLoop (s : State) : List Instr :=
  due s.sentDue .commandFrameSent ++ due s.grantDue .grantBegin ++
    due (s.loop.replyDue s.fineNow) .replyTimeout ++ due (s.loop.lowSince.isSome && s.mayBreak) .breakDetected ++
    due s.jamDue .loopJammed ++ due s.clearDue .loopCleared ++ due s.grantTimerDue .grantTimeout ++
    due s.waitDue .claimWaitExpiry ++ due s.interleaveDue .interleaveEnd ++
    ((List.finRange 24).map fun c : Fin 24 => due (s.pollDue c.val) (.pollDue c)).flatten ++
    ((List.finRange 24).map fun c : Fin 24 => due (s.skipDue c.val) (.pollSkip c)).flatten

/-- What is due at the pulse inputs, the run engine and the uplink port. -/
def dueRun (s : State) : List Instr :=
  due (s.pls.rotor.exposureDue s.now) .exposureExpiry ++ due (s.pls.rotor.limitDue s.now) .timeLimitExpiry ++
    due (s.pls.rotor.missingDue s.now) .missingPulseExpiry ++ due s.settleDue .settleExpiry ++
    due s.traverseDue .traverseTimeout ++ due s.cableDue .cableTimeout ++ due s.enquiryDue .enquiryInterval ++
    due s.retrieveDue .retrieveTimeout ++ due s.lookupAsked.isSome .inverseLookup ++ due s.itemEnded .uplinkItemEnd

/-- Everything that is due; nothing while the RESET line is asserted (R196). -/
def dueEvents (s : State) : List Instr :=
  if s.resetLine then [] else dueControl s ++ dueStage s ++ dueLoop s ++ dueRun s

/-- R14: one millisecond of the station clock. -/
def Clocks.advance (c : Clocks) : Clocks :=
  if c.subMs + 1 < 1000 then { c with subMs := c.subMs + 1 }
  else { c with subMs := 0, time := min (c.time + 1) clockMax }

/-- One millisecond passes: the station clock runs on, and outside an asserted RESET line the timebase and the uplink
transmitter with it (R14, R15, R178, R180, R196). -/
def passMs (s : State) : State :=
  let s := s.setClk s.clk.advance
  if s.resetLine then s
  else
    (s.setClk { s.clk with timebase := s.clk.timebase + 1 }).setUpl (s.upl.sendMs s.lines.cts)

/-- A step with no command waiting. -/
def idle (s : State) : State :=
  match dueEvents s with
  | [] => passMs s
  | is => { s with pending := is }

end Sys2Proof.Machine
end

