-- ==== Sys2Proof/Machine/Dispatch.lean ====
section
/-! DEFINITION. The meaning of a command: one arm per constructor, one definition per arm. -/

namespace Sys2Proof.Machine

def exec (i : Instr) (s : State) : Host.Outcome State Fault Refusal :=
  match i with
  | .powerOnReset backupHeld elapsed lines => Sys2Proof.Machine.execPowerOnReset backupHeld elapsed lines s
  | .resetLineAssert => Sys2Proof.Machine.execResetLineAssert s
  | .warmReset => Sys2Proof.Machine.execWarmReset s
  | .coldReset => Sys2Proof.Machine.execColdReset s
  | .requestTaken => Sys2Proof.Machine.execRequestTaken s
  | .readStatus => Sys2Proof.Machine.execReadStatus s
  | .readRecords => Sys2Proof.Machine.execReadRecords s
  | .readTable => Sys2Proof.Machine.execReadTable s
  | .writeTableConfig => Sys2Proof.Machine.execWriteTableConfig s
  | .writeTableChannels => Sys2Proof.Machine.execWriteTableChannels s
  | .writeTableRatingStaged => Sys2Proof.Machine.execWriteTableRatingStaged s
  | .writeTableRules => Sys2Proof.Machine.execWriteTableRules s
  | .writeTablePatterns => Sys2Proof.Machine.execWriteTablePatterns s
  | .writeTablePlan => Sys2Proof.Machine.execWriteTablePlan s
  | .activateRating => Sys2Proof.Machine.execActivateRating s
  | .addShift => Sys2Proof.Machine.execAddShift s
  | .deleteShift => Sys2Proof.Machine.execDeleteShift s
  | .startRun => Sys2Proof.Machine.execStartRun s
  | .abortRun => Sys2Proof.Machine.execAbortRun s
  | .silence => Sys2Proof.Machine.execSilence s
  | .warningTest => Sys2Proof.Machine.execWarningTest s
  | .setClock => Sys2Proof.Machine.execSetClock s
  | .resetPart => Sys2Proof.Machine.execResetPart s
  | .intervalBoundary => Sys2Proof.Machine.execIntervalBoundary s
  | .staleTimerExpiry src => Sys2Proof.Machine.execStaleTimerExpiry src s
  | .historyStep => Sys2Proof.Machine.execHistoryStep s
  | .standDownExpiry => Sys2Proof.Machine.execStandDownExpiry s
  | .warningTestEnd => Sys2Proof.Machine.execWarningTestEnd s
  | .pollDue ch => Sys2Proof.Machine.execPollDue ch s
  | .pollSkip ch => Sys2Proof.Machine.execPollSkip ch s
  | .commandFrameSent => Sys2Proof.Machine.execCommandFrameSent s
  | .replyTimeout => Sys2Proof.Machine.execReplyTimeout s
  | .replyReceived body => Sys2Proof.Machine.execReplyReceived body s
  | .receptionFailure fault => Sys2Proof.Machine.execReceptionFailure fault s
  | .receptionGap => Sys2Proof.Machine.execReceptionGap s
  | .unsolicitedFrame fin => Sys2Proof.Machine.execUnsolicitedFrame fin s
  | .breakDetected => Sys2Proof.Machine.execBreakDetected s
  | .breakEnd => Sys2Proof.Machine.execBreakEnd s
  | .loopJammed => Sys2Proof.Machine.execLoopJammed s
  | .loopCleared => Sys2Proof.Machine.execLoopCleared s
  | .grantBegin => Sys2Proof.Machine.execGrantBegin s
  | .grantFrameReceived fin => Sys2Proof.Machine.execGrantFrameReceived fin s
  | .grantTimeout => Sys2Proof.Machine.execGrantTimeout s
  | .claimWaitExpiry => Sys2Proof.Machine.execClaimWaitExpiry s
  | .interleaveEnd => Sys2Proof.Machine.execInterleaveEnd s
  | .contactClosure c => Sys2Proof.Machine.execContactClosure c s
  | .exposureExpiry => Sys2Proof.Machine.execExposureExpiry s
  | .timeLimitExpiry => Sys2Proof.Machine.execTimeLimitExpiry s
  | .missingPulseExpiry => Sys2Proof.Machine.execMissingPulseExpiry s
  | .settleExpiry => Sys2Proof.Machine.execSettleExpiry s
  | .traverseTimeout => Sys2Proof.Machine.execTraverseTimeout s
  | .cableTimeout => Sys2Proof.Machine.execCableTimeout s
  | .enquiryInterval => Sys2Proof.Machine.execEnquiryInterval s
  | .retrieveTimeout => Sys2Proof.Machine.execRetrieveTimeout s
  | .inverseLookup => Sys2Proof.Machine.execInverseLookup s
  | .uplinkItemEnd => Sys2Proof.Machine.execUplinkItemEnd s
  | .ctsFall => Sys2Proof.Machine.execCtsFall s
  | .ctsRise => Sys2Proof.Machine.execCtsRise s
  | .linkFall => Sys2Proof.Machine.execLinkFall s
  | .linkRise => Sys2Proof.Machine.execLinkRise s
  | .uplinkFrameReceived f => Sys2Proof.Machine.execUplinkFrameReceived f s
  | .uplinkFrameError fault => Sys2Proof.Machine.execUplinkFrameError fault s
  | .uplinkReceiveGap => Sys2Proof.Machine.execUplinkReceiveGap s
  | .contactOpening c => Sys2Proof.Machine.execContactOpening c s
  | .frameBegins start => Sys2Proof.Machine.execFrameBegins start s
  | .syncPairReceived heard => Sys2Proof.Machine.execSyncPairReceived heard s

end Sys2Proof.Machine
end

