-- ==== Sys2Proof/Safety.lean ====
section
/-! DEFINITION. The words in which statements are made: what a command leaves alone, how a request is answered, what
every reset leaves, and the properties that every step keeps. -/

namespace Sys2Proof.Machine

/-! ## Frames -/

/-- The parts of the state, one for each field. -/
inductive Block where
  | clk | tbl | stg | rat | wrn | pls | run | loop | cht | store | upl | ctl | lines | resetLine | lastReset | pending
deriving DecidableEq, Repr

/-- The part is the same in both states. -/
def Block.same : Block → State → State → Prop
  | .clk, s, t => t.clk = s.clk
  | .tbl, s, t => t.tbl = s.tbl
  | .stg, s, t => t.stg = s.stg
  | .rat, s, t => t.rat = s.rat
  | .wrn, s, t => t.wrn = s.wrn
  | .pls, s, t => t.pls = s.pls
  | .run, s, t => t.run = s.run
  | .loop, s, t => t.loop = s.loop
  | .cht, s, t => t.cht = s.cht
  | .store, s, t => t.store = s.store
  | .upl, s, t => t.upl = s.upl
  | .ctl, s, t => t.ctl = s.ctl
  | .lines, s, t => t.lines = s.lines
  | .resetLine, s, t => t.resetLine = s.resetLine
  | .lastReset, s, t => t.lastReset = s.lastReset
  | .pending, s, t => t.pending = s.pending

/-- Every part but those listed is unchanged from `s` to `t`. -/
def ChangesOnly (bs : List Block) (s t : State) : Prop := ∀ b, b ∉ bs → b.same s t

/-- What the choice of the next transaction (R82) and the command pair transmitter (R70) leave of LOOP: the reply pair's
reception, the line, the jam, the failure counts and the counters. -/
structure Loop.LineKept (a b : Loop) : Prop where
  rx : b.rx = a.rx
  jam : b.jam = a.jam
  lineBreak : b.lineBreak = a.lineBreak
  lowSince : b.lowSince = a.lowSince
  highSince : b.highSince = a.highSince
  nodeFail : b.nodeFail = a.nodeFail
  faults : b.faults = a.faults
  unsolicited : b.unsolicited = a.unsolicited
  droppedService : b.droppedService = a.droppedService

/-- CTL but for the request in hand and the pending reply, which a place freed in the service queue may move on (R189). -/
structure Ctl.QueueKept (a b : Ctl) : Prop where
  queue : b.queue = a.queue
  resetWait : b.resetWait = a.resetWait
  droppedBusy : b.droppedBusy = a.droppedBusy
  lastRefusal : b.lastRefusal = a.lastRefusal

/-- UPL but for the frame buffer, the reply slot and READY. -/
structure Upl.PortKept (a b : Upl) : Prop where
  fwdQ : b.fwdQ = a.fwdQ
  nextFwd : b.nextFwd = a.nextFwd
  assembling : b.assembling = a.assembling
  framing : b.framing = a.framing
  gap : b.gap = a.gap
  length : b.length = a.length
  crc : b.crc = a.crc
  linkLost : b.linkLost = a.linkLost
  foreign : b.foreign = a.foreign
  kindDiscards : b.kindDiscards = a.kindDiscards
  huntDiscards : b.huntDiscards = a.huntDiscards
  lastChar : b.lastChar = a.lastChar
  tail : b.tail = a.tail

/-- From `s` to `t` only the parts listed have changed, but for the work that LOOP's arbiter and transmitter may take up
at the end of any event (R70, R82, R189). -/
structure EventFrame (bs : List Block) (s t : State) : Prop where
  others : ChangesOnly (.loop :: .ctl :: bs) s t
  ctl : .ctl ∉ bs → s.ctl.QueueKept t.ctl
  loop : .loop ∉ bs → s.loop.LineKept t.loop

/-- The input lines while the RESET line is asserted: a command of a line still moves its level (log entry 5). -/
def followLines (c : Instr) (l : Lines) : Lines :=
  match c with
  | .contactClosure k => withContact l k true
  | .contactOpening k => withContact l k false
  | .ctsFall => { l with cts := false }
  | .ctsRise => { l with cts := true }
  | .linkFall => { l with link := false }
  | .linkRise => { l with link := true }
  | .breakDetected => { l with replyLow := true }
  | .frameBegins .unmarked => { l with replyLow := true }
  | .breakEnd => { l with replyLow := false }
  | _ => l

/-! ## Requests and their replies (R188, R189) -/

/-- CTL has the request `q` in hand, its reply not yet built, and no reset waits. -/
structure Serving (s : State) (q : Req) : Prop where
  awake : s.resetLine = false
  work : s.work = some q
  noReply : s.ctl.pendingReply = none
  noReset : s.ctl.resetWait = none

/-- The SERVICE-OUT frames on their way to nodes, in their order: on the transmitter, in the service queue, and still
in CTL. -/
def serviceOut (s : State) : List SvcFrame :=
  (match s.loop.tx with
    | some { frame := .service f, .. } => [f]
    | _ => []) ++
  s.loop.serviceQ.map Prod.fst ++
  (match s.ctl.pendingReply with
    | some (.fragments fs) => fs
    | _ => [])

/-- R189: from `s` to `t` the reply to the request in hand has gone its way: into the empty reply slot, or into the
pending reply behind a full one, with the sequence field of its request; or in fragments to its node. -/
def Replied (s t : State) (payload : List Byte) : Prop :=
  match (s.ctl.inHand.map fun h => h.request.origin : Option Origin) with
  | some (.uplink seq) =>
    if s.upl.slot = none then
      t.upl.slot = some { seq := seq, payload := payload } ∧ t.ctl.inHand = none ∧ t.ctl.pendingReply = none
    else
      t.upl.slot = s.upl.slot ∧ t.ctl.pendingReply = some (.slot { seq := seq, payload := payload }) ∧ t.work = none
  | some (.service addr) =>
    t.upl.slot = s.upl.slot ∧ t.work = none ∧
      serviceOut t = serviceOut s ++ fragmentsOf addr s.ctl.resetWait.isSome payload.length 0 payload
  | none => False

/-- R190: the request `r` is refused with `code`: answered so by its path, and recorded as the last refusal. -/
def Refuses (r : Request) (code : Byte) (s t : State) : Prop :=
  t.ctl.lastRefusal =
      some { code := r.code, byUplink := (match r.origin with | .uplink _ => true | .service _ => false), reply := code } ∧
  match r.origin with
  | .uplink seq =>
    if s.upl.slot = none then
      t.upl.slot = some { seq := seq, payload := [r.code, code] } ∧ t.ctl.inHand = none ∧ t.ctl.pendingReply = none
    else
      t.upl.slot = s.upl.slot ∧ t.ctl.pendingReply = some (.slot { seq := seq, payload := [r.code, code] }) ∧
        t.work = none
  | .service addr =>
    t.upl.slot = s.upl.slot ∧ t.work = none ∧
      serviceOut t = serviceOut s ++ [{ addr := addr, payload := [0x80, r.code, code], resets := false }]

/-- R193: table `n` holds `data` from `off` and its own bytes elsewhere; every other table is as it was. -/
def Stored (n off : Nat) (data : List Byte) (s t : State) : Prop :=
  (∀ i, (t.tableBytes n)[i]? =
    if off ≤ i ∧ i < off + data.length then data[i - off]? else (s.tableBytes n)[i]?) ∧
  ∀ m, m ≤ 10 → m ≠ n → t.tableBytes m = s.tableBytes m

/-- R23 step 4: breakpoint `i` of a STAGED bank fails its checks. -/
def BreakpointBad (staged : List Byte) (i : Nat) : Prop :=
  ¬(-2000 ≤ (stagedPoint staged i).1 ∧ (stagedPoint staged i).1 ≤ 20000 ∧ (stagedPoint staged i).2 ≤ 100000000 ∧
    (0 < i → (stagedPoint staged (i - 1)).1 < (stagedPoint staged i).1 ∧
      (stagedPoint staged (i - 1)).2 < (stagedPoint staged i).2))

/-- R23: a STAGED bank that passes every check. -/
def StagedGood (staged : List Byte) : Prop :=
  1 ≤ u16 staged 0 ∧ u16 staged 2 ≤ 2000 ∧ 2 ≤ u8 staged 4 ∧ u8 staged 4 ≤ 48 ∧
    ∀ i, i < u8 staged 4 → ¬ BreakpointBad staged i

/-- R27: offered shift point `j` passes its checks: it is within range, its stage above that of the point before it. -/
def ShiftPointGood (points : List (Int × Int)) (j : Nat) : Prop :=
  -2000 ≤ (points.getD j (0, 0)).1 ∧ (points.getD j (0, 0)).1 ≤ 20000 ∧
    -2000 ≤ (points.getD j (0, 0)).2 ∧ (points.getD j (0, 0)).2 ≤ 2000 ∧
    (0 < j → (points.getD (j - 1) (0, 0)).1 < (points.getD j (0, 0)).1)

/-- R27: offered shift points that pass the checks: 1 to 4 of them, each good. -/
def ShiftGood (count : Nat) (points : List (Int × Int)) : Prop :=
  1 ≤ count ∧ count ≤ 4 ∧ ∀ j, j < count → ShiftPointGood points j

/-- Table 70: the bytes of a record carried, a heading of 7 and `n` of its slots from `first`. -/
def carriedBytes (r : StoreRec) (first n : Nat) : List Byte :=
  beNat 2 r.seq ++ [r.content.kindCode, boolByte r.sent] ++ beNat 1 first ++ beNat 1 n ++ beNat 1 r.content.slotCount ++
    ((r.content.slots.drop first).take n).flatten

/-- R183: `whole` may follow, whole, a first record of which `left` slots are carried: they keep to the record limit, to
4 slots in all and to a payload of 200 bytes. -/
def RecordsFit (limit left : Nat) (whole : List StoreRec) : Prop :=
  1 + whole.length ≤ limit ∧ left + (whole.map fun r => r.content.slotCount).sum ≤ 4 ∧
    9 + (7 + 44 * left) + (whole.map fun r => 7 + 44 * r.content.slotCount).sum ≤ 200

/-- R183, Table 70: `rest` is what a reply carries after its mark and its oldest number when reading starts at `r`, with
the records `more` after it: continue point, part offset, count, and the records. Of `r` at most 4 slots are carried, and
whole records follow as far as they fit. -/
def RecordsCarried (r : StoreRec) (more : List StoreRec) (nextSeq limit part : Nat) (rest : List Byte) : Prop :=
  if 4 < r.content.slotCount - part then
    rest = beNat 2 r.seq ++ beNat 1 (part + 4) ++ beNat 1 1 ++ carriedBytes r part 4
  else
    ∃ whole after, more = whole ++ after ∧ RecordsFit limit (r.content.slotCount - part) whole ∧
      (∀ x, after.head? = some x → ¬ RecordsFit limit (r.content.slotCount - part) (whole ++ [x])) ∧
      rest = beNat 2 ((after.head?.map StoreRec.seq).getD nextSeq) ++ beNat 1 0 ++ beNat 1 (1 + whole.length) ++
        carriedBytes r part (r.content.slotCount - part) ++
        (whole.map fun x => carriedBytes x 0 x.content.slotCount).flatten

/-- The frame of a request: besides the parts listed, only LOOP's transmitter, CTL's request in hand and UPL's reply slot
and frame buffer. -/
structure RequestFrame (bs : List Block) (s t : State) : Prop where
  others : ChangesOnly (.loop :: .ctl :: .upl :: bs) s t
  ctl : s.ctl.QueueKept t.ctl
  loop : s.loop.LineKept t.loop
  upl : s.upl.PortKept t.upl
  ready : t.upl.ready = s.upl.ready

/-! ## What every reset leaves -/

/-- R62: the highest target among the enabled, valid rules that carry the fail-safe flag, or 0. -/
def failSafeTarget (rules : List Byte) : Nat :=
  (((List.range 12).filter fun i => (ruleEntry rules i).valid && (ruleEntry rules i).failSafe).map
    fun i => (ruleEntry rules i).target).foldl max 0

/-- R21: STG. -/
structure StgAfterReset (t : State) : Prop where
  primary : t.stg.prim = { state := .noData, last := none, lastTime := none, suspect := none, staleAt := none }
  secondary : t.stg.sec = { state := .noData, last := none, lastTime := none, suspect := none, staleAt := none }
  unselected : t.stg.selection = .none
  absent : t.stg.selected = none
  recovery : t.stg.recovery = 0
  offset : t.stg.offset = 0
  history : t.stg.history = List.replicate 64 none
  historyAt : t.stg.historyAt = 1000 * cfgHistoryStep t.tbl.config
  openStart : t.stg.openStart = boundaryBefore (cfgIntervalLength t.tbl.config) t.clk.time
  count : t.stg.acc.count = 0
  stageLost : t.stg.acc.flags.stageLost = true
  clockInvalid : t.stg.acc.flags.clockInvalid = !t.clk.valid

/-- R62, R63: WRN, with the fail-safe rules counting. -/
structure WrnAfterReset (t : State) : Prop where
  rules : ∀ i, i < 12 → t.wrn.ruleState i = if (ruleEntry t.tbl.rules i).valid then .armed else .off
  stageLost : t.wrn.stageLost = true
  target : t.wrn.target = failSafeTarget t.tbl.rules
  standDown : t.wrn.standDown = none
  resetHold : t.wrn.resetHold = true
  silenced : t.wrn.silenced = false
  test : t.wrn.test = none
  outputs : t.wrn.outputs = patternOn t.tbl.patterns t.wrn.level

/-- R128: PLS. -/
structure PlsAfterReset (t : State) : Prop where
  rotor : t.pls.rotor.state = .idle ∧ t.pls.rotor.result = none ∧ t.pls.rotor.exposureAt = none ∧ t.pls.rotor.missAt = none
  surface : t.pls.surface = { state := .idle, armTime := none, value := none }
  bottom : t.pls.bottom = { state := .idle, armTime := none, value := none }
  rotorIn : t.pls.rotorIn = { closed := t.lines.rotorClosed, lastAccepted := none, accepted := 0, ignored := 0 }
  surfaceIn : t.pls.surfaceIn = { closed := t.lines.surfaceClosed, lastAccepted := none, accepted := 0, ignored := 0 }
  bottomIn : t.pls.bottomIn = { closed := t.lines.bottomClosed, lastAccepted := none, accepted := 0, ignored := 0 }

/-- R85, R114: LOOP and its grant record. -/
structure LoopAfterReset (t : State) : Prop where
  running : t.loop.jam = none ∧ t.loop.lineBreak = none
  noGrant : t.loop.grant.state = .idle ∧ t.loop.grant.interleaveAt = none ∧ t.loop.grant.lastEnd = none ∧ t.loop.grant.begun = 0
  places : t.loop.claimPlace = false ∧ t.loop.winchPlace = none ∧ t.loop.serviceQ = []
  nodeFail : t.loop.nodeFail = List.replicate 30 0
  faults : t.loop.faults = ⟨0, 0, 0, 0, 0, 0, 0⟩
  counts : t.loop.unsolicited = 0 ∧ t.loop.droppedService = 0
  rate : t.loop.rate = cfgLoopRate t.tbl.config

/-- R100, R187, R197: CHT, UPL and CTL. That `tail` is 0 is the model's choice (log entry 60). -/
structure PortsAfterReset (t : State) : Prop where
  view : t.cht.view = viewOf t.tbl.channels
  stats : t.cht.stats = List.replicate 24 freshStats
  unknown : t.cht.unknownAddr = none ∧ t.cht.unknownTime = none ∧ t.cht.unknownCount = 0
  winch : t.cht.winchClassified = 0 ∧ t.cht.winchDiscarded = 0 ∧ t.cht.winchReason = none
  slot : t.upl.slot = none
  forward : t.upl.fwdQ = [] ∧ t.upl.nextFwd = 0
  reception : t.upl.assembling = false ∧ t.upl.framing = 0 ∧ t.upl.gap = 0 ∧ t.upl.length = 0 ∧ t.upl.crc = 0 ∧
    t.upl.linkLost = 0 ∧ t.upl.foreign = 0 ∧ t.upl.kindDiscards = 0 ∧ t.upl.huntDiscards = 0 ∧ t.upl.tail = 0
  ready : t.upl.ready = true
  uplinkRate : t.upl.rate = cfgUplinkRate t.tbl.config
  ctl : t.ctl =
    { queue := [], inHand := none, pendingReply := none, resetWait := none, droppedBusy := 0, lastRefusal := none }

/-- R85, R156: RUN, with the run marker as the reset leaves it: IDLE without one; with one in RETRIEVE for the address in
it, the RETRIEVE being the first transaction. -/
def RunAfterReset (t : State) : Prop :=
  t.run.position = none ∧
  match t.run.marker with
  | none => t.run.state = .idle ∧ t.run.held = none ∧ t.run.record = none
  | some m =>
    t.run.state = .retrieve ∧ t.run.held = some m.addr ∧ t.run.vertical = none ∧
    t.run.retrieveAt = some (1000 * (planHeader (t.tbl.plan m.plan)).traverseTimeout) ∧
    (∃ r, t.run.record = some r ∧ r.start = m.start ∧ r.startValid = m.startValid ∧ r.planId = m.planId ∧
      r.verticals = [] ∧ r.outcome = none) ∧
    ∃ c : RunCmd, c.kind = .retrieve ∧ c.addr = m.addr ∧
      t.loop.txn = some { asker := .run c, addr := m.addr, phase := .sending }

/-- R196: a reset is one event, and each block takes up the state of its own chapter. -/
structure AfterReset (kind : ResetKind) (t : State) : Prop where
  kind : t.lastReset = kind
  line : t.resetLine = false
  timebase : t.clk.timebase = 0
  stg : StgAfterReset t
  rat : t.rat.latest = none
  wrn : WrnAfterReset t
  pls : PlsAfterReset t
  loop : LoopAfterReset t
  ports : PortsAfterReset t
  run : RunAfterReset t

/-! ## Intervals (R18 to R20) -/

/-- R20, Table 12: `st` is the store with the record of the open interval, under these flags, at its end. -/
def IntervalWritten (s : State) (flags : IntervalFlags) (st : Store) : Prop :=
  ∃ r : IntervalRec, st = s.store.append (.interval r) ∧ r.start = s.stg.openStart ∧ r.count = s.stg.acc.count ∧
    r.mean = (if s.stg.acc.count = 0 then none else some (roundDiv s.stg.acc.stageSum s.stg.acc.count)) ∧
    r.low = s.stg.acc.low ∧ r.high = s.stg.acc.high ∧ r.last = s.stg.acc.last ∧
    r.meanDischarge =
      (if s.stg.acc.disCount = 0 then none else some (roundDivNat s.stg.acc.disSum s.stg.acc.disCount)) ∧
    r.primary = s.stg.acc.primary ∧ r.secondary = s.stg.acc.secondary ∧ r.flags = flags ∧
    r.quality =
      (if s.stg.acc.count = 0 then .noData
      else if flags.stageLost || flags.missedPolls || flags.clockSet || flags.resetClosed then .partly else .good) ∧
    r.ratingId = s.stg.acc.ratingId ∧ r.shiftStart = s.stg.acc.shiftStart

/-- R18, R19: an interval has opened at `start`, to close at the first boundary after `after`, its accumulator empty;
`set` says whether it is marked CLOCK-SET. -/
structure IntervalOpened (start after : Nat) (set : Bool) (t : State) : Prop where
  start : t.stg.openStart = start
  closes : t.stg.nextBoundary =
    after / (60 * cfgIntervalLength t.tbl.config) * (60 * cfgIntervalLength t.tbl.config) +
      60 * cfgIntervalLength t.tbl.config
  counts : t.stg.acc.count = 0 ∧ t.stg.acc.stageSum = 0 ∧ t.stg.acc.disCount = 0 ∧ t.stg.acc.disSum = 0
  extremes : t.stg.acc.low = none ∧ t.stg.acc.high = none ∧ t.stg.acc.last = none
  sources : t.stg.acc.primary = false ∧ t.stg.acc.secondary = false
  rating : t.stg.acc.ratingId = none ∧ t.stg.acc.shiftStart = none
  flags : t.stg.acc.flags =
    { noIntervalFlags with
      stageLost := t.stg.selection == .none, clockInvalid := !t.clk.valid, clockSet := set }

/-- STG but for the open interval. -/
structure Stg.MeasureKept (a b : Stg) : Prop where
  prim : b.prim = a.prim
  sec : b.sec = a.sec
  selection : b.selection = a.selection
  recovery : b.recovery = a.recovery
  offset : b.offset = a.offset
  selected : b.selected = a.selected
  history : b.history = a.history
  historyAt : b.historyAt = a.historyAt

/-! ## The level (R48 to R51) -/

/-- R53: the cause of a rise to `level`. -/
def RiseCause (w : Wrn) (table : List Byte) (level : Nat) (c : WarnCause) : Prop :=
  (∃ i, i < 12 ∧ c = .rule i ∧ w.ruleState i = .triggered ∧ (ruleEntry table i).target = level ∧
    ∀ j, j < i → ¬ (w.ruleState j = .triggered ∧ (ruleEntry table j).target = level)) ∨
  (c = .stageLost ∧ ∀ i, i < 12 → ¬ (w.ruleState i = .triggered ∧ (ruleEntry table i).target = level))

/-- R46, Table 24: the state of a rule after the evaluation of `v`, or with no evaluation where there is no value. -/
def RuleMoved (e : RuleEntry) (v : Option Int) (a b : RuleState) : Prop :=
  match v with
  | none => b = a
  | some v =>
    match a with
    | .off => b = .off
    | .armed => b = if e.trigger ≤ v then (if e.persistence = 1 then .triggered else .pending 1) else .armed
    | .pending k =>
      b = if e.trigger ≤ v then (if k + 1 = e.persistence then .triggered else .pending (k + 1)) else .armed
    | .triggered => b = if v < e.reset then .armed else .triggered

/-! ## RUN's commands, retrieval and aborts (R83, R147, R150) -/

/-- R83: RUN's command is with LOOP: pending, in the winch command place, on the transmitter, or outstanding. -/
def Handed (c : RunCmd) (l : Loop) : Prop :=
  l.pendingCmd = some c ∨ (∃ n, l.winchPlace = some (c, n)) ∨ (∃ d, l.tx = some { frame := .winch c, doneAt := d }) ∨
    ∃ p, l.txn = some { asker := .run c, addr := c.addr, phase := p }

/-- RUN has handed LOOP, as its last command, one of this kind for the winch at `a`. -/
def HandedOver (k : CmdKind) (a : Nat) (t : State) : Prop :=
  ∃ c : RunCmd, c.kind = k ∧ c.addr = a ∧ t.run.lastCmd.map Prod.fst = some c ∧ Handed c t.loop

/-- R135: RUN has obtained a move of `k` in the state it has entered: by the move command where `s` has its winch under
a grant, and otherwise by a GRANT of the given mode. -/
def MoveObtained (k : CmdKind) (mode : ReleaseMode) (s t : State) : Prop :=
  ∀ a, t.run.held = some a →
    if s.loop.grantedTo a then HandedOver k a t else HandedOver (.grant t.header.burstLimit mode) a t

/-- R147: RUN has entered RETRIEVE, with nothing of a vertical left and its retrieve timer begun. -/
structure RetrieveBegun (s t : State) : Prop where
  state : t.run.state = .retrieve
  vertical : t.run.vertical = none ∧ t.run.cursor = none
  timers : t.run.traverseAt = none ∧ t.run.cableAt = none ∧ t.run.settleAt = none
  retrieveAt : t.run.retrieveAt = some (s.now + 1000 * s.header.traverseTimeout)
  rotor : t.pls.rotor.state = .idle ∧ t.pls.rotor.result = none ∧ t.pls.rotor.exposureAt = none ∧
    t.pls.rotor.missAt = none
  latches : t.pls.surface = { state := .idle, armTime := none, value := none } ∧
    t.pls.bottom = { state := .idle, armTime := none, value := none }
  marker : t.run.marker = s.run.marker
  held : t.run.held = s.run.held
  command : ∀ a, s.run.held = some a → HandedOver .retrieve a t

/-- R150: the run is aborted by `cause`, its completed verticals kept. -/
structure RunAborted (cause : RunOutcome) (s t : State) : Prop where
  retrieve : RetrieveBegun s t
  record : t.run.record = s.run.record.map fun r => { r with outcome := some cause }

/-- R151: `cause` has come to a run that is not working: a flag of a run out of IDLE, and otherwise nothing. -/
structure CauseNoted (cause : RunOutcome) (s t : State) : Prop where
  state : t.run.state = s.run.state
  marker : t.run.marker = s.run.marker
  pls : t.pls = s.pls
  record : t.run.record =
    if s.run.state = .idle then s.run.record
    else s.run.record.map fun r => { r with flags := r.flags.withCause cause }

/-- R132: the run that an accepted START-RUN for plan table `n` begins, its winch that of the lowest WINCH entry `i` and
its first vertical that of the first MEASURE entry `m`. -/
structure RunBegun (n i m : Nat) (s t : State) : Prop where
  holder : activeRole s.cht.view s.tbl.channels i = some .winch ∧
    ∀ j, j < i → activeRole s.cht.view s.tbl.channels j ≠ some .winch
  first : m < u8 (s.tbl.plan n) 42 ∧ (planEntry (s.tbl.plan n) m).kind = kindMeasure ∧
    ∀ j, j < m → (planEntry (s.tbl.plan n) j).kind ≠ kindMeasure
  held : t.run.held = some (chanEntry s.tbl.channels i).addr
  marker : t.run.marker =
    some
      { plan := n, planId := u16 (s.tbl.plan n) 0, addr := (chanEntry s.tbl.channels i).addr, start := s.clk.time,
        startValid := s.clk.valid, written := false }
  record : t.run.record =
    some
      { plan := n, planId := u16 (s.tbl.plan n) 0, start := s.clk.time, startValid := s.clk.valid,
        startStage := s.stg.selected.map Selected.mm, verticals := [], outcome := none, flags := noGaugeFlags,
        figures := none, fromMarker := false }
  state : t.run.state = .traverse ∧ t.run.cursor = some m
  target : t.run.vertical.map Vertical.targetX = some (planEntry (s.tbl.plan n) m).x
  timer : t.run.traverseAt = some (s.now + 1000 * u16 (s.tbl.plan n) 28)
  move : MoveObtained (.traverseTo (planEntry (s.tbl.plan n) m).x) (ReleaseMode.ofCode (u8 (s.tbl.plan n) 35)) s t

/-- R48, R49, R53, R59: what the level does where the target is computed in an event that takes `s` to `t`, by the target at
its end, but for a stand-down that is to start. -/
structure LevelUpheld (s t : State) : Prop where
  rise : s.wrn.level < t.wrn.target →
    t.wrn.level = t.wrn.target ∧ t.wrn.standDown = none ∧ t.wrn.silenced = false ∧ t.wrn.test = none ∧
    ∃ c, RiseCause t.wrn s.tbl.rules t.wrn.target c ∧
      t.store = s.store.append
        (.warning
          { time := s.clk.time, valid := s.clk.valid, old := s.wrn.level, new := t.wrn.target, cause := c,
            stage := s.stg.selected.map Selected.mm, discharge := s.rat.latest.bind RatResult.discharge })
  imposed : s.wrn.level < t.wrn.target → cfgStopLevel s.tbl.config ≤ t.wrn.target →
    (s.run.state.working = true → RunAborted .abortedWarning s t) ∧
    (s.run.state.working = false → CauseNoted .abortedWarning s t) ∧
    (s.loop.grant.state = .held ∨ s.loop.grant.state = .closing → t.loop.grant.state = .claiming)
  still : t.wrn.target = s.wrn.level →
    t.wrn.level = s.wrn.level ∧ t.wrn.standDown = none ∧ t.wrn.silenced = s.wrn.silenced ∧ t.wrn.test = s.wrn.test ∧
    t.store = s.store
  above : t.wrn.target < s.wrn.level → s.wrn.standDown.isSome = true →
    t.wrn.level = s.wrn.level ∧ t.wrn.standDown = s.wrn.standDown ∧ t.wrn.test = s.wrn.test ∧ t.store = s.store
  apart : t.wrn.target < cfgStopLevel s.tbl.config ∨ t.wrn.target ≤ s.wrn.level → t.run = s.run ∧ t.pls = s.pls

/-- R48 to R51, R53, R59: what the level does in an evaluation event that takes `s` to `t`, by the target at its end. -/
structure LevelMoved (s t : State) : Prop extends LevelUpheld s t where
  start : t.wrn.target < s.wrn.level → s.wrn.standDown = none → cfgStandDown s.tbl.config s.wrn.level ≠ 0 →
    t.wrn.level = s.wrn.level ∧ t.store = s.store ∧ t.wrn.test = s.wrn.test ∧
    t.wrn.standDown = some
      { start := s.now, level := s.wrn.level, expiry := s.now + cfgStandDown s.tbl.config s.wrn.level }
  fall : t.wrn.target < s.wrn.level → s.wrn.standDown = none → cfgStandDown s.tbl.config s.wrn.level = 0 →
    t.wrn.level = t.wrn.target ∧ t.wrn.standDown = none ∧ t.wrn.test = none ∧ t.wrn.silenced = s.wrn.silenced ∧
    t.store = s.store.append
      (.warning
        { time := s.clk.time, valid := s.clk.valid, old := s.wrn.level, new := t.wrn.target, cause := .standDown,
          stage := s.stg.selected.map Selected.mm, discharge := s.rat.latest.bind RatResult.discharge })

/-- R44, R46, R48 to R51: the evaluation that takes `s` to `t` at a new selected stage: the STAGE and DISCHARGE rules see
it and its instant discharge, and the level moves by the target, as from `s` with the stage unit and the rating as they now
are and the store `st`. -/
structure StageEvaluated (st : Store) (s t : State) : Prop where
  rules : s.wrn.rules.length = 12 → ∀ v, t.stg.selected = some v → ∀ i, i < 12 →
    RuleMoved (ruleEntry s.tbl.rules i)
      (if (ruleEntry s.tbl.rules i).source = 0 then some v.mm
      else if (ruleEntry s.tbl.rules i).source = 1 then (s.discharge v.mm).discharge.map Int.ofNat
      else none)
      (s.wrn.ruleState i) (t.wrn.ruleState i)
  target : t.wrn.target = t.wrn.targetOf s.tbl.rules
  resetHold : t.wrn.resetHold = false
  stageLost : t.wrn.stageLost = false
  level : LevelMoved (((s.setStg t.stg).setRat t.rat).setStore st) t

/-- R11, R12, R19, R36, R44: `v` has become the selected stage in an event that takes `s` to `t`, the stage unit being `g`
before it is handed on and the store `st`: to the rating, the warning unit and the open interval. -/
structure Published (g : Stg) (v : Selected) (st : Store) (s t : State) : Prop where
  frame : EventFrame [.stg, .rat, .wrn, .run, .pls, .store, .upl] s t
  port : s.upl.PortKept t.upl
  stage : t.stg = { g with selected := some v, acc := g.acc.add v (s.discharge v.mm) }
  discharge : t.rat = { s.rat with latest := some (s.discharge v.mm) }
  warning : StageEvaluated st s t

/-- R2, R3, R92: the delivery of a good SAMPLE to the stage unit: its value, scaled by entry `i` and held to the
range, is judged now for the source that the entry's role names. -/
def SampleDelivered (i : Nat) (payload : List Byte) (s t : State) : Prop :=
  ∃ (v : Int) (c : Sample),
    v = (chanEntry s.tbl.channels i).offset +
      roundDiv ((u16 payload (2 * (chanEntry s.tbl.channels i).index - 1) : Int) * (chanEntry s.tbl.channels i).gain)
        65536 ∧
    c.mm = max (-2000) (min 20000 v) ∧ (c.clamped = true ↔ v < -2000 ∨ 20000 < v) ∧
    ∀ p, p ∈ [Block.stg, .rat, .wrn, .run, .pls, .store] →
      p.same (judgeSample (if (chanEntry s.tbl.channels i).role = 0 then .primary else .secondary) c s.now s) t

/-! ## Transactions and grants (chapters 4 and 6) -/

/-- R6, R73, R80: the missing-sample notification of a channel, by the role that its entry holds. -/
def MissingNoted (role : Option Role) (s t : State) : Prop :=
  match role with
  | some .stagePrimary =>
    t.stg =
      { s.stg with
        recovery := (if s.stg.selection = .secondary then 0 else s.stg.recovery),
        acc := { s.stg.acc with flags := { s.stg.acc.flags with missedPolls := true } } }
  | some .stageSecondary =>
    t.stg = { s.stg with acc := { s.stg.acc with flags := { s.stg.acc.flags with missedPolls := true } } }
  | _ => t.stg = s.stg

/-- R73, R74: the poll of channel `ch` at the node `addr` has ended with the failure `k`; what is outstanding now, if
anything, has been chosen since. Besides LOOP, CTL's pending reply and STG only the parts listed change. -/
structure PollFailed (bs : List Block) (k : RxFault) (ch addr : Nat) (s t : State) : Prop where
  others : ChangesOnly (.loop :: .ctl :: .stg :: bs) s t
  ctl : s.ctl.QueueKept t.ctl
  line : t.loop.jam = s.loop.jam ∧ t.loop.lineBreak = s.loop.lineBreak
  counts : t.loop.unsolicited = s.loop.unsolicited ∧ t.loop.droppedService = s.loop.droppedService
  faults : t.loop.faults = s.loop.faults.count k
  node : t.loop.nodeCount addr = min (s.loop.nodeCount addr + 1) 255
  nodes : ∀ b, b ≠ addr → t.loop.nodeCount b = s.loop.nodeCount b
  outcome : ∀ p, s.loop.poll? ch = some p →
    ∃ q, t.loop.poll? ch = some q ∧ q.last = some (.failed k) ∧ q.missed = p.missed ∧ q.skipped = p.skipped
  missing : MissingNoted (activeRole s.cht.view s.tbl.channels ch) s t
  ended : ∀ x, t.loop.txn = some x → x.phase = .queued ∨ x.phase = .sending

/-- R152: what one more failure of the winch at `addr` does to the run: the third in a row, and any rise after it, aborts
it with ABORTED-LOOP or is noted; a count at 255 that stays, and an earlier failure, leave it where it is. -/
structure WinchFailed (addr : Nat) (s t : State) : Prop where
  aborted : 2 ≤ s.loop.nodeCount addr → s.loop.nodeCount addr < 255 → s.run.state.working = true →
    RunAborted .abortedLoop s t
  noted : 2 ≤ s.loop.nodeCount addr → s.loop.nodeCount addr < 255 → s.run.state.working = false →
    CauseNoted .abortedLoop s t
  kept : s.loop.nodeCount addr < 2 ∨ 255 ≤ s.loop.nodeCount addr →
    t.run.state = s.run.state ∧ t.run.record = s.run.record ∧ t.run.vertical = s.run.vertical ∧
    t.run.marker = s.run.marker ∧ t.pls = s.pls

/-- R67, R72: a frame whose length and CRC are good. -/
def BodyGood (b : FrameBody) : Prop :=
  b.payload.length ≤ 48 ∧ b.crc = crc16 (b.kind :: BitVec.ofNat 8 b.payload.length :: b.payload)

/-- R67, R72: the kind of failure of a frame that is not good, its length being judged before its CRC. -/
def bodyFailure (b : FrameBody) : RxFault := if 48 < b.payload.length then .length else .crc

/-- R72: the reply `b`, with the address character `a`, to the node `addr` fails at its end by `k`: in its length or CRC, or
as a STRAY from another node. -/
def ReplyFails (b : FrameBody) (a : Byte) (addr : Nat) (k : RxFault) : Prop :=
  (¬ BodyGood b ∧ k = bodyFailure b) ∨ (BodyGood b ∧ a.toNat ≠ addr ∧ k = .stray)

/-- R73, R74, R83, R138, R147, R152: the transaction of RUN's command `c` to its winch at `a` has ended with the failure `k`,
of which LOOP's arbiter and RUN have been told. -/
structure CommandFailed (c : RunCmd) (a : Nat) (k : RxFault) (s t : State) : Prop where
  others : ChangesOnly [.loop, .ctl, .run, .pls] s t
  ctl : s.ctl.QueueKept t.ctl
  node : t.loop.nodeCount a = min (s.loop.nodeCount a + 1) 255
  nodes : ∀ x, x ≠ a → t.loop.nodeCount x = s.loop.nodeCount x
  faults : t.loop.faults = s.loop.faults.count k
  winch : WinchFailed a s t
  told : s.run.haltId ≠ some c.id → t.run.told = some (c.id, .failed k)
  enquiry : ∀ x w, s.run.lastCmd = some (x, w) → x.id = c.id → s.loop.nodeCount a < 2 →
    s.run.state = .retrieve ∨ (s.run.state = .verify ∧ x.kind = .poll) →
    t.run.enquiryAt = some (s.now + 1000) ∧ t.run.retrieveSent = s.run.retrieveSent

/-- R72, R73: the good reply `b` of the node `addr` to the poll of channel `ch` has come to its end. -/
structure GoodReply (s : State) (ch addr : Nat) (b : FrameBody) : Prop where
  awake : s.resetLine = false
  channel : ch < 24
  node : 1 ≤ addr ∧ addr ≤ 30
  counts : s.loop.nodeFail.length = 30
  txn : s.loop.txn = some { asker := .poll ch, addr := addr, phase := .replying }
  rx : s.loop.rx = some { addr := BitVec.ofNat 8 addr, context := .reply }
  good : BodyGood b

/-- R73, R74: the poll of channel `ch` has ended with its good reply `b`, and the count of its node is cleared. -/
structure PollAnswered (ch addr : Nat) (b : FrameBody) (s t : State) : Prop where
  ctl : t.ctl.resetWait = s.ctl.resetWait ∧ t.ctl.lastRefusal = s.ctl.lastRefusal
  rx : t.loop.rx = none
  faults : t.loop.faults = s.loop.faults
  node : t.loop.nodeCount addr = 0
  nodes : ∀ x, x ≠ addr → t.loop.nodeCount x = s.loop.nodeCount x
  outcome : ∀ p, s.loop.poll? ch = some p →
    ∃ q, t.loop.poll? ch = some q ∧ q.last = some .good ∧ q.missed = (if b.kind = 16 then false else p.missed) ∧
      q.skipped = p.skipped

/-- R89: a reply of kind `kind` from `addr` is handled in the place of the held winch address. -/
def InHeldPlace (s : State) (addr : Nat) (kind : Byte) : Prop :=
  (kind = 18 ∨ kind = 19) ∧ s.run.held = some addr

/-- R89: entry `i` is ACTIVE with the node address `addr`. -/
def Names (s : State) (i addr : Nat) : Prop :=
  i < 24 ∧ activeIn s.cht.view i = true ∧ (chanEntry s.tbl.channels i).addr = addr

/-- R89 steps 2 and 3: a reply to the poll of `ch` that is not for the held winch address belongs to entry `i`: the channel
polled, where that still names the address, and otherwise the lowest entry that does. -/
def BelongsTo (s : State) (ch addr : Nat) (i : Nat) : Prop :=
  Names s i addr ∧ (i = ch ∨ (¬ Names s ch addr ∧ ∀ j, j < i → ¬ Names s j addr))

/-- R98: the counts of an entry after one frame more: classified, delivered or not, forwarded or not, discarded for a
reason or not. -/
def EntryStats.after (e : EntryStats) (delivered forwarded : Bool) (reason : Option DiscardReason) : EntryStats :=
  { e with
    classified := inc16 e.classified, delivered := if delivered then inc16 e.delivered else e.delivered,
    forwarded := if forwarded then inc16 e.forwarded else e.forwarded,
    discarded := if reason.isSome then inc16 e.discarded else e.discarded,
    reason := if reason.isSome then reason else e.reason }

/-- CHT has changed in the counts of entry `i` alone. -/
def Counted (i : Nat) (f : EntryStats → EntryStats) (s t : State) : Prop :=
  t.cht = { s.cht with stats := s.cht.stats.modify i f }

/-- R93, R94, R175, R179: the frame stands last in the forward queue under entry `i`, a full queue having lost its oldest
item, of which a copy being sent goes on as that of an item dropped; or, where `wanted` is false, the queue is as it
was. -/
def Forwarded (wanted : Bool) (i addr : Nat) (b : FrameBody) (s t : State) : Prop :=
  t.upl.fwdQ =
      (if wanted then
        (if s.upl.fwdQ.length < 8 then s.upl.fwdQ else s.upl.fwdQ.tail) ++
          [{ number := s.upl.nextFwd, channel := i, addr := addr, time := s.clk.time, valid := s.clk.valid,
             kind := b.kind, payload := b.payload }]
      else s.upl.fwdQ) ∧
    t.upl.nextFwd = (if wanted then (s.upl.nextFwd + 1) % 65536 else s.upl.nextFwd) ∧
    ∀ it, s.upl.buffer = some it →
      t.upl.buffer =
        some
          { it with
            dropped := it.dropped || (wanted && 8 ≤ s.upl.fwdQ.length && it.cls == .forward &&
              s.upl.fwdQ.head?.map FwdItem.number == some it.number) }

/-- R70, R91, R96, R188, R189: a SERVICE-IN from the node `addr` under entry `i`: an empty one is discarded as FORM; another
is delivered, as a request into the control queue, or, when that is full, as a BUSY answer to the node, or as one
dropped when the service queue is full too. -/
def ServiceAsked (i addr : Nat) (b : FrameBody) (s t : State) : Prop :=
  t.ctl.droppedBusy = s.ctl.droppedBusy ∧ s.upl.PortKept t.upl ∧
  if b.payload = [] then Counted i (fun e => e.after false false (some .form)) s t ∧ t.ctl.queue = s.ctl.queue
  else
    Counted i (fun e => e.after true false none) s t ∧
    if s.ctl.queue.length < 4 then
      t.ctl.queue = s.ctl.queue ++ [{ origin := .service addr, payload := b.payload }] ∧
      t.loop.droppedService = s.loop.droppedService ∧
      t.upl.ready =
        (if 3 ≤ s.ctl.queue.length + 1 then false else if s.ctl.queue.length + 1 ≤ 1 then true else s.upl.ready)
    else
      t.ctl.queue = s.ctl.queue ∧ t.upl.ready = s.upl.ready ∧
      if s.loop.serviceQ.length < 4 then
        t.loop.droppedService = s.loop.droppedService ∧
        { addr := addr, payload := [0x80, b.payload.headD 0, 1], resets := false } ∈ serviceOut t
      else t.loop.droppedService = s.loop.droppedService + 1

/-- R92: the first fault of a SAMPLE under an entry of value index `index`. -/
def sampleFault (index : Nat) (payload : List Byte) : Option DiscardReason :=
  if payload.length ≠ 3 ∧ payload.length ≠ 5 ∧ payload.length ≠ 7 ∧ payload.length ≠ 9 then some .form
  else if u8 payload 0 ≠ 0 then some .nodeFault
  else if (payload.length - 1) / 2 < index then some .shortSample
  else none

/-- R95: the payload is that of the POSITION `p` from `addr`, arriving now. -/
structure HoldsPosition (payload : List Byte) (addr : Nat) (s : State) (p : Position) : Prop where
  length : payload.length = 9
  x : u32 payload 0 ≤ 500000 ∧ p.x = u32 payload 0
  cable : -1000 ≤ i32 payload 4 ∧ i32 payload 4 ≤ 60000 ∧ p.cable = i32 payload 4
  winch : WinchState.ofCode (u8 payload 8) = some p.winch
  origin : p.addr = addr ∧ p.arrived = s.now

/-- R111: the grant has ended with this cause at this count of frames. -/
structure GrantEnded (cause : GrantEnd) (count : Nat) (s t : State) : Prop where
  released : t.loop.grant.held = false
  cause : t.loop.grant.lastEnd = some (cause, count)
  timers : t.loop.grant.timerAt = none ∧ t.loop.grant.wait = none
  interleave : t.loop.grant.interleaveAt =
    if cfgInterleave s.tbl.config = 0 then none else some (s.now + cfgInterleave s.tbl.config)
  told : t.run.grantKnown = none

/-- R72, R104, R110, R152: a frame under the grant has ended with the failure `k`, counted against the granted node; `cut` is
the marked character that cut it and began the next one. -/
structure GrantFrameFailed (bs : List Block) (k : RxFault) (cut : Option Byte) (s t : State) : Prop where
  frame : EventFrame (.loop :: bs) s t
  rx : t.loop.rx = cut.map fun m => { addr := m, context := .granted }
  faults : t.loop.faults = s.loop.faults.count k
  count : t.loop.grant.count = s.loop.grant.count ∧ t.loop.grant.node = s.loop.grant.node
  node : t.loop.nodeCount s.loop.grant.node = min (s.loop.nodeCount s.loop.grant.node + 1) 255
  wait : t.loop.grant.wait = s.loop.grant.wait.map fun w =>
    { w with expiry := if cut.isSome then none else some (s.fineNow + w.length * loopChar s.loop.rate) }
  winch : s.run.held = some s.loop.grant.node → WinchFailed s.loop.grant.node s t
  other : s.run.held ≠ some s.loop.grant.node → t.run = s.run ∧ t.pls = s.pls
  state : t.loop.grant.state =
    if s.run.held = some s.loop.grant.node ∧ 2 ≤ s.loop.nodeCount s.loop.grant.node ∧
        s.loop.nodeCount s.loop.grant.node < 255 ∧ s.run.state.working = true then .claiming
    else s.loop.grant.state

/-- R71, R75, R104: as what a frame is received that begins when another than a reply has ended. -/
def NextContext (s : State) : RxContext :=
  if s.loop.grant.held then .granted
  else
    match s.loop.txn with
    | some { phase := .waiting _, .. } => .reply
    | _ => .unsolicited

/-- R110: the claim wait, if it runs, restarts now. -/
def ClaimWaitRestarted (s t : State) : Prop :=
  s.loop.grant.held = true →
    t.loop.grant.wait = s.loop.grant.wait.map fun w =>
      { w with expiry := some (s.fineNow + w.length * loopChar s.loop.rate) }

/-- R89 to R98: a good frame that came under a grant is handled by the role of entry `i`: what CHT counts, discards,
delivers and forwards, and what else may change. -/
structure HandledByRole (i addr : Nat) (b : FrameBody) (s t : State) : Prop where
  empty : b.kind = 17 → EventFrame [.loop, .cht] s t ∧ Counted i (fun e => e.after false false none) s t
  forward : b.kind ≠ 17 → (chanEntry s.tbl.channels i).role = 3 →
    EventFrame [.loop, .cht, .run, .upl] s t ∧ Counted i (fun e => e.after false true none) s t ∧
    Forwarded true i addr b s t
  kind : b.kind ≠ 17 →
    ((chanEntry s.tbl.channels i).role ≤ 1 ∧ b.kind ≠ 16) ∨
      ((chanEntry s.tbl.channels i).role = 2 ∧ b.kind ≠ 18 ∧ b.kind ≠ 19) ∨
      ((chanEntry s.tbl.channels i).role = 4 ∧ b.kind ≠ 20) →
    EventFrame [.loop, .cht, .run] s t ∧ Counted i (fun e => e.after false false (some .kind)) s t
  sampleBad : ∀ d, b.kind = 16 → (chanEntry s.tbl.channels i).role ≤ 1 →
    sampleFault (chanEntry s.tbl.channels i).index b.payload = some d →
    EventFrame [.loop, .cht, .upl] s t ∧ Forwarded ((chanEntry s.tbl.channels i).alsoForward == 1) i addr b s t ∧
    Counted i
      (fun e =>
        { e.after false ((chanEntry s.tbl.channels i).alsoForward == 1) (some d) with
          nodeStatus := if d = .nodeFault then b.payload.head? else e.nodeStatus }) s t
  sample : b.kind = 16 → (chanEntry s.tbl.channels i).role ≤ 1 →
    sampleFault (chanEntry s.tbl.channels i).index b.payload = none →
    EventFrame [.loop, .cht, .stg, .rat, .wrn, .run, .pls, .store, .upl] s t ∧
    Forwarded ((chanEntry s.tbl.channels i).alsoForward == 1) i addr b s t ∧ SampleDelivered i b.payload s t ∧
    Counted i
      (fun e =>
        { e.after true ((chanEntry s.tbl.channels i).alsoForward == 1) none with
          nodeStatus := some 0, lastDelivery := some s.now }) s t
  position : b.kind = 18 → (chanEntry s.tbl.channels i).role = 2 →
    EventFrame [.loop, .cht, .run] s t ∧
    ((∀ p, ¬ HoldsPosition b.payload addr s p) → Counted i (fun e => e.after false false (some .form)) s t) ∧
    ∀ p, HoldsPosition b.payload addr s p → Counted i (fun e => e.after true false none) s t
  burstEnd : b.kind = 19 → (chanEntry s.tbl.channels i).role = 2 →
    EventFrame [.loop, .cht, .run] s t ∧
    Counted i (fun e => e.after false false (if b.payload = [] then none else some .form)) s t
  service : b.kind = 20 → (chanEntry s.tbl.channels i).role = 4 →
    EventFrame [.loop, .ctl, .cht, .upl] s t ∧ t.ctl.resetWait = s.ctl.resetWait ∧
    t.ctl.lastRefusal = s.ctl.lastRefusal ∧ ServiceAsked i addr b s t

/-- R95, R134: RUN as CHT leaves it by the frame `b` under entry `i`: with no winch held, a good POSITION of a WINCH entry
becomes the latest one; no other frame but a stage sample reaches it. -/
def RunHears (i addr : Nat) (b : FrameBody) (s : State) (r : Run) : Prop :=
  (∀ p, b.kind = 18 → (chanEntry s.tbl.channels i).role = 2 → s.run.held = none → HoldsPosition b.payload addr s p →
    r = { s.run with position := some p }) ∧
  (b.kind ≠ 18 ∨ (chanEntry s.tbl.channels i).role ≠ 2 ∨ s.run.held ≠ none ∨
      (∀ p, ¬ HoldsPosition b.payload addr s p) → r = s.run)

/-- R74, R104: the frame from `a` under the grant was good: it is over, and the granted node's count is cleared where the
frame is its own. -/
structure GrantFrameHeard (a : Byte) (s t : State) : Prop where
  rx : t.loop.rx = none
  faults : t.loop.faults = s.loop.faults
  line : t.loop.jam = s.loop.jam ∧ t.loop.lineBreak = s.loop.lineBreak ∧ t.loop.unsolicited = s.loop.unsolicited
  node : a.toNat = s.loop.grant.node → t.loop.nodeCount s.loop.grant.node = 0
  nodes : ∀ x, x ≠ a.toNat ∨ x ≠ s.loop.grant.node → t.loop.nodeCount x = s.loop.nodeCount x
  others : a.toNat ≠ s.loop.grant.node → t.loop.nodeFail = s.loop.nodeFail

/-- R104 to R106, R110, R111: a POSITION frame of the granted node is counted, whatever CHT made of it, and watched for the
end of the move by its state character; at the burst limit it ends the grant. `r` is RUN as CHT has left it. -/
structure PositionCounted (payload : List Byte) (r : Run) (s t : State) : Prop where
  counted : s.loop.grant.count + 1 < s.loop.grant.limit →
    t.run = r ∧ t.loop.grant.count = s.loop.grant.count + 1 ∧ t.loop.grant.timerAt = s.loop.grant.timerAt
  done : s.loop.grant.count + 1 < s.loop.grant.limit →
    (payload.length = 9 ∧ ∃ w, WinchState.ofCode (u8 payload 8) = some w ∧ w ≠ .moving) →
    s.loop.grant.mode ≠ .hold → s.loop.grant.state = .held →
    t.loop.grant.state = .closing ∧
    t.loop.grant.wait =
      some
        { length := cfgReplyTimeout s.tbl.config,
          expiry := some (s.fineNow + cfgReplyTimeout s.tbl.config * loopChar s.loop.rate) }
  goesOn : s.loop.grant.count + 1 < s.loop.grant.limit →
    ¬ (payload.length = 9 ∧ ∃ w, WinchState.ofCode (u8 payload 8) = some w ∧ w ≠ .moving) ∨
      s.loop.grant.mode = .hold ∨ s.loop.grant.state ≠ .held →
    t.loop.grant.state = s.loop.grant.state ∧ ClaimWaitRestarted s t
  limit : s.loop.grant.limit ≤ s.loop.grant.count + 1 →
    GrantEnded .limit (s.loop.grant.count + 1) s t ∧ t.run.state = r.state ∧ t.run.position = r.position ∧
    t.run.record = r.record ∧ t.run.vertical = r.vertical ∧ t.run.marker = r.marker

/-- R104 to R107, R111: what a good frame from `a`, other than a stage sample, does to the grant and, by way of it, to RUN,
which CHT has left as `r`: a POSITION of the granted node is counted, its BURST-END, where `ends` says that CHT hands one
on, ends the grant, and any other frame leaves the grant. -/
structure GrantWatches (a : Byte) (b : FrameBody) (ends : Prop) (r : Run) (s t : State) : Prop where
  counted : a.toNat = s.loop.grant.node → b.kind = 18 → PositionCounted b.payload r s t
  ended : a.toNat = s.loop.grant.node → ends →
    GrantEnded (if s.loop.grant.state = .claiming then .claimAnswered else .burstEnd) s.loop.grant.count s t ∧
    t.run.state = r.state ∧ t.run.position = r.position ∧ t.run.record = r.record ∧ t.run.vertical = r.vertical ∧
    t.run.marker = r.marker
  kept : a.toNat ≠ s.loop.grant.node ∨ (b.kind ≠ 18 ∧ ¬ ends) →
    t.run = r ∧ t.loop.grant.state = s.loop.grant.state ∧ t.loop.grant.count = s.loop.grant.count ∧
    t.loop.grant.timerAt = s.loop.grant.timerAt ∧ ClaimWaitRestarted s t

/-- R108: a CLAIM waits in its place or is on the transmitter. -/
def ClaimOnItsWay (t : State) : Prop := t.loop.claimPlace = true ∨ t.loop.tx.map OnAir.frame = some .claim

/-! ## Measurements (chapters 7 and 8) -/

/-- R115: a closure of the contact would be accepted now. -/
def ClosureAccepted (s : State) (c : Contact) : Prop :=
  ∀ l, (s.pls.input c).lastAccepted = some l → l + cfgDebounce s.tbl.config c ≤ s.now

/-- R123, R144: the rotor measurement has ended with this result. In EXPOSE, RUN has added the point and gone to the next
one or to LIFT; in any other state it leaves the result aside. -/
structure RotorEnded (res : RotorResult) (s t : State) : Prop where
  rotor : t.pls.rotor =
    { s.pls.rotor with state := .done, count := res.n, exposureAt := none, missAt := none, result := some res }
  aside : s.run.state ≠ .expose → t.run = s.run
  taken : ∀ v p rest, s.run.state = .expose → s.run.vertical = some v → v.points = p :: rest →
    t.run.vertical = some { v with points := rest, results := v.results ++ [pointResult s.header p res] } ∧
    t.run.cableAt = some (s.now + 1000 * s.header.cableTimeout) ∧ t.run.record = s.run.record ∧
    t.run.marker = s.run.marker ∧
    match rest with
    | [] =>
      t.run.state = .lift ∧
        MoveObtained (.cableTo (max (v.surface.getD 0 - 500) (-1000))) (ReleaseMode.ofCode s.header.cableMode) s t
    | q :: _ =>
      t.run.state = .pointSeek ∧ MoveObtained (.cableTo q.cable) (ReleaseMode.ofCode s.header.cableMode) s t

/-- R126: what a latch takes at a closure now: the cable count and the age of the latest position, if that has arrived
since the arm. -/
def LatchTakes (l : Latch) (s : State) (cable : Option (Int × Nat)) : Prop :=
  (∀ p, s.run.position = some p → l.armTime.getD 0 ≤ p.arrived →
    cable = some (p.cable, min (s.now - p.arrived) 65535)) ∧
  ((∀ p, s.run.position = some p → p.arrived < l.armTime.getD 0) → cable = none)

/-- R142: a point meant for the cable count `c`: a greater count is replaced by the bottom count,
and the point is then marked SHALLOW-POINT. -/
def placedAt (bottom : Int) (kind : PointKind) (c : Int) : PointSpec :=
  { kind := kind, cable := min c bottom, shallow := decide (bottom < c) }

/-- R141, R142: the points of a vertical of depth `d` that is not shallow, in the order of its method. -/
def placedPoints (m : Method) (surface bottom d : Int) : List PointSpec :=
  match m with
  | .onePoint => [placedAt bottom .p06 (surface + (6 * d + 5) / 10)]
  | .twoPoint => [placedAt bottom .p02 (surface + (2 * d + 5) / 10), placedAt bottom .p08 (surface + (8 * d + 5) / 10)]
  | .threePoint =>
    [placedAt bottom .p02 (surface + (2 * d + 5) / 10), placedAt bottom .p06 (surface + (6 * d + 5) / 10),
     placedAt bottom .p08 (surface + (8 * d + 5) / 10)]
  | .surface => [placedAt bottom .surface (surface + 100)]

/-- R149, R156: RUN is IDLE again, its marker cleared and its winch released, the latest position kept. -/
structure RunOver (s t : State) : Prop where
  state : t.run.state = .idle
  marker : t.run.marker = none
  held : t.run.held = none
  record : t.run.record = none ∧ t.run.vertical = none
  timers : t.run.traverseAt = none ∧ t.run.cableAt = none ∧ t.run.settleAt = none ∧ t.run.retrieveAt = none ∧
    t.run.enquiryAt = none
  position : t.run.position = s.run.position

/-- R149, R168 to R170: the run `r` is finished with this outcome and without adoption: its record is in the store. -/
def FinishedPoor (r : RunRec) (o : RunOutcome) (s t : State) : Prop :=
  RunOver s t ∧ t.rat = s.rat ∧
  ∃ g : GaugeRec, t.store = s.store.append (.gauging g) ∧ g.plan = r.plan ∧ g.planId = r.planId ∧ g.start = r.start ∧
    g.startValid = r.startValid ∧ g.stop = s.clk.time ∧ g.stopValid = s.clk.valid ∧ g.outcome = o ∧ g.grade = .poor ∧
    g.placement = none ∧ g.flags.shiftAdopted = false

/-- R160, R167: the flags of a run record and its figures hold one that a FAIR gauging may not carry: of the run, of a
vertical or a point, or of the computation. -/
def FlaggedPoor (r : RunRec) (c : Calc) : Prop :=
  { r.flags with
    verts :=
      { r.flags.verts with alternateUsed := false, shallowVertical := false, shallowPoint := false, noRotation := false } } ≠
    noGaugeFlags ∨
  (∃ v ∈ r.verticals, v.flags.periodShort = true ∨ v.flags.countClamped = true ∨ v.flags.velocityClamped = true) ∨
  c.stageGap = true ∨ c.unsteady = true ∨ c.noRating = true ∨ c.outOfRating = true

/-- R160, R167: they hold one that makes a gauging FAIR. -/
def FlaggedFair (r : RunRec) : Prop :=
  (r.flags.verts.shallowPoint = true ∨ r.flags.verts.shallowVertical = true ∨ r.flags.verts.noRotation = true) ∨
  ∃ v ∈ r.verticals, v.flags.shallowPoint = true ∨ v.flags.shallowVertical = true ∨ v.flags.noRotation = true

/-- R149, R168 to R170: the complete run `r` is finished with this grade and without adoption: its record is in the
store, with neither adoption flag. -/
def FinishedComplete (r : RunRec) (c : Calc) (grade : Grade) (s t : State) : Prop :=
  RunOver s t ∧ t.rat = s.rat ∧
  ∃ g : GaugeRec, t.store = s.store.append (.gauging g) ∧ g.plan = r.plan ∧ g.planId = r.planId ∧ g.start = r.start ∧
    g.startValid = r.startValid ∧ g.stop = s.clk.time ∧ g.stopValid = s.clk.valid ∧ g.outcome = .complete ∧
    g.grade = grade ∧ g.total = c.total ∧ g.gaugeHeight = c.gaugeHeight ∧ g.stageChange = c.stageChange ∧
    g.indicated = c.indicated ∧ g.ratingId = c.ratingId ∧ g.placement = none ∧ g.flags.shiftAdopted = false ∧
    g.flags.shiftLimit = false

/-- The run is where it was: nothing of its vertical, its record or its timers has moved. -/
structure RunWaits (s t : State) : Prop where
  state : t.run.state = s.run.state
  marker : t.run.marker = s.run.marker ∧ t.run.held = s.run.held
  vertical : t.run.vertical = s.run.vertical ∧ t.run.cursor = s.run.cursor
  record : t.run.record = s.run.record
  timers : t.run.traverseAt = s.run.traverseAt ∧ t.run.cableAt = s.run.cableAt ∧ t.run.settleAt = s.run.settleAt ∧
    t.run.retrieveAt = s.run.retrieveAt
  others : t.pls = s.pls ∧ t.store = s.store ∧ t.rat = s.rat

/-- R151: an expiry of the traverse or the cable timer that had come by the event is still to be taken after it. -/
def ExpiriesStand (s t : State) : Prop :=
  (s.traverseDue = true → t.traverseDue = true) ∧ (s.cableDue = true → t.cableDue = true)

/-- R136: a position that answers the command `answers`, if any, counts toward the move of the present state. -/
def CountsForMove (r : Run) (answers : Option Nat) : Prop :=
  ∃ m, r.moveId = some m ∧ (r.moveSent = true ∨ answers = some m)

/-- R147: a position counts toward HOME: a RETRIEVE has been sent or answered, or it answers one. -/
def CountsForHome (r : Run) (answers : Option Nat) : Prop :=
  r.retrieveSent = true ∨ ∃ c w, r.lastCmd = some (c, w) ∧ c.kind = .retrieve ∧ answers = some c.id

/-- R132, R145: entry `i` is the first MEASURE entry of a plan after entry `e`. -/
def NextMeasure (plan : List Byte) (e i : Nat) : Prop :=
  e < i ∧ i < u8 plan 42 ∧ (planEntry plan i).kind = kindMeasure ∧
    ∀ j, e < j → j < i → (planEntry plan j).kind ≠ kindMeasure

/-- R137: RUN has entered TRAVERSE afresh for entry `e`, toward `x`. -/
structure TraverseBegun (e x : Nat) (alternate : Bool) (s t : State) : Prop where
  state : t.run.state = .traverse ∧ t.run.cursor = some e
  vertical : t.run.vertical =
    some
      { entry := e, targetX := x, alternate := alternate, surface := none, bottom := none, depth := none,
        shallow := false, points := [], results := [] }
  timer : t.run.traverseAt = some (s.now + 1000 * s.header.traverseTimeout) ∧ t.run.cableAt = none ∧
    t.run.settleAt = none

/-- R139: the x of the SPARE that a failed traverse of the vertical `v` may take, if it may. -/
def SpareTaken (s : State) (r : RunRec) (v : Vertical) (x : Nat) : Prop :=
  (planEntry s.plan v.entry).alternate ≠ 255 ∧ v.alternate = false ∧
    x = (planEntry s.plan (planEntry s.plan v.entry).alternate).x ∧
    ((r.verticals.getLast?.map DoneVert.x).getD (planEntry s.plan 0).x) < x

/-- R145, R159, R160: the vertical `v` as LIFT completes it. -/
def CompletedVertical (s : State) (v : Vertical) (d : DoneVert) : Prop :=
  d.entry = v.entry ∧ d.x = v.targetX ∧ d.alternate = v.alternate ∧ d.results = v.results ∧
    (d.depth : Int) = max 0 (min 61000 (v.depth.getD 0)) ∧ d.latch = s.stg.selected.map Selected.mm ∧
    d.mean =
      meanVelocity s.header (methodOf s.header (planEntry s.plan v.entry)) v.shallow
        (v.results.map PointResult.velocity) ∧
    d.flags = vertFlags v.alternate v.shallow v.results

/-- R134 to R151: what a POSITION `p` from the held address, which answers the command `answers` if any, does to the run in
each state that RUN may be in. `obtains` says that the grant, if one is held, outlives the frame, so that the move asked
for is still the last command handed. -/
structure PositionJudged (p : Position) (answers : Option Nat) (obtains : Prop) (s t : State) : Prop where
  latest : t.run.position = some p
  fault : s.run.state.working = true → p.winch = .fault → RunAborted .abortedWinchFault s t
  stopped : s.run.state = .traverse → p.winch ≠ .fault → p.winch ≠ .moving → CountsForMove s.run answers →
    t.run.state = .verify ∧ t.run.vertical = s.run.vertical ∧ t.run.record = s.run.record ∧
    t.run.traverseAt = s.run.traverseAt ∧ t.pls = s.pls ∧
    ∀ a, s.run.held = some a → s.loop.grantedTo a = false → HandedOver .poll a t
  underway : s.run.state = .traverse → p.winch ≠ .fault → p.winch = .moving ∨ ¬ CountsForMove s.run answers →
    RunWaits s t
  resumed : ∀ r v, s.run.state = .verify → s.run.record = some r → s.run.vertical = some v → p.winch = .moving →
    t.run.state = .traverse ∧ t.run.vertical = s.run.vertical ∧ t.run.record = s.run.record ∧
    t.run.traverseAt = s.run.traverseAt ∧ t.pls = s.pls ∧
    (obtains → MoveObtained (.traverseTo v.targetX) (ReleaseMode.ofCode s.header.traverseMode) s t)
  confirmed : ∀ r v, s.run.state = .verify → s.run.record = some r → s.run.vertical = some v →
    p.winch = .atTarget ∨ p.winch = .idle ∨ p.winch = .home →
    |(p.x : Int) - v.targetX| ≤ (s.header.tolerance : Int) →
    t.run.state = .surfaceSeek ∧ t.run.vertical = s.run.vertical ∧ t.run.record = s.run.record ∧
    t.run.traverseAt = none ∧ t.run.cableAt = some (s.now + 1000 * s.header.cableTimeout) ∧
    t.pls = { s.pls with surface := { state := .armed, armTime := some s.now, value := none } } ∧
    (obtains → MoveObtained (.cableTo 60000) (ReleaseMode.ofCode s.header.cableMode) s t)
  spare : ∀ r v x, s.run.state = .verify → s.run.record = some r → s.run.vertical = some v → p.winch ≠ .fault →
    p.winch ≠ .moving → p.winch = .obstructed ∨ (s.header.tolerance : Int) < |(p.x : Int) - v.targetX| →
    SpareTaken s r v x →
    TraverseBegun v.entry x true s t ∧ t.run.record = s.run.record ∧ t.pls = s.pls ∧
    (obtains → MoveObtained (.traverseTo x) (ReleaseMode.ofCode s.header.traverseMode) s t)
  failed : ∀ r v, s.run.state = .verify → s.run.record = some r → s.run.vertical = some v → p.winch ≠ .fault →
    p.winch ≠ .moving → p.winch = .obstructed ∨ (s.header.tolerance : Int) < |(p.x : Int) - v.targetX| →
    (∀ x, ¬ SpareTaken s r v x) → RunAborted .positionError s t
  reached : s.run.state = .pointSeek → p.winch = .atTarget → CountsForMove s.run answers →
    t.run.state = (if s.header.settle = 0 then .expose else .settle) ∧ t.run.vertical = s.run.vertical ∧
    t.run.record = s.run.record ∧ t.run.cableAt = none
  seeking : s.run.state = .pointSeek ∨ s.run.state = .lift → p.winch ≠ .fault →
    p.winch ≠ .atTarget ∨ ¬ CountsForMove s.run answers → RunWaits s t
  lifted : ∀ r v, s.run.state = .lift → s.run.record = some r → s.run.vertical = some v → p.winch = .atTarget →
    CountsForMove s.run answers →
    ∃ d, CompletedVertical s v d ∧
      (∀ i, NextMeasure s.plan v.entry i →
        TraverseBegun i (planEntry s.plan i).x false s t ∧
        t.run.record = some { r with verticals := r.verticals ++ [d] } ∧
        (obtains →
          MoveObtained (.traverseTo (planEntry s.plan i).x) (ReleaseMode.ofCode s.header.traverseMode) s t)) ∧
      ((∀ i, ¬ NextMeasure s.plan v.entry i) →
        t.run.state = .close ∧ t.run.vertical = none ∧ t.run.cableAt = none ∧
        t.run.record =
          some
            { r with
              verticals := r.verticals ++ [d],
              figures := some (closeFigures s.plan (r.verticals ++ [d]) r.startStage) })
  still : s.run.state = .surfaceSeek ∨ s.run.state = .sound ∨ s.run.state = .settle ∨ s.run.state = .expose →
    p.winch ≠ .fault → RunWaits s t
  faultNoted : s.run.state = .retrieve ∨ s.run.state = .close → p.winch = .fault →
    t.run.state = s.run.state ∧ t.run.marker = s.run.marker ∧ t.store = s.store ∧
    t.run.record = s.run.record.map fun r => { r with flags := { r.flags with abortedWinchFault := true } }
  home : ∀ r, s.run.state = .retrieve → s.run.record = some r → p.winch = .home → CountsForHome s.run answers →
    (r.fromMarker = false → r.outcome = some .complete →
      t.run.state = .idle ∧ t.run.marker = none ∧ t.run.held = none ∧ t.run.record = none ∧
      ∃ g : GaugeRec, t.store = s.store.append (.gauging g) ∧ g.outcome = .complete ∧ g.plan = r.plan ∧
        g.planId = r.planId ∧ g.start = r.start ∧ g.stop = s.clk.time ∧
        g.flags.retrieveTimeout = r.flags.retrieveTimeout) ∧
    (r.fromMarker = false → r.outcome ≠ some .complete → r.verticals ≠ [] →
      t.run.state = .close ∧ t.run.marker = s.run.marker ∧ t.run.held = s.run.held ∧ t.store = s.store ∧
      t.run.record = some { r with figures := some (closeFigures (s.tbl.plan r.plan) r.verticals r.startStage) }) ∧
    (∀ o, r.fromMarker = false → r.outcome = some o → o ≠ .complete → r.verticals = [] →
      FinishedPoor r o (s.setRun { s.run with position := some p }) t) ∧
    (∀ m, r.fromMarker = true → s.run.marker = some m → m.written = false →
      FinishedPoor r .abortedPower (s.setRun { s.run with position := some p }) t) ∧
    (∀ m, r.fromMarker = true → s.run.marker = some m → m.written = true →
      RunOver (s.setRun { s.run with position := some p }) t ∧
      t.store = s.store.append
        (.notice
          { time := s.clk.time, valid := s.clk.valid,
            body := .runRetrieved m.planId m.start m.startValid s.clk.time true }))
  waits : s.run.state = .retrieve ∨ s.run.state = .close → p.winch ≠ .fault →
    s.run.state = .close ∨ p.winch ≠ .home ∨ ¬ CountsForHome s.run answers → RunWaits s t
  overdue : t.run.state ≠ .idle → ExpiriesStand s t

/-! ## The uplink (chapter 10) -/

/-- R174, R177: what the frame buffer holds after a choice: nothing with LINK low; with LINK high the first candidate in
the order REPLY, WARNING, FORWARD, GAUGING, INTERVAL, and nothing where no class holds one. -/
structure BufferChosen (t : State) : Prop where
  down : t.lines.link = false → t.upl.buffer = none
  reply : ∀ r, t.lines.link = true → t.upl.slot = some r →
    t.upl.buffer =
      some
        { cls := .reply, number := r.seq.toNat, frames := [replyFrame (cfgStationId t.tbl.config) r], elapsed := 0 }
  warning : ∀ r, t.lines.link = true → t.upl.slot = none → oldestUnsent t.store.records .warning = some r →
    t.upl.buffer =
      some { cls := .warning, number := r.seq, frames := reportFrames (cfgStationId t.tbl.config) r, elapsed := 0 }
  forward : ∀ f fs, t.lines.link = true → t.upl.slot = none → oldestUnsent t.store.records .warning = none →
    t.upl.fwdQ = f :: fs →
    t.upl.buffer =
      some { cls := .forward, number := f.number, frames := [forwardFrame (cfgStationId t.tbl.config) f], elapsed := 0 }
  gauging : ∀ r, t.lines.link = true → t.upl.slot = none → oldestUnsent t.store.records .warning = none →
    t.upl.fwdQ = [] → oldestUnsent t.store.records .gauging = some r →
    t.upl.buffer =
      some { cls := .gauging, number := r.seq, frames := reportFrames (cfgStationId t.tbl.config) r, elapsed := 0 }
  interval : ∀ r, t.lines.link = true → t.upl.slot = none → oldestUnsent t.store.records .warning = none →
    t.upl.fwdQ = [] → oldestUnsent t.store.records .gauging = none → oldestUnsent t.store.records .interval = some r →
    t.upl.buffer =
      some { cls := .interval, number := r.seq, frames := reportFrames (cfgStationId t.tbl.config) r, elapsed := 0 }
  nothing : t.upl.slot = none → t.upl.fwdQ = [] →
    (∀ c, c = .warning ∨ c = .gauging ∨ c = .interval → oldestUnsent t.store.records c = none) → t.upl.buffer = none

/-- R34: breakpoints of a rating in use: two or more, stages and discharges strictly increasing within their ranges. -/
def RatingGood (points : List (Int × Nat)) : Prop :=
  2 ≤ points.length ∧ points.Pairwise (fun p q => p.1 < q.1 ∧ p.2 < q.2) ∧
    ∀ p ∈ points, -2000 ≤ p.1 ∧ p.1 ≤ 20000 ∧ p.2 ≤ 100000000

/-! ## Properties that every step keeps -/

/-- R49, R59: the level stands at or above the target, and no run works while the interlock is in force. -/
def InterlockKept (s : State) : Prop :=
  s.wrn.target ≤ s.wrn.level ∧ (cfgStopLevel s.tbl.config ≤ s.wrn.level → s.run.state.working = false)

/-- R48 to R51, R55, R63: the target is the one the rules give and the level never below it; the stand-down timer runs
exactly while the level stands above the target and the reset hold has ended, for the level that stands; the relays show
the level's pattern. -/
structure WarningConsistent (s : State) : Prop where
  target : s.wrn.target = s.wrn.targetOf s.tbl.rules
  level : s.wrn.target ≤ s.wrn.level
  standDown : s.wrn.standDown.isSome = true ↔ s.wrn.target < s.wrn.level ∧ s.wrn.resetHold = false
  held : ∀ d, s.wrn.standDown = some d → d.level = s.wrn.level
  outputs : s.wrn.outputs = s.wrn.outputsOf s.tbl.patterns

/-- Each number follows the one before it, modulo 65,536, and the next sequence number follows the last. -/
def numbersRun (next : Nat) : List Nat → Prop
  | [] => True
  | [n] => next = (n + 1) % 65536
  | n :: m :: rest => m = (n + 1) % 65536 ∧ numbersRun next (m :: rest)

/-- R170, R172: the sequence numbers run consecutively, no record takes more than 40 slots, and the slots in use are those
of the records and at most 2,048. -/
structure StoreConsistent (st : Store) : Prop where
  numbers : numbersRun st.nextSeq (st.records.map StoreRec.seq)
  sizes : ∀ r ∈ st.records, r.content.slotCount ≤ 40
  slots : st.slotsUsed = (st.records.map fun r => r.content.slotCount).sum
  bound : st.slotsUsed ≤ 2048

/-- R129, R130, R132, R145, R161, R190: a run completes each MEASURE entry of its plan once, in the order of the entries,
so that it has at most 38 verticals; the plan of a vertical in progress is a good one, and the run marker guards it; and
a request in hand has been judged. -/
structure RunWithinPlan (s : State) : Prop where
  done : ∀ r, s.run.record = some r → r.verticals.length ≤ 38
  going : ∀ r v, s.run.record = some r → s.run.vertical = some v →
    r.verticals.length < v.entry ∧ v.entry ≤ 38 ∧ r.plan < 4 ∧ planFault (s.tbl.plan r.plan) = none ∧
    s.run.marker.map Marker.plan = some r.plan
  asked : ∀ q, s.work = some q → tableGood q = true ∧ ∀ n, q = .startRun n → n < 4

/-- R26: at most 16 shift records, in strictly increasing order of start time. -/
def ShiftsOrdered (rs : List ShiftRec) : Prop :=
  rs.length ≤ 16 ∧ (rs.map ShiftRec.start).Pairwise (· < ·)

/-- R133, R90: the marker is present exactly while RUN is out of IDLE, RUN then holds the address in it, and the working
run record stands. -/
structure MarkerConsistent (r : Run) : Prop where
  present : r.marker.isSome = true ↔ r.state ≠ .idle
  held : r.held = r.marker.map Marker.addr
  record : r.record.isSome = true ↔ r.state ≠ .idle

/-- R82, R103, R108, R111: while a grant is held no transaction is outstanding; the grant timer runs in HELD and CLOSING
alone; a claim cause stands in CLAIMING alone, a recorded claim in OPENING alone. -/
structure GrantConsistent (l : Loop) : Prop where
  exclusive : l.grant.held = true → l.txn = none
  timer : l.grant.timerAt.isSome = true ↔ l.grant.state = .held ∨ l.grant.state = .closing
  cause : l.grant.cause.isSome = true ↔ l.grant.state = .claiming
  recorded : l.grant.recorded.isSome = true → l.grant.state = .opening

/-- R7 to R9, R13, R36, R47: the selection is a VALID source, and NONE exactly when neither is VALID; the selected stage
and the latest instant discharge are present exactly while it is not NONE, and WRN holds stage to be lost exactly while
it is. -/
structure StageConsistent (s : State) : Prop where
  primary : s.stg.selection = .primary → s.stg.prim.state = .valid
  secondary : s.stg.selection = .secondary → s.stg.sec.state = .valid
  neither : s.stg.selection = .none ↔ s.stg.prim.state ≠ .valid ∧ s.stg.sec.state ≠ .valid
  primLast : s.stg.prim.last = none ↔ s.stg.prim.state = .noData
  secLast : s.stg.sec.last = none ↔ s.stg.sec.state = .noData
  selected : s.stg.selected = none ↔ s.stg.selection = .none
  discharge : s.rat.latest = none ↔ s.stg.selection = .none
  lost : s.wrn.stageLost = true ↔ s.stg.selection = .none

/-- R81, R85, R88: the view is the one the CHANNELS table gives, and the poll schedule has an entry for exactly the
ACTIVE entries. -/
structure ViewConsistent (s : State) : Prop where
  view : s.cht.view = viewOf s.tbl.channels
  size : s.loop.sched.length = 24
  polls : ∀ i, i < 24 → (s.loop.poll? i).isSome = activeIn s.cht.view i

/-- R17, R70, R175, R185, R188: the ring holds 64 entries, the queues hold what they may, and READY follows the control
queue. -/
structure QueuesBounded (s : State) : Prop where
  history : s.stg.history.length = 64
  control : s.ctl.queue.length ≤ 4
  service : s.loop.serviceQ.length ≤ 4
  forward : s.upl.fwdQ.length ≤ 8
  low : 3 ≤ s.ctl.queue.length → s.upl.ready = false
  high : s.ctl.queue.length ≤ 1 → s.upl.ready = true

/-- R192, R193, Table 62: every table has its size, and a request in hand has passed the table check. -/
structure TablesSized (s : State) : Prop where
  size : ∀ n, n ≤ 10 → n ≠ 3 → n ≠ 4 → (s.tableBytes n).length = tableSize n
  work : ∀ q, s.work = some q → tableGood q = true

end Sys2Proof.Machine
end

