-- ==== Sys2Proof/Certificates/Slice0/Obligations.lean ====
section
/-! DEFINITION. The statements for the provers. Each says that a command answers a next state, from hypotheses on the
state and the operands alone, what that state holds, and what is left as it was; or a property that every step keeps. -/

open Sys2Proof Sys2Proof.Machine

/-! ## The step -/

/-- One step takes the command at the front of the queue and runs it on the state with the rest of the queue. -/
def Obligations.StepRunsFrontCommand : Prop :=
  ∀ (c : Instr) (rest : List Instr) (s : State), s.pending = c :: rest →
    step s = exec c { s with pending := rest }

/-- With no command waiting, what is due is queued, and otherwise one millisecond passes: on the station clock, which
holds at its greatest value (R14), on the timebase (R15), and at the transmitter: the character of an abandoned item goes
on to its end first (R180), and then the characters of the item that is being sent (R178), but with CTS low only the one
begun, and none begins. Nothing else changes. That a step without a command does this (log entry 2), and that the
timebase stands still while the RESET line is asserted (log entry 5), are the model's choices. -/
def Obligations.IdleStepLetsTimePass : Prop :=
  ∀ s : State, s.pending = [] →
    (dueEvents s ≠ [] → step s = .next { s with pending := dueEvents s }) ∧
    (dueEvents s = [] →
      ∃ t, step s = .next t ∧
        t.clk.timebase = (if s.resetLine then s.clk.timebase else s.clk.timebase + 1) ∧
        t.clk.valid = s.clk.valid ∧
        t.clk.subMs = (if s.clk.subMs + 1 < 1000 then s.clk.subMs + 1 else 0) ∧
        t.clk.time = (if s.clk.subMs + 1 < 1000 then s.clk.time else min (s.clk.time + 1) 4294967295) ∧
        ChangesOnly [.clk, .upl] s t ∧
        t.upl =
          { s.upl with
            buffer :=
              if s.resetLine then s.upl.buffer
              else
                s.upl.buffer.map fun it =>
                  it.advance s.lines.cts (uplinkChar s.upl.rate) (fineMs - s.upl.tail),
            tail := if s.resetLine then s.upl.tail else s.upl.tail - fineMs } ∧
        ∀ it, s.resetLine = false → s.upl.buffer = some it → it.elapsed ≤ it.whole (uplinkChar s.upl.rate) →
          (fineMs ≤ s.upl.tail → t.upl.buffer = some it) ∧
          (s.lines.cts = true →
            t.upl.buffer =
              some
                { it with
                  elapsed := min (it.elapsed + (fineMs - s.upl.tail)) (it.whole (uplinkChar s.upl.rate)) }) ∧
          (s.lines.cts = false → it.elapsed % uplinkChar s.upl.rate = 0 → t.upl.buffer = some it) ∧
          (s.lines.cts = false → it.elapsed % uplinkChar s.upl.rate ≠ 0 → s.upl.tail < fineMs →
            ∃ e, t.upl.buffer = some { it with elapsed := e } ∧ it.elapsed < e ∧
              e ≤ it.elapsed + (fineMs - s.upl.tail) ∧
              e ≤ (it.elapsed / uplinkChar s.upl.rate + 1) * uplinkChar s.upl.rate))

/-- The part has no fault and refuses no command: each answers a next state in every state. That a command whose event
cannot arise in a state is answered, with that state as it is, is the model's choice (log entry 4). -/
def Obligations.NoCommandStops : Prop :=
  ∀ (c : Instr) (s : State), ∃ t, exec c s = .next t

/-- R14, R21, R36, R62, R63, R85, R114, R128, R156, R171, R187, R197, Table 64: the state right after reset. That it is a
delivered part at its first POWER-ON, its clock at 0 and INVALID and its lines low and open, is the model's choice (log
entry 31). -/
def Obligations.ResetStateHoldsItsValues : Prop :=
  AfterReset .powerOn State.reset ∧
    State.reset.clk.time = 0 ∧ State.reset.clk.valid = false ∧ State.reset.wrn.level = 0 ∧
    State.reset.run.marker = none ∧ State.reset.rat.shifts = [] ∧ State.reset.rat.live = ⟨0, 0, []⟩ ∧
    State.reset.store = { records := [], nextSeq := 0, slotsUsed := 0 } ∧
    cfgSpikeLimit State.reset.tbl.config = 150 ∧ cfgStaleLimit State.reset.tbl.config = 900000 ∧
    cfgIntervalLength State.reset.tbl.config = 15 ∧ cfgStopLevel State.reset.tbl.config = 2 ∧
    cfgLoopRate State.reset.tbl.config = 9600 ∧ cfgStationId State.reset.tbl.config = 1 ∧
    (∀ i, i < 24 → treatmentOf State.reset.tbl.channels i = .disabled) ∧
    (∀ n, n < 4 → planFault (State.reset.tbl.plan n) = some (240, 0))

/-- R196: the assertion of the RESET line changes nothing else, and while it stays asserted the part takes no event: each
command but the release and a POWER-ON leaves every part of the state as it is, but for the levels of the input lines.
That those are followed is the model's choice (log entry 5). -/
def Obligations.AssertedResetLineHoldsThePart : Prop :=
  (∀ s : State, exec .resetLineAssert s = .next { s with resetLine := true }) ∧
  ∀ (c : Instr) (s : State), s.resetLine = true → c ≠ .warmReset → (∀ h e l, c ≠ .powerOnReset h e l) →
    ∃ t, exec c s = .next t ∧ ChangesOnly [.lines] s t ∧ t.lines = followLines c s.lines

/-! ## The resets -/

/-- R14, R21, R40, R62, R85, R100, R128, R156, R187, R197: the main supply comes up. The clock has gone on where the backup
supply held, and otherwise restarts INVALID; the level is kept unless the fail-safe rules raise it, which writes a record
of cause STAGE-LOST; the tables, the shift records and the store are kept. The operands of the command, that the queue of
waiting commands is kept (log entry 28), and that an uplink character in progress is cut at once (log entry 60), are the
model's choice. -/
def Obligations.PowerOnResetTakesUpItsState : Prop :=
  ∀ (held : Bool) (elapsed : Nat) (lines : Lines) (s : State),
    ∃ t, exec (.powerOnReset held elapsed lines) s = .next t ∧ AfterReset .powerOn t ∧
      t.clk.time = (if held then min (s.clk.time + elapsed) 4294967295 else 0) ∧
      t.clk.valid = (held && s.clk.valid) ∧ t.lines = lines ∧ t.tbl = s.tbl ∧ t.rat.live = s.rat.live ∧
      t.rat.shifts = s.rat.shifts ∧ t.run.marker = s.run.marker ∧
      t.wrn.level = max s.wrn.level (failSafeTarget s.tbl.rules) ∧ t.pending = s.pending ∧
      t.store =
        if failSafeTarget s.tbl.rules ≤ s.wrn.level then s.store
        else s.store.append (.warning
          { time := t.clk.time, valid := t.clk.valid, old := s.wrn.level, new := failSafeTarget s.tbl.rules,
            cause := .stageLost, stage := none, discharge := none })

/-- R21, R62, R155, R195, R196: a WARM reset, at the release of the RESET line or when the reply to RESET-PART WARM has
gone: the open interval is closed with RESET-CLOSED, a run in progress is closed with a record and its marker marked
written, and then the state of a reset is taken up. The order of the three records is the model's reading (log entry 27),
and its choice are that the queue of waiting commands is kept (log entry 28) and that an uplink character in progress is
cut at once (log entry 60). -/
def Obligations.WarmResetClosesIntervalAndRun : Prop :=
  ∀ s : State, s.resetLine = true ∨ s.resetDue false = true →
    ∃ t, exec .warmReset s = .next t ∧ AfterReset .warm t ∧
      t.clk = { s.clk with timebase := 0 } ∧ t.lines = s.lines ∧ t.tbl = s.tbl ∧ t.rat.live = s.rat.live ∧
      t.rat.shifts = s.rat.shifts ∧ t.pending = s.pending ∧
      t.run.marker = (if s.runToClose.isSome then s.run.marker.map fun m => { m with written := true } else s.run.marker) ∧
      t.wrn.level = max s.wrn.level (failSafeTarget s.tbl.rules) ∧
      ∃ st₁ st₂, st₁ = s.store.append (.interval (intervalRecord s.stg.openStart
            { s.stg.acc with flags := { s.stg.acc.flags with resetClosed := true } })) ∧
        (match s.runToClose with
          | some r => ∃ g, st₂ = st₁.append (.gauging g) ∧ g.plan = r.plan ∧ g.start = r.start ∧ g.stop = s.clk.time ∧
              g.grade = .poor ∧ g.placement = none ∧ g.verticals.length = r.verticals.length ∧
              (s.run.state.working = true → g.outcome = .abortedReset) ∧
              (s.run.state.working = false → g.flags.abortedReset = true ∧ ∀ o, r.outcome = some o → g.outcome = o)
          | none => st₂ = st₁) ∧
        t.store =
          if failSafeTarget s.tbl.rules ≤ s.wrn.level then st₂
          else st₂.append (.warning
            { time := s.clk.time, valid := s.clk.valid, old := s.wrn.level, new := failSafeTarget s.tbl.rules,
              cause := .stageLost, stage := none, discharge := none })

/-- R64, R155, R187, R195: a COLD reset, when the reply to RESET-PART COLD has gone: the store is emptied, the level is 0
before the fail-safe rules, and the record of cause RESET-COLD takes the number 0. That the queue of waiting commands is
kept (log entry 28), and that an uplink character in progress is cut at once (log entry 60), are the model's choice. -/
def Obligations.ColdResetEmptiesTheStore : Prop :=
  ∀ s : State, s.resetLine = false → s.resetDue true = true →
    ∃ t, exec .coldReset s = .next t ∧ AfterReset .cold t ∧
      t.clk = { s.clk with timebase := 0 } ∧ t.lines = s.lines ∧ t.tbl = s.tbl ∧ t.rat.live = s.rat.live ∧
      t.rat.shifts = s.rat.shifts ∧ t.pending = s.pending ∧
      t.run.marker = (if s.runToClose.isSome then s.run.marker.map fun m => { m with written := true } else s.run.marker) ∧
      t.wrn.level = failSafeTarget s.tbl.rules ∧
      ∃ st, st = Store.append { records := [], nextSeq := 0, slotsUsed := 0 } (.warning
          { time := s.clk.time, valid := s.clk.valid, old := s.wrn.level, new := 0, cause := .resetCold, stage := none,
            discharge := none }) ∧
        t.store =
          if failSafeTarget s.tbl.rules = 0 then st
          else st.append (.warning
            { time := s.clk.time, valid := s.clk.valid, old := 0, new := failSafeTarget s.tbl.rules,
              cause := .stageLost, stage := none, discharge := none })

/-! ## The requests (chapter 11) -/

/-- R185, R188, R190: CTL takes the oldest request. A good one is in hand with its work to do. One refused at the form,
table or origin check is answered with the code of that check and recorded as the last refusal. -/
def Obligations.RequestTakenIsJudged : Prop :=
  ∀ (s : State) (r : Request) (rest : List Request),
    s.resetLine = false → s.ctl.queue = r :: rest → s.ctl.inHand = none → s.ctl.pendingReply = none →
    s.ctl.resetWait = none →
    ∃ t, exec .requestTaken s = .next t ∧ t.ctl.queue = rest ∧ ChangesOnly [.loop, .ctl, .upl] s t ∧
      s.loop.LineKept t.loop ∧ s.upl.PortKept t.upl ∧ t.ctl.droppedBusy = s.ctl.droppedBusy ∧
      t.upl.ready = (if 3 ≤ rest.length then false else if rest.length ≤ 1 then true else s.upl.ready) ∧
      match parseRequest r.payload with
      | some q =>
        if tableGood q = false then Refuses r replyBadTable s t
        else if originGood s.tbl.config r.origin q = false then Refuses r replyOrigin s t
        else t.ctl.inHand = some { request := r, work := some q } ∧ t.ctl.pendingReply = none ∧
          t.upl.slot = s.upl.slot ∧ t.ctl.lastRefusal = s.ctl.lastRefusal
      | none => Refuses r replyBadRequest s t

/-- R191: what the uplink may not ask: a write to CONFIG, a write to a table whose mask bit is clear, an activation or a
shift request while its bit is clear, and RESET-PART COLD. The loop may ask everything. -/
def Obligations.UplinkOriginIsMasked : Prop :=
  ∀ (c : List Byte) (seq : Half) (addr : Nat) (q : Req),
    originGood c (.service addr) q = true ∧
    (originGood c (.uplink seq) q = false ↔
      match q with
      | .writeTable n _ _ => n = 0 ∨ (u16 c 30).testBit n = false
      | .activateRating => (u16 c 30).testBit 3 = false
      | .addShift _ _ _ => (u16 c 30).testBit 4 = false
      | .deleteShift _ => (u16 c 30).testBit 4 = false
      | .resetPart cold => cold = true
      | _ => False)

/-- R194: READ-STATUS is answered with the section, the page, the page count and at most 192 bytes of the section, a
page past the end being the last; nothing else changes. That such a page carries the last page's own number, and not the
number asked, is the model's reading (log entry 18). -/
def Obligations.ReadStatusAnswersOnePage : Prop :=
  ∀ (s : State) (sec page : Nat), Serving s (.readStatus sec page) →
    ∃ t, exec .readStatus s = .next t ∧ RequestFrame [] s t ∧
      ∃ k n bytes, n = max 1 (((statusSection s sec).length + 191) / 192) ∧ k = min page (n - 1) ∧
        bytes = ((statusSection s sec).drop (192 * k)).take 192 ∧ bytes.length ≤ 192 ∧
        Replied s t (s.codeInHand :: 0 :: (beNat 1 sec ++ beNat 1 k ++ beNat 1 n ++ bytes))

/-- R182, R183: READ-RECORDS by where the number lies: reading starts at the held record, or at the oldest one for a number
that has been removed, and carries what R183 lets it; the reply is never above 200 bytes; nothing else changes. -/
def Obligations.ReadRecordsAnswersByTheNumber : Prop :=
  ∀ (s : State) (first limit part : Nat), Serving s (.readRecords first limit part) →
    ∃ t, exec .readRecords s = .next t ∧ RequestFrame [] s t ∧
      if limit < 1 ∨ 8 < limit then Replied s t [s.codeInHand, 2]
      else
        match s.store.records.head?, s.store.records.getLast? with
        | some oldest, some newest =>
          match s.store.records.find? fun r => r.seq == first with
          | some r =>
            if r.content.slotCount ≤ part then Replied s t [s.codeInHand, 2]
            else ∃ before more rest, s.store.records = before ++ r :: more ∧ (∀ x ∈ before, x.seq ≠ first) ∧
              RecordsCarried r more s.store.nextSeq limit part rest ∧
              Replied s t (s.codeInHand :: 0 :: 0 :: 0 :: 0 :: rest) ∧
              (s.codeInHand :: 0 :: 0 :: 0 :: 0 :: rest).length ≤ 200
          | none =>
            if 1 ≤ (first + 65536 - newest.seq) % 65536 ∧ (first + 65536 - newest.seq) % 65536 ≤ 32768 then
              Replied s t (s.codeInHand :: 0 :: 2 :: (beNat 2 0 ++ beNat 2 s.store.nextSeq ++ [0, 0]))
            else ∃ rest, RecordsCarried oldest s.store.records.tail s.store.nextSeq limit 0 rest ∧
              (s.codeInHand :: 0 :: 3 :: (beNat 2 oldest.seq ++ rest)).length ≤ 200 ∧
              Replied s t (s.codeInHand :: 0 :: 3 :: (beNat 2 oldest.seq ++ rest))
        | _, _ => Replied s t (s.codeInHand :: 0 :: 1 :: (beNat 2 0 ++ beNat 2 s.store.nextSeq ++ [0, 0]))

/-- R192: READ-TABLE is answered with a copy of the bytes asked, RATING-LIVE and SHIFTS included; nothing else changes. -/
def Obligations.ReadTableCopiesTheBytes : Prop :=
  ∀ (s : State) (n off len : Nat), Serving s (.readTable n off len) →
    ∃ t, exec .readTable s = .next t ∧ RequestFrame [] s t ∧
      Replied s t (s.codeInHand :: 0 :: (beNat 1 n ++ beNat 2 off ++ ((s.tableBytes n).drop off).take len)) ∧
      (n ≤ 10 → (s.tableBytes n).length = tableSize n → off + len ≤ tableSize n →
        (((s.tableBytes n).drop off).take len).length = len) ∧
      (s.tableBytes 3).length = 293 ∧ (s.tableBytes 4).length = 337

/-- R5, R17, R52, R60, R65, R176, R193: a write to CONFIG stores its bytes and no other, is answered OK, and each block
whose clamped field changed acts: the ring and the history step timer, the stale timers, the running stand-down timer,
the interlock, and the two bit rates. The last four are stated for a write that leaves the stale limit, since the order
within a write that changes it as well is the model's choice (log entry 42); so is R52 before R60 within one write. That
a recomputed expiry equal to the present counts as past is its reading (log entry 26). That a latch disarmed by the
retrieval has no arm time (log entry 45) and that the vertical cursor is absent in it (log entry 46) are the model's
choice. -/
def Obligations.WriteTableConfigStoresItsBytes : Prop :=
  ∀ (s : State) (off : Nat) (data : List Byte), Serving s (.writeTable 0 off data) →
    off + data.length ≤ s.tbl.config.length →
    ∃ t, exec .writeTableConfig s = .next t ∧ Stored 0 off data s t ∧
      Replied s t (s.codeInHand :: 0 :: (beNat 1 0 ++ beNat 2 off ++ beNat 1 data.length)) ∧
      ChangesOnly [.tbl, .stg, .rat, .wrn, .pls, .run, .loop, .store, .ctl, .upl] s t ∧ s.ctl.QueueKept t.ctl ∧
      s.loop.LineKept t.loop ∧ s.upl.PortKept t.upl ∧ t.rat.live = s.rat.live ∧ t.rat.shifts = s.rat.shifts ∧
      (cfgHistoryStep t.tbl.config ≠ cfgHistoryStep s.tbl.config →
        t.stg.history = List.replicate 64 none ∧ t.stg.historyAt = s.clk.timebase + 1000 * cfgHistoryStep t.tbl.config) ∧
      (cfgHistoryStep t.tbl.config = cfgHistoryStep s.tbl.config →
        t.stg.history = s.stg.history ∧ t.stg.historyAt = s.stg.historyAt) ∧
      (cfgStaleLimit t.tbl.config ≠ cfgStaleLimit s.tbl.config → ∀ src x e,
        (s.stg.source src).state = .valid → (s.stg.source src).lastTime = some x → (s.stg.source src).staleAt = some e →
        t.stg.source src =
          if x + cfgStaleLimit t.tbl.config ≤ s.now then { s.stg.source src with state := .stale, staleAt := none }
          else { s.stg.source src with staleAt := some (x + cfgStaleLimit t.tbl.config) }) ∧
      (cfgStaleLimit t.tbl.config = cfgStaleLimit s.tbl.config →
        t.rat = s.rat ∧ t.stg = { s.stg with history := t.stg.history, historyAt := t.stg.historyAt } ∧
        (s.wrn.standDown = none → t.wrn = s.wrn ∧ t.store = s.store) ∧
        (∀ d, s.wrn.standDown = some d →
          let new := cfgStandDown t.tbl.config d.level
          (new = cfgStandDown s.tbl.config d.level → t.wrn = s.wrn ∧ t.store = s.store) ∧
          (new ≠ cfgStandDown s.tbl.config d.level → s.now < d.start + new →
            t.wrn = { s.wrn with standDown := some { d with expiry := d.start + new } } ∧ t.store = s.store) ∧
          (new ≠ cfgStandDown s.tbl.config d.level → d.start + new ≤ s.now →
            t.wrn =
              { s.wrn with level := s.wrn.target, standDown := none, test := none, outputs := t.wrn.outputs } ∧
            t.store = s.store.append
              (.warning
                { time := s.clk.time, valid := s.clk.valid, old := s.wrn.level, new := s.wrn.target,
                  cause := .standDown, stage := s.stg.selected.map Selected.mm,
                  discharge := s.rat.latest.bind RatResult.discharge }))) ∧
        (if cfgStopLevel t.tbl.config ≤ t.wrn.level ∧ t.wrn.level < cfgStopLevel s.tbl.config then
          (s.run.state.working = true → RunAborted .abortedWarning s t) ∧
          (s.run.state.working = false → CauseNoted .abortedWarning s t)
        else t.run = s.run ∧ t.pls = s.pls) ∧
        t.loop.rate =
          (if s.loop.txn = none ∧ s.loop.grant.held = false ∧ s.loop.tx = none then cfgLoopRate t.tbl.config
          else s.loop.rate) ∧
        (t.store = s.store →
          t.upl.rate =
            if s.upl.buffer = none ∧ s.upl.assembling = false then cfgUplinkRate t.tbl.config else s.upl.rate))

/-- R81, R88, R193: a write to CHANNELS stores its bytes, recomputes the view, and sets the due times of the entries that
become ACTIVE, or stay so with another period or phase, to the write plus the phase. Where such a poll is taken in the same
event its due time moves on by one period (R79). -/
def Obligations.WriteTableChannelsRecomputesTheView : Prop :=
  ∀ (s : State) (off : Nat) (data : List Byte), Serving s (.writeTable 1 off data) →
    off + data.length ≤ s.tbl.channels.length →
    ∃ t, exec .writeTableChannels s = .next t ∧ Stored 1 off data s t ∧
      Replied s t (s.codeInHand :: 0 :: (beNat 1 1 ++ beNat 2 off ++ beNat 1 data.length)) ∧
      RequestFrame [.tbl, .cht] s t ∧ t.cht.view = viewOf t.tbl.channels ∧ t.cht.stats = s.cht.stats ∧
      ∀ i, i < 24 →
        (treatmentOf t.tbl.channels i ≠ .active → t.loop.poll? i = none) ∧
        (treatmentOf t.tbl.channels i = .active →
          ∃ p due, t.loop.poll? i = some p ∧
            (p.due =
              if s.loop.txn = none ∧ t.loop.txn.map Txn.asker = some (.poll i) then
                due + 1000 * (chanEntry t.tbl.channels i).period
              else due) ∧
            match s.loop.poll? i, activeIn s.cht.view i with
            | some q, true =>
              p.missed = q.missed ∧ p.last = q.last ∧ p.skipped = q.skipped ∧
              due = if (chanEntry s.tbl.channels i).period = (chanEntry t.tbl.channels i).period ∧
                  (chanEntry s.tbl.channels i).phase = (chanEntry t.tbl.channels i).phase then q.due
                else s.clk.timebase + 1000 * (chanEntry t.tbl.channels i).phase
            | _, _ =>
              p.missed = false ∧ p.last = none ∧ p.skipped = 0 ∧
              due = s.clk.timebase + 1000 * (chanEntry t.tbl.channels i).phase)

/-- R22, R129, R193: a write to RATING-STAGED or to a plan table stores its bytes and nothing else; one to the plan table
named by a present run marker is refused with NOT-IDLE. -/
def Obligations.WriteTablePlanAndStagedStoreTheirBytes : Prop :=
  (∀ (s : State) (off : Nat) (data : List Byte), Serving s (.writeTable 2 off data) →
    off + data.length ≤ s.tbl.staged.length →
    ∃ t, exec .writeTableRatingStaged s = .next t ∧ Stored 2 off data s t ∧ RequestFrame [.tbl] s t ∧
      Replied s t (s.codeInHand :: 0 :: (beNat 1 2 ++ beNat 2 off ++ beNat 1 data.length))) ∧
  ∀ (s : State) (n off : Nat) (data : List Byte), n < 4 → Serving s (.writeTable (7 + n) off data) →
    off + data.length ≤ (s.tbl.plan n).length →
    ∃ t, exec .writeTablePlan s = .next t ∧
      if s.run.marker.map Marker.plan = some n then
        Replied s t [s.codeInHand, 7] ∧ RequestFrame [] s t
      else
        Stored (7 + n) off data s t ∧ RequestFrame [.tbl] s t ∧
          Replied s t (s.codeInHand :: 0 :: (beNat 1 (7 + n) ++ beNat 2 off ++ beNat 1 data.length))

/-- R42, R43, R48 to R51, R53 to R55, R59, R63, R193: a write to RULES stores its bytes, sets every rule with a byte in
the range to ARMED or OFF by its examination, recomputes the target and moves the level by it: a rise with its record,
the stand-down that starts or is cancelled, and no stand-down while the reset hold stands; a write to PATTERNS stores
its bytes and sets the outputs again. That a stand-down time of 0 expires in the same event is the model's reading (log
entry 26). That a latch disarmed by the retrieval has no arm time (log entry 45) and that the vertical cursor is absent
in it (log entry 46) are the model's choice. -/
def Obligations.WriteTableRulesAndPatternsAct : Prop :=
  (∀ (s : State) (off : Nat) (data : List Byte), Serving s (.writeTable 5 off data) →
    off + data.length ≤ s.tbl.rules.length →
    ∃ t, exec .writeTableRules s = .next t ∧ Stored 5 off data s t ∧
      Replied s t (s.codeInHand :: 0 :: (beNat 1 5 ++ beNat 2 off ++ beNat 1 data.length)) ∧
      ChangesOnly [.tbl, .wrn, .pls, .run, .loop, .store, .ctl, .upl] s t ∧ s.ctl.QueueKept t.ctl ∧
      s.loop.LineKept t.loop ∧ s.upl.PortKept t.upl ∧
      t.wrn.target = t.wrn.targetOf t.tbl.rules ∧ t.wrn.target ≤ t.wrn.level ∧
      t.wrn.stageLost = s.wrn.stageLost ∧ t.wrn.resetHold = s.wrn.resetHold ∧ LevelUpheld (s.setTbl t.tbl) t ∧
      (s.wrn.resetHold = false → LevelMoved (s.setTbl t.tbl) t) ∧
      (s.wrn.resetHold = true → t.wrn.target < s.wrn.level →
        t.wrn.level = s.wrn.level ∧ t.wrn.standDown = s.wrn.standDown ∧ t.wrn.test = s.wrn.test ∧
        t.wrn.silenced = s.wrn.silenced ∧ t.store = s.store) ∧
      ∀ i, i < 12 → s.wrn.rules.length = 12 →
        t.wrn.ruleState i =
          if 14 * i < off + data.length ∧ off < 14 * i + 14 then
            (if (ruleEntry t.tbl.rules i).valid then .armed else .off)
          else s.wrn.ruleState i) ∧
  ∀ (s : State) (off : Nat) (data : List Byte), Serving s (.writeTable 6 off data) →
    off + data.length ≤ s.tbl.patterns.length →
    ∃ t, exec .writeTablePatterns s = .next t ∧ Stored 6 off data s t ∧ RequestFrame [.tbl, .wrn] s t ∧
      Replied s t (s.codeInHand :: 0 :: (beNat 1 6 ++ beNat 2 off ++ beNat 1 data.length)) ∧
      t.wrn = { s.wrn with outputs := t.wrn.outputs } ∧
      t.wrn.outputs =
        match s.wrn.test with
        | some w => patternOn t.tbl.patterns w.level
        | none =>
          if s.wrn.silenced then
            patternOn t.tbl.patterns s.wrn.level &&& ~~~patternSilence t.tbl.patterns s.wrn.level
          else patternOn t.tbl.patterns s.wrn.level

/-- R23, R24, R190: a STAGED bank that passes every check becomes the LIVE bank, with its count of breakpoints; one that
does not leaves it, the reply naming its first fault: 240 for the id, 241 for the limit, 242 for the count, and otherwise
the first breakpoint that fails. -/
def Obligations.ActivateRatingChecksTheStagedBank : Prop :=
  ∀ s : State, Serving s .activateRating →
    ∃ t, exec .activateRating s = .next t ∧ RequestFrame [.rat] s t ∧ t.rat.shifts = s.rat.shifts ∧
      t.rat.latest = s.rat.latest ∧
      (StagedGood s.tbl.staged →
          t.rat.live.ratingId = u16 s.tbl.staged 0 ∧ t.rat.live.limit = u16 s.tbl.staged 2 ∧
          t.rat.live.points = (List.range (u8 s.tbl.staged 4)).map (stagedPoint s.tbl.staged) ∧
          Replied s t (s.codeInHand :: 0 :: (beNat 2 (u16 s.tbl.staged 0) ++ beNat 1 (u8 s.tbl.staged 4)))) ∧
      (¬ StagedGood s.tbl.staged →
        t.rat.live = s.rat.live ∧
        ∃ pos, Replied s t (s.codeInHand :: 5 :: (beNat 1 pos ++ beNat 1 0)) ∧
          if u16 s.tbl.staged 0 < 1 then pos = 240
          else if 2000 < u16 s.tbl.staged 2 then pos = 241
          else if u8 s.tbl.staged 4 < 2 ∨ 48 < u8 s.tbl.staged 4 then pos = 242
          else pos < u8 s.tbl.staged 4 ∧ BreakpointBad s.tbl.staged pos ∧ ∀ j, j < pos → ¬ BreakpointBad s.tbl.staged j)

/-- R26 to R28: a good record is placed in the shift table, which stays in order and within 16 records: it replaces the
one of its start time, or is inserted, the earliest being removed from a full table; a faulty one leaves the table, the
reply naming its first fault: 240 for the count, and otherwise the first point that fails. -/
def Obligations.AddShiftPlacesTheRecord : Prop :=
  ∀ (s : State) (start count : Nat) (points : List (Int × Int)), Serving s (.addShift start count points) →
    ShiftsOrdered s.rat.shifts →
    ∃ t, exec .addShift s = .next t ∧ RequestFrame [.rat] s t ∧ t.rat.live = s.rat.live ∧ t.rat.latest = s.rat.latest ∧
      ShiftsOrdered t.rat.shifts ∧
      (ShiftGood count points →
        (∀ x, x ∈ t.rat.shifts ↔ x = ⟨start, points⟩ ∨ (x ∈ s.rat.shifts ∧ x.start ≠ start ∧
          ((∃ y ∈ s.rat.shifts, y.start = start) ∨ s.rat.shifts.length < 16 ∨ s.rat.shifts.head? ≠ some x))) ∧
        ∃ code removed, Replied s t (s.codeInHand :: 0 :: (beNat 1 code ++ beNat 4 removed ++ beNat 1 t.rat.shifts.length)) ∧
          (code = if (∃ y ∈ s.rat.shifts, y.start = start) then 0 else if s.rat.shifts.length < 16 then 1 else 2) ∧
          (code = 2 → s.rat.shifts.head?.map ShiftRec.start = some removed) ∧ (code ≠ 2 → removed = 0)) ∧
      (¬ ShiftGood count points →
        t.rat.shifts = s.rat.shifts ∧ ∃ pos, Replied s t (s.codeInHand :: 5 :: (beNat 1 pos ++ beNat 1 0)) ∧
          if count < 1 ∨ 4 < count then pos = 240
          else pos < count ∧ ¬ ShiftPointGood points pos ∧ ∀ j, j < pos → ShiftPointGood points j)

/-- R29: DELETE-SHIFT removes the record of exactly that start time, the others closing up, or is refused with INVALID. The
record that applies is from then on the one with the latest start time that is left at or before the clock. -/
def Obligations.DeleteShiftRemovesTheRecord : Prop :=
  ∀ (s : State) (start : Nat), Serving s (.deleteShift start) → ShiftsOrdered s.rat.shifts →
    ∃ t, exec .deleteShift s = .next t ∧ RequestFrame [.rat] s t ∧ t.rat.live = s.rat.live ∧ t.rat.latest = s.rat.latest ∧
      t.rat.shifts = s.rat.shifts.filter (fun x => x.start ≠ start) ∧ ShiftsOrdered t.rat.shifts ∧
      (∀ x, applicable t.rat.shifts t.clk = some x ↔
        t.clk.valid = true ∧ x ∈ t.rat.shifts ∧ x.start ≤ t.clk.time ∧
          ∀ y ∈ t.rat.shifts, y.start ≤ t.clk.time → y.start ≤ x.start) ∧
      if (∃ x ∈ s.rat.shifts, x.start = start) then Replied s t (s.codeInHand :: 0 :: beNat 1 t.rat.shifts.length)
      else Replied s t [s.codeInHand, 5, 255, 0] ∧ t.rat.shifts = s.rat.shifts

/-- R131, R132, R133: START-RUN is judged in order, and the first refusal that applies is the reply; an accepted one
begins the run, answered with the plan id and the start time. That the plan check lets SPARE entries stand after
EDGE-RIGHT is the model's reading of R130 (log entry 24). -/
def Obligations.StartRunIsJudgedInOrder : Prop :=
  ∀ (s : State) (n : Nat), Serving s (.startRun n) →
    ∃ t, exec .startRun s = .next t ∧
      if s.run.state ≠ .idle then Replied s t [s.codeInHand, 7] ∧ RequestFrame [] s t
      else if cfgStopLevel s.tbl.config ≤ s.wrn.level then Replied s t [s.codeInHand, 8] ∧ RequestFrame [] s t
      else if ∀ i, i < 24 → activeRole s.cht.view s.tbl.channels i ≠ some .winch then
        Replied s t [s.codeInHand, 9] ∧ RequestFrame [] s t
      else
        match planFault (s.tbl.plan n) with
        | some f => Replied s t (s.codeInHand :: 6 :: (beNat 1 f.1 ++ beNat 1 f.2)) ∧ RequestFrame [] s t
        | none =>
          (∃ i m, RunBegun n i m s t) ∧ RequestFrame [.run] s t ∧
            Replied s t
              (s.codeInHand :: 0 :: (beNat 2 (u16 (s.tbl.plan n) 0) ++ beNat 4 s.clk.time ++ [boolByte s.clk.valid]))

/-- R150, R151: ABORT-RUN is answered OK in every state, with the state it found and whether it aborted the run. An
expiry of the traverse or cable timer that has come by then stays to be taken second. That a latch disarmed by the
retrieval has no arm time (log entry 45) and that the vertical cursor is absent in it (log entry 46) are the model's
choice. -/
def Obligations.AbortRunAnswersWithTheStateFound : Prop :=
  ∀ s : State, Serving s .abortRun →
    ∃ t, exec .abortRun s = .next t ∧ RequestFrame [.run, .pls] s t ∧
      Replied s t (s.codeInHand :: 0 :: (beNat 1 s.run.state.code ++ [boolByte s.run.state.working])) ∧
      (s.run.state.working = true → RunAborted .abortedCommand s t) ∧
      (s.run.state.working = false → CauseNoted .abortedCommand s t) ∧ ExpiriesStand s t

/-- R55 to R57: SILENCE sets the silenced flag and is answered with the level. A WARNING-TEST within its ranges drives the
outputs from the test level until its end time and writes a TEST notice; another is refused with BAD-REQUEST. -/
def Obligations.SilenceAndTestDriveTheOutputs : Prop :=
  (∀ s : State, Serving s .silence →
    ∃ t, exec .silence s = .next t ∧ RequestFrame [.wrn] s t ∧
      Replied s t (s.codeInHand :: 0 :: beNat 1 s.wrn.level) ∧
      t.wrn = { s.wrn with silenced := true, outputs := t.wrn.outputs } ∧
      t.wrn.outputs =
        match s.wrn.test with
        | some w => patternOn s.tbl.patterns w.level
        | none => patternOn s.tbl.patterns s.wrn.level &&& ~~~patternSilence s.tbl.patterns s.wrn.level) ∧
  ∀ (s : State) (level duration : Nat), Serving s (.warningTest level duration) →
    ∃ t, exec .warningTest s = .next t ∧
      if 1 ≤ level ∧ level ≤ 3 ∧ 5 ≤ duration ∧ duration ≤ 120 then
        RequestFrame [.wrn, .store] s t ∧ Replied s t [s.codeInHand, 0] ∧
        t.wrn.test = some { level := level, stopAt := s.now + 1000 * duration } ∧
        t.wrn.outputs = patternOn s.tbl.patterns level ∧
        t.wrn = { s.wrn with test := t.wrn.test, outputs := t.wrn.outputs } ∧
        t.store = s.store.append
          (.notice { time := s.clk.time, valid := s.clk.valid, body := .test level duration s.wrn.level })
      else RequestFrame [] s t ∧ Replied s t [s.codeInHand, 2]

/-- R188, R195: RESET-PART is answered OK, and the reset waits until that reply has gone. -/
def Obligations.ResetPartWaitsForItsReply : Prop :=
  ∀ (s : State) (cold : Bool) (r : Request), Serving s (.resetPart cold) →
    s.ctl.inHand = some { request := r, work := some (.resetPart cold) } →
    ∃ t, exec .resetPart s = .next t ∧ ChangesOnly [.loop, .ctl, .upl] s t ∧ s.loop.LineKept t.loop ∧
      s.upl.PortKept t.upl ∧ t.upl.ready = s.upl.ready ∧ t.ctl.queue = s.ctl.queue ∧
      t.ctl.droppedBusy = s.ctl.droppedBusy ∧ t.ctl.lastRefusal = s.ctl.lastRefusal ∧ t.work = none ∧
      match r.origin with
      | .uplink seq =>
        if s.upl.slot = none then
          t.upl.slot = some { seq := seq, payload := [r.code, 0] } ∧
            t.ctl.resetWait = some { cold := cold, placed := true, gone := !s.lines.link }
        else
          t.upl.slot = s.upl.slot ∧ t.ctl.pendingReply = some (.slot { seq := seq, payload := [r.code, 0] }) ∧
            t.ctl.resetWait = some { cold := cold, placed := false, gone := false }
      | .service addr =>
        t.ctl.resetWait = some { cold := cold, placed := false, gone := false } ∧
          serviceOut t = serviceOut s ++ [{ addr := addr, payload := [0x80, r.code, 0], resets := true }]

/-! ## The timers of the stage and warning units (chapters 1 and 3) -/

/-- R14, R16, R18 to R20: at its boundary the open interval is closed, its record written, and the next one opens there.
SET-CLOCK leaves the open interval going where the boundary at or before the new time is its start, and otherwise closes
it, marked CLOCK-SET, for one that begins at that boundary. That SET-CLOCK takes the boundaries of the clamped
interval length now in force, also for an open interval that began under another, is the model's reading (log entry 23). -/
def Obligations.IntervalsCloseAtBoundariesAndClockSets : Prop :=
  (∀ s : State, s.resetLine = false → s.stg.nextBoundary ≤ s.clk.time →
    ∃ t, exec .intervalBoundary s = .next t ∧ ChangesOnly [.stg, .store, .upl] s t ∧ s.upl.PortKept t.upl ∧
      t.upl.slot = s.upl.slot ∧ t.upl.ready = s.upl.ready ∧ s.stg.MeasureKept t.stg ∧
      IntervalWritten s s.stg.acc.flags t.store ∧ IntervalOpened s.stg.nextBoundary s.stg.nextBoundary false t) ∧
  ∀ (s : State) (time : Nat), Serving s (.setClock time) →
    ∃ t, exec .setClock s = .next t ∧ Replied s t [s.codeInHand, 0] ∧ t.clk.time = time ∧ t.clk.valid = true ∧
      t.clk.timebase = s.clk.timebase ∧ s.stg.MeasureKept t.stg ∧
      let start := time / (60 * cfgIntervalLength s.tbl.config) * (60 * cfgIntervalLength s.tbl.config)
      (start = s.stg.openStart → t.stg = s.stg ∧ RequestFrame [.clk] s t) ∧
      (start ≠ s.stg.openStart →
        RequestFrame [.clk, .stg, .store] s t ∧ IntervalOpened start time true t ∧
        ∃ f : IntervalFlags, IntervalWritten s f t.store ∧ f.clockSet = true ∧
          f.clockInvalid = (s.stg.acc.flags.clockInvalid || !s.clk.valid) ∧
          f = { s.stg.acc.flags with clockSet := true, clockInvalid := f.clockInvalid })

/-- R5, R7, R8, R12, R13, R36, R44, R46 to R51, R53, R59, R63: a VALID source becomes STALE at its expiry. Where it was
not the selected one the selection stays; else the other source, if VALID, is selected and gives a new selected stage,
which the STAGE and DISCHARGE rules see; and otherwise stage is lost, the fail-safe rules count, and the level moves by
the target. That a stand-down time of 0 expires in the same event is the model's
reading (log entry 26). That a latch disarmed by the retrieval has no arm time (log entry 45) and that the vertical
cursor is absent in it (log entry 46) are the model's choice. -/
def Obligations.StaleSourceHandsOverOrLosesStage : Prop :=
  ∀ (s : State) (src : Source) (e : Nat), s.resetLine = false → StageConsistent s →
    (s.stg.source src).state = .valid → (s.stg.source src).staleAt = some e → e ≤ s.now →
    ∃ t, exec (.staleTimerExpiry src) s = .next t ∧ EventFrame [.stg, .rat, .wrn, .run, .pls, .store, .upl] s t ∧
      s.upl.PortKept t.upl ∧ t.upl.ready = s.upl.ready ∧ t.rat.live = s.rat.live ∧ t.rat.shifts = s.rat.shifts ∧
      t.stg.source src = { s.stg.source src with state := .stale, staleAt := none } ∧
      (∀ o, o ≠ src → t.stg.source o = s.stg.source o) ∧ t.stg.offset = s.stg.offset ∧
      t.stg.history = s.stg.history ∧ t.stg.openStart = s.stg.openStart ∧
      (s.stg.selection.follows src = false →
        EventFrame [.stg] s t ∧ t.stg.selection = s.stg.selection ∧ t.stg.selected = s.stg.selected ∧
        t.stg.acc = s.stg.acc ∧
        t.stg.recovery = if src = .primary ∧ s.stg.selection = .secondary then 0 else s.stg.recovery) ∧
      (s.stg.selection.follows src = true → ∀ o, o ≠ src → (s.stg.source o).state = .valid →
        t.stg.selection.follows o = true ∧ t.stg.recovery = 0 ∧ StageEvaluated s.store s t ∧
        ∃ v, t.stg.selected = some v ∧ t.rat.latest = some (s.discharge v.mm) ∧
          ∀ x, (s.stg.source o).last = some x →
            (o = .primary →
              v = { mm := x.mm, clamped := x.clamped, alignLimit := false, secondaryUsed := false }) ∧
            (o = .secondary → v = aligned (cfgAlignLimit s.tbl.config) s.stg.offset x)) ∧
      (s.stg.selection.follows src = true → (∀ o, o ≠ src → (s.stg.source o).state ≠ .valid) →
        t.stg.selection = .none ∧ t.stg.selected = none ∧ t.rat.latest = none ∧ t.wrn.stageLost = true ∧
        t.stg.acc = { s.stg.acc with flags := t.stg.acc.flags } ∧
        t.stg.acc.flags = { s.stg.acc.flags with stageLost := true } ∧ t.stg.recovery = s.stg.recovery ∧
        t.wrn.rules = s.wrn.rules ∧ t.wrn.target = t.wrn.targetOf s.tbl.rules ∧ t.wrn.resetHold = s.wrn.resetHold ∧
        t.store.records.getLast?.map StoreRec.content =
          some (.notice { time := s.clk.time, valid := s.clk.valid, body := .stageLost }) ∧
        ∃ st, t.store = st.append (.notice { time := s.clk.time, valid := s.clk.valid, body := .stageLost }) ∧
          LevelUpheld ((s.setStg t.stg).setRat t.rat) (t.setStore st) ∧
          (s.wrn.resetHold = false → LevelMoved ((s.setStg t.stg).setRat t.rat) (t.setStore st)) ∧
          (s.wrn.resetHold = true → t.wrn.target < s.wrn.level →
            t.wrn.level = s.wrn.level ∧ t.wrn.standDown = s.wrn.standDown ∧ t.wrn.test = s.wrn.test ∧
            t.wrn.silenced = s.wrn.silenced ∧ st = s.store))

/-- R17, R45, R46, R48 to R51, R63: a history step enters the selected stage, or its absence, into the ring, evaluates
the RISE rules on it, and moves the level to the target. That the history timer runs on from its expiry and that a
stand-down time of 0 expires in the same event are the model's reading (log entry 26). That a latch disarmed by the
retrieval has no arm time (log entry 45) and that the vertical cursor is absent in it (log entry 46) are the model's
choice. -/
def Obligations.HistoryStepEvaluatesTheRiseRules : Prop :=
  ∀ s : State, s.resetLine = false → s.stg.historyAt ≤ s.now → s.wrn.rules.length = 12 →
    ∃ t, exec .historyStep s = .next t ∧ EventFrame [.stg, .wrn, .run, .pls, .store, .upl] s t ∧
      s.upl.PortKept t.upl ∧ t.upl.slot = s.upl.slot ∧ t.upl.ready = s.upl.ready ∧
      t.stg.history = s.stg.selected.map Selected.mm :: s.stg.history.take 63 ∧
      t.stg = { s.stg with history := t.stg.history, historyAt := s.stg.historyAt + 1000 * cfgHistoryStep s.tbl.config } ∧
      (∀ i, i < 12 →
        RuleMoved (ruleEntry s.tbl.rules i)
          (riseValue t.stg.history (cfgHistoryStep s.tbl.config) (ruleEntry s.tbl.rules i)) (s.wrn.ruleState i)
          (t.wrn.ruleState i)) ∧
      t.wrn.resetHold = false ∧ t.wrn.stageLost = s.wrn.stageLost ∧ t.wrn.target = t.wrn.targetOf s.tbl.rules ∧
      LevelMoved s t

/-- R51, R53, R55, R58: at the stand-down expiry the level falls to the target, which writes a record of cause STAND-DOWN
and ends a warning test; at its end time a warning test ends, and the outputs follow level and silence again. -/
def Obligations.StandDownAndTestEndReleaseTheOutputs : Prop :=
  (∀ (s : State) (d : StandDown), s.resetLine = false → s.wrn.standDown = some d → d.expiry ≤ s.now →
    ∃ t, exec .standDownExpiry s = .next t ∧ ChangesOnly [.wrn, .store, .upl] s t ∧ s.upl.PortKept t.upl ∧
      t.upl.slot = s.upl.slot ∧ t.upl.ready = s.upl.ready ∧
      t.wrn = { s.wrn with level := s.wrn.target, standDown := none, test := none, outputs := t.wrn.outputs } ∧
      t.wrn.outputs =
        (if s.wrn.silenced then
          patternOn s.tbl.patterns s.wrn.target &&& ~~~patternSilence s.tbl.patterns s.wrn.target
        else patternOn s.tbl.patterns s.wrn.target) ∧
      t.store = s.store.append
        (.warning
          { time := s.clk.time, valid := s.clk.valid, old := s.wrn.level, new := s.wrn.target, cause := .standDown,
            stage := s.stg.selected.map Selected.mm, discharge := s.rat.latest.bind RatResult.discharge })) ∧
  ∀ (s : State) (w : WarnTest), s.resetLine = false → s.wrn.test = some w → w.stopAt ≤ s.now →
    ∃ t, exec .warningTestEnd s = .next t ∧ ChangesOnly [.wrn] s t ∧
      t.wrn = { s.wrn with test := none, outputs := t.wrn.outputs } ∧
      t.wrn.outputs =
        if s.wrn.silenced then
          patternOn s.tbl.patterns s.wrn.level &&& ~~~patternSilence s.tbl.patterns s.wrn.level
        else patternOn s.tbl.patterns s.wrn.level

/-! ## The station loop (chapter 4) -/

/-- R79, R82, R83, R109: a poll falls due. With the reply pair free and the loop open, the pending run-engine command is
chosen if it may be sent, and otherwise the due poll with the earliest due time and the lowest channel, whose due time
moves on by a period. Under an ON-DEMAND grant a claim is made. -/
def Obligations.DuePollIsChosenOrClaims : Prop :=
  ∀ (s : State) (ch : Fin 24) (p : Poll), s.resetLine = false → s.loop.poll? ch.val = some p → p.due ≤ s.now →
    p.announced = false →
    ∃ t, exec (.pollDue ch) s = .next t ∧ EventFrame [] s t ∧
      (s.loop.txn = none → s.loop.grant.held = false → s.loop.jam = none → s.loop.lineBreak = none →
        (∀ c, s.loop.pendingCmd = some c → s.loop.sendable c = true →
          t.loop.pendingCmd = none ∧ (∃ ph, t.loop.txn = some { asker := .run c, addr := c.addr, phase := ph }) ∧
          ∀ l m, c.kind = .grant l m →
            t.loop.grant.state = .opening ∧ t.loop.grant.node = c.addr ∧ t.loop.grant.limit = min (max l 1) 32 ∧
            t.loop.grant.mode = m) ∧
        ((∀ c, s.loop.pendingCmd = some c → s.loop.sendable c = false) →
          t.loop.grant = s.loop.grant ∧ t.loop.pendingCmd = s.loop.pendingCmd ∧
          ∃ k q, s.loop.poll? k = some q ∧ q.due ≤ s.now ∧
            (∀ j r, s.loop.poll? j = some r → r.due ≤ s.now → q.due < r.due ∨ (q.due = r.due ∧ k ≤ j)) ∧
            t.loop.poll? k =
              some { q with due := q.due + 1000 * (chanEntry s.tbl.channels k).period, announced := false } ∧
            (∀ j, j ≠ k → j ≠ ch.val → t.loop.poll? j = s.loop.poll? j) ∧
            ∃ ph, t.loop.txn = some { asker := .poll k, addr := (chanEntry s.tbl.channels k).addr, phase := ph })) ∧
      (s.loop.grant.mode = .onDemand → s.loop.grant.state = .held ∨ s.loop.grant.state = .closing →
        t.loop.grant.state = .claiming ∧ t.loop.grant.cause = some .duePoll ∧ t.loop.grant.timerAt = none ∧
        ClaimOnItsWay t)

/-- R6, R80, R109: a due poll not taken within a period is skipped: it is due again at once, marked MISSED and counted,
and a stage channel notifies STG; no failure count changes. That it falls due at the skip, so that an ON-DEMAND grant is
claimed back by it, is the model's reading (log entry 17), and that the polls a jam has skipped are counted without
bound its choice (log entry 43). -/
def Obligations.LatePollIsSkipped : Prop :=
  ∀ (s : State) (ch : Fin 24) (p : Poll), s.resetLine = false → s.loop.poll? ch.val = some p →
    p.due + 1000 * (chanEntry s.tbl.channels ch.val).period ≤ s.now →
    ∃ t, exec (.pollSkip ch) s = .next t ∧ ChangesOnly [.loop, .ctl, .stg] s t ∧ s.ctl.QueueKept t.ctl ∧
      t.loop.nodeFail = s.loop.nodeFail ∧ t.loop.faults = s.loop.faults ∧ t.loop.rx = s.loop.rx ∧
      t.loop.jam = s.loop.jam.map (fun j => { j with skipped := j.skipped + 1 }) ∧
      MissingNoted (activeRole s.cht.view s.tbl.channels ch.val) s t ∧
      (s.loop.grant.mode = .onDemand → s.loop.grant.state = .held ∨ s.loop.grant.state = .closing →
        t.loop.grant = { s.loop.grant with state := .claiming, cause := some .duePoll, timerAt := none } ∧
        ClaimOnItsWay t) ∧
      (s.loop.grant.held = true → s.loop.grant.mode ≠ .onDemand ∨ s.loop.grant.state = .claiming →
        t.loop.grant = s.loop.grant) ∧
      ∃ q, t.loop.poll? ch.val = some q ∧ q.missed = true ∧ q.last = p.last ∧
        q.skipped = (if p.skipped < 65535 then p.skipped + 1 else 65535) ∧
        (q.due = p.due + 1000 * (chanEntry s.tbl.channels ch.val).period ∨
          (q.due = p.due + 2 * (1000 * (chanEntry s.tbl.channels ch.val).period) ∧
            ∃ x, t.loop.txn = some x ∧ x.asker = .poll ch.val))

/-- R70, R71, R83, R110, R136, R142, R147, R195: a frame other than a GRANT has been sent whole. Its transaction waits for the reply, with
the reply timeout counted from the frame's end; a CLAIM starts the claim wait; RUN is told that a winch command is sent:
its move then counts (R136), after a RETRIEVE or an enquiry the enquiry interval runs (R147), and at a HALT that it awaits
it obtains its move (R142); the last fragment of a RESET-PART reply lets the reset begin. A waiting CLAIM goes next. -/
def Obligations.SentFrameBringsItsSequel : Prop :=
  ∀ (s : State) (f : CmdFrame) (d : Nat), s.resetLine = false → s.loop.tx = some { frame := f, doneAt := d } →
    d ≤ s.fineNow → f.isGrant = false →
    ∃ t, exec .commandFrameSent s = .next t ∧ ChangesOnly [.loop, .ctl, .run] s t ∧ s.loop.LineKept t.loop ∧
      t.ctl.queue = s.ctl.queue ∧ t.run.state = s.run.state ∧
      (s.loop.claimPlace = true → f ≠ .claim →
        t.loop.claimPlace = false ∧ t.loop.tx = some { frame := .claim, doneAt := d + loopChar t.loop.rate }) ∧
      match f with
      | .opening _ _ =>
        t.run = s.run ∧ t.ctl.resetWait = s.ctl.resetWait ∧
        ∀ x, s.loop.txn = some x →
          t.loop.txn =
            some { x with phase := .waiting (d + cfgReplyTimeout s.tbl.config * loopChar s.loop.rate) }
      | .claim =>
        t.run = s.run ∧ t.ctl.resetWait = s.ctl.resetWait ∧
        (s.loop.grant.state = .claiming →
          t.loop.grant =
            { s.loop.grant with
              wait := some
                { length := cfgReplyTimeout s.tbl.config,
                  expiry := if s.loop.rx = none then
                      some (d + cfgReplyTimeout s.tbl.config * loopChar s.loop.rate)
                    else none } })
      | .winch c =>
        t.ctl.resetWait = s.ctl.resetWait ∧
        (s.run.state ≠ .pointSeek ∨ s.run.haltId ≠ some c.id →
          t.run.told = some (c.id, .sent) ∧ t.run.moveId = s.run.moveId ∧
          t.run.moveSent = (s.run.moveSent || s.run.moveId == some c.id)) ∧
        (∀ x w, s.run.state = .retrieve → s.run.lastCmd = some (x, w) → x.id = c.id →
          t.run.retrieveSent = (s.run.retrieveSent || x.kind == .retrieve) ∧
          t.run.enquiryAt = some (s.now + 1000) ∧ t.run.retrieveAt = s.run.retrieveAt) ∧
        ∀ v q qs, s.run.state = .pointSeek → s.run.haltId = some c.id → s.run.vertical = some v →
          v.points = q :: qs →
          t.run.haltId = none ∧ MoveObtained (.cableTo q.cable) (ReleaseMode.ofCode s.header.cableMode) s t
      | .service g =>
        t.run = s.run ∧
        t.ctl.resetWait =
          if g.resets then s.ctl.resetWait.map (fun w => { w with gone := true }) else s.ctl.resetWait

/-- R71 to R74, R152: a poll that times out, fails in reception or is cut by a gap ends in failure, with its kind
counted, its node's count raised and its outcome kept; a character that cut it by MARK begins an unsolicited frame.
Where the node is the winch that RUN holds, the third failure reaches the run as well. That a count at 255, which no
longer rises, brings the run nothing more is the model's reading (log entry 13). That the sender judges GAP's 4
character times (log entry 54), that a latch disarmed by the retrieval has no arm time (log entry 45) and that the
vertical cursor is absent in it (log entry 46) are the model's choice. -/
def Obligations.FailedPollIsCountedAndTold : Prop :=
  ∀ (s : State) (ch addr : Nat) (ph : TxnPhase), s.resetLine = false → 1 ≤ addr → addr ≤ 30 →
    s.loop.nodeFail.length = 30 → s.loop.grant.held = false →
    s.loop.txn = some { asker := .poll ch, addr := addr, phase := ph } →
    (s.run.held ≠ some addr →
      (∀ e, ph = .waiting e → e ≤ s.fineNow →
        ∃ t, exec .replyTimeout s = .next t ∧ PollFailed [] .timeout ch addr s t) ∧
      (∀ e, ph = .waiting e → s.loop.rx = none →
        ∃ t, exec (.receptionFailure .framing) s = .next t ∧ PollFailed [] .framing ch addr s t ∧ t.loop.rx = none) ∧
      ∀ a, ph = .replying → s.loop.rx = some { addr := a, context := .reply } →
        (∀ f, (f = .stray → a.toNat ≠ addr) →
          ∃ t, exec (.receptionFailure f) s = .next t ∧ PollFailed [] (faultKind f) ch addr s t ∧
            t.loop.rx = (cutBy f).map fun b => { addr := b, context := .unsolicited }) ∧
        (∃ t, exec .receptionGap s = .next t ∧ PollFailed [] .gap ch addr s t ∧ t.loop.rx = none) ∧
        ∀ b k, ReplyFails b a addr k →
          ∃ t, exec (.replyReceived b) s = .next t ∧ PollFailed [] k ch addr s t ∧ t.loop.rx = none) ∧
    (s.run.held = some addr →
      (∀ e, ph = .waiting e → e ≤ s.fineNow →
        ∃ t, exec .replyTimeout s = .next t ∧ PollFailed [.run, .pls] .timeout ch addr s t ∧ WinchFailed addr s t) ∧
      (∀ e, ph = .waiting e → s.loop.rx = none →
        ∃ t, exec (.receptionFailure .framing) s = .next t ∧ PollFailed [.run, .pls] .framing ch addr s t ∧
          WinchFailed addr s t ∧ t.loop.rx = none) ∧
      ∀ a, ph = .replying → s.loop.rx = some { addr := a, context := .reply } →
        (∀ f, (f = .stray → a.toNat ≠ addr) →
          ∃ t, exec (.receptionFailure f) s = .next t ∧ PollFailed [.run, .pls] (faultKind f) ch addr s t ∧
            WinchFailed addr s t ∧ t.loop.rx = (cutBy f).map fun b => { addr := b, context := .unsolicited }) ∧
        (∃ t, exec .receptionGap s = .next t ∧ PollFailed [.run, .pls] .gap ch addr s t ∧ WinchFailed addr s t ∧
          t.loop.rx = none) ∧
        ∀ b k, ReplyFails b a addr k →
          ∃ t, exec (.replyReceived b) s = .next t ∧ PollFailed [.run, .pls] k ch addr s t ∧ WinchFailed addr s t ∧
            t.loop.rx = none)

/-- R73, R74, R83, R138, R147, R151, R152: the transaction of a run-engine command. At its reply timeout, a failure in
reception or a reply that fails at its end, RUN is told of the failure and its kind; a third failure in a row of the
winch aborts a working run with ABORTED-LOOP, and marks a run that is out of IDLE otherwise; an earlier one leaves the
run where it is, the enquiry interval running where a new command follows. A good POSITION as its answer is judged by
the state RUN is in, as one that answers the command (R134 to R151). That a count at 255, which no longer rises, brings
the run nothing more is the model's reading (log entry 13). That the counts of the held winch address hold at 65,535 (log
entry 49) and that the sender judges GAP's 4 character times (log entry 54) are its choice. That a latch disarmed by the retrieval has no arm time (log entry 45) and that the vertical
cursor is absent in it (log entry 46) are the model's choice. -/
def Obligations.ThirdFailureOfTheWinchAbortsTheRun : Prop :=
  (∀ (s : State) (c : RunCmd) (a : Nat) (ph : TxnPhase), s.resetLine = false → 1 ≤ a → a ≤ 30 →
    s.loop.nodeFail.length = 30 → s.loop.txn = some { asker := .run c, addr := a, phase := ph } → s.run.held = some a →
    (∀ e, ph = .waiting e → e ≤ s.fineNow →
      ∃ t, exec .replyTimeout s = .next t ∧ CommandFailed c a .timeout s t) ∧
    (∀ e, ph = .waiting e → s.loop.rx = none →
      ∃ t, exec (.receptionFailure .framing) s = .next t ∧ CommandFailed c a .framing s t) ∧
    ∀ x, ph = .replying → s.loop.rx = some { addr := x, context := .reply } →
      (∀ f, (f = .stray → x.toNat ≠ a) →
        ∃ t, exec (.receptionFailure f) s = .next t ∧ CommandFailed c a (faultKind f) s t) ∧
      (∃ t, exec .receptionGap s = .next t ∧ CommandFailed c a .gap s t) ∧
      ∀ b k, ReplyFails b x a k → ∃ t, exec (.replyReceived b) s = .next t ∧ CommandFailed c a k s t) ∧
  ∀ (s : State) (c : RunCmd) (a : Nat) (b : FrameBody) (p : Position), s.resetLine = false → 1 ≤ a → a ≤ 30 →
    s.loop.nodeFail.length = 30 → s.loop.txn = some { asker := .run c, addr := a, phase := .replying } →
    s.loop.rx = some { addr := BitVec.ofNat 8 a, context := .reply } → s.run.held = some a → BodyGood b → b.kind = 18 →
    HoldsPosition b.payload a s p →
    ∃ t, exec (.replyReceived b) s = .next t ∧ EventFrame [.loop, .cht, .run, .pls, .rat, .store, .upl] s t ∧
      s.upl.PortKept t.upl ∧ t.loop.rx = none ∧ t.loop.faults = s.loop.faults ∧ t.loop.nodeCount a = 0 ∧
      t.cht = { s.cht with winchClassified := inc16 s.cht.winchClassified } ∧ PositionJudged p (some c.id) True s t

/-- R73, R74, R89 to R98, R175, R188: a good reply ends its poll: the node's count is cleared, the outcome is good, and
the frame is classified: by the role of the entry it belongs to, in the place of the held winch address, or as unknown.
An EMPTY reply only counts. A delivered SAMPLE is scaled and judged for the source of its entry's role; SERVICE requests
dropped are counted without bound, the model's reading (log entry 43). That the counts of the held winch
address hold at 65,535 is the model's choice (log entry 49). That a latch disarmed by the retrieval has no arm time (log
entry 45) and that the vertical cursor is absent in it (log entry 46) are the model's choice. -/
def Obligations.GoodEmptyReplyEndsThePoll : Prop :=
  ∀ (s : State) (ch addr : Nat) (b : FrameBody), GoodReply s ch addr b →
    (∀ i, b.kind = 17 → BelongsTo s ch addr i →
      ∃ t, exec (.replyReceived b) s = .next t ∧ ChangesOnly [.loop, .ctl, .cht] s t ∧ s.ctl.QueueKept t.ctl ∧
        PollAnswered ch addr b s t ∧ Counted i (fun e => e.after false false none) s t) ∧
    (∀ i, b.kind ≠ 17 → ¬ InHeldPlace s addr b.kind → BelongsTo s ch addr i →
      (chanEntry s.tbl.channels i).role = 3 →
      ∃ t, exec (.replyReceived b) s = .next t ∧ ChangesOnly [.loop, .ctl, .cht, .upl] s t ∧ s.ctl.QueueKept t.ctl ∧
        PollAnswered ch addr b s t ∧ Counted i (fun e => e.after false true none) s t ∧ Forwarded true i addr b s t) ∧
    (∀ i, b.kind ≠ 17 → ¬ InHeldPlace s addr b.kind → BelongsTo s ch addr i →
      ((chanEntry s.tbl.channels i).role ≤ 1 ∧ b.kind ≠ 16) ∨
        ((chanEntry s.tbl.channels i).role = 2 ∧ b.kind ≠ 18 ∧ b.kind ≠ 19) ∨
        ((chanEntry s.tbl.channels i).role = 4 ∧ b.kind ≠ 20) →
      ∃ t, exec (.replyReceived b) s = .next t ∧ ChangesOnly [.loop, .ctl, .cht] s t ∧ s.ctl.QueueKept t.ctl ∧
        PollAnswered ch addr b s t ∧ Counted i (fun e => e.after false false (some .kind)) s t) ∧
    (∀ i d, b.kind = 16 → BelongsTo s ch addr i → (chanEntry s.tbl.channels i).role ≤ 1 →
      sampleFault (chanEntry s.tbl.channels i).index b.payload = some d →
      ∃ t, exec (.replyReceived b) s = .next t ∧ ChangesOnly [.loop, .ctl, .cht, .upl] s t ∧ s.ctl.QueueKept t.ctl ∧
        PollAnswered ch addr b s t ∧
        Counted i
          (fun e =>
            { e.after false ((chanEntry s.tbl.channels i).alsoForward == 1) (some d) with
              nodeStatus := if d = .nodeFault then b.payload.head? else e.nodeStatus }) s t ∧
        Forwarded ((chanEntry s.tbl.channels i).alsoForward == 1) i addr b s t) ∧
    (∀ i, b.kind = 16 → BelongsTo s ch addr i → (chanEntry s.tbl.channels i).role ≤ 1 →
      sampleFault (chanEntry s.tbl.channels i).index b.payload = none →
      ∃ t, exec (.replyReceived b) s = .next t ∧
        EventFrame [.loop, .cht, .stg, .rat, .wrn, .run, .pls, .store, .upl] s t ∧ PollAnswered ch addr b s t ∧
        Counted i
          (fun e =>
            { e.after true ((chanEntry s.tbl.channels i).alsoForward == 1) none with
              nodeStatus := some 0, lastDelivery := some s.now }) s t ∧
        SampleDelivered i b.payload s t ∧ Forwarded ((chanEntry s.tbl.channels i).alsoForward == 1) i addr b s t) ∧
    (∀ i, b.kind = 18 → s.run.held ≠ some addr → BelongsTo s ch addr i → (chanEntry s.tbl.channels i).role = 2 →
      ((∀ p, ¬ HoldsPosition b.payload addr s p) →
        ∃ t, exec (.replyReceived b) s = .next t ∧ ChangesOnly [.loop, .ctl, .cht] s t ∧ s.ctl.QueueKept t.ctl ∧
          PollAnswered ch addr b s t ∧ Counted i (fun e => e.after false false (some .form)) s t) ∧
      ∀ p, HoldsPosition b.payload addr s p →
        ∃ t, exec (.replyReceived b) s = .next t ∧ ChangesOnly [.loop, .ctl, .cht, .run] s t ∧
          s.ctl.QueueKept t.ctl ∧ PollAnswered ch addr b s t ∧ Counted i (fun e => e.after true false none) s t ∧
          t.run = if s.run.held = none then { s.run with position := some p } else s.run) ∧
    (∀ i, b.kind = 19 → s.run.held ≠ some addr → BelongsTo s ch addr i → (chanEntry s.tbl.channels i).role = 2 →
      ∃ t, exec (.replyReceived b) s = .next t ∧ ChangesOnly [.loop, .ctl, .cht] s t ∧ s.ctl.QueueKept t.ctl ∧
        PollAnswered ch addr b s t ∧
        Counted i (fun e => e.after false false (if b.payload = [] then none else some .form)) s t) ∧
    (∀ i, b.kind = 20 → BelongsTo s ch addr i → (chanEntry s.tbl.channels i).role = 4 →
      ∃ t, exec (.replyReceived b) s = .next t ∧ ChangesOnly [.loop, .ctl, .cht, .upl] s t ∧
        PollAnswered ch addr b s t ∧ ServiceAsked i addr b s t) ∧
    (b.kind = 19 → s.run.held = some addr →
      ∃ t, exec (.replyReceived b) s = .next t ∧ ChangesOnly [.loop, .ctl, .cht] s t ∧ s.ctl.QueueKept t.ctl ∧
        PollAnswered ch addr b s t ∧
        t.cht =
          if b.payload = [] then { s.cht with winchClassified := inc16 s.cht.winchClassified }
          else
            { s.cht with
              winchClassified := inc16 s.cht.winchClassified, winchDiscarded := inc16 s.cht.winchDiscarded,
              winchReason := some .form }) ∧
    (b.kind = 18 → s.run.held = some addr →
      ((∀ p, ¬ HoldsPosition b.payload addr s p) →
        ∃ t, exec (.replyReceived b) s = .next t ∧ ChangesOnly [.loop, .ctl, .cht] s t ∧ s.ctl.QueueKept t.ctl ∧
          PollAnswered ch addr b s t ∧
          t.cht =
            { s.cht with
              winchClassified := inc16 s.cht.winchClassified, winchDiscarded := inc16 s.cht.winchDiscarded,
              winchReason := some .form }) ∧
      ∀ p, HoldsPosition b.payload addr s p →
        ∃ t, exec (.replyReceived b) s = .next t ∧ EventFrame [.loop, .cht, .run, .pls, .rat, .store, .upl] s t ∧
          PollAnswered ch addr b s t ∧ t.cht = { s.cht with winchClassified := inc16 s.cht.winchClassified } ∧
          PositionJudged p none True s t) ∧
    (¬ InHeldPlace s addr b.kind → (∀ i, ¬ Names s i addr) →
      ∃ t, exec (.replyReceived b) s = .next t ∧ ChangesOnly [.loop, .ctl, .cht] s t ∧ s.ctl.QueueKept t.ctl ∧
        PollAnswered ch addr b s t ∧
        t.cht =
          { s.cht with
            unknownAddr := some (BitVec.ofNat 8 addr), unknownTime := some s.now,
            unknownCount := inc16 s.cht.unknownCount })

/-- R2 to R4, R9, R12, R13, R36, R44, R46, R73, R92: the first good SAMPLE of the STAGE-PRIMARY channel with no stage
selected: it is scaled and accepted, stage is restored, and the selected stage is handed on to rating, warning, where
the STAGE and DISCHARGE rules see it and the level moves, and interval. That a stand-down time of 0 expires in the same
event is the model's reading (log entry 26). That a latch disarmed by the retrieval has no arm time (log entry 45) and
that the vertical cursor is absent in it (log entry 46) are the model's choice. -/
def Obligations.FirstSampleRestoresStage : Prop :=
  ∀ (s : State) (ch addr : Nat) (a : Byte) (b : FrameBody), s.resetLine = false → addr ≤ 30 →
    s.loop.txn = some { asker := .poll ch, addr := addr, phase := .replying } →
    s.loop.rx = some { addr := a, context := .reply } → a.toNat = addr → b.kind = 16 → BodyGood b → ch < 24 →
    activeIn s.cht.view ch = true → (chanEntry s.tbl.channels ch).addr = addr →
    (chanEntry s.tbl.channels ch).role = 0 → (chanEntry s.tbl.channels ch).alsoForward = 0 →
    b.payload.length ∈ [3, 5, 7, 9] → u8 b.payload 0 = 0 → 1 ≤ (chanEntry s.tbl.channels ch).index →
    2 * (chanEntry s.tbl.channels ch).index + 1 ≤ b.payload.length →
    s.stg.prim.last = none → s.stg.selection = .none →
    ∃ t, exec (.replyReceived b) s = .next t ∧
      EventFrame [.loop, .cht, .stg, .rat, .wrn, .run, .pls, .store, .upl] s t ∧ s.upl.PortKept t.upl ∧
      let e := chanEntry s.tbl.channels ch
      let v := e.offset + roundDiv ((u16 b.payload (2 * e.index - 1) : Int) * e.gain) 65536
      let mm := max (-2000) (min 20000 v)
      (∃ c : Sample, c.mm = mm ∧ (c.clamped = true ↔ v < -2000 ∨ 20000 < v) ∧
        t.stg.prim =
          { s.stg.prim with
            state := .valid, last := some c, lastTime := some s.now,
            staleAt := some (s.now + cfgStaleLimit s.tbl.config) } ∧
        t.stg.selected = some { mm := mm, clamped := c.clamped, alignLimit := false, secondaryUsed := false }) ∧
      t.stg.sec = s.stg.sec ∧ t.stg.selection = .primary ∧ t.stg.acc.last = some mm ∧
      t.stg.acc.count = inc16 s.stg.acc.count ∧ t.rat.latest = some (s.discharge mm) ∧ t.rat.live = s.rat.live ∧
      t.wrn.stageLost = false ∧ t.wrn.resetHold = false ∧ t.wrn.target = t.wrn.targetOf s.tbl.rules ∧
      ∃ st, st = s.store.append
          (.notice { time := s.clk.time, valid := s.clk.valid, body := .stageRestored .primary }) ∧
        (t.store = st ∨ ∃ w, t.store = st.append (.warning w)) ∧ StageEvaluated st s t

/-- R3, R4, R8 to R13: the spike rule. A sample further than the spike limit from the last accepted stage is held back as
the suspect and changes nothing else but the recovery count of R8; within the limit of a suspect both are accepted, the
suspect first; and within the limit of the last accepted stage it is accepted and the suspect dropped. An acceptance, the
first sample of a source among them, makes the source VALID until its expiry. PRIMARY counts toward its recovery under
SECONDARY, is selected again at the recovery count, and restores stage under NONE; SECONDARY sets the alignment offset
while PRIMARY is VALID, and restores stage under NONE; the source then selected gives one new selected stage, that of
SECONDARY with the offset added where it is within the alignment limit. That a stand-down time of 0 expires in the same event is the model's reading (log entry 26). That a latch disarmed by the
retrieval has no arm time (log entry 45) and that the vertical cursor is absent in it (log entry 46) are the model's
choice. -/
def Obligations.SpikeRuleHoldsOneSampleBack : Prop :=
  (∀ (s : State) (src : Source) (v l : Sample) (time : Nat), (s.stg.source src).last = some l →
    let far (x y : Sample) : Prop := (cfgSpikeLimit s.tbl.config : Int) < |x.mm - y.mm|
    let t := judgeSample src v time s
    (far v l → (∀ q, (s.stg.source src).suspect = some q → far v q) →
      t.stg.source src = { s.stg.source src with suspect := some v } ∧ t.stg.selected = s.stg.selected ∧
      t.stg.selection = s.stg.selection ∧ t.stg.acc = s.stg.acc ∧ ChangesOnly [.stg] s t ∧
      t.stg.recovery = if src = .primary ∧ s.stg.selection = .secondary then 0 else s.stg.recovery) ∧
    (∀ q, (s.stg.source src).suspect = some q → ¬ far v q →
      t = accept src v time
        (accept src q time (s.setStg (s.stg.setSource src { s.stg.source src with suspect := none }))) ∧
      (t.stg.source src).last = some v ∧ (t.stg.source src).suspect = none) ∧
    (¬ far v l → (∀ q, (s.stg.source src).suspect = some q → far v q) →
      (t.stg.source src).last = some v ∧ (t.stg.source src).suspect = none ∧ (t.stg.source src).state = .valid ∧
      (t.stg.source src).lastTime = some time ∧
      (t.stg.source src).staleAt = some (time + cfgStaleLimit s.tbl.config))) ∧
  (∀ (limit : Nat) (o : Int) (v : Sample),
    let w := aligned limit o v
    w.secondaryUsed = true ∧
    (|o| ≤ (limit : Int) →
      w.mm = max (-2000) (min 20000 (v.mm + o)) ∧ w.alignLimit = false ∧
      (w.clamped = true ↔ v.clamped = true ∨ v.mm + o < -2000 ∨ 20000 < v.mm + o)) ∧
    ((limit : Int) < |o| → w.mm = v.mm ∧ w.alignLimit = true ∧ w.clamped = v.clamped)) ∧
  ∀ (s : State) (src : Source) (v : Sample) (time : Nat),
    let t := accept src v time s
    let r : SourceRec :=
      { s.stg.source src with
        state := .valid, last := some v, lastTime := some time, staleAt := some (time + cfgStaleLimit s.tbl.config) }
    let g := s.stg.setSource src r
    let own : Selected := { mm := v.mm, clamped := v.clamped, alignLimit := false, secondaryUsed := false }
    let restored := s.store.append (.notice { time := s.clk.time, valid := s.clk.valid, body := .stageRestored src })
    ((s.stg.source src).last = none → judgeSample src v time s = t) ∧
    t.stg.source src = r ∧ (∀ o, o ≠ src → t.stg.source o = s.stg.source o) ∧
    (src = .primary → s.stg.selection = .primary → Published g own s.store s t) ∧
    (src = .primary → s.stg.selection = .secondary →
      (s.stg.recovery + 1 < cfgRecovery s.tbl.config →
        ChangesOnly [.stg] s t ∧ t.stg = { g with recovery := s.stg.recovery + 1 }) ∧
      (cfgRecovery s.tbl.config ≤ s.stg.recovery + 1 →
        Published { g with selection := .primary, recovery := 0 } own s.store s t)) ∧
    (src = .primary → s.stg.selection = .none → Published { g with selection := .primary } own restored s t) ∧
    ∀ o : Int, src = .secondary →
      (∀ p, s.stg.prim.state = .valid → s.stg.prim.last = some p → o = p.mm - v.mm) →
      (s.stg.prim.state ≠ .valid ∨ s.stg.prim.last = none → o = s.stg.offset) →
      (s.stg.selection = .primary → ChangesOnly [.stg] s t ∧ t.stg = { g with offset := o }) ∧
      (s.stg.selection = .secondary →
        Published { g with offset := o } (aligned (cfgAlignLimit s.tbl.config) o v) s.store s t) ∧
      (s.stg.selection = .none →
        Published { g with selection := .secondary, recovery := 0, offset := o }
          (aligned (cfgAlignLimit s.tbl.config) o v) restored s t)

/-- R71, R72, R75, R104, R110: a marked character begins a frame, received under the grant, as the reply that a
transaction waits for, or as unsolicited; the claim wait is held. Within a frame it cuts that frame by MARK and begins
the next. An unsolicited frame only counts, as such or by its fault, and a claim wait restarts at its end; a low stop
bit with no frame begun and no reply awaited counts FRAMING. That FRAME_BEGINS stands for a marked character, which
restarts the time since when the line is high (R78), is log entry 14, and that FRAMING and an unsolicited frame can fall
under a grant is log entry 16, and that a claim wait restarts with the length it was started with is log entry 12: all
are the model's choice or reading. -/
def Obligations.FramesAreReceivedByTheReplyPair : Prop :=
  (∀ (s : State) (a : Byte), s.resetLine = false → s.loop.lineBreak = none → s.loop.rx = none →
    ∃ t, exec (.frameBegins (.marked a)) s = .next t ∧ ChangesOnly [.loop, .lines] s t ∧
      t.lines = { s.lines with replyLow := false } ∧
      t.loop = { s.loop with
        rx := t.loop.rx, txn := t.loop.txn, grant := t.loop.grant, highSince := s.fineNow, lowSince := none } ∧
      (s.loop.grant.held = true →
        t.loop.rx = some { addr := a, context := .granted } ∧ t.loop.txn = s.loop.txn ∧
        t.loop.grant =
          { s.loop.grant with wait := s.loop.grant.wait.map fun w => { w with expiry := none } }) ∧
      (s.loop.grant.held = false → t.loop.grant = s.loop.grant ∧
        ((∀ x e, s.loop.txn = some x → x.phase = .waiting e →
          t.loop.rx = some { addr := a, context := .reply } ∧ t.loop.txn = some { x with phase := .replying }) ∧
        ((∀ x e, s.loop.txn = some x → x.phase ≠ .waiting e) →
          t.loop.rx = some { addr := a, context := .unsolicited } ∧ t.loop.txn = s.loop.txn)))) ∧
  (∀ (s : State) (ch addr : Nat) (a m : Byte), s.resetLine = false → s.loop.lineBreak = none → 1 ≤ addr → addr ≤ 30 →
    s.loop.nodeFail.length = 30 → s.loop.grant.held = false → s.run.held ≠ some addr →
    s.loop.txn = some { asker := .poll ch, addr := addr, phase := .replying } →
    s.loop.rx = some { addr := a, context := .reply } →
    ∃ t, exec (.frameBegins (.marked m)) s = .next t ∧ PollFailed [.lines] .mark ch addr s t ∧
      t.lines = { s.lines with replyLow := false } ∧ t.loop.rx = some { addr := m, context := .unsolicited }) ∧
  (∀ (s : State) (a m : Byte), s.resetLine = false → s.loop.lineBreak = none →
    s.loop.rx = some { addr := a, context := .unsolicited } →
    ∃ t, exec (.frameBegins (.marked m)) s = .next t ∧ EventFrame [.loop, .lines] s t ∧
      t.lines = { s.lines with replyLow := false } ∧ t.loop.nodeFail = s.loop.nodeFail ∧
      t.loop.unsolicited = s.loop.unsolicited ∧ t.loop.faults = s.loop.faults.count .mark ∧
      t.loop.rx = some { addr := m, context := NextContext s }) ∧
  (∀ s : State, s.resetLine = false → s.loop.rx = none → (∀ x e, s.loop.txn = some x → x.phase ≠ .waiting e) →
    ∃ t, exec (.unsolicitedFrame (.failed .framing)) s = .next t ∧ EventFrame [.loop] s t ∧ t.loop.rx = none ∧
      t.loop.nodeFail = s.loop.nodeFail ∧ t.loop.unsolicited = s.loop.unsolicited ∧
      t.loop.faults = s.loop.faults.count .framing ∧ (s.loop.grant.held = true → t.loop.grant = s.loop.grant)) ∧
  ∀ (s : State) (a : Byte), s.resetLine = false → s.loop.rx = some { addr := a, context := .unsolicited } →
    (∀ b, BodyGood b →
      ∃ t, exec (.unsolicitedFrame (.complete b)) s = .next t ∧ EventFrame [.loop] s t ∧ t.loop.rx = none ∧
        ClaimWaitRestarted s t ∧ t.loop.nodeFail = s.loop.nodeFail ∧ t.loop.faults = s.loop.faults ∧
        t.loop.unsolicited = if s.loop.unsolicited < 65535 then s.loop.unsolicited + 1 else 65535) ∧
    (∀ b, ¬ BodyGood b →
      ∃ t, exec (.unsolicitedFrame (.complete b)) s = .next t ∧ EventFrame [.loop] s t ∧ t.loop.rx = none ∧
        ClaimWaitRestarted s t ∧ t.loop.nodeFail = s.loop.nodeFail ∧ t.loop.unsolicited = s.loop.unsolicited ∧
        t.loop.faults = s.loop.faults.count (bodyFailure b)) ∧
    ∀ f, f ≠ .stray →
      ∃ t, exec (.unsolicitedFrame (.failed f)) s = .next t ∧ EventFrame [.loop] s t ∧
        t.loop.nodeFail = s.loop.nodeFail ∧ t.loop.unsolicited = s.loop.unsolicited ∧
        t.loop.faults = s.loop.faults.count (faultKind f) ∧
        ((∀ m, f ≠ .mark m) → t.loop.rx = none ∧ ClaimWaitRestarted s t) ∧
        ∀ m, f = .mark m → t.loop.rx = some { addr := m, context := NextContext s }

/-- R76 to R78, R111: a break, its end, and the jam: 1,000 ms after its falling edge the loop is JAMMED, a grant held ends
without CLAIM and a notice is written; after 10 character times of a high line it is RUNNING again, with a notice of how
long it was jammed and of the polls skipped. The break's edge put two character times before BREAK_DETECTED, the FRAMING
counted by it only for a line that a reset found low, and the fall of the line that begins no frame as an operand of
FRAME_BEGINS are the model's choice (log entries 14 and 15). -/
def Obligations.BreaksJamAndClearTheLoop : Prop :=
  (∀ s : State, s.resetLine = false → s.loop.lineBreak = none →
    (∀ e, s.loop.lowSince = some e → e + 2 * loopChar s.loop.rate ≤ s.fineNow) →
    ∃ t, exec .breakDetected s = .next t ∧ ChangesOnly [.loop, .lines] s t ∧
      t.lines = { s.lines with replyLow := true } ∧
      t.loop = { s.loop with lineBreak := t.loop.lineBreak, lowSince := none, faults := t.loop.faults } ∧
      t.loop.faults = (if s.loop.lowSince = none then s.loop.faults else s.loop.faults.count .framing) ∧
      t.loop.lineBreak = some (s.loop.lowSince.getD (s.fineNow - 2 * loopChar s.loop.rate))) ∧
  (∀ s : State, exec (.frameBegins .unmarked) s = .next { s with lines := { s.lines with replyLow := true } }) ∧
  (∀ s : State, s.resetLine = false →
    ∃ t, exec .breakEnd s = .next t ∧ EventFrame [.loop, .lines] s t ∧ t.lines = { s.lines with replyLow := false } ∧
      t.loop.lineBreak = none ∧ t.loop.lowSince = none ∧ t.loop.highSince = s.fineNow ∧ t.loop.jam = s.loop.jam ∧
      t.loop.rx = s.loop.rx ∧ t.loop.nodeFail = s.loop.nodeFail ∧ t.loop.faults = s.loop.faults) ∧
  (∀ (s : State) (e : Nat), s.resetLine = false → s.loop.jam = none → s.loop.lineBreak = some e →
    e + 96000 ≤ s.fineNow →
    ∃ t, exec .loopJammed s = .next t ∧ EventFrame [.loop, .run, .store, .upl] s t ∧ s.upl.PortKept t.upl ∧
      t.loop.jam = some { entered := s.now, skipped := 0 } ∧ t.loop.lineBreak = s.loop.lineBreak ∧
      t.loop.nodeFail = s.loop.nodeFail ∧ t.run.state = s.run.state ∧
      t.store = s.store.append (.notice { time := s.clk.time, valid := s.clk.valid, body := .loopJammed }) ∧
      (s.loop.grant.held = true → GrantEnded .jammed s.loop.grant.count s t ∧ t.loop.claimPlace = false) ∧
      (s.loop.grant.held = false → t.loop.grant = s.loop.grant ∧ t.run = s.run)) ∧
  ∀ (s : State) (j : Jam), s.resetLine = false → s.loop.jam = some j → s.loop.lineBreak = none →
    s.lines.replyLow = false →
    s.loop.lowSince = none → s.loop.rx = none → s.loop.highSince + 10 * loopChar s.loop.rate ≤ s.fineNow →
    ∃ t, exec .loopCleared s = .next t ∧ EventFrame [.loop, .store, .upl] s t ∧ s.upl.PortKept t.upl ∧
      t.loop.jam = none ∧ t.loop.nodeFail = s.loop.nodeFail ∧ t.loop.faults = s.loop.faults ∧
      t.store = s.store.append
        (.notice { time := s.clk.time, valid := s.clk.valid, body := .loopCleared (s.now - j.entered) j.skipped })

/-! ## Grants (chapter 6) -/

/-- R77, R103, R108: the GRANT frame has been sent and the grant begins: HELD, with its count at 0 and its timer running;
RUN is told and hands its move; a pending winch command for the node goes to the winch command place; a recorded claim is
made; and in a jam the grant ends at once. The count of grants begun without bound (log entry 48), and the frame in progress
that becomes unsolicited when the grant ends at once (log entry 16), are the model's choice or reading. -/
def Obligations.GrantBeginsWhenItsFrameIsSent : Prop :=
  ∀ (s : State) (a l d : Nat) (m : ReleaseMode) (c : RunCmd), s.resetLine = false →
    s.loop.tx = some { frame := .opening a (.grant l m), doneAt := d } → d ≤ s.fineNow →
    s.loop.txn = some { asker := .run c, addr := a, phase := .sending } → s.loop.grant.state = .opening →
    s.loop.grant.node = a → s.run.held = some a → s.run.haltId = none →
    ∃ t, exec .grantBegin s = .next t ∧ EventFrame [.loop, .run] s t ∧ t.run.state = s.run.state ∧
      t.loop.grant.begun = s.loop.grant.begun + 1 ∧ t.loop.nodeFail = s.loop.nodeFail ∧
      t.loop.rx = s.loop.rx.map (fun r => if r.context = .granted ∧ s.loop.jam ≠ none then
        { r with context := .unsolicited } else r) ∧
      (s.loop.jam ≠ none → GrantEnded .jammed 0 s t) ∧
      (s.loop.jam = none →
        t.loop.txn = none ∧ t.loop.grant.node = a ∧ t.loop.grant.count = 0 ∧ t.loop.grant.began = s.now ∧
        t.run.grantKnown = some a ∧
        (s.loop.grant.recorded = none →
          t.loop.grant.state = .held ∧ t.loop.grant.timerAt = some (s.now + cfgGrantTimeout s.tbl.config)) ∧
        (∀ x, s.loop.grant.recorded = some x →
          t.loop.grant.state = .claiming ∧ t.loop.grant.cause = some x ∧ t.loop.grant.recorded = none ∧
          ClaimOnItsWay t) ∧
        (∀ k, s.loop.pendingCmd = none → s.run.moveCommand = some k → HandedOver k a t) ∧
        ∀ x, s.loop.pendingCmd = some x → x.kind.isWinch = true → x.addr = a → s.run.state = .retrieve →
          t.loop.pendingCmd = none ∧ Handed x t.loop)

/-- R72, R74, R89 to R98, R104 to R107, R110, R111, R134 to R152: the frames of a grant. A failed one counts against the
granted node, does not end the grant, and reaches a run whose winch the node is at the third failure; a good BURST-END of
the node ends the grant; a good POSITION is counted, held to the limit, judged by the state RUN is in, and, when it
reports other than MOVING outside the HOLD mode, makes a HELD grant CLOSING. A POSITION discarded as FORM is counted and
watched all the same, which is the model's reading (log entry 19). A good frame outside the held winch address is handled
by the role of the lowest entry that names its node, or as unknown; of another node than the granted one it leaves the
grant, but for a stage sample that raises the level; and a node that RUN no longer holds still has its POSITIONs counted
and ends its grant by a BURST-END under a WINCH entry. A claim wait restarts with the length it was started with (log
entry 12), a count at 255 brings the run nothing more (log entry 13), FRAME_BEGINS within a frame is its MARK (log entry
14), the sender judges GAP's 4 character times (log entry 54), and the counts of the held winch address hold at 65,535
(log entry 49): these are the model's choice or reading. That a latch disarmed by the retrieval has no arm time (log
entry 45) and that the vertical cursor is absent in it (log entry 46) are the model's choice. -/
def Obligations.GrantFramesAreCountedAndEndTheGrant : Prop :=
  ∀ (s : State) (a : Byte), s.resetLine = false → s.loop.grant.held = true → 1 ≤ s.loop.grant.node →
    s.loop.grant.node ≤ 30 → s.loop.nodeFail.length = 30 → s.loop.rx = some { addr := a, context := .granted } →
    s.loop.txn = none →
    (∀ fin k, (fin = .failed .framing ∧ k = .framing) ∨ (fin = .failed .length ∧ k = .length) ∨
        (fin = .failed .crc ∧ k = .crc) →
      ∃ t, exec (.grantFrameReceived fin) s = .next t ∧ GrantFrameFailed [.run, .pls] k none s t) ∧
    (∀ b, ¬ BodyGood b →
      ∃ t, exec (.grantFrameReceived (.complete b)) s = .next t ∧
        GrantFrameFailed [.run, .pls] (bodyFailure b) none s t) ∧
    (∃ t, exec .receptionGap s = .next t ∧ GrantFrameFailed [.run, .pls] .gap none s t) ∧
    (∀ m, ∃ t, exec (.grantFrameReceived (.failed (.mark m))) s = .next t ∧
      GrantFrameFailed [.run, .pls] .mark (some m) s t) ∧
    (∀ m, s.loop.lineBreak = none →
      ∃ t, exec (.frameBegins (.marked m)) s = .next t ∧ GrantFrameFailed [.run, .pls, .lines] .mark (some m) s t) ∧
    (∀ b, BodyGood b → a.toNat = s.loop.grant.node → s.run.held = some a.toNat → b.kind = 19 → b.payload = [] →
      ∃ t, exec (.grantFrameReceived (.complete b)) s = .next t ∧ EventFrame [.loop, .cht, .run] s t ∧
        t.loop.rx = none ∧ t.loop.nodeCount s.loop.grant.node = 0 ∧ t.run.state = s.run.state ∧
        GrantEnded (if s.loop.grant.state = .claiming then .claimAnswered else .burstEnd) s.loop.grant.count s t ∧
        t.cht = { s.cht with winchClassified := inc16 s.cht.winchClassified }) ∧
    (∀ b p, BodyGood b → a.toNat = s.loop.grant.node → s.run.held = some a.toNat → b.kind = 18 →
      HoldsPosition b.payload a.toNat s p →
      ∃ t, exec (.grantFrameReceived (.complete b)) s = .next t ∧
        EventFrame [.loop, .cht, .run, .pls, .rat, .store, .upl] s t ∧ s.upl.PortKept t.upl ∧
        t.loop.rx = none ∧ t.loop.nodeCount s.loop.grant.node = 0 ∧
        t.cht = { s.cht with winchClassified := inc16 s.cht.winchClassified } ∧
        PositionJudged p none (s.loop.grant.count + 1 < s.loop.grant.limit) s t ∧
        (s.loop.grant.limit ≤ s.loop.grant.count + 1 → GrantEnded .limit (s.loop.grant.count + 1) s t) ∧
        (s.loop.grant.count + 1 < s.loop.grant.limit →
          t.loop.grant.count = s.loop.grant.count + 1 ∧
          if s.run.state.working = true ∧ t.run.state = .retrieve then
            t.loop.grant.state = .claiming ∧ t.loop.grant.cause = some .runEngine
          else
            t.loop.grant.timerAt = s.loop.grant.timerAt ∧
            t.loop.grant.state =
              if p.winch ≠ .moving ∧ s.loop.grant.mode ≠ .hold ∧ s.loop.grant.state = .held then .closing
              else s.loop.grant.state)) ∧
    (∀ b, BodyGood b → InHeldPlace s a.toNat b.kind → b.kind = 18 ∨ a.toNat ≠ s.loop.grant.node ∨ b.payload ≠ [] →
      (b.kind = 18 → ∀ p, ¬ HoldsPosition b.payload a.toNat s p) →
      ∃ t, exec (.grantFrameReceived (.complete b)) s = .next t ∧ EventFrame [.loop, .cht, .run] s t ∧
        GrantFrameHeard a s t ∧ GrantWatches a b False s.run s t ∧
        t.cht =
          if b.kind = 19 ∧ b.payload = [] then { s.cht with winchClassified := inc16 s.cht.winchClassified }
          else
            { s.cht with
              winchClassified := inc16 s.cht.winchClassified, winchDiscarded := inc16 s.cht.winchDiscarded,
              winchReason := some .form }) ∧
    (∀ b p, BodyGood b → a.toNat ≠ s.loop.grant.node → s.run.held = some a.toNat → b.kind = 18 →
      HoldsPosition b.payload a.toNat s p →
      ∃ t, exec (.grantFrameReceived (.complete b)) s = .next t ∧
        EventFrame [.loop, .cht, .run, .pls, .rat, .store, .upl] s t ∧ s.upl.PortKept t.upl ∧ GrantFrameHeard a s t ∧
        ClaimWaitRestarted s t ∧ t.cht = { s.cht with winchClassified := inc16 s.cht.winchClassified } ∧
        PositionJudged p none True s t ∧ t.loop.grant.count = s.loop.grant.count ∧
        if s.run.state.working = true ∧ t.run.state = .retrieve then t.loop.grant.state = .claiming
        else t.loop.grant.state = s.loop.grant.state ∧ t.loop.grant.timerAt = s.loop.grant.timerAt) ∧
    (∀ b i r, BodyGood b → ¬ InHeldPlace s a.toNat b.kind → Names s i a.toNat → (∀ j, j < i → ¬ Names s j a.toNat) →
      RunHears i a.toNat b s r →
      ∃ t, exec (.grantFrameReceived (.complete b)) s = .next t ∧ HandledByRole i a.toNat b s t ∧
        GrantFrameHeard a s t ∧
        (b.kind = 16 → (chanEntry s.tbl.channels i).role ≤ 1 →
          ClaimWaitRestarted s t ∧ t.loop.grant.count = s.loop.grant.count ∧
          (t.loop.grant.state = s.loop.grant.state ∨ t.loop.grant.state = .claiming)) ∧
        (b.kind ≠ 16 ∨ 2 ≤ (chanEntry s.tbl.channels i).role →
          GrantWatches a b (b.kind = 19 ∧ b.payload = [] ∧ (chanEntry s.tbl.channels i).role = 2) r s t)) ∧
    ∀ b, BodyGood b → ¬ InHeldPlace s a.toNat b.kind → (∀ i, ¬ Names s i a.toNat) →
      ∃ t, exec (.grantFrameReceived (.complete b)) s = .next t ∧ EventFrame [.loop, .cht, .run] s t ∧
        GrantFrameHeard a s t ∧ GrantWatches a b False s.run s t ∧
        t.cht =
          { s.cht with
            unknownAddr := some a, unknownTime := some s.now, unknownCount := inc16 s.cht.unknownCount }

/-- R82, R108, R110, R111, R152: the grant timer makes a claim; the claim wait ends the grant with NO-BURST-END and
counts against its node, which reaches a run whose winch the node is at the third failure; at the end of the interleave
a GRANT that waits is chosen. That the grant ends before the count rises is the model's reading (log entry 12). That a
count at 255, which no longer rises, brings the run nothing more is its reading (log entry 13). That a latch disarmed by
the retrieval has no arm time (log entry 45) and that the vertical cursor is absent in it (log entry 46) are the model's
choice. -/
def Obligations.GrantTimersClaimEndAndRelease : Prop :=
  (∀ (s : State) (e : Nat), s.resetLine = false → s.loop.grant.state = .held ∨ s.loop.grant.state = .closing →
    s.loop.grant.timerAt = some e → e ≤ s.now →
    ∃ t, exec .grantTimeout s = .next t ∧ EventFrame [] s t ∧
      t.loop.grant = { s.loop.grant with state := .claiming, timerAt := none, cause := some .timeout } ∧
      ClaimOnItsWay t) ∧
  (∀ (s : State) (e n : Nat), s.resetLine = false → s.loop.grant.state = .closing ∨ s.loop.grant.state = .claiming →
    s.loop.grant.wait = some { length := n, expiry := some e } → e ≤ s.fineNow → 1 ≤ s.loop.grant.node →
    s.loop.grant.node ≤ 30 → s.loop.nodeFail.length = 30 →
    ∃ t, exec .claimWaitExpiry s = .next t ∧ EventFrame [.loop, .run, .pls] s t ∧
      t.loop.nodeCount s.loop.grant.node = min (s.loop.nodeCount s.loop.grant.node + 1) 255 ∧
      (∀ x, x ≠ s.loop.grant.node → t.loop.nodeCount x = s.loop.nodeCount x) ∧
      (s.run.held = some s.loop.grant.node → WinchFailed s.loop.grant.node s t) ∧
      (s.run.held ≠ some s.loop.grant.node →
        t.run.state = s.run.state ∧ t.run.record = s.run.record ∧ t.run.vertical = s.run.vertical ∧
        t.run.marker = s.run.marker ∧ t.pls = s.pls) ∧
      t.loop.claimPlace = false ∧ GrantEnded .noBurstEnd s.loop.grant.count s t ∧
      t.loop.grant.endedNoBurstEnd = inc16 s.loop.grant.endedNoBurstEnd) ∧
  ∀ (s : State) (e l : Nat) (m : ReleaseMode) (c : RunCmd), s.resetLine = false →
    s.loop.grant.interleaveAt = some e → e ≤ s.now →
    s.loop.txn = none → s.loop.grant.held = false → s.loop.jam = none → s.loop.lineBreak = none →
    s.loop.pendingCmd = some c → c.kind = .grant l m →
    ∃ t, exec .interleaveEnd s = .next t ∧ EventFrame [] s t ∧ t.loop.grant.interleaveAt = none ∧
      t.loop.grant.state = .opening ∧ t.loop.grant.node = c.addr ∧ t.loop.grant.mode = m ∧
      t.loop.grant.limit = min (max l 1) 32 ∧ t.loop.pendingCmd = none ∧
      ∃ ph, t.loop.txn = some { asker := .run c, addr := c.addr, phase := ph }

/-! ## The pulse inputs (chapter 7) -/

/-- R115: a closure at least the debounce time after the last accepted one is accepted, an earlier one is ignored, each
counted; the level follows an opening without debounce. -/
def Obligations.ContactsAreDebounced : Prop :=
  ∀ (s : State) (c : Contact), s.resetLine = false →
    ((s.pls.input c).closed = false → ClosureAccepted s c →
      ∃ t, exec (.contactClosure c) s = .next t ∧ EventFrame [.pls, .lines, .run] s t ∧
        t.lines = withContact s.lines c true ∧
        t.pls.input c =
          { closed := true, lastAccepted := some s.now, accepted := inc16 (s.pls.input c).accepted,
            ignored := (s.pls.input c).ignored } ∧
        ∀ o, o ≠ c → t.pls.input o = s.pls.input o) ∧
    ((s.pls.input c).closed = false → ¬ ClosureAccepted s c →
      ∃ t, exec (.contactClosure c) s = .next t ∧ EventFrame [.pls, .lines] s t ∧
        t.lines = withContact s.lines c true ∧ t.pls.rotor = s.pls.rotor ∧ t.pls.surface = s.pls.surface ∧
        t.pls.bottom = s.pls.bottom ∧
        t.pls.input c =
          { s.pls.input c with closed := true, ignored := inc16 (s.pls.input c).ignored } ∧
        ∀ o, o ≠ c → t.pls.input o = s.pls.input o) ∧
    ∃ t, exec (.contactOpening c) s = .next t ∧ ChangesOnly [.pls, .lines] s t ∧
      t.lines = withContact s.lines c false ∧ t.pls.rotor = s.pls.rotor ∧ t.pls.surface = s.pls.surface ∧
      t.pls.bottom = s.pls.bottom ∧ t.pls.input c = { s.pls.input c with closed := false } ∧
      ∀ o, o ≠ c → t.pls.input o = s.pls.input o

/-- R116, R118 to R121, R123, R144: the rotor measurement: what an accepted closure does in each state, and how the
exposure, the time limit, the target count and a missing pulse end it. -/
def Obligations.RotorMeasurementCountsAndEnds : Prop :=
  (∀ s : State, s.resetLine = false → s.pls.rotorIn.closed = false → ClosureAccepted s .rotor →
    ∃ t, exec (.contactClosure .rotor) s = .next t ∧ EventFrame [.pls, .lines, .run] s t ∧
      t.pls.surface = s.pls.surface ∧ t.pls.bottom = s.pls.bottom ∧
      match s.pls.rotor.state, s.pls.rotor.mode with
      | .armed, _ =>
        t.run = s.run ∧
        t.pls.rotor =
          { s.pls.rotor with
            state := .counting, count := 0, start := some s.now,
            exposureAt := some (s.now + 1000 * s.pls.rotor.exposure),
            missAt := some (s.now + s.pls.rotor.missTimeout) }
      | .counting, .gate =>
        t.run = s.run ∧
        t.pls.rotor =
          { s.pls.rotor with
            count := (if s.pls.rotor.count < 65535 then s.pls.rotor.count + 1 else 65535),
            clamped := (s.pls.rotor.clamped || s.pls.rotor.count == 65535),
            missAt := some (s.now + s.pls.rotor.missTimeout) }
      | .counting, .period =>
        if s.pls.rotor.count + 1 = s.pls.rotor.revs * s.pls.rotor.p then
          RotorEnded
            { mode := .period, n := s.pls.rotor.revs * s.pls.rotor.p, t := s.now - s.pls.rotor.start.getD s.now,
              countClamped := s.pls.rotor.clamped, periodShort := false, noRotation := false, p := s.pls.rotor.p,
              start := s.pls.rotor.start, stop := s.now }
            s t
        else
          t.run = s.run ∧
          t.pls.rotor =
            { s.pls.rotor with count := s.pls.rotor.count + 1, missAt := some (s.now + s.pls.rotor.missTimeout) }
      | _, _ => t.run = s.run ∧ t.pls.rotor = s.pls.rotor) ∧
  (∀ (s : State) (e : Nat), s.resetLine = false → s.pls.rotor.state = .counting → s.pls.rotor.exposureAt = some e →
    e ≤ s.now →
    ∃ t, exec (if s.pls.rotor.mode = .gate then .exposureExpiry else .timeLimitExpiry) s = .next t ∧
      EventFrame [.pls, .run] s t ∧ t.pls.surface = s.pls.surface ∧ t.pls.bottom = s.pls.bottom ∧
      RotorEnded
        { mode := s.pls.rotor.mode, n := s.pls.rotor.count, t := 1000 * s.pls.rotor.exposure,
          countClamped := s.pls.rotor.clamped, periodShort := s.pls.rotor.mode == .period, noRotation := false,
          p := s.pls.rotor.p, start := s.pls.rotor.start, stop := e }
        s t) ∧
  ∀ (s : State) (e : Nat), s.resetLine = false → s.pls.rotor.state = .armed ∨ s.pls.rotor.state = .counting →
    s.pls.rotor.missAt = some e → e ≤ s.now →
    ∃ t, exec .missingPulseExpiry s = .next t ∧ EventFrame [.pls, .run] s t ∧ t.pls.surface = s.pls.surface ∧
      t.pls.bottom = s.pls.bottom ∧
      RotorEnded
        { mode := s.pls.rotor.mode, n := if s.pls.rotor.start = none then 0 else s.pls.rotor.count,
          t := (match s.pls.rotor.start with
            | none => 0
            | some b => e - b),
          countClamped := s.pls.rotor.clamped, periodShort := false, noRotation := true, p := s.pls.rotor.p,
          start := s.pls.rotor.start, stop := e }
        s t

/-- R116, R125, R126, R140 to R142: the latches. One that is not ARMED is left as it is; an ARMED one takes the cable
count with its age, or NO-POSITION. In SURFACE-SEEK the count is the surface and RUN enters SOUND; in SOUND it is the
bottom, which fixes the depth and the points, by the method or one at the bottom, and RUN enters POINT-SEEK with a HALT; NO-POSITION aborts with
POSITION-ERROR. That a latch disarmed by the retrieval has no arm time (log entry 45) and that the vertical cursor is
absent in it (log entry 46) are the model's choice. -/
def Obligations.LatchesTakeTheCableCount : Prop :=
  (∀ (s : State) (cable : Option (Int × Nat)), s.resetLine = false → s.pls.surfaceIn.closed = false →
    ClosureAccepted s .surface → LatchTakes s.pls.surface s cable →
    ∃ t, exec (.contactClosure .surface) s = .next t ∧ EventFrame [.pls, .lines, .run] s t ∧
      (s.pls.surface.state ≠ .armed → t.pls.surface = s.pls.surface ∧ t.run = s.run) ∧
      (s.pls.surface.state = .armed → s.run.state ≠ .surfaceSeek →
        t.pls.surface = { s.pls.surface with state := .latched, value := some { cable := cable, closedAt := s.now } } ∧
        t.run = s.run) ∧
      ∀ v, s.pls.surface.state = .armed → s.run.state = .surfaceSeek → s.run.vertical = some v →
        (∀ n age, cable = some (n, age) →
          t.pls.surface =
            { s.pls.surface with state := .latched, value := some { cable := cable, closedAt := s.now } } ∧
          t.run.state = .sound ∧ t.run.vertical = some { v with surface := some n } ∧
          t.pls.bottom = { state := .armed, armTime := some s.now, value := none } ∧
          t.run.cableAt = some (s.now + 1000 * s.header.cableTimeout)) ∧
        (cable = none → RunAborted .positionError s t)) ∧
  ∀ (s : State) (cable : Option (Int × Nat)), s.resetLine = false → s.pls.bottomIn.closed = false →
    ClosureAccepted s .bottom → LatchTakes s.pls.bottom s cable →
    ∃ t, exec (.contactClosure .bottom) s = .next t ∧ EventFrame [.pls, .lines, .run] s t ∧
      (s.pls.bottom.state ≠ .armed → t.pls.bottom = s.pls.bottom ∧ t.run = s.run) ∧
      (s.pls.bottom.state = .armed → s.run.state ≠ .sound →
        t.pls.bottom = { s.pls.bottom with state := .latched, value := some { cable := cable, closedAt := s.now } } ∧
        t.run = s.run) ∧
      ∀ v, s.pls.bottom.state = .armed → s.run.state = .sound → s.run.vertical = some v →
        (∀ n age, cable = some (n, age) →
          t.run.state = .pointSeek ∧ t.pls.surface.state = .idle ∧ t.pls.bottom.state = .idle ∧
          t.run.cableAt = some (s.now + 1000 * s.header.cableTimeout) ∧
          (∀ a, s.run.held = some a → HandedOver .halt a t ∧ t.run.haltId = t.run.lastCmd.map fun c => c.1.id) ∧
          ∃ w d, t.run.vertical = some w ∧ w.surface = v.surface ∧ w.bottom = some n ∧
            d = n - v.surface.getD 0 + s.header.weightOffset ∧ w.depth = some d ∧ w.results = [] ∧
            (w.shallow = true ↔ d ≤ s.header.weightOffset) ∧
            (d ≤ s.header.weightOffset → w.points = [{ kind := .bottom, cable := n, shallow := false }]) ∧
            (s.header.weightOffset < d →
              w.points = placedPoints (methodOf s.header (planEntry s.plan v.entry)) (v.surface.getD 0) n d) ∧
            ∀ q ∈ w.points, q.cable ≤ n) ∧
        (cable = none → RunAborted .positionError s t)

/-! ## The run engine (chapters 8 and 9) -/

/-- R143: SETTLE lasts the plan's settle time, and RUN then enters EXPOSE; with a settle time of 0 it passes straight on. -/
def Obligations.SettleLastsThePlansTime : Prop :=
  (∀ s : State, s.header.settle ≠ 0 →
    (enterSettle s).run.state = .settle ∧ (enterSettle s).run.settleAt = some (s.now + 1000 * s.header.settle) ∧
    (enterSettle s).pls = s.pls) ∧
  (∀ s : State, s.header.settle = 0 → (enterSettle s).run.state = .expose) ∧
  ∀ (s : State) (e : Nat), s.resetLine = false → s.run.state = .settle → s.run.settleAt = some e → e ≤ s.now →
    ∃ t, exec .settleExpiry s = .next t ∧ EventFrame [.pls, .run] s t ∧ t.run.state = .expose ∧
      t.run.settleAt = none ∧ t.run.vertical = s.run.vertical ∧ t.run.record = s.run.record ∧
      t.pls.rotor.result = none ∧ t.pls.rotor.count = 0 ∧
      t.pls.rotor.missAt = some (s.now + cfgMissingPulse s.tbl.config) ∧
      t.pls.rotor.mode = (if s.header.exposureMode = 1 then .period else .gate) ∧
      t.pls.rotor.exposure = max 10 (min 300 s.header.exposure) ∧ t.pls.rotor.revs = max 1 (min 1000 s.header.revs) ∧
      t.pls.rotor.p = max 1 (min 16 s.header.p) ∧
      (s.header.exposureMode = 1 →
        t.pls.rotor.state = .armed ∧ t.pls.rotor.start = none ∧ t.pls.rotor.exposureAt = none) ∧
      (s.header.exposureMode ≠ 1 →
        t.pls.rotor.state = .counting ∧ t.pls.rotor.start = some s.now ∧
        t.pls.rotor.exposureAt = some (s.now + 1000 * max 10 (min 300 s.header.exposure)))

/-- R137, R138, R140, R147, R150, R151: the traverse and the cable timer abort the run with ABORTED-TIMEOUT; an expiry
that an event taken first has left to be taken second, as an AT-TARGET in POINT-SEEK does, aborts it in the state that
follows, or is a flag of a run that is not working; after an enquiry interval RUN hands its enquiry, or the RETRIEVE
again where none has been sent or answered. That a latch disarmed by the retrieval has no arm time (log entry 45) and
that the vertical cursor is absent in it (log entry 46) are the model's choice. -/
def Obligations.RunTimersAbortAndEnquire : Prop :=
  (∀ (s : State) (e : Nat), s.resetLine = false → s.run.state = .traverse ∨ s.run.state = .verify →
    s.run.traverseAt = some e → e ≤ s.now →
    ∃ t, exec .traverseTimeout s = .next t ∧ EventFrame [.pls, .run] s t ∧ RunAborted .abortedTimeout s t) ∧
  (∀ (s : State) (e : Nat), s.resetLine = false →
    s.run.state = .surfaceSeek ∨ s.run.state = .sound ∨ s.run.state = .pointSeek ∨ s.run.state = .lift →
    s.run.cableAt = some e → e ≤ s.now →
    ∃ t, exec .cableTimeout s = .next t ∧ EventFrame [.pls, .run] s t ∧ RunAborted .abortedTimeout s t ∧
      (s.loop.grant.state = .held ∨ s.loop.grant.state = .closing →
        t.loop.grant.state = .claiming ∧ t.loop.grant.cause = some .runEngine ∧ ClaimOnItsWay t)) ∧
  (∀ s : State, s.resetLine = false → s.run.traverseLapsed = true →
    ∃ t, exec .traverseTimeout s = .next t ∧ EventFrame [.pls, .run] s t ∧ t.run.traverseLapsed = false ∧
      (s.run.state.working = true → RunAborted .abortedTimeout s t) ∧
      (s.run.state.working = false → CauseNoted .abortedTimeout s t)) ∧
  (∀ s : State, s.resetLine = false → s.run.cableLapsed = true →
    ∃ t, exec .cableTimeout s = .next t ∧ EventFrame [.pls, .run] s t ∧ t.run.cableLapsed = false ∧
      (s.run.state.working = true → RunAborted .abortedTimeout s t) ∧
      (s.run.state.working = false → CauseNoted .abortedTimeout s t)) ∧
  (∀ s : State, s.run.state = .pointSeek → s.cableDue = true →
    (enterSettle s).cableDue = true ∧ (enterSettle s).run.state.working = true) ∧
  ∀ (s : State) (e a : Nat), s.resetLine = false → s.run.state = .verify ∨ s.run.state = .retrieve →
    s.run.enquiryAt = some e → e ≤ s.now → s.run.held = some a →
    ∃ t, exec .enquiryInterval s = .next t ∧ EventFrame [.run] s t ∧ t.run.state = s.run.state ∧
      t.run.enquiryAt = none ∧ t.run.record = s.run.record ∧
      HandedOver (if s.run.state = .retrieve ∧ s.run.retrieveSent = false then .retrieve else .poll) a t

/-- R37, R146, R147, R149, R156, R165, R166, R170: the ends of a retrieval and of CLOSE. At the retrieve timer an
aborted run enters CLOSE, a complete one is finished under RETRIEVE-TIMEOUT, and one begun at a reset writes
ABORTED-POWER or the RUN-RETRIEVED notice. The answer of the inverse lookup ends CLOSE: a complete run is retrieved, an
aborted one finished. Both commands complete in every state that has the event; the narrow frames leave aside only a
RETRIEVE with neither outcome nor vertical, or whose reset marker is gone, and a CLOSE that is COMPLETE already. That a
latch disarmed by the retrieval has no arm time (log entry 45) and that the vertical cursor is absent in it (log entry
46) are the model's choice. -/
def Obligations.RetrievalAndCloseEndTheRun : Prop :=
  (∀ (s : State) (e : Nat) (r : RunRec), s.resetLine = false → s.run.state = .retrieve → s.run.retrieveAt = some e →
    e ≤ s.now → s.run.record = some r →
    ∃ t, exec .retrieveTimeout s = .next t ∧ EventFrame [.run, .store, .upl, .pls, .rat] s t ∧
      s.upl.PortKept t.upl ∧
      ((r.fromMarker = false → r.outcome = none → r.verticals ≠ []) → (r.fromMarker = true → s.run.marker ≠ none) →
        EventFrame [.run, .store, .upl] s t) ∧
      (r.fromMarker = false → r.outcome = some .complete →
        FinishedPoor r .complete s t ∧
        ∃ g : GaugeRec, t.store = s.store.append (.gauging g) ∧ g.flags.retrieveTimeout = true) ∧
      (∀ m, r.fromMarker = true → s.run.marker = some m → m.written = false →
        FinishedPoor r .abortedPower s t ∧
        ∃ g : GaugeRec, t.store = s.store.append (.gauging g) ∧ g.flags.retrieveTimeout = true) ∧
      (∀ m, r.fromMarker = true → s.run.marker = some m → m.written = true →
        RunOver s t ∧
        t.store = s.store.append
          (.notice
            { time := s.clk.time, valid := s.clk.valid,
              body := .runRetrieved m.planId m.start m.startValid s.clk.time false })) ∧
      (∀ o, r.fromMarker = false → r.outcome = some o → o ≠ .complete → r.verticals = [] →
        FinishedPoor r o s t ∧
        ∃ g : GaugeRec, t.store = s.store.append (.gauging g) ∧ g.flags.retrieveTimeout = true) ∧
      (r.fromMarker = false → r.outcome ≠ some .complete → r.verticals ≠ [] →
        t.run.state = .close ∧ t.run.marker = s.run.marker ∧ t.run.held = s.run.held ∧ t.store = s.store ∧
        ∃ r', t.run.record = some r' ∧ r'.outcome = r.outcome ∧ r'.verticals = r.verticals ∧
          r'.flags = { r.flags with retrieveTimeout := true } ∧
          r'.figures = some (closeFigures (s.tbl.plan r.plan) r.verticals r.startStage))) ∧
  ∀ (s : State) (r : RunRec) (c : Calc) (q : Nat), s.resetLine = false → s.run.state = .close →
    s.run.record = some r → r.figures = some c → c.asked = some q →
    ∃ t, exec .inverseLookup s = .next t ∧ EventFrame [.run, .store, .upl, .pls, .rat] s t ∧ s.upl.PortKept t.upl ∧
      (∀ o, r.outcome = some o → o ≠ .complete → FinishedPoor r o s t ∧ EventFrame [.run, .store, .upl] s t) ∧
      (r.outcome = none →
        RetrieveBegun s t ∧ EventFrame [.run, .pls] s t ∧
        ∃ r' c', t.run.record = some r' ∧ r'.outcome = some .complete ∧ r'.figures = some c' ∧
          r'.verticals = r.verticals ∧ c'.asked = none ∧ c'.total = c.total ∧ c'.gaugeHeight = c.gaugeHeight ∧
          match inverseLookup s.rat.live q with
          | .noRating => c'.noRating = true ∧ c'.ratingId = c.ratingId ∧ c'.indicated = c.indicated
          | .outOfRating i => c'.outOfRating = true ∧ c'.ratingId = some i ∧ c'.indicated = c.indicated
          | .stage he i =>
            c'.ratingId = some i ∧
            if 100000000 < c.total then c'.outOfRating = true ∧ c'.indicated = c.indicated
            else c'.indicated = c.gaugeHeight.map fun g => he - g)

/-- R30, R149, R157 to R170: the gauging computation: the point velocity on the meter segment that applies, widths,
partial discharges and their sum, the mean gauge height, an exact half rounded away from zero, the stage change,
UNSTEADY and STAGE-GAP, and what the inverse lookup is asked; the mean velocity of a vertical by its method. The finish
of a complete run is graded POOR by any flag of the run, of a point or of the computation that a FAIR one may not carry,
else FAIR by SHALLOW-POINT, SHALLOW-VERTICAL or NO-ROTATION, and neither adopts; with no flag but ALTERNATE-USED it is
graded GOOD. Its indicated shift is adopted, as a record of one
point at stage 0, exactly when the plan asks for it, it is present and within the adopt limit, and the clock is VALID;
beyond the limit the gauging carries SHIFT-LIMIT. That the right edge is the last entry that is not a SPARE is the
model's reading (log entry 24). -/
def Obligations.GoodGaugingAdoptsItsShift : Prop :=
  (∀ (h : PlanHeader) (q : PointSpec) (r : RotorResult),
    let x := pointResult h q r
    x.kind = q.kind ∧ x.cable = q.cable ∧ x.mode = r.mode ∧ x.n = r.n ∧ x.t = r.t ∧ x.p = r.p ∧ x.shallow = q.shallow ∧
    x.countClamped = r.countClamped ∧ x.periodShort = r.periodShort ∧ x.noRotation = r.noRotation ∧
    (r.noRotation = true → x.velocity = 0 ∧ x.segment = none ∧ x.velocityClamped = false) ∧
    (r.noRotation = false → 0 < r.p * r.t →
      ∃ a b v, (if h.nBreak * r.p * r.t ≤ r.n * 1000000 then x.segment = some 2 ∧ a = h.a2 ∧ b = h.b2
          else x.segment = some 1 ∧ a = h.a1 ∧ b = h.b1) ∧
        2 * (r.p * r.t) * v ≤ 2 * (b * r.n) + r.p * r.t ∧ 2 * (b * r.n) + r.p * r.t < 2 * (r.p * r.t) * (v + 1) ∧
        x.velocity = min (a + v) 10000 ∧ (x.velocityClamped = true ↔ 10000 < a + v))) ∧
  (∀ (h : PlanHeader) (m : Method) (u v w : Nat) (vs : List Nat),
    meanVelocity h m true (u :: vs) = u ∧ meanVelocity h .onePoint false [u] = u ∧
    meanVelocity h .twoPoint false [u, v] = (u + v + 1) / 2 ∧
    meanVelocity h .threePoint false [u, v, w] = (u + 2 * v + w + 2) / 4 ∧
    meanVelocity h .surface false [u] = (u * h.k + 500) / 1000) ∧
  (∀ (plan : List Byte) (vs : List DoneVert) (start : Option Int),
    let c := closeFigures plan vs start
    let ls := vs.filterMap DoneVert.latch
    let right := ((lastEntry plan (u8 plan 42)).map PlanEntry.x).getD 0
    c.panels.length = vs.length ∧ c.total = (c.panels.map Prod.snd).sum ∧
    (∀ i v, vs[i]? = some v →
      ∃ before after w q, before = (if i = 0 then (planEntry plan 0).x else (vs[i - 1]?.map DoneVert.x).getD 0) ∧
        after = (vs[i + 1]?.map DoneVert.x).getD right ∧ c.panels[i]? = some (w, q) ∧
        w = (after - before + 1) / 2 ∧ q = (v.mean * v.depth * w + 500000) / 1000000) ∧
    (ls = [] → c.gaugeHeight = none ∧ c.stageChange = none ∧ c.unsteady = false ∧ (c.stageGap = true ↔ vs ≠ [])) ∧
    (ls ≠ [] → c.stageGap = false ∧
      (∃ g : Int, c.gaugeHeight = some g ∧ 2 * |ls.sum - g * ls.length| ≤ ls.length ∧
        (2 * |ls.sum - g * ls.length| = ls.length → |ls.sum| < |g * ls.length|)) ∧
      c.stageChange = (start.bind fun a => ls.getLast?.map fun l => l - a) ∧
      (c.unsteady = true ↔ ∃ x ∈ ls, ∃ y ∈ ls, ((planHeader plan).unsteadyLimit : Int) < x - y)) ∧
    c.asked = (if vs = [] then none else some (min c.total 100000000)) ∧
    c.ratingId = none ∧ c.indicated = none ∧ c.noRating = false ∧ c.outOfRating = false) ∧
  (∀ (s : State) (r : RunRec) (c : Calc), r.figures = some c →
    (FlaggedPoor r c → FinishedComplete r c .poor s (finishRun r .complete s)) ∧
    (¬ FlaggedPoor r c → FlaggedFair r → FinishedComplete r c .fair s (finishRun r .complete s))) ∧
  ∀ (s : State) (r : RunRec) (c : Calc), r.figures = some c → r.flags = noGaugeFlags →
    (∀ v ∈ r.verticals, { v.flags with alternateUsed := false } = noVertFlags) → c.stageGap = false →
    c.unsteady = false → c.noRating = false → c.outOfRating = false → ShiftsOrdered s.rat.shifts →
    let t := finishRun r .complete s
    let wanted : Prop := (planHeader (s.tbl.plan r.plan)).adopt = 1 ∧ c.indicated ≠ none
    let within : Prop := |c.indicated.getD 0| ≤ (cfgAdoptLimit s.tbl.config : Int)
    RunOver s t ∧ ShiftsOrdered t.rat.shifts ∧ t.rat.live = s.rat.live ∧ t.rat.latest = s.rat.latest ∧
    ∃ g : GaugeRec, t.store = s.store.append (.gauging g) ∧ g.outcome = .complete ∧ g.grade = .good ∧
      g.total = c.total ∧ g.indicated = c.indicated ∧ g.ratingId = c.ratingId ∧ g.stop = s.clk.time ∧
      (wanted → within → s.clk.valid = true →
        g.flags.shiftAdopted = true ∧ g.flags.shiftLimit = false ∧ g.placement ≠ none ∧
        { start := s.clk.time, points := [(0, c.indicated.getD 0)] } ∈ t.rat.shifts) ∧
      (¬ (wanted ∧ within ∧ s.clk.valid = true) →
        g.flags.shiftAdopted = false ∧ g.placement = none ∧ t.rat.shifts = s.rat.shifts) ∧
      (g.flags.shiftLimit = true ↔ wanted ∧ ¬ within)

/-! ## The uplink (chapter 10) -/

/-- R173 to R180, R195: an item ends when its last character has gone: its record is SENT, its forward item leaves the
queue unless it was dropped meanwhile, or its reply leaves the slot; and UPL chooses again. LINK low abandons the item,
which stays a candidate, the character in progress going on to its end, and ends reception; LINK high lets UPL choose, the
buffer staying empty where there is no candidate. CTS is only followed. That an item between two characters has none in
progress (log entry 36), and that a later record of the number of a removed one is marked SENT (log entry 52), are the
model's choice. -/
def Obligations.UplinkItemsEndAndAreAbandoned : Prop :=
  (∀ (s : State) (it : TxItem), s.resetLine = false → s.upl.buffer = some it →
    (it.frames.map List.length).sum * uplinkChar s.upl.rate ≤ it.elapsed →
    ∃ t, exec .uplinkItemEnd s = .next t ∧ ChangesOnly [.upl, .store, .ctl] s t ∧ BufferChosen t ∧
      t.store.nextSeq = s.store.nextSeq ∧ t.store.slotsUsed = s.store.slotsUsed ∧ t.ctl.queue = s.ctl.queue ∧
      t.upl.rate = (if s.upl.assembling then s.upl.rate else cfgUplinkRate s.tbl.config) ∧
      match it.cls with
      | .reply =>
        t.store = s.store ∧ t.upl.fwdQ = s.upl.fwdQ ∧
        match s.ctl.pendingReply with
        | some (.slot r) => t.upl.slot = some r ∧ t.ctl.pendingReply = none ∧ t.ctl.inHand = none
        | _ =>
          t.upl.slot = none ∧ t.ctl.pendingReply = s.ctl.pendingReply ∧
          t.ctl.resetWait = s.ctl.resetWait.map fun w => { w with gone := w.gone || w.placed }
      | .forward =>
        t.store = s.store ∧ t.ctl = s.ctl ∧ t.upl.slot = s.upl.slot ∧
        t.upl.fwdQ = if it.dropped then s.upl.fwdQ else s.upl.fwdQ.filter fun f => f.number ≠ it.number
      | _ =>
        t.ctl = s.ctl ∧ t.upl.slot = s.upl.slot ∧ t.upl.fwdQ = s.upl.fwdQ ∧
        t.store.records = s.store.records.map fun r => if r.seq = it.number then { r with sent := true } else r) ∧
  (∀ s : State, s.resetLine = false →
    ∃ t, exec .linkFall s = .next t ∧ ChangesOnly [.upl, .ctl, .lines] s t ∧
      t.lines = { s.lines with link := false } ∧ t.upl.buffer = none ∧ t.upl.slot = s.upl.slot ∧
      t.upl.fwdQ = s.upl.fwdQ ∧ t.upl.assembling = false ∧
      t.upl.linkLost = (if s.upl.assembling then inc16 s.upl.linkLost else s.upl.linkLost) ∧
      (s.upl.buffer = none → t.upl.tail = s.upl.tail) ∧
      (∀ it, s.upl.buffer = some it → 0 < uplinkChar s.upl.rate →
        ∃ k, k < uplinkChar s.upl.rate ∧ (it.elapsed + k) % uplinkChar s.upl.rate = 0 ∧
          t.upl.tail = s.upl.tail + k) ∧
      s.ctl.queue = t.ctl.queue ∧ s.ctl.inHand = t.ctl.inHand ∧
      t.ctl.resetWait =
        if s.upl.buffer.map TxItem.cls = some .reply then
          s.ctl.resetWait.map fun w => { w with gone := w.gone || w.placed }
        else s.ctl.resetWait) ∧
  (∀ s : State, s.resetLine = false →
    ∃ t, exec .linkRise s = .next t ∧ ChangesOnly [.upl, .lines] s t ∧ t.lines = { s.lines with link := true } ∧
      t.upl = { s.upl with buffer := t.upl.buffer } ∧ (s.upl.buffer = none → BufferChosen t) ∧
      (s.upl.buffer ≠ none → t.upl.buffer = s.upl.buffer)) ∧
  ∀ s : State, exec .ctsFall s = .next { s with lines := { s.lines with cts := false } } ∧
    exec .ctsRise s = .next { s with lines := { s.lines with cts := true } }

/-- R176, R184, R185, R188, R189: reception on the uplink. The hunt counts what it discards, and a sync pair begins a frame;
a fault, or more than 250 ms after the latest character of the frame that was told of, ends it and counts;
a good one for this station or for every station, of kind CONTROL, enters the control queue with its sequence field, READY
following, or is refused with BUSY when four wait; another is counted and discarded. What the row of the sync
pair brings, and that the gap is judged by the character told of last, are the model's choice (log entry 36), and so is
reception whatever the level of LINK (log entry 56). -/
def Obligations.UplinkFramesReachTheControlQueue : Prop :=
  (∀ (s : State) (n : Nat) (found : Bool), s.resetLine = false →
    ∃ t, exec (.syncPairReceived { discarded := n, found := found }) s = .next t ∧ ChangesOnly [.upl] s t ∧
      (s.upl.assembling = false →
        t.upl =
          { s.upl with
            assembling := found, lastChar := if found then some s.now else none,
            huntDiscards := t.upl.huntDiscards } ∧
        t.upl.huntDiscards = min (s.upl.huntDiscards + n) 65535) ∧
      (s.upl.assembling = true → t.upl = { s.upl with lastChar := some s.now })) ∧
  (∀ s : State, s.resetLine = false → s.upl.assembling = true →
    (∀ k, ∃ t, exec (.uplinkFrameError k) s = .next t ∧ ChangesOnly [.upl] s t ∧ t.upl.assembling = false ∧
      t.upl.buffer = s.upl.buffer ∧ t.upl.slot = s.upl.slot ∧ t.upl.gap = s.upl.gap ∧
      t.upl.framing = (if k = .framing then inc16 s.upl.framing else s.upl.framing) ∧
      t.upl.length = (if k = .length then inc16 s.upl.length else s.upl.length) ∧
      t.upl.crc = (if k = .crc then inc16 s.upl.crc else s.upl.crc) ∧
      t.upl.rate = (if s.upl.buffer = none then cfgUplinkRate s.tbl.config else s.upl.rate)) ∧
    ∀ last, s.upl.lastChar = some last → last + 250 < s.now →
      ∃ t, exec .uplinkReceiveGap s = .next t ∧ ChangesOnly [.upl] s t ∧ t.upl.assembling = false ∧
      t.upl.lastChar = none ∧ t.upl.gap = inc16 s.upl.gap ∧ t.upl.buffer = s.upl.buffer ∧ t.upl.slot = s.upl.slot) ∧
  ∀ (s : State) (f : UplinkFrame), s.resetLine = false → s.upl.assembling = true → f.payload.length ≤ 200 →
    ∃ t, exec (.uplinkFrameReceived f) s = .next t ∧ ChangesOnly [.upl, .ctl, .loop] s t ∧
      s.loop.LineKept t.loop ∧ t.upl.assembling = false ∧ t.upl.fwdQ = s.upl.fwdQ ∧
      if f.crc ≠ crc16 (beNat 2 f.station.toNat ++ beNat 1 f.kind.toNat ++ beNat 2 f.seq.toNat ++
          beNat 1 f.payload.length ++ f.payload) then
        t.upl.crc = inc16 s.upl.crc ∧ t.ctl.queue = s.ctl.queue ∧ t.upl.slot = s.upl.slot
      else if f.station.toNat ≠ cfgStationId s.tbl.config ∧ f.station ≠ 0 then
        t.upl.foreign = inc16 s.upl.foreign ∧ t.ctl.queue = s.ctl.queue ∧ t.upl.slot = s.upl.slot
      else if f.kind ≠ 1 then
        t.upl.kindDiscards = inc16 s.upl.kindDiscards ∧ t.ctl.queue = s.ctl.queue ∧ t.upl.slot = s.upl.slot
      else if s.ctl.queue.length < 4 then
        t.ctl.queue = s.ctl.queue ++ [{ origin := .uplink f.seq, payload := f.payload }] ∧
        t.upl.slot = s.upl.slot ∧ t.ctl.droppedBusy = s.ctl.droppedBusy ∧
        t.upl.ready =
          (if 3 ≤ s.ctl.queue.length + 1 then false else if s.ctl.queue.length + 1 ≤ 1 then true else s.upl.ready)
      else
        t.ctl.queue = s.ctl.queue ∧ t.upl.ready = s.upl.ready ∧
        if s.upl.slot = none then
          t.ctl.droppedBusy = s.ctl.droppedBusy ∧
          t.upl.slot =
            some
              { seq := f.seq,
                payload := [({ origin := .uplink f.seq, payload := f.payload } : Request).code, 1] }
        else t.upl.slot = s.upl.slot ∧ t.ctl.droppedBusy = inc16 s.ctl.droppedBusy

/-! ## The rating (chapter 2) -/

/-- R33: the effective stage is the stage plus the shift, held to −2,000 to +20,000 mm under CLAMPED; it is carried with an
empty LIVE bank as well, where the computation ends. -/
def Obligations.EffectiveStageIsHeldInRange : Prop :=
  ∀ (b : Bank) (rec : Option ShiftRec) (h : Int),
    let r := instantDischarge b rec h
    r.stage = h ∧ r.shift = shiftAt rec h ∧ r.eff = max (-2000) (min 20000 (h + r.shift)) ∧ -2000 ≤ r.eff ∧
    r.eff ≤ 20000 ∧ (r.clamped = true ↔ h + r.shift < -2000 ∨ 20000 < h + r.shift) ∧
    (b.points = [] → r.discharge = none ∧ r.noRating = true)

/-- R34, R35, R37, R38: below the first breakpoint the discharge is 0; from there to the last it is interpolated, at a breakpoint
exactly its discharge, between two never outside theirs; above, the last segment is extended to the limit. It is never
above the ceiling or 100,000,000 l/s. The inverse lookup answers NO-RATING for an empty bank, OUT-OF-RATING outside the
breakpoint discharges, at a breakpoint's discharge exactly its stage, and between two the stage interpolated, never outside
theirs. -/
def Obligations.DischargeFollowsTheRating : Prop :=
  (∀ (b : Bank) (q : Nat), b.points = [] → inverseLookup b q = .noRating) ∧
  (∀ (b : Bank) (q : Nat), RatingGood b.points →
    (∀ e f, b.points.head? = some e → b.points.getLast? = some f → q < e.2 ∨ f.2 < q →
      inverseLookup b q = .outOfRating b.ratingId) ∧
    (∀ e ∈ b.points, q = e.2 → inverseLookup b q = .stage e.1 b.ratingId) ∧
    ∀ i e f, b.points[i]? = some e → b.points[i + 1]? = some f → e.2 ≤ q → q < f.2 →
      ∃ h : Int, inverseLookup b q = .stage h b.ratingId ∧ e.1 ≤ h ∧ h ≤ f.1 ∧
        h = e.1 + roundDiv ((f.1 - e.1) * ((q : Int) - e.2)) ((f.2 : Int) - e.2)) ∧
  ∀ (b : Bank) (rec : Option ShiftRec) (h : Int), RatingGood b.points →
    let r := instantDischarge b rec h
    (∃ q, r.discharge = some q ∧ q ≤ 100000000 ∧ (q : Int) ≤ ceilingOf b) ∧ r.noRating = false ∧
    r.ratingId = some b.ratingId ∧
    (∀ e, b.points.head? = some e → r.eff < e.1 → r.discharge = some 0 ∧ r.belowRating = true) ∧
    (∀ e ∈ b.points, r.eff = e.1 → r.discharge = some e.2 ∧ r.belowRating = false ∧ r.extrapolated = false) ∧
    (∀ i e f, b.points[i]? = some e → b.points[i + 1]? = some f → e.1 ≤ r.eff → r.eff < f.1 →
      ∃ q : Nat, r.discharge = some q ∧ (q : Int) = e.2 + roundDiv (((f.2 : Int) - e.2) * (r.eff - e.1)) (f.1 - e.1) ∧
        e.2 ≤ q ∧ q ≤ f.2) ∧
    ∀ e f, b.points[b.points.length - 2]? = some e → b.points[b.points.length - 1]? = some f → f.1 < r.eff →
      let top := min r.eff (f.1 + b.limit)
      let q := (f.2 : Int) + roundDiv (((f.2 : Int) - e.2) * (top - f.1)) (f.1 - e.1)
      r.discharge = some (min q 100000000).toNat ∧
      (r.extrapolated = true ↔ q ≤ 100000000 ∧ r.eff ≤ f.1 + b.limit) ∧
      (r.extrapLimit = true ↔ 100000000 < q ∨ f.1 + b.limit < r.eff)

/-! ## What every step keeps -/

/-- R49, R59: the level never stands below the target, and while it is at or above the cableway stop level RUN is in IDLE,
RETRIEVE or CLOSE. -/
def Obligations.EveryStepKeepsTheInterlock : Prop :=
  ∀ s t : State, InterlockKept s → step s = .next t → InterlockKept t

/-- R48 to R51, R55, R63: target, level, stand-down timer and outputs stay consistent. -/
def Obligations.EveryStepKeepsTheWarningConsistent : Prop :=
  ∀ s t : State, WarningConsistent s → step s = .next t → WarningConsistent t

/-- R26, R130, R145, R161, R170, R172: the sequence numbers of the store run consecutively, its records, of which none
takes more than 40 slots, lie within 2,048 slots, and the shift table stays in strictly increasing order of start time
with at most 16 records; and with them a run keeps to the MEASURE entries of its plan, of which there are at most 38. -/
def Obligations.EveryStepKeepsTheStoreAndShifts : Prop :=
  ∀ s t : State, StoreConsistent s.store ∧ RunWithinPlan s ∧ ShiftsOrdered s.rat.shifts → step s = .next t →
    StoreConsistent t.store ∧ RunWithinPlan t ∧ ShiftsOrdered t.rat.shifts

/-- R90, R133: the marker is present, and the winch held, exactly while RUN is out of IDLE. -/
def Obligations.EveryStepKeepsTheMarker : Prop :=
  ∀ s t : State, MarkerConsistent s.run → step s = .next t → MarkerConsistent t.run

/-- R82, R103, R108, R111: no transaction is outstanding under a grant, and what a grant keeps agrees with its state. -/
def Obligations.EveryStepKeepsTheGrantExclusive : Prop :=
  ∀ s t : State, GrantConsistent s.loop → step s = .next t → GrantConsistent t.loop

/-- R7 to R9, R13, R36, R47: the selection is a VALID source where there is one, and stage, discharge and the loss of stage
follow it. -/
def Obligations.EveryStepKeepsTheStageSelection : Prop :=
  ∀ s t : State, StageConsistent s → step s = .next t → StageConsistent t

/-- R17, R70, R81, R88, R175, R185, R192: every table, queue and ring keeps its size, READY follows the control queue, and
the view and the poll schedule follow the CHANNELS table. -/
def Obligations.EveryStepKeepsSizesAndView : Prop :=
  ∀ s t : State, ViewConsistent s ∧ QueuesBounded s ∧ TablesSized s → step s = .next t →
    ViewConsistent t ∧ QueuesBounded t ∧ TablesSized t

/-- All that every step keeps holds at reset, under the model's values of a delivered part (log entry 31). -/
def Obligations.ResetStateHasWhatStepsKeep : Prop :=
  InterlockKept State.reset ∧ WarningConsistent State.reset ∧ StoreConsistent State.reset.store ∧
    RunWithinPlan State.reset ∧ ShiftsOrdered State.reset.rat.shifts ∧ MarkerConsistent State.reset.run ∧ GrantConsistent State.reset.loop ∧
    StageConsistent State.reset ∧ ViewConsistent State.reset ∧ QueuesBounded State.reset ∧ TablesSized State.reset
end

