-- ==== Sys2Proof/Laws/State.lean ====
section
/-! SUPPORT. What each update of one block leaves in every field of the state: one lemma per field per update. -/

namespace Sys2Proof.Machine

variable (s : State)

/-! ## `State.setClk` -/

@[simp] theorem State.setClk_clk (b : Clocks) : (s.setClk b).clk = b := rfl
@[simp] theorem State.setClk_tbl (b : Clocks) : (s.setClk b).tbl = s.tbl := rfl
@[simp] theorem State.setClk_stg (b : Clocks) : (s.setClk b).stg = s.stg := rfl
@[simp] theorem State.setClk_rat (b : Clocks) : (s.setClk b).rat = s.rat := rfl
@[simp] theorem State.setClk_wrn (b : Clocks) : (s.setClk b).wrn = s.wrn := rfl
@[simp] theorem State.setClk_pls (b : Clocks) : (s.setClk b).pls = s.pls := rfl
@[simp] theorem State.setClk_run (b : Clocks) : (s.setClk b).run = s.run := rfl
@[simp] theorem State.setClk_loop (b : Clocks) : (s.setClk b).loop = s.loop := rfl
@[simp] theorem State.setClk_cht (b : Clocks) : (s.setClk b).cht = s.cht := rfl
@[simp] theorem State.setClk_store (b : Clocks) : (s.setClk b).store = s.store := rfl
@[simp] theorem State.setClk_upl (b : Clocks) : (s.setClk b).upl = s.upl := rfl
@[simp] theorem State.setClk_ctl (b : Clocks) : (s.setClk b).ctl = s.ctl := rfl
@[simp] theorem State.setClk_lines (b : Clocks) : (s.setClk b).lines = s.lines := rfl
@[simp] theorem State.setClk_resetLine (b : Clocks) : (s.setClk b).resetLine = s.resetLine := rfl
@[simp] theorem State.setClk_lastReset (b : Clocks) : (s.setClk b).lastReset = s.lastReset := rfl
@[simp] theorem State.setClk_pending (b : Clocks) : (s.setClk b).pending = s.pending := rfl
@[simp] theorem State.setClk_self : s.setClk s.clk = s := rfl

/-! ## `State.setTbl` -/

@[simp] theorem State.setTbl_clk (b : Tables) : (s.setTbl b).clk = s.clk := rfl
@[simp] theorem State.setTbl_tbl (b : Tables) : (s.setTbl b).tbl = b := rfl
@[simp] theorem State.setTbl_stg (b : Tables) : (s.setTbl b).stg = s.stg := rfl
@[simp] theorem State.setTbl_rat (b : Tables) : (s.setTbl b).rat = s.rat := rfl
@[simp] theorem State.setTbl_wrn (b : Tables) : (s.setTbl b).wrn = s.wrn := rfl
@[simp] theorem State.setTbl_pls (b : Tables) : (s.setTbl b).pls = s.pls := rfl
@[simp] theorem State.setTbl_run (b : Tables) : (s.setTbl b).run = s.run := rfl
@[simp] theorem State.setTbl_loop (b : Tables) : (s.setTbl b).loop = s.loop := rfl
@[simp] theorem State.setTbl_cht (b : Tables) : (s.setTbl b).cht = s.cht := rfl
@[simp] theorem State.setTbl_store (b : Tables) : (s.setTbl b).store = s.store := rfl
@[simp] theorem State.setTbl_upl (b : Tables) : (s.setTbl b).upl = s.upl := rfl
@[simp] theorem State.setTbl_ctl (b : Tables) : (s.setTbl b).ctl = s.ctl := rfl
@[simp] theorem State.setTbl_lines (b : Tables) : (s.setTbl b).lines = s.lines := rfl
@[simp] theorem State.setTbl_resetLine (b : Tables) : (s.setTbl b).resetLine = s.resetLine := rfl
@[simp] theorem State.setTbl_lastReset (b : Tables) : (s.setTbl b).lastReset = s.lastReset := rfl
@[simp] theorem State.setTbl_pending (b : Tables) : (s.setTbl b).pending = s.pending := rfl
@[simp] theorem State.setTbl_self : s.setTbl s.tbl = s := rfl

/-! ## `State.setStg` -/

@[simp] theorem State.setStg_clk (b : Stg) : (s.setStg b).clk = s.clk := rfl
@[simp] theorem State.setStg_tbl (b : Stg) : (s.setStg b).tbl = s.tbl := rfl
@[simp] theorem State.setStg_stg (b : Stg) : (s.setStg b).stg = b := rfl
@[simp] theorem State.setStg_rat (b : Stg) : (s.setStg b).rat = s.rat := rfl
@[simp] theorem State.setStg_wrn (b : Stg) : (s.setStg b).wrn = s.wrn := rfl
@[simp] theorem State.setStg_pls (b : Stg) : (s.setStg b).pls = s.pls := rfl
@[simp] theorem State.setStg_run (b : Stg) : (s.setStg b).run = s.run := rfl
@[simp] theorem State.setStg_loop (b : Stg) : (s.setStg b).loop = s.loop := rfl
@[simp] theorem State.setStg_cht (b : Stg) : (s.setStg b).cht = s.cht := rfl
@[simp] theorem State.setStg_store (b : Stg) : (s.setStg b).store = s.store := rfl
@[simp] theorem State.setStg_upl (b : Stg) : (s.setStg b).upl = s.upl := rfl
@[simp] theorem State.setStg_ctl (b : Stg) : (s.setStg b).ctl = s.ctl := rfl
@[simp] theorem State.setStg_lines (b : Stg) : (s.setStg b).lines = s.lines := rfl
@[simp] theorem State.setStg_resetLine (b : Stg) : (s.setStg b).resetLine = s.resetLine := rfl
@[simp] theorem State.setStg_lastReset (b : Stg) : (s.setStg b).lastReset = s.lastReset := rfl
@[simp] theorem State.setStg_pending (b : Stg) : (s.setStg b).pending = s.pending := rfl
@[simp] theorem State.setStg_self : s.setStg s.stg = s := rfl

/-! ## `State.setRat` -/

@[simp] theorem State.setRat_clk (b : Rat) : (s.setRat b).clk = s.clk := rfl
@[simp] theorem State.setRat_tbl (b : Rat) : (s.setRat b).tbl = s.tbl := rfl
@[simp] theorem State.setRat_stg (b : Rat) : (s.setRat b).stg = s.stg := rfl
@[simp] theorem State.setRat_rat (b : Rat) : (s.setRat b).rat = b := rfl
@[simp] theorem State.setRat_wrn (b : Rat) : (s.setRat b).wrn = s.wrn := rfl
@[simp] theorem State.setRat_pls (b : Rat) : (s.setRat b).pls = s.pls := rfl
@[simp] theorem State.setRat_run (b : Rat) : (s.setRat b).run = s.run := rfl
@[simp] theorem State.setRat_loop (b : Rat) : (s.setRat b).loop = s.loop := rfl
@[simp] theorem State.setRat_cht (b : Rat) : (s.setRat b).cht = s.cht := rfl
@[simp] theorem State.setRat_store (b : Rat) : (s.setRat b).store = s.store := rfl
@[simp] theorem State.setRat_upl (b : Rat) : (s.setRat b).upl = s.upl := rfl
@[simp] theorem State.setRat_ctl (b : Rat) : (s.setRat b).ctl = s.ctl := rfl
@[simp] theorem State.setRat_lines (b : Rat) : (s.setRat b).lines = s.lines := rfl
@[simp] theorem State.setRat_resetLine (b : Rat) : (s.setRat b).resetLine = s.resetLine := rfl
@[simp] theorem State.setRat_lastReset (b : Rat) : (s.setRat b).lastReset = s.lastReset := rfl
@[simp] theorem State.setRat_pending (b : Rat) : (s.setRat b).pending = s.pending := rfl
@[simp] theorem State.setRat_self : s.setRat s.rat = s := rfl

/-! ## `State.setWrn` -/

@[simp] theorem State.setWrn_clk (b : Wrn) : (s.setWrn b).clk = s.clk := rfl
@[simp] theorem State.setWrn_tbl (b : Wrn) : (s.setWrn b).tbl = s.tbl := rfl
@[simp] theorem State.setWrn_stg (b : Wrn) : (s.setWrn b).stg = s.stg := rfl
@[simp] theorem State.setWrn_rat (b : Wrn) : (s.setWrn b).rat = s.rat := rfl
@[simp] theorem State.setWrn_wrn (b : Wrn) : (s.setWrn b).wrn = b := rfl
@[simp] theorem State.setWrn_pls (b : Wrn) : (s.setWrn b).pls = s.pls := rfl
@[simp] theorem State.setWrn_run (b : Wrn) : (s.setWrn b).run = s.run := rfl
@[simp] theorem State.setWrn_loop (b : Wrn) : (s.setWrn b).loop = s.loop := rfl
@[simp] theorem State.setWrn_cht (b : Wrn) : (s.setWrn b).cht = s.cht := rfl
@[simp] theorem State.setWrn_store (b : Wrn) : (s.setWrn b).store = s.store := rfl
@[simp] theorem State.setWrn_upl (b : Wrn) : (s.setWrn b).upl = s.upl := rfl
@[simp] theorem State.setWrn_ctl (b : Wrn) : (s.setWrn b).ctl = s.ctl := rfl
@[simp] theorem State.setWrn_lines (b : Wrn) : (s.setWrn b).lines = s.lines := rfl
@[simp] theorem State.setWrn_resetLine (b : Wrn) : (s.setWrn b).resetLine = s.resetLine := rfl
@[simp] theorem State.setWrn_lastReset (b : Wrn) : (s.setWrn b).lastReset = s.lastReset := rfl
@[simp] theorem State.setWrn_pending (b : Wrn) : (s.setWrn b).pending = s.pending := rfl
@[simp] theorem State.setWrn_self : s.setWrn s.wrn = s := rfl

/-! ## `State.setPls` -/

@[simp] theorem State.setPls_clk (b : Pls) : (s.setPls b).clk = s.clk := rfl
@[simp] theorem State.setPls_tbl (b : Pls) : (s.setPls b).tbl = s.tbl := rfl
@[simp] theorem State.setPls_stg (b : Pls) : (s.setPls b).stg = s.stg := rfl
@[simp] theorem State.setPls_rat (b : Pls) : (s.setPls b).rat = s.rat := rfl
@[simp] theorem State.setPls_wrn (b : Pls) : (s.setPls b).wrn = s.wrn := rfl
@[simp] theorem State.setPls_pls (b : Pls) : (s.setPls b).pls = b := rfl
@[simp] theorem State.setPls_run (b : Pls) : (s.setPls b).run = s.run := rfl
@[simp] theorem State.setPls_loop (b : Pls) : (s.setPls b).loop = s.loop := rfl
@[simp] theorem State.setPls_cht (b : Pls) : (s.setPls b).cht = s.cht := rfl
@[simp] theorem State.setPls_store (b : Pls) : (s.setPls b).store = s.store := rfl
@[simp] theorem State.setPls_upl (b : Pls) : (s.setPls b).upl = s.upl := rfl
@[simp] theorem State.setPls_ctl (b : Pls) : (s.setPls b).ctl = s.ctl := rfl
@[simp] theorem State.setPls_lines (b : Pls) : (s.setPls b).lines = s.lines := rfl
@[simp] theorem State.setPls_resetLine (b : Pls) : (s.setPls b).resetLine = s.resetLine := rfl
@[simp] theorem State.setPls_lastReset (b : Pls) : (s.setPls b).lastReset = s.lastReset := rfl
@[simp] theorem State.setPls_pending (b : Pls) : (s.setPls b).pending = s.pending := rfl
@[simp] theorem State.setPls_self : s.setPls s.pls = s := rfl

/-! ## `State.setRun` -/

@[simp] theorem State.setRun_clk (b : Run) : (s.setRun b).clk = s.clk := rfl
@[simp] theorem State.setRun_tbl (b : Run) : (s.setRun b).tbl = s.tbl := rfl
@[simp] theorem State.setRun_stg (b : Run) : (s.setRun b).stg = s.stg := rfl
@[simp] theorem State.setRun_rat (b : Run) : (s.setRun b).rat = s.rat := rfl
@[simp] theorem State.setRun_wrn (b : Run) : (s.setRun b).wrn = s.wrn := rfl
@[simp] theorem State.setRun_pls (b : Run) : (s.setRun b).pls = s.pls := rfl
@[simp] theorem State.setRun_run (b : Run) : (s.setRun b).run = b := rfl
@[simp] theorem State.setRun_loop (b : Run) : (s.setRun b).loop = s.loop := rfl
@[simp] theorem State.setRun_cht (b : Run) : (s.setRun b).cht = s.cht := rfl
@[simp] theorem State.setRun_store (b : Run) : (s.setRun b).store = s.store := rfl
@[simp] theorem State.setRun_upl (b : Run) : (s.setRun b).upl = s.upl := rfl
@[simp] theorem State.setRun_ctl (b : Run) : (s.setRun b).ctl = s.ctl := rfl
@[simp] theorem State.setRun_lines (b : Run) : (s.setRun b).lines = s.lines := rfl
@[simp] theorem State.setRun_resetLine (b : Run) : (s.setRun b).resetLine = s.resetLine := rfl
@[simp] theorem State.setRun_lastReset (b : Run) : (s.setRun b).lastReset = s.lastReset := rfl
@[simp] theorem State.setRun_pending (b : Run) : (s.setRun b).pending = s.pending := rfl
@[simp] theorem State.setRun_self : s.setRun s.run = s := rfl

/-! ## `State.setLoop` -/

@[simp] theorem State.setLoop_clk (b : Loop) : (s.setLoop b).clk = s.clk := rfl
@[simp] theorem State.setLoop_tbl (b : Loop) : (s.setLoop b).tbl = s.tbl := rfl
@[simp] theorem State.setLoop_stg (b : Loop) : (s.setLoop b).stg = s.stg := rfl
@[simp] theorem State.setLoop_rat (b : Loop) : (s.setLoop b).rat = s.rat := rfl
@[simp] theorem State.setLoop_wrn (b : Loop) : (s.setLoop b).wrn = s.wrn := rfl
@[simp] theorem State.setLoop_pls (b : Loop) : (s.setLoop b).pls = s.pls := rfl
@[simp] theorem State.setLoop_run (b : Loop) : (s.setLoop b).run = s.run := rfl
@[simp] theorem State.setLoop_loop (b : Loop) : (s.setLoop b).loop = b := rfl
@[simp] theorem State.setLoop_cht (b : Loop) : (s.setLoop b).cht = s.cht := rfl
@[simp] theorem State.setLoop_store (b : Loop) : (s.setLoop b).store = s.store := rfl
@[simp] theorem State.setLoop_upl (b : Loop) : (s.setLoop b).upl = s.upl := rfl
@[simp] theorem State.setLoop_ctl (b : Loop) : (s.setLoop b).ctl = s.ctl := rfl
@[simp] theorem State.setLoop_lines (b : Loop) : (s.setLoop b).lines = s.lines := rfl
@[simp] theorem State.setLoop_resetLine (b : Loop) : (s.setLoop b).resetLine = s.resetLine := rfl
@[simp] theorem State.setLoop_lastReset (b : Loop) : (s.setLoop b).lastReset = s.lastReset := rfl
@[simp] theorem State.setLoop_pending (b : Loop) : (s.setLoop b).pending = s.pending := rfl
@[simp] theorem State.setLoop_self : s.setLoop s.loop = s := rfl

/-! ## `State.setCht` -/

@[simp] theorem State.setCht_clk (b : Cht) : (s.setCht b).clk = s.clk := rfl
@[simp] theorem State.setCht_tbl (b : Cht) : (s.setCht b).tbl = s.tbl := rfl
@[simp] theorem State.setCht_stg (b : Cht) : (s.setCht b).stg = s.stg := rfl
@[simp] theorem State.setCht_rat (b : Cht) : (s.setCht b).rat = s.rat := rfl
@[simp] theorem State.setCht_wrn (b : Cht) : (s.setCht b).wrn = s.wrn := rfl
@[simp] theorem State.setCht_pls (b : Cht) : (s.setCht b).pls = s.pls := rfl
@[simp] theorem State.setCht_run (b : Cht) : (s.setCht b).run = s.run := rfl
@[simp] theorem State.setCht_loop (b : Cht) : (s.setCht b).loop = s.loop := rfl
@[simp] theorem State.setCht_cht (b : Cht) : (s.setCht b).cht = b := rfl
@[simp] theorem State.setCht_store (b : Cht) : (s.setCht b).store = s.store := rfl
@[simp] theorem State.setCht_upl (b : Cht) : (s.setCht b).upl = s.upl := rfl
@[simp] theorem State.setCht_ctl (b : Cht) : (s.setCht b).ctl = s.ctl := rfl
@[simp] theorem State.setCht_lines (b : Cht) : (s.setCht b).lines = s.lines := rfl
@[simp] theorem State.setCht_resetLine (b : Cht) : (s.setCht b).resetLine = s.resetLine := rfl
@[simp] theorem State.setCht_lastReset (b : Cht) : (s.setCht b).lastReset = s.lastReset := rfl
@[simp] theorem State.setCht_pending (b : Cht) : (s.setCht b).pending = s.pending := rfl
@[simp] theorem State.setCht_self : s.setCht s.cht = s := rfl

/-! ## `State.setStore` -/

@[simp] theorem State.setStore_clk (b : Store) : (s.setStore b).clk = s.clk := rfl
@[simp] theorem State.setStore_tbl (b : Store) : (s.setStore b).tbl = s.tbl := rfl
@[simp] theorem State.setStore_stg (b : Store) : (s.setStore b).stg = s.stg := rfl
@[simp] theorem State.setStore_rat (b : Store) : (s.setStore b).rat = s.rat := rfl
@[simp] theorem State.setStore_wrn (b : Store) : (s.setStore b).wrn = s.wrn := rfl
@[simp] theorem State.setStore_pls (b : Store) : (s.setStore b).pls = s.pls := rfl
@[simp] theorem State.setStore_run (b : Store) : (s.setStore b).run = s.run := rfl
@[simp] theorem State.setStore_loop (b : Store) : (s.setStore b).loop = s.loop := rfl
@[simp] theorem State.setStore_cht (b : Store) : (s.setStore b).cht = s.cht := rfl
@[simp] theorem State.setStore_store (b : Store) : (s.setStore b).store = b := rfl
@[simp] theorem State.setStore_upl (b : Store) : (s.setStore b).upl = s.upl := rfl
@[simp] theorem State.setStore_ctl (b : Store) : (s.setStore b).ctl = s.ctl := rfl
@[simp] theorem State.setStore_lines (b : Store) : (s.setStore b).lines = s.lines := rfl
@[simp] theorem State.setStore_resetLine (b : Store) : (s.setStore b).resetLine = s.resetLine := rfl
@[simp] theorem State.setStore_lastReset (b : Store) : (s.setStore b).lastReset = s.lastReset := rfl
@[simp] theorem State.setStore_pending (b : Store) : (s.setStore b).pending = s.pending := rfl
@[simp] theorem State.setStore_self : s.setStore s.store = s := rfl

/-! ## `State.setUpl` -/

@[simp] theorem State.setUpl_clk (b : Upl) : (s.setUpl b).clk = s.clk := rfl
@[simp] theorem State.setUpl_tbl (b : Upl) : (s.setUpl b).tbl = s.tbl := rfl
@[simp] theorem State.setUpl_stg (b : Upl) : (s.setUpl b).stg = s.stg := rfl
@[simp] theorem State.setUpl_rat (b : Upl) : (s.setUpl b).rat = s.rat := rfl
@[simp] theorem State.setUpl_wrn (b : Upl) : (s.setUpl b).wrn = s.wrn := rfl
@[simp] theorem State.setUpl_pls (b : Upl) : (s.setUpl b).pls = s.pls := rfl
@[simp] theorem State.setUpl_run (b : Upl) : (s.setUpl b).run = s.run := rfl
@[simp] theorem State.setUpl_loop (b : Upl) : (s.setUpl b).loop = s.loop := rfl
@[simp] theorem State.setUpl_cht (b : Upl) : (s.setUpl b).cht = s.cht := rfl
@[simp] theorem State.setUpl_store (b : Upl) : (s.setUpl b).store = s.store := rfl
@[simp] theorem State.setUpl_upl (b : Upl) : (s.setUpl b).upl = b := rfl
@[simp] theorem State.setUpl_ctl (b : Upl) : (s.setUpl b).ctl = s.ctl := rfl
@[simp] theorem State.setUpl_lines (b : Upl) : (s.setUpl b).lines = s.lines := rfl
@[simp] theorem State.setUpl_resetLine (b : Upl) : (s.setUpl b).resetLine = s.resetLine := rfl
@[simp] theorem State.setUpl_lastReset (b : Upl) : (s.setUpl b).lastReset = s.lastReset := rfl
@[simp] theorem State.setUpl_pending (b : Upl) : (s.setUpl b).pending = s.pending := rfl
@[simp] theorem State.setUpl_self : s.setUpl s.upl = s := rfl

/-! ## `State.setCtl` -/

@[simp] theorem State.setCtl_clk (b : Ctl) : (s.setCtl b).clk = s.clk := rfl
@[simp] theorem State.setCtl_tbl (b : Ctl) : (s.setCtl b).tbl = s.tbl := rfl
@[simp] theorem State.setCtl_stg (b : Ctl) : (s.setCtl b).stg = s.stg := rfl
@[simp] theorem State.setCtl_rat (b : Ctl) : (s.setCtl b).rat = s.rat := rfl
@[simp] theorem State.setCtl_wrn (b : Ctl) : (s.setCtl b).wrn = s.wrn := rfl
@[simp] theorem State.setCtl_pls (b : Ctl) : (s.setCtl b).pls = s.pls := rfl
@[simp] theorem State.setCtl_run (b : Ctl) : (s.setCtl b).run = s.run := rfl
@[simp] theorem State.setCtl_loop (b : Ctl) : (s.setCtl b).loop = s.loop := rfl
@[simp] theorem State.setCtl_cht (b : Ctl) : (s.setCtl b).cht = s.cht := rfl
@[simp] theorem State.setCtl_store (b : Ctl) : (s.setCtl b).store = s.store := rfl
@[simp] theorem State.setCtl_upl (b : Ctl) : (s.setCtl b).upl = s.upl := rfl
@[simp] theorem State.setCtl_ctl (b : Ctl) : (s.setCtl b).ctl = b := rfl
@[simp] theorem State.setCtl_lines (b : Ctl) : (s.setCtl b).lines = s.lines := rfl
@[simp] theorem State.setCtl_resetLine (b : Ctl) : (s.setCtl b).resetLine = s.resetLine := rfl
@[simp] theorem State.setCtl_lastReset (b : Ctl) : (s.setCtl b).lastReset = s.lastReset := rfl
@[simp] theorem State.setCtl_pending (b : Ctl) : (s.setCtl b).pending = s.pending := rfl
@[simp] theorem State.setCtl_self : s.setCtl s.ctl = s := rfl

/-! ## `State.setLines` -/

@[simp] theorem State.setLines_clk (b : Lines) : (s.setLines b).clk = s.clk := rfl
@[simp] theorem State.setLines_tbl (b : Lines) : (s.setLines b).tbl = s.tbl := rfl
@[simp] theorem State.setLines_stg (b : Lines) : (s.setLines b).stg = s.stg := rfl
@[simp] theorem State.setLines_rat (b : Lines) : (s.setLines b).rat = s.rat := rfl
@[simp] theorem State.setLines_wrn (b : Lines) : (s.setLines b).wrn = s.wrn := rfl
@[simp] theorem State.setLines_pls (b : Lines) : (s.setLines b).pls = s.pls := rfl
@[simp] theorem State.setLines_run (b : Lines) : (s.setLines b).run = s.run := rfl
@[simp] theorem State.setLines_loop (b : Lines) : (s.setLines b).loop = s.loop := rfl
@[simp] theorem State.setLines_cht (b : Lines) : (s.setLines b).cht = s.cht := rfl
@[simp] theorem State.setLines_store (b : Lines) : (s.setLines b).store = s.store := rfl
@[simp] theorem State.setLines_upl (b : Lines) : (s.setLines b).upl = s.upl := rfl
@[simp] theorem State.setLines_ctl (b : Lines) : (s.setLines b).ctl = s.ctl := rfl
@[simp] theorem State.setLines_lines (b : Lines) : (s.setLines b).lines = b := rfl
@[simp] theorem State.setLines_resetLine (b : Lines) : (s.setLines b).resetLine = s.resetLine := rfl
@[simp] theorem State.setLines_lastReset (b : Lines) : (s.setLines b).lastReset = s.lastReset := rfl
@[simp] theorem State.setLines_pending (b : Lines) : (s.setLines b).pending = s.pending := rfl
@[simp] theorem State.setLines_self : s.setLines s.lines = s := rfl

end Sys2Proof.Machine
end

