-- ==== Sys2Proof/Laws/LoopFrame.lean ====
section
/-! SUPPORT. What the operations of the store, the uplink transmitter and the loop controller leave as it was: one lemma per
operation, for all the fields it does not touch. -/

namespace Sys2Proof.Machine

@[simp] theorem Store.markSent_frame (st : Store) (n : Nat) :
    (Store.markSent st n).nextSeq = st.nextSeq ∧ (Store.markSent st n).slotsUsed = st.slotsUsed := by
  simp [Store.markSent]

@[simp] theorem uplinkSelect_frame (s : State) :
    (uplinkSelect s).clk = s.clk ∧ (uplinkSelect s).tbl = s.tbl ∧ (uplinkSelect s).stg = s.stg ∧
    (uplinkSelect s).rat = s.rat ∧ (uplinkSelect s).wrn = s.wrn ∧ (uplinkSelect s).pls = s.pls ∧
    (uplinkSelect s).run = s.run ∧ (uplinkSelect s).loop = s.loop ∧ (uplinkSelect s).cht = s.cht ∧
    (uplinkSelect s).store = s.store ∧ (uplinkSelect s).upl.rate = s.upl.rate ∧
    (uplinkSelect s).upl.slot = s.upl.slot ∧ (uplinkSelect s).upl.fwdQ = s.upl.fwdQ ∧
    (uplinkSelect s).upl.nextFwd = s.upl.nextFwd ∧ (uplinkSelect s).upl.assembling = s.upl.assembling ∧
    (uplinkSelect s).upl.framing = s.upl.framing ∧ (uplinkSelect s).upl.gap = s.upl.gap ∧
    (uplinkSelect s).upl.length = s.upl.length ∧ (uplinkSelect s).upl.crc = s.upl.crc ∧
    (uplinkSelect s).upl.linkLost = s.upl.linkLost ∧ (uplinkSelect s).upl.foreign = s.upl.foreign ∧
    (uplinkSelect s).upl.kindDiscards = s.upl.kindDiscards ∧ (uplinkSelect s).upl.huntDiscards = s.upl.huntDiscards ∧
    (uplinkSelect s).upl.lastChar = s.upl.lastChar ∧ (uplinkSelect s).upl.tail = s.upl.tail ∧
    (uplinkSelect s).upl.ready = s.upl.ready ∧ (uplinkSelect s).ctl = s.ctl ∧ (uplinkSelect s).lines = s.lines ∧
    (uplinkSelect s).resetLine = s.resetLine ∧ (uplinkSelect s).lastReset = s.lastReset ∧
    (uplinkSelect s).pending = s.pending := by
  unfold uplinkSelect
  split <;> simp

@[simp] theorem uplinkRateEffect_frame (s : State) :
    (uplinkRateEffect s).clk = s.clk ∧ (uplinkRateEffect s).tbl = s.tbl ∧ (uplinkRateEffect s).stg = s.stg ∧
    (uplinkRateEffect s).rat = s.rat ∧ (uplinkRateEffect s).wrn = s.wrn ∧ (uplinkRateEffect s).pls = s.pls ∧
    (uplinkRateEffect s).run = s.run ∧ (uplinkRateEffect s).loop = s.loop ∧ (uplinkRateEffect s).cht = s.cht ∧
    (uplinkRateEffect s).store = s.store ∧ (uplinkRateEffect s).upl.buffer = s.upl.buffer ∧
    (uplinkRateEffect s).upl.slot = s.upl.slot ∧ (uplinkRateEffect s).upl.fwdQ = s.upl.fwdQ ∧
    (uplinkRateEffect s).upl.nextFwd = s.upl.nextFwd ∧ (uplinkRateEffect s).upl.assembling = s.upl.assembling ∧
    (uplinkRateEffect s).upl.framing = s.upl.framing ∧ (uplinkRateEffect s).upl.gap = s.upl.gap ∧
    (uplinkRateEffect s).upl.length = s.upl.length ∧ (uplinkRateEffect s).upl.crc = s.upl.crc ∧
    (uplinkRateEffect s).upl.linkLost = s.upl.linkLost ∧ (uplinkRateEffect s).upl.foreign = s.upl.foreign ∧
    (uplinkRateEffect s).upl.kindDiscards = s.upl.kindDiscards ∧
    (uplinkRateEffect s).upl.huntDiscards = s.upl.huntDiscards ∧
    (uplinkRateEffect s).upl.lastChar = s.upl.lastChar ∧ (uplinkRateEffect s).upl.tail = s.upl.tail ∧
    (uplinkRateEffect s).upl.ready = s.upl.ready ∧
    (uplinkRateEffect s).ctl = s.ctl ∧ (uplinkRateEffect s).lines = s.lines ∧
    (uplinkRateEffect s).resetLine = s.resetLine ∧ (uplinkRateEffect s).lastReset = s.lastReset ∧
    (uplinkRateEffect s).pending = s.pending := by
  unfold uplinkRateEffect
  split <;> simp

@[simp] theorem append_frame (c : Content) (s : State) :
    (append c s).clk = s.clk ∧ (append c s).tbl = s.tbl ∧ (append c s).stg = s.stg ∧ (append c s).rat = s.rat ∧
    (append c s).wrn = s.wrn ∧ (append c s).pls = s.pls ∧ (append c s).run = s.run ∧ (append c s).loop = s.loop ∧
    (append c s).cht = s.cht ∧ (append c s).upl.rate = s.upl.rate ∧ (append c s).upl.slot = s.upl.slot ∧
    (append c s).upl.fwdQ = s.upl.fwdQ ∧ (append c s).upl.nextFwd = s.upl.nextFwd ∧
    (append c s).upl.assembling = s.upl.assembling ∧ (append c s).upl.framing = s.upl.framing ∧
    (append c s).upl.gap = s.upl.gap ∧ (append c s).upl.length = s.upl.length ∧ (append c s).upl.crc = s.upl.crc ∧
    (append c s).upl.linkLost = s.upl.linkLost ∧ (append c s).upl.foreign = s.upl.foreign ∧
    (append c s).upl.kindDiscards = s.upl.kindDiscards ∧ (append c s).upl.huntDiscards = s.upl.huntDiscards ∧
    (append c s).upl.lastChar = s.upl.lastChar ∧ (append c s).upl.tail = s.upl.tail ∧
    (append c s).upl.ready = s.upl.ready ∧ (append c s).ctl = s.ctl ∧ (append c s).lines = s.lines ∧
    (append c s).resetLine = s.resetLine ∧ (append c s).lastReset = s.lastReset ∧ (append c s).pending = s.pending := by
  simp [append]

@[simp] theorem appendNotice_frame (body : NoticeBody) (s : State) :
    (appendNotice body s).clk = s.clk ∧ (appendNotice body s).tbl = s.tbl ∧ (appendNotice body s).stg = s.stg ∧
    (appendNotice body s).rat = s.rat ∧ (appendNotice body s).wrn = s.wrn ∧ (appendNotice body s).pls = s.pls ∧
    (appendNotice body s).run = s.run ∧ (appendNotice body s).loop = s.loop ∧ (appendNotice body s).cht = s.cht ∧
    (appendNotice body s).upl.rate = s.upl.rate ∧ (appendNotice body s).upl.slot = s.upl.slot ∧
    (appendNotice body s).upl.fwdQ = s.upl.fwdQ ∧ (appendNotice body s).upl.nextFwd = s.upl.nextFwd ∧
    (appendNotice body s).upl.assembling = s.upl.assembling ∧ (appendNotice body s).upl.framing = s.upl.framing ∧
    (appendNotice body s).upl.gap = s.upl.gap ∧ (appendNotice body s).upl.length = s.upl.length ∧
    (appendNotice body s).upl.crc = s.upl.crc ∧ (appendNotice body s).upl.linkLost = s.upl.linkLost ∧
    (appendNotice body s).upl.foreign = s.upl.foreign ∧ (appendNotice body s).upl.kindDiscards = s.upl.kindDiscards ∧
    (appendNotice body s).upl.huntDiscards = s.upl.huntDiscards ∧
    (appendNotice body s).upl.lastChar = s.upl.lastChar ∧ (appendNotice body s).upl.tail = s.upl.tail ∧
    (appendNotice body s).upl.ready = s.upl.ready ∧
    (appendNotice body s).ctl = s.ctl ∧ (appendNotice body s).lines = s.lines ∧
    (appendNotice body s).resetLine = s.resetLine ∧ (appendNotice body s).lastReset = s.lastReset ∧
    (appendNotice body s).pending = s.pending := by
  simp [appendNotice]

@[simp] theorem Upl.dropOldest_frame (u : Upl) :
    (Upl.dropOldest u).rate = u.rate ∧ (Upl.dropOldest u).slot = u.slot ∧ (Upl.dropOldest u).fwdQ = u.fwdQ.tail ∧
    (Upl.dropOldest u).nextFwd = u.nextFwd ∧ (Upl.dropOldest u).assembling = u.assembling ∧
    (Upl.dropOldest u).lastChar = u.lastChar ∧ (Upl.dropOldest u).framing = u.framing ∧
    (Upl.dropOldest u).gap = u.gap ∧ (Upl.dropOldest u).length = u.length ∧ (Upl.dropOldest u).crc = u.crc ∧
    (Upl.dropOldest u).linkLost = u.linkLost ∧ (Upl.dropOldest u).foreign = u.foreign ∧
    (Upl.dropOldest u).kindDiscards = u.kindDiscards ∧ (Upl.dropOldest u).huntDiscards = u.huntDiscards ∧
    (Upl.dropOldest u).tail = u.tail ∧ (Upl.dropOldest u).ready = u.ready := by
  unfold Upl.dropOldest
  split <;> simp [*]

/-- R175, R179: what a full queue's loss of its oldest item does to the frame buffer. -/
theorem Upl.dropOldest_buffer (u : Upl) :
    (Upl.dropOldest u).buffer = u.buffer.map fun it =>
      { it with
        dropped := it.dropped || (it.cls == .forward && some it.number == u.fwdQ.head?.map FwdItem.number) } := by
  unfold Upl.dropOldest
  split <;> simp [*]

@[simp] theorem forwardAdd_frame (channel : Nat) (addr : Byte) (kind : Byte) (payload : List Byte) (s : State) :
    (forwardAdd channel addr kind payload s).clk = s.clk ∧ (forwardAdd channel addr kind payload s).tbl = s.tbl ∧
    (forwardAdd channel addr kind payload s).stg = s.stg ∧ (forwardAdd channel addr kind payload s).rat = s.rat ∧
    (forwardAdd channel addr kind payload s).wrn = s.wrn ∧ (forwardAdd channel addr kind payload s).pls = s.pls ∧
    (forwardAdd channel addr kind payload s).run = s.run ∧ (forwardAdd channel addr kind payload s).loop = s.loop ∧
    (forwardAdd channel addr kind payload s).cht = s.cht ∧ (forwardAdd channel addr kind payload s).store = s.store ∧
    (forwardAdd channel addr kind payload s).upl.rate = s.upl.rate ∧
    (forwardAdd channel addr kind payload s).upl.slot = s.upl.slot ∧
    (forwardAdd channel addr kind payload s).upl.assembling = s.upl.assembling ∧
    (forwardAdd channel addr kind payload s).upl.framing = s.upl.framing ∧
    (forwardAdd channel addr kind payload s).upl.gap = s.upl.gap ∧
    (forwardAdd channel addr kind payload s).upl.length = s.upl.length ∧
    (forwardAdd channel addr kind payload s).upl.crc = s.upl.crc ∧
    (forwardAdd channel addr kind payload s).upl.linkLost = s.upl.linkLost ∧
    (forwardAdd channel addr kind payload s).upl.foreign = s.upl.foreign ∧
    (forwardAdd channel addr kind payload s).upl.kindDiscards = s.upl.kindDiscards ∧
    (forwardAdd channel addr kind payload s).upl.huntDiscards = s.upl.huntDiscards ∧
    (forwardAdd channel addr kind payload s).upl.lastChar = s.upl.lastChar ∧
    (forwardAdd channel addr kind payload s).upl.tail = s.upl.tail ∧
    (forwardAdd channel addr kind payload s).upl.ready = s.upl.ready ∧
    (forwardAdd channel addr kind payload s).ctl = s.ctl ∧ (forwardAdd channel addr kind payload s).lines = s.lines ∧
    (forwardAdd channel addr kind payload s).resetLine = s.resetLine ∧
    (forwardAdd channel addr kind payload s).lastReset = s.lastReset ∧
    (forwardAdd channel addr kind payload s).pending = s.pending := by
  unfold forwardAdd
  dsimp only
  split <;> simp

@[simp] theorem placeInSlot_frame (r : Reply) (s : State) :
    (placeInSlot r s).clk = s.clk ∧ (placeInSlot r s).tbl = s.tbl ∧ (placeInSlot r s).stg = s.stg ∧
    (placeInSlot r s).rat = s.rat ∧ (placeInSlot r s).wrn = s.wrn ∧ (placeInSlot r s).pls = s.pls ∧
    (placeInSlot r s).run = s.run ∧ (placeInSlot r s).loop = s.loop ∧ (placeInSlot r s).cht = s.cht ∧
    (placeInSlot r s).store = s.store ∧ (placeInSlot r s).upl.rate = s.upl.rate ∧
    (placeInSlot r s).upl.fwdQ = s.upl.fwdQ ∧ (placeInSlot r s).upl.nextFwd = s.upl.nextFwd ∧
    (placeInSlot r s).upl.assembling = s.upl.assembling ∧ (placeInSlot r s).upl.framing = s.upl.framing ∧
    (placeInSlot r s).upl.gap = s.upl.gap ∧ (placeInSlot r s).upl.length = s.upl.length ∧
    (placeInSlot r s).upl.crc = s.upl.crc ∧ (placeInSlot r s).upl.linkLost = s.upl.linkLost ∧
    (placeInSlot r s).upl.foreign = s.upl.foreign ∧ (placeInSlot r s).upl.kindDiscards = s.upl.kindDiscards ∧
    (placeInSlot r s).upl.huntDiscards = s.upl.huntDiscards ∧
    (placeInSlot r s).upl.lastChar = s.upl.lastChar ∧ (placeInSlot r s).upl.tail = s.upl.tail ∧
    (placeInSlot r s).upl.ready = s.upl.ready ∧
    (placeInSlot r s).ctl = s.ctl ∧ (placeInSlot r s).lines = s.lines ∧ (placeInSlot r s).resetLine = s.resetLine ∧
    (placeInSlot r s).lastReset = s.lastReset ∧ (placeInSlot r s).pending = s.pending := by
  simp [placeInSlot]

@[simp] theorem Grant.countEnd_frame (g : Grant) (e : GrantEnd) :
    (Grant.countEnd g e).state = g.state ∧ (Grant.countEnd g e).node = g.node ∧
    (Grant.countEnd g e).limit = g.limit ∧ (Grant.countEnd g e).mode = g.mode ∧
    (Grant.countEnd g e).count = g.count ∧ (Grant.countEnd g e).began = g.began ∧
    (Grant.countEnd g e).timerAt = g.timerAt ∧ (Grant.countEnd g e).wait = g.wait ∧
    (Grant.countEnd g e).cause = g.cause ∧ (Grant.countEnd g e).recorded = g.recorded ∧
    (Grant.countEnd g e).interleaveAt = g.interleaveAt ∧ (Grant.countEnd g e).lastEnd = g.lastEnd ∧
    (Grant.countEnd g e).begun = g.begun := by
  unfold Grant.countEnd
  split <;> simp

@[simp] theorem Grant.holdWait_frame (g : Grant) :
    (Grant.holdWait g).state = g.state ∧ (Grant.holdWait g).node = g.node ∧ (Grant.holdWait g).limit = g.limit ∧
    (Grant.holdWait g).mode = g.mode ∧ (Grant.holdWait g).count = g.count ∧ (Grant.holdWait g).began = g.began ∧
    (Grant.holdWait g).timerAt = g.timerAt ∧ (Grant.holdWait g).cause = g.cause ∧
    (Grant.holdWait g).recorded = g.recorded ∧ (Grant.holdWait g).interleaveAt = g.interleaveAt ∧
    (Grant.holdWait g).lastEnd = g.lastEnd ∧ (Grant.holdWait g).begun = g.begun ∧
    (Grant.holdWait g).endedBurstEnd = g.endedBurstEnd ∧
    (Grant.holdWait g).endedClaimAnswered = g.endedClaimAnswered ∧ (Grant.holdWait g).endedLimit = g.endedLimit ∧
    (Grant.holdWait g).endedNoBurstEnd = g.endedNoBurstEnd ∧ (Grant.holdWait g).endedJammed = g.endedJammed := by
  simp [Grant.holdWait]

@[simp] theorem Loop.setNodeCount_frame (l : Loop) (addr n : Nat) :
    (Loop.setNodeCount l addr n).rate = l.rate ∧ (Loop.setNodeCount l addr n).txn = l.txn ∧
    (Loop.setNodeCount l addr n).rx = l.rx ∧ (Loop.setNodeCount l addr n).jam = l.jam ∧
    (Loop.setNodeCount l addr n).lineBreak = l.lineBreak ∧ (Loop.setNodeCount l addr n).lowSince = l.lowSince ∧
    (Loop.setNodeCount l addr n).highSince = l.highSince ∧ (Loop.setNodeCount l addr n).sched = l.sched ∧
    (Loop.setNodeCount l addr n).faults = l.faults ∧ (Loop.setNodeCount l addr n).unsolicited = l.unsolicited ∧
    (Loop.setNodeCount l addr n).droppedService = l.droppedService ∧
    (Loop.setNodeCount l addr n).claimPlace = l.claimPlace ∧ (Loop.setNodeCount l addr n).winchPlace = l.winchPlace ∧
    (Loop.setNodeCount l addr n).serviceQ = l.serviceQ ∧ (Loop.setNodeCount l addr n).handNo = l.handNo ∧
    (Loop.setNodeCount l addr n).tx = l.tx ∧ (Loop.setNodeCount l addr n).pendingCmd = l.pendingCmd ∧
    (Loop.setNodeCount l addr n).grant = l.grant := by
  unfold Loop.setNodeCount
  split <;> simp

@[simp] theorem Loop.failNode_frame (l : Loop) (addr : Nat) :
    (Loop.failNode l addr).rate = l.rate ∧ (Loop.failNode l addr).txn = l.txn ∧ (Loop.failNode l addr).rx = l.rx ∧
    (Loop.failNode l addr).jam = l.jam ∧ (Loop.failNode l addr).lineBreak = l.lineBreak ∧
    (Loop.failNode l addr).lowSince = l.lowSince ∧ (Loop.failNode l addr).highSince = l.highSince ∧
    (Loop.failNode l addr).sched = l.sched ∧ (Loop.failNode l addr).faults = l.faults ∧
    (Loop.failNode l addr).unsolicited = l.unsolicited ∧ (Loop.failNode l addr).droppedService = l.droppedService ∧
    (Loop.failNode l addr).claimPlace = l.claimPlace ∧ (Loop.failNode l addr).winchPlace = l.winchPlace ∧
    (Loop.failNode l addr).serviceQ = l.serviceQ ∧ (Loop.failNode l addr).handNo = l.handNo ∧
    (Loop.failNode l addr).tx = l.tx ∧ (Loop.failNode l addr).pendingCmd = l.pendingCmd ∧
    (Loop.failNode l addr).grant = l.grant := by
  simp [Loop.failNode]

@[simp] theorem Loop.countFault_frame (l : Loop) (k : RxFault) :
    (Loop.countFault l k).rate = l.rate ∧ (Loop.countFault l k).txn = l.txn ∧ (Loop.countFault l k).rx = l.rx ∧
    (Loop.countFault l k).jam = l.jam ∧ (Loop.countFault l k).lineBreak = l.lineBreak ∧
    (Loop.countFault l k).lowSince = l.lowSince ∧ (Loop.countFault l k).highSince = l.highSince ∧
    (Loop.countFault l k).sched = l.sched ∧ (Loop.countFault l k).nodeFail = l.nodeFail ∧
    (Loop.countFault l k).unsolicited = l.unsolicited ∧ (Loop.countFault l k).droppedService = l.droppedService ∧
    (Loop.countFault l k).claimPlace = l.claimPlace ∧ (Loop.countFault l k).winchPlace = l.winchPlace ∧
    (Loop.countFault l k).serviceQ = l.serviceQ ∧ (Loop.countFault l k).handNo = l.handNo ∧
    (Loop.countFault l k).tx = l.tx ∧ (Loop.countFault l k).pendingCmd = l.pendingCmd ∧
    (Loop.countFault l k).grant = l.grant := by
  simp [Loop.countFault]

@[simp] theorem Loop.setPoll_frame (l : Loop) (ch : Nat) (p : Poll) :
    (Loop.setPoll l ch p).rate = l.rate ∧ (Loop.setPoll l ch p).txn = l.txn ∧ (Loop.setPoll l ch p).rx = l.rx ∧
    (Loop.setPoll l ch p).jam = l.jam ∧ (Loop.setPoll l ch p).lineBreak = l.lineBreak ∧
    (Loop.setPoll l ch p).lowSince = l.lowSince ∧ (Loop.setPoll l ch p).highSince = l.highSince ∧
    (Loop.setPoll l ch p).nodeFail = l.nodeFail ∧ (Loop.setPoll l ch p).faults = l.faults ∧
    (Loop.setPoll l ch p).unsolicited = l.unsolicited ∧ (Loop.setPoll l ch p).droppedService = l.droppedService ∧
    (Loop.setPoll l ch p).claimPlace = l.claimPlace ∧ (Loop.setPoll l ch p).winchPlace = l.winchPlace ∧
    (Loop.setPoll l ch p).serviceQ = l.serviceQ ∧ (Loop.setPoll l ch p).handNo = l.handNo ∧
    (Loop.setPoll l ch p).tx = l.tx ∧ (Loop.setPoll l ch p).pendingCmd = l.pendingCmd ∧
    (Loop.setPoll l ch p).grant = l.grant := by
  simp [Loop.setPoll]

@[simp] theorem Loop.openCommand_frame (l : Loop) (c : RunCmd) :
    (Loop.openCommand l c).rate = l.rate ∧ (Loop.openCommand l c).rx = l.rx ∧ (Loop.openCommand l c).jam = l.jam ∧
    (Loop.openCommand l c).lineBreak = l.lineBreak ∧ (Loop.openCommand l c).lowSince = l.lowSince ∧
    (Loop.openCommand l c).highSince = l.highSince ∧ (Loop.openCommand l c).sched = l.sched ∧
    (Loop.openCommand l c).nodeFail = l.nodeFail ∧ (Loop.openCommand l c).faults = l.faults ∧
    (Loop.openCommand l c).unsolicited = l.unsolicited ∧ (Loop.openCommand l c).droppedService = l.droppedService ∧
    (Loop.openCommand l c).claimPlace = l.claimPlace ∧ (Loop.openCommand l c).winchPlace = l.winchPlace ∧
    (Loop.openCommand l c).serviceQ = l.serviceQ ∧ (Loop.openCommand l c).handNo = l.handNo ∧
    (Loop.openCommand l c).tx = l.tx ∧ (Loop.openCommand l c).grant.began = l.grant.began ∧
    (Loop.openCommand l c).grant.interleaveAt = l.grant.interleaveAt ∧
    (Loop.openCommand l c).grant.lastEnd = l.grant.lastEnd ∧ (Loop.openCommand l c).grant.begun = l.grant.begun := by
  unfold Loop.openCommand
  split <;> simp

@[simp] theorem Loop.openPoll_frame (l : Loop) (ch addr period : Nat) (p : Poll) :
    (Loop.openPoll l ch addr period p).rate = l.rate ∧ (Loop.openPoll l ch addr period p).rx = l.rx ∧
    (Loop.openPoll l ch addr period p).jam = l.jam ∧ (Loop.openPoll l ch addr period p).lineBreak = l.lineBreak ∧
    (Loop.openPoll l ch addr period p).lowSince = l.lowSince ∧
    (Loop.openPoll l ch addr period p).highSince = l.highSince ∧
    (Loop.openPoll l ch addr period p).nodeFail = l.nodeFail ∧ (Loop.openPoll l ch addr period p).faults = l.faults ∧
    (Loop.openPoll l ch addr period p).unsolicited = l.unsolicited ∧
    (Loop.openPoll l ch addr period p).droppedService = l.droppedService ∧
    (Loop.openPoll l ch addr period p).claimPlace = l.claimPlace ∧
    (Loop.openPoll l ch addr period p).winchPlace = l.winchPlace ∧
    (Loop.openPoll l ch addr period p).serviceQ = l.serviceQ ∧ (Loop.openPoll l ch addr period p).handNo = l.handNo ∧
    (Loop.openPoll l ch addr period p).tx = l.tx ∧ (Loop.openPoll l ch addr period p).pendingCmd = l.pendingCmd ∧
    (Loop.openPoll l ch addr period p).grant = l.grant := by
  simp [Loop.openPoll]

@[simp] theorem Loop.placeWinch_frame (l : Loop) (c : RunCmd) :
    (Loop.placeWinch l c).rate = l.rate ∧ (Loop.placeWinch l c).txn = l.txn ∧ (Loop.placeWinch l c).rx = l.rx ∧
    (Loop.placeWinch l c).jam = l.jam ∧ (Loop.placeWinch l c).lineBreak = l.lineBreak ∧
    (Loop.placeWinch l c).lowSince = l.lowSince ∧ (Loop.placeWinch l c).highSince = l.highSince ∧
    (Loop.placeWinch l c).sched = l.sched ∧ (Loop.placeWinch l c).nodeFail = l.nodeFail ∧
    (Loop.placeWinch l c).faults = l.faults ∧ (Loop.placeWinch l c).unsolicited = l.unsolicited ∧
    (Loop.placeWinch l c).droppedService = l.droppedService ∧ (Loop.placeWinch l c).claimPlace = l.claimPlace ∧
    (Loop.placeWinch l c).serviceQ = l.serviceQ ∧ (Loop.placeWinch l c).tx = l.tx ∧
    (Loop.placeWinch l c).pendingCmd = l.pendingCmd ∧ (Loop.placeWinch l c).grant = l.grant := by
  simp [Loop.placeWinch]

@[simp] theorem Loop.hand_frame (l : Loop) (c : RunCmd) :
    (Loop.hand l c).rate = l.rate ∧ (Loop.hand l c).txn = l.txn ∧ (Loop.hand l c).rx = l.rx ∧
    (Loop.hand l c).jam = l.jam ∧ (Loop.hand l c).lineBreak = l.lineBreak ∧ (Loop.hand l c).lowSince = l.lowSince ∧
    (Loop.hand l c).highSince = l.highSince ∧ (Loop.hand l c).sched = l.sched ∧
    (Loop.hand l c).nodeFail = l.nodeFail ∧ (Loop.hand l c).faults = l.faults ∧
    (Loop.hand l c).unsolicited = l.unsolicited ∧ (Loop.hand l c).droppedService = l.droppedService ∧
    (Loop.hand l c).claimPlace = l.claimPlace ∧ (Loop.hand l c).serviceQ = l.serviceQ ∧ (Loop.hand l c).tx = l.tx ∧
    (Loop.hand l c).grant = l.grant := by
  unfold Loop.hand
  split <;> simp

@[simp] theorem Loop.claim_frame (l : Loop) (cause : ClaimCause) :
    (Loop.claim l cause).rate = l.rate ∧ (Loop.claim l cause).txn = l.txn ∧ (Loop.claim l cause).rx = l.rx ∧
    (Loop.claim l cause).jam = l.jam ∧ (Loop.claim l cause).lineBreak = l.lineBreak ∧
    (Loop.claim l cause).lowSince = l.lowSince ∧ (Loop.claim l cause).highSince = l.highSince ∧
    (Loop.claim l cause).sched = l.sched ∧ (Loop.claim l cause).nodeFail = l.nodeFail ∧
    (Loop.claim l cause).faults = l.faults ∧ (Loop.claim l cause).unsolicited = l.unsolicited ∧
    (Loop.claim l cause).droppedService = l.droppedService ∧ (Loop.claim l cause).winchPlace = l.winchPlace ∧
    (Loop.claim l cause).serviceQ = l.serviceQ ∧ (Loop.claim l cause).handNo = l.handNo ∧
    (Loop.claim l cause).tx = l.tx ∧ (Loop.claim l cause).pendingCmd = l.pendingCmd ∧
    (Loop.claim l cause).grant.node = l.grant.node ∧ (Loop.claim l cause).grant.limit = l.grant.limit ∧
    (Loop.claim l cause).grant.mode = l.grant.mode ∧ (Loop.claim l cause).grant.count = l.grant.count ∧
    (Loop.claim l cause).grant.began = l.grant.began ∧ (Loop.claim l cause).grant.wait = l.grant.wait ∧
    (Loop.claim l cause).grant.interleaveAt = l.grant.interleaveAt ∧
    (Loop.claim l cause).grant.lastEnd = l.grant.lastEnd ∧ (Loop.claim l cause).grant.begun = l.grant.begun := by
  unfold Loop.claim
  (repeat' split) <;> simp

@[simp] theorem Loop.endGrant_frame (l : Loop) (cause : GrantEnd) (interleave now : Nat) :
    (Loop.endGrant l cause interleave now).rate = l.rate ∧ (Loop.endGrant l cause interleave now).txn = l.txn ∧
    (Loop.endGrant l cause interleave now).rx = l.rx ∧ (Loop.endGrant l cause interleave now).jam = l.jam ∧
    (Loop.endGrant l cause interleave now).lineBreak = l.lineBreak ∧
    (Loop.endGrant l cause interleave now).lowSince = l.lowSince ∧
    (Loop.endGrant l cause interleave now).highSince = l.highSince ∧
    (Loop.endGrant l cause interleave now).sched = l.sched ∧
    (Loop.endGrant l cause interleave now).nodeFail = l.nodeFail ∧
    (Loop.endGrant l cause interleave now).faults = l.faults ∧
    (Loop.endGrant l cause interleave now).unsolicited = l.unsolicited ∧
    (Loop.endGrant l cause interleave now).droppedService = l.droppedService ∧
    (Loop.endGrant l cause interleave now).winchPlace = l.winchPlace ∧
    (Loop.endGrant l cause interleave now).serviceQ = l.serviceQ ∧
    (Loop.endGrant l cause interleave now).handNo = l.handNo ∧ (Loop.endGrant l cause interleave now).tx = l.tx ∧
    (Loop.endGrant l cause interleave now).pendingCmd = l.pendingCmd ∧
    (Loop.endGrant l cause interleave now).grant.node = l.grant.node ∧
    (Loop.endGrant l cause interleave now).grant.limit = l.grant.limit ∧
    (Loop.endGrant l cause interleave now).grant.mode = l.grant.mode ∧
    (Loop.endGrant l cause interleave now).grant.count = l.grant.count ∧
    (Loop.endGrant l cause interleave now).grant.began = l.grant.began ∧
    (Loop.endGrant l cause interleave now).grant.begun = l.grant.begun := by
  simp [Loop.endGrant]

@[simp] theorem Loop.highFrom_frame (l : Loop) (t : Nat) :
    (Loop.highFrom l t).rate = l.rate ∧ (Loop.highFrom l t).txn = l.txn ∧ (Loop.highFrom l t).rx = l.rx ∧
    (Loop.highFrom l t).jam = l.jam ∧ (Loop.highFrom l t).lineBreak = l.lineBreak ∧
    (Loop.highFrom l t).lowSince = l.lowSince ∧ (Loop.highFrom l t).sched = l.sched ∧
    (Loop.highFrom l t).nodeFail = l.nodeFail ∧ (Loop.highFrom l t).faults = l.faults ∧
    (Loop.highFrom l t).unsolicited = l.unsolicited ∧ (Loop.highFrom l t).droppedService = l.droppedService ∧
    (Loop.highFrom l t).claimPlace = l.claimPlace ∧ (Loop.highFrom l t).winchPlace = l.winchPlace ∧
    (Loop.highFrom l t).serviceQ = l.serviceQ ∧ (Loop.highFrom l t).handNo = l.handNo ∧
    (Loop.highFrom l t).tx = l.tx ∧ (Loop.highFrom l t).pendingCmd = l.pendingCmd ∧
    (Loop.highFrom l t).grant = l.grant := by
  simp [Loop.highFrom]

@[simp] theorem Loop.pollOutcome_frame (l : Loop) (ch : Nat) (o : PollOutcome) :
    (Loop.pollOutcome l ch o).rate = l.rate ∧ (Loop.pollOutcome l ch o).txn = l.txn ∧
    (Loop.pollOutcome l ch o).rx = l.rx ∧ (Loop.pollOutcome l ch o).jam = l.jam ∧
    (Loop.pollOutcome l ch o).lineBreak = l.lineBreak ∧ (Loop.pollOutcome l ch o).lowSince = l.lowSince ∧
    (Loop.pollOutcome l ch o).highSince = l.highSince ∧ (Loop.pollOutcome l ch o).nodeFail = l.nodeFail ∧
    (Loop.pollOutcome l ch o).faults = l.faults ∧ (Loop.pollOutcome l ch o).unsolicited = l.unsolicited ∧
    (Loop.pollOutcome l ch o).droppedService = l.droppedService ∧
    (Loop.pollOutcome l ch o).claimPlace = l.claimPlace ∧ (Loop.pollOutcome l ch o).winchPlace = l.winchPlace ∧
    (Loop.pollOutcome l ch o).serviceQ = l.serviceQ ∧ (Loop.pollOutcome l ch o).handNo = l.handNo ∧
    (Loop.pollOutcome l ch o).tx = l.tx ∧ (Loop.pollOutcome l ch o).pendingCmd = l.pendingCmd ∧
    (Loop.pollOutcome l ch o).grant = l.grant := by
  unfold Loop.pollOutcome
  split <;> simp

@[simp] theorem Loop.clearMissed_frame (l : Loop) (ch : Nat) :
    (Loop.clearMissed l ch).rate = l.rate ∧ (Loop.clearMissed l ch).txn = l.txn ∧ (Loop.clearMissed l ch).rx = l.rx ∧
    (Loop.clearMissed l ch).jam = l.jam ∧ (Loop.clearMissed l ch).lineBreak = l.lineBreak ∧
    (Loop.clearMissed l ch).lowSince = l.lowSince ∧ (Loop.clearMissed l ch).highSince = l.highSince ∧
    (Loop.clearMissed l ch).nodeFail = l.nodeFail ∧ (Loop.clearMissed l ch).faults = l.faults ∧
    (Loop.clearMissed l ch).unsolicited = l.unsolicited ∧ (Loop.clearMissed l ch).droppedService = l.droppedService ∧
    (Loop.clearMissed l ch).claimPlace = l.claimPlace ∧ (Loop.clearMissed l ch).winchPlace = l.winchPlace ∧
    (Loop.clearMissed l ch).serviceQ = l.serviceQ ∧ (Loop.clearMissed l ch).handNo = l.handNo ∧
    (Loop.clearMissed l ch).tx = l.tx ∧ (Loop.clearMissed l ch).pendingCmd = l.pendingCmd ∧
    (Loop.clearMissed l ch).grant = l.grant := by
  unfold Loop.clearMissed
  split <;> simp

@[simp] theorem Loop.dropTxn_frame (l : Loop) :
    (Loop.dropTxn l).rate = l.rate ∧ (Loop.dropTxn l).jam = l.jam ∧ (Loop.dropTxn l).lineBreak = l.lineBreak ∧
    (Loop.dropTxn l).lowSince = l.lowSince ∧ (Loop.dropTxn l).highSince = l.highSince ∧
    (Loop.dropTxn l).sched = l.sched ∧ (Loop.dropTxn l).nodeFail = l.nodeFail ∧ (Loop.dropTxn l).faults = l.faults ∧
    (Loop.dropTxn l).unsolicited = l.unsolicited ∧ (Loop.dropTxn l).droppedService = l.droppedService ∧
    (Loop.dropTxn l).claimPlace = l.claimPlace ∧ (Loop.dropTxn l).winchPlace = l.winchPlace ∧
    (Loop.dropTxn l).serviceQ = l.serviceQ ∧ (Loop.dropTxn l).handNo = l.handNo ∧ (Loop.dropTxn l).tx = l.tx ∧
    (Loop.dropTxn l).pendingCmd = l.pendingCmd ∧ (Loop.dropTxn l).grant = l.grant := by
  simp [Loop.dropTxn]

@[simp] theorem Loop.movePending_frame (l : Loop) :
    (Loop.movePending l).rate = l.rate ∧ (Loop.movePending l).txn = l.txn ∧ (Loop.movePending l).rx = l.rx ∧
    (Loop.movePending l).jam = l.jam ∧ (Loop.movePending l).lineBreak = l.lineBreak ∧
    (Loop.movePending l).lowSince = l.lowSince ∧ (Loop.movePending l).highSince = l.highSince ∧
    (Loop.movePending l).sched = l.sched ∧ (Loop.movePending l).nodeFail = l.nodeFail ∧
    (Loop.movePending l).faults = l.faults ∧ (Loop.movePending l).unsolicited = l.unsolicited ∧
    (Loop.movePending l).droppedService = l.droppedService ∧ (Loop.movePending l).claimPlace = l.claimPlace ∧
    (Loop.movePending l).serviceQ = l.serviceQ ∧ (Loop.movePending l).tx = l.tx ∧
    (Loop.movePending l).grant = l.grant := by
  unfold Loop.movePending
  (repeat' split) <;> simp

@[simp] theorem choose_frame (s : State) :
    (choose s).clk = s.clk ∧ (choose s).tbl = s.tbl ∧ (choose s).stg = s.stg ∧ (choose s).rat = s.rat ∧
    (choose s).wrn = s.wrn ∧ (choose s).pls = s.pls ∧ (choose s).run = s.run ∧ (choose s).loop.rate = s.loop.rate ∧
    (choose s).loop.rx = s.loop.rx ∧ (choose s).loop.jam = s.loop.jam ∧
    (choose s).loop.lineBreak = s.loop.lineBreak ∧ (choose s).loop.lowSince = s.loop.lowSince ∧
    (choose s).loop.highSince = s.loop.highSince ∧ (choose s).loop.nodeFail = s.loop.nodeFail ∧
    (choose s).loop.faults = s.loop.faults ∧ (choose s).loop.unsolicited = s.loop.unsolicited ∧
    (choose s).loop.droppedService = s.loop.droppedService ∧ (choose s).loop.claimPlace = s.loop.claimPlace ∧
    (choose s).loop.winchPlace = s.loop.winchPlace ∧ (choose s).loop.serviceQ = s.loop.serviceQ ∧
    (choose s).loop.handNo = s.loop.handNo ∧ (choose s).loop.tx = s.loop.tx ∧
    (choose s).loop.grant.began = s.loop.grant.began ∧
    (choose s).loop.grant.interleaveAt = s.loop.grant.interleaveAt ∧
    (choose s).loop.grant.lastEnd = s.loop.grant.lastEnd ∧ (choose s).loop.grant.begun = s.loop.grant.begun ∧
    (choose s).cht = s.cht ∧ (choose s).store = s.store ∧ (choose s).upl = s.upl ∧ (choose s).ctl = s.ctl ∧
    (choose s).lines = s.lines ∧ (choose s).resetLine = s.resetLine ∧ (choose s).lastReset = s.lastReset ∧
    (choose s).pending = s.pending := by
  unfold choose
  (repeat' split) <;> simp

@[simp] theorem feedService_frame (s : State) :
    (feedService s).clk = s.clk ∧ (feedService s).tbl = s.tbl ∧ (feedService s).stg = s.stg ∧
    (feedService s).rat = s.rat ∧ (feedService s).wrn = s.wrn ∧ (feedService s).pls = s.pls ∧
    (feedService s).run = s.run ∧ (feedService s).loop.rate = s.loop.rate ∧ (feedService s).loop.txn = s.loop.txn ∧
    (feedService s).loop.rx = s.loop.rx ∧ (feedService s).loop.jam = s.loop.jam ∧
    (feedService s).loop.lineBreak = s.loop.lineBreak ∧ (feedService s).loop.lowSince = s.loop.lowSince ∧
    (feedService s).loop.highSince = s.loop.highSince ∧ (feedService s).loop.sched = s.loop.sched ∧
    (feedService s).loop.nodeFail = s.loop.nodeFail ∧ (feedService s).loop.faults = s.loop.faults ∧
    (feedService s).loop.unsolicited = s.loop.unsolicited ∧
    (feedService s).loop.droppedService = s.loop.droppedService ∧
    (feedService s).loop.claimPlace = s.loop.claimPlace ∧ (feedService s).loop.winchPlace = s.loop.winchPlace ∧
    (feedService s).loop.tx = s.loop.tx ∧ (feedService s).loop.pendingCmd = s.loop.pendingCmd ∧
    (feedService s).loop.grant = s.loop.grant ∧ (feedService s).cht = s.cht ∧ (feedService s).store = s.store ∧
    (feedService s).upl = s.upl ∧ (feedService s).ctl.queue = s.ctl.queue ∧
    (feedService s).ctl.resetWait = s.ctl.resetWait ∧ (feedService s).ctl.droppedBusy = s.ctl.droppedBusy ∧
    (feedService s).ctl.lastRefusal = s.ctl.lastRefusal ∧ (feedService s).lines = s.lines ∧
    (feedService s).resetLine = s.resetLine ∧ (feedService s).lastReset = s.lastReset ∧
    (feedService s).pending = s.pending := by
  unfold feedService
  dsimp only
  (repeat' split) <;> simp

theorem Loop.takeWaiting_frame {l l' : Loop} {f : CmdFrame} (h : l.takeWaiting = some (f, l')) :
    l' = { l with winchPlace := l'.winchPlace, serviceQ := l'.serviceQ } := by
  unfold Loop.takeWaiting at h
  (repeat' split at h) <;> simp_all
  all_goals (obtain ⟨rfl, rfl⟩ := h; rfl)

theorem Loop.takeOpening_frame {l l' : Loop} {f : CmdFrame} (h : l.takeOpening = some (f, l')) :
    l' = { l with txn := l'.txn } := by
  unfold Loop.takeOpening at h
  (repeat' split at h) <;> simp_all
  all_goals (obtain ⟨rfl, rfl⟩ := h; rfl)

theorem Loop.takeNext_frame {l l' : Loop} {f : CmdFrame} (h : l.takeNext = some (f, l')) :
    l' = { l with claimPlace := l'.claimPlace, winchPlace := l'.winchPlace, serviceQ := l'.serviceQ, txn := l'.txn } := by
  unfold Loop.takeNext at h
  split at h
  · simp at h; obtain ⟨rfl, rfl⟩ := h; rfl
  · split at h
    · next r hr => obtain ⟨f', l''⟩ := r; simp at h; obtain ⟨rfl, rfl⟩ := h; rw [Loop.takeWaiting_frame hr]
    · rw [Loop.takeOpening_frame h]

@[simp] theorem kickFrom_frame (t : Nat) (s : State) :
    (kickFrom t s).clk = s.clk ∧ (kickFrom t s).tbl = s.tbl ∧ (kickFrom t s).stg = s.stg ∧
    (kickFrom t s).rat = s.rat ∧ (kickFrom t s).wrn = s.wrn ∧ (kickFrom t s).pls = s.pls ∧
    (kickFrom t s).run = s.run ∧ (kickFrom t s).loop.rate = s.loop.rate ∧ (kickFrom t s).loop.rx = s.loop.rx ∧
    (kickFrom t s).loop.jam = s.loop.jam ∧ (kickFrom t s).loop.lineBreak = s.loop.lineBreak ∧
    (kickFrom t s).loop.lowSince = s.loop.lowSince ∧ (kickFrom t s).loop.highSince = s.loop.highSince ∧
    (kickFrom t s).loop.sched = s.loop.sched ∧ (kickFrom t s).loop.nodeFail = s.loop.nodeFail ∧
    (kickFrom t s).loop.faults = s.loop.faults ∧ (kickFrom t s).loop.unsolicited = s.loop.unsolicited ∧
    (kickFrom t s).loop.droppedService = s.loop.droppedService ∧ (kickFrom t s).loop.pendingCmd = s.loop.pendingCmd ∧
    (kickFrom t s).loop.grant = s.loop.grant ∧ (kickFrom t s).cht = s.cht ∧ (kickFrom t s).store = s.store ∧
    (kickFrom t s).upl = s.upl ∧ (kickFrom t s).ctl.queue = s.ctl.queue ∧
    (kickFrom t s).ctl.resetWait = s.ctl.resetWait ∧ (kickFrom t s).ctl.droppedBusy = s.ctl.droppedBusy ∧
    (kickFrom t s).ctl.lastRefusal = s.ctl.lastRefusal ∧ (kickFrom t s).lines = s.lines ∧
    (kickFrom t s).resetLine = s.resetLine ∧ (kickFrom t s).lastReset = s.lastReset ∧
    (kickFrom t s).pending = s.pending := by
  unfold kickFrom
  split
  · simp
  · split
    · next h => simp only [feedService_frame, State.setLoop_loop]; rw [Loop.takeNext_frame h]; simp
    · simp

@[simp] theorem rateEffect_frame (s : State) :
    (rateEffect s).clk = s.clk ∧ (rateEffect s).tbl = s.tbl ∧ (rateEffect s).stg = s.stg ∧
    (rateEffect s).rat = s.rat ∧ (rateEffect s).wrn = s.wrn ∧ (rateEffect s).pls = s.pls ∧
    (rateEffect s).run = s.run ∧ (rateEffect s).loop.txn = s.loop.txn ∧ (rateEffect s).loop.rx = s.loop.rx ∧
    (rateEffect s).loop.jam = s.loop.jam ∧ (rateEffect s).loop.lineBreak = s.loop.lineBreak ∧
    (rateEffect s).loop.lowSince = s.loop.lowSince ∧ (rateEffect s).loop.highSince = s.loop.highSince ∧
    (rateEffect s).loop.sched = s.loop.sched ∧ (rateEffect s).loop.nodeFail = s.loop.nodeFail ∧
    (rateEffect s).loop.faults = s.loop.faults ∧ (rateEffect s).loop.unsolicited = s.loop.unsolicited ∧
    (rateEffect s).loop.droppedService = s.loop.droppedService ∧ (rateEffect s).loop.claimPlace = s.loop.claimPlace ∧
    (rateEffect s).loop.winchPlace = s.loop.winchPlace ∧ (rateEffect s).loop.serviceQ = s.loop.serviceQ ∧
    (rateEffect s).loop.handNo = s.loop.handNo ∧ (rateEffect s).loop.tx = s.loop.tx ∧
    (rateEffect s).loop.pendingCmd = s.loop.pendingCmd ∧ (rateEffect s).loop.grant = s.loop.grant ∧
    (rateEffect s).cht = s.cht ∧ (rateEffect s).store = s.store ∧ (rateEffect s).upl = s.upl ∧
    (rateEffect s).ctl = s.ctl ∧ (rateEffect s).lines = s.lines ∧ (rateEffect s).resetLine = s.resetLine ∧
    (rateEffect s).lastReset = s.lastReset ∧ (rateEffect s).pending = s.pending := by
  unfold rateEffect
  split <;> simp

@[simp] theorem settleFrom_frame (t : Nat) (s : State) :
    (settleFrom t s).clk = s.clk ∧ (settleFrom t s).tbl = s.tbl ∧ (settleFrom t s).stg = s.stg ∧
    (settleFrom t s).rat = s.rat ∧ (settleFrom t s).wrn = s.wrn ∧ (settleFrom t s).pls = s.pls ∧
    (settleFrom t s).run = s.run ∧ (settleFrom t s).loop.rx = s.loop.rx ∧ (settleFrom t s).loop.jam = s.loop.jam ∧
    (settleFrom t s).loop.lineBreak = s.loop.lineBreak ∧ (settleFrom t s).loop.lowSince = s.loop.lowSince ∧
    (settleFrom t s).loop.highSince = s.loop.highSince ∧ (settleFrom t s).loop.nodeFail = s.loop.nodeFail ∧
    (settleFrom t s).loop.faults = s.loop.faults ∧ (settleFrom t s).loop.unsolicited = s.loop.unsolicited ∧
    (settleFrom t s).loop.droppedService = s.loop.droppedService ∧
    (settleFrom t s).loop.grant.began = s.loop.grant.began ∧
    (settleFrom t s).loop.grant.interleaveAt = s.loop.grant.interleaveAt ∧
    (settleFrom t s).loop.grant.lastEnd = s.loop.grant.lastEnd ∧
    (settleFrom t s).loop.grant.begun = s.loop.grant.begun ∧ (settleFrom t s).cht = s.cht ∧
    (settleFrom t s).store = s.store ∧ (settleFrom t s).upl = s.upl ∧ (settleFrom t s).ctl.queue = s.ctl.queue ∧
    (settleFrom t s).ctl.resetWait = s.ctl.resetWait ∧ (settleFrom t s).ctl.droppedBusy = s.ctl.droppedBusy ∧
    (settleFrom t s).ctl.lastRefusal = s.ctl.lastRefusal ∧ (settleFrom t s).lines = s.lines ∧
    (settleFrom t s).resetLine = s.resetLine ∧ (settleFrom t s).lastReset = s.lastReset ∧
    (settleFrom t s).pending = s.pending := by
  simp [settleFrom]

@[simp] theorem settle_frame (s : State) :
    (settle s).clk = s.clk ∧ (settle s).tbl = s.tbl ∧ (settle s).stg = s.stg ∧ (settle s).rat = s.rat ∧
    (settle s).wrn = s.wrn ∧ (settle s).pls = s.pls ∧ (settle s).run = s.run ∧ (settle s).loop.rx = s.loop.rx ∧
    (settle s).loop.jam = s.loop.jam ∧ (settle s).loop.lineBreak = s.loop.lineBreak ∧
    (settle s).loop.lowSince = s.loop.lowSince ∧ (settle s).loop.highSince = s.loop.highSince ∧
    (settle s).loop.nodeFail = s.loop.nodeFail ∧ (settle s).loop.faults = s.loop.faults ∧
    (settle s).loop.unsolicited = s.loop.unsolicited ∧ (settle s).loop.droppedService = s.loop.droppedService ∧
    (settle s).loop.grant.began = s.loop.grant.began ∧
    (settle s).loop.grant.interleaveAt = s.loop.grant.interleaveAt ∧
    (settle s).loop.grant.lastEnd = s.loop.grant.lastEnd ∧ (settle s).loop.grant.begun = s.loop.grant.begun ∧
    (settle s).cht = s.cht ∧ (settle s).store = s.store ∧ (settle s).upl = s.upl ∧
    (settle s).ctl.queue = s.ctl.queue ∧ (settle s).ctl.resetWait = s.ctl.resetWait ∧
    (settle s).ctl.droppedBusy = s.ctl.droppedBusy ∧ (settle s).ctl.lastRefusal = s.ctl.lastRefusal ∧
    (settle s).lines = s.lines ∧ (settle s).resetLine = s.resetLine ∧ (settle s).lastReset = s.lastReset ∧
    (settle s).pending = s.pending := by
  simp [settle]

@[simp] theorem startClaimWait_frame (t : Nat) (s : State) :
    (startClaimWait t s).clk = s.clk ∧ (startClaimWait t s).tbl = s.tbl ∧ (startClaimWait t s).stg = s.stg ∧
    (startClaimWait t s).rat = s.rat ∧ (startClaimWait t s).wrn = s.wrn ∧ (startClaimWait t s).pls = s.pls ∧
    (startClaimWait t s).run = s.run ∧ (startClaimWait t s).loop.rate = s.loop.rate ∧
    (startClaimWait t s).loop.txn = s.loop.txn ∧ (startClaimWait t s).loop.rx = s.loop.rx ∧
    (startClaimWait t s).loop.jam = s.loop.jam ∧ (startClaimWait t s).loop.lineBreak = s.loop.lineBreak ∧
    (startClaimWait t s).loop.lowSince = s.loop.lowSince ∧ (startClaimWait t s).loop.highSince = s.loop.highSince ∧
    (startClaimWait t s).loop.sched = s.loop.sched ∧ (startClaimWait t s).loop.nodeFail = s.loop.nodeFail ∧
    (startClaimWait t s).loop.faults = s.loop.faults ∧ (startClaimWait t s).loop.unsolicited = s.loop.unsolicited ∧
    (startClaimWait t s).loop.droppedService = s.loop.droppedService ∧
    (startClaimWait t s).loop.claimPlace = s.loop.claimPlace ∧
    (startClaimWait t s).loop.winchPlace = s.loop.winchPlace ∧ (startClaimWait t s).loop.serviceQ = s.loop.serviceQ ∧
    (startClaimWait t s).loop.handNo = s.loop.handNo ∧ (startClaimWait t s).loop.tx = s.loop.tx ∧
    (startClaimWait t s).loop.pendingCmd = s.loop.pendingCmd ∧
    (startClaimWait t s).loop.grant.state = s.loop.grant.state ∧
    (startClaimWait t s).loop.grant.node = s.loop.grant.node ∧
    (startClaimWait t s).loop.grant.limit = s.loop.grant.limit ∧
    (startClaimWait t s).loop.grant.mode = s.loop.grant.mode ∧
    (startClaimWait t s).loop.grant.count = s.loop.grant.count ∧
    (startClaimWait t s).loop.grant.began = s.loop.grant.began ∧
    (startClaimWait t s).loop.grant.timerAt = s.loop.grant.timerAt ∧
    (startClaimWait t s).loop.grant.cause = s.loop.grant.cause ∧
    (startClaimWait t s).loop.grant.recorded = s.loop.grant.recorded ∧
    (startClaimWait t s).loop.grant.interleaveAt = s.loop.grant.interleaveAt ∧
    (startClaimWait t s).loop.grant.lastEnd = s.loop.grant.lastEnd ∧
    (startClaimWait t s).loop.grant.begun = s.loop.grant.begun ∧ (startClaimWait t s).cht = s.cht ∧
    (startClaimWait t s).store = s.store ∧ (startClaimWait t s).upl = s.upl ∧ (startClaimWait t s).ctl = s.ctl ∧
    (startClaimWait t s).lines = s.lines ∧ (startClaimWait t s).resetLine = s.resetLine ∧
    (startClaimWait t s).lastReset = s.lastReset ∧ (startClaimWait t s).pending = s.pending := by
  simp [startClaimWait]

@[simp] theorem restartClaimWait_frame (s : State) :
    (restartClaimWait s).clk = s.clk ∧ (restartClaimWait s).tbl = s.tbl ∧ (restartClaimWait s).stg = s.stg ∧
    (restartClaimWait s).rat = s.rat ∧ (restartClaimWait s).wrn = s.wrn ∧ (restartClaimWait s).pls = s.pls ∧
    (restartClaimWait s).run = s.run ∧ (restartClaimWait s).loop.rate = s.loop.rate ∧
    (restartClaimWait s).loop.txn = s.loop.txn ∧ (restartClaimWait s).loop.rx = s.loop.rx ∧
    (restartClaimWait s).loop.jam = s.loop.jam ∧ (restartClaimWait s).loop.lineBreak = s.loop.lineBreak ∧
    (restartClaimWait s).loop.lowSince = s.loop.lowSince ∧ (restartClaimWait s).loop.highSince = s.loop.highSince ∧
    (restartClaimWait s).loop.sched = s.loop.sched ∧ (restartClaimWait s).loop.nodeFail = s.loop.nodeFail ∧
    (restartClaimWait s).loop.faults = s.loop.faults ∧ (restartClaimWait s).loop.unsolicited = s.loop.unsolicited ∧
    (restartClaimWait s).loop.droppedService = s.loop.droppedService ∧
    (restartClaimWait s).loop.claimPlace = s.loop.claimPlace ∧
    (restartClaimWait s).loop.winchPlace = s.loop.winchPlace ∧ (restartClaimWait s).loop.serviceQ = s.loop.serviceQ ∧
    (restartClaimWait s).loop.handNo = s.loop.handNo ∧ (restartClaimWait s).loop.tx = s.loop.tx ∧
    (restartClaimWait s).loop.pendingCmd = s.loop.pendingCmd ∧
    (restartClaimWait s).loop.grant.state = s.loop.grant.state ∧
    (restartClaimWait s).loop.grant.node = s.loop.grant.node ∧
    (restartClaimWait s).loop.grant.limit = s.loop.grant.limit ∧
    (restartClaimWait s).loop.grant.mode = s.loop.grant.mode ∧
    (restartClaimWait s).loop.grant.count = s.loop.grant.count ∧
    (restartClaimWait s).loop.grant.began = s.loop.grant.began ∧
    (restartClaimWait s).loop.grant.timerAt = s.loop.grant.timerAt ∧
    (restartClaimWait s).loop.grant.cause = s.loop.grant.cause ∧
    (restartClaimWait s).loop.grant.recorded = s.loop.grant.recorded ∧
    (restartClaimWait s).loop.grant.interleaveAt = s.loop.grant.interleaveAt ∧
    (restartClaimWait s).loop.grant.lastEnd = s.loop.grant.lastEnd ∧
    (restartClaimWait s).loop.grant.begun = s.loop.grant.begun ∧ (restartClaimWait s).cht = s.cht ∧
    (restartClaimWait s).store = s.store ∧ (restartClaimWait s).upl = s.upl ∧ (restartClaimWait s).ctl = s.ctl ∧
    (restartClaimWait s).lines = s.lines ∧ (restartClaimWait s).resetLine = s.resetLine ∧
    (restartClaimWait s).lastReset = s.lastReset ∧ (restartClaimWait s).pending = s.pending := by
  simp [restartClaimWait]

end Sys2Proof.Machine
end

