-- ==== Sys2Proof/Laws/RunFrame.lean ====
section
/-! SUPPORT. What the operations of the run engine leave as it was: one lemma per
operation, for all the fields it does not touch. -/

namespace Sys2Proof.Machine

@[simp] theorem Pls.setInput_frame (p : Pls) (c : Contact) (i : Input) :
    (Pls.setInput p c i).rotor = p.rotor ∧ (Pls.setInput p c i).surface = p.surface ∧
    (Pls.setInput p c i).bottom = p.bottom := by
  unfold Pls.setInput
  split <;> simp

@[simp] theorem Pls.release_frame (p : Pls) :
    (Pls.release p).rotorIn = p.rotorIn ∧ (Pls.release p).surfaceIn = p.surfaceIn ∧
    (Pls.release p).bottomIn = p.bottomIn := by
  simp [Pls.release]

@[simp] theorem Pls.disarm_frame (p : Pls) :
    (Pls.disarm p).rotorIn = p.rotorIn ∧ (Pls.disarm p).surfaceIn = p.surfaceIn ∧
    (Pls.disarm p).bottomIn = p.bottomIn ∧ (Pls.disarm p).rotor = p.rotor := by
  simp [Pls.disarm]

@[simp] theorem Run.enter_frame (r : Run) (st : RunState) :
    (Run.enter r st).marker = r.marker ∧ (Run.enter r st).held = r.held ∧ (Run.enter r st).position = r.position ∧
    (Run.enter r st).record = r.record ∧ (Run.enter r st).cursor = r.cursor ∧
    (Run.enter r st).vertical = r.vertical ∧ (Run.enter r st).grantKnown = r.grantKnown ∧
    (Run.enter r st).nextId = r.nextId ∧ (Run.enter r st).lastCmd = r.lastCmd ∧
    (Run.enter r st).retrieveSent = r.retrieveSent ∧ (Run.enter r st).verifyGrant = r.verifyGrant ∧
    (Run.enter r st).traverseAt = r.traverseAt ∧ (Run.enter r st).cableAt = r.cableAt ∧
    (Run.enter r st).traverseLapsed = r.traverseLapsed ∧
    (Run.enter r st).cableLapsed = r.cableLapsed ∧
    (Run.enter r st).settleAt = r.settleAt ∧ (Run.enter r st).retrieveAt = r.retrieveAt ∧
    (Run.enter r st).enquiryAt = r.enquiryAt := by
  simp [Run.enter]

/-- R151: everything that the stop of the traverse timer does. -/
@[simp] theorem Run.stopTraverse_frame (r : Run) (now : Nat) :
    (Run.stopTraverse r now).state = r.state ∧ (Run.stopTraverse r now).marker = r.marker ∧
    (Run.stopTraverse r now).held = r.held ∧ (Run.stopTraverse r now).position = r.position ∧
    (Run.stopTraverse r now).record = r.record ∧ (Run.stopTraverse r now).cursor = r.cursor ∧
    (Run.stopTraverse r now).vertical = r.vertical ∧ (Run.stopTraverse r now).grantKnown = r.grantKnown ∧
    (Run.stopTraverse r now).nextId = r.nextId ∧ (Run.stopTraverse r now).lastCmd = r.lastCmd ∧
    (Run.stopTraverse r now).told = r.told ∧ (Run.stopTraverse r now).moveId = r.moveId ∧
    (Run.stopTraverse r now).moveSent = r.moveSent ∧ (Run.stopTraverse r now).haltId = r.haltId ∧
    (Run.stopTraverse r now).retrieveSent = r.retrieveSent ∧ (Run.stopTraverse r now).verifyGrant = r.verifyGrant ∧
    (Run.stopTraverse r now).traverseAt = none ∧ (Run.stopTraverse r now).cableAt = r.cableAt ∧
    (Run.stopTraverse r now).traverseLapsed = (r.traverseLapsed || dueAt r.traverseAt now) ∧
    (Run.stopTraverse r now).cableLapsed = r.cableLapsed ∧
    (Run.stopTraverse r now).settleAt = r.settleAt ∧
    (Run.stopTraverse r now).retrieveAt = r.retrieveAt ∧ (Run.stopTraverse r now).enquiryAt = r.enquiryAt := by
  simp [Run.stopTraverse]

/-- R151: everything that the stop of the cable timer does. -/
@[simp] theorem Run.stopCable_frame (r : Run) (now : Nat) :
    (Run.stopCable r now).state = r.state ∧ (Run.stopCable r now).marker = r.marker ∧
    (Run.stopCable r now).held = r.held ∧ (Run.stopCable r now).position = r.position ∧
    (Run.stopCable r now).record = r.record ∧ (Run.stopCable r now).cursor = r.cursor ∧
    (Run.stopCable r now).vertical = r.vertical ∧ (Run.stopCable r now).grantKnown = r.grantKnown ∧
    (Run.stopCable r now).nextId = r.nextId ∧ (Run.stopCable r now).lastCmd = r.lastCmd ∧
    (Run.stopCable r now).told = r.told ∧ (Run.stopCable r now).moveId = r.moveId ∧
    (Run.stopCable r now).moveSent = r.moveSent ∧ (Run.stopCable r now).haltId = r.haltId ∧
    (Run.stopCable r now).retrieveSent = r.retrieveSent ∧ (Run.stopCable r now).verifyGrant = r.verifyGrant ∧
    (Run.stopCable r now).traverseAt = r.traverseAt ∧ (Run.stopCable r now).cableAt = none ∧
    (Run.stopCable r now).traverseLapsed = r.traverseLapsed ∧
    (Run.stopCable r now).cableLapsed = (r.cableLapsed || dueAt r.cableAt now) ∧
    (Run.stopCable r now).settleAt = r.settleAt ∧ (Run.stopCable r now).retrieveAt = r.retrieveAt ∧
    (Run.stopCable r now).enquiryAt = r.enquiryAt := by
  simp [Run.stopCable]

/-- R151: everything that the stop of both does. -/
@[simp] theorem Run.stopTimers_frame (r : Run) (now : Nat) :
    (Run.stopTimers r now).state = r.state ∧ (Run.stopTimers r now).marker = r.marker ∧
    (Run.stopTimers r now).held = r.held ∧ (Run.stopTimers r now).position = r.position ∧
    (Run.stopTimers r now).record = r.record ∧ (Run.stopTimers r now).cursor = r.cursor ∧
    (Run.stopTimers r now).vertical = r.vertical ∧ (Run.stopTimers r now).grantKnown = r.grantKnown ∧
    (Run.stopTimers r now).nextId = r.nextId ∧ (Run.stopTimers r now).lastCmd = r.lastCmd ∧
    (Run.stopTimers r now).told = r.told ∧ (Run.stopTimers r now).moveId = r.moveId ∧
    (Run.stopTimers r now).moveSent = r.moveSent ∧ (Run.stopTimers r now).haltId = r.haltId ∧
    (Run.stopTimers r now).retrieveSent = r.retrieveSent ∧ (Run.stopTimers r now).verifyGrant = r.verifyGrant ∧
    (Run.stopTimers r now).traverseAt = none ∧ (Run.stopTimers r now).cableAt = none ∧
    (Run.stopTimers r now).traverseLapsed = (r.traverseLapsed || dueAt r.traverseAt now) ∧
    (Run.stopTimers r now).cableLapsed = (r.cableLapsed || dueAt r.cableAt now) ∧
    (Run.stopTimers r now).settleAt = r.settleAt ∧ (Run.stopTimers r now).retrieveAt = r.retrieveAt ∧
    (Run.stopTimers r now).enquiryAt = r.enquiryAt := by
  simp [Run.stopTimers]

@[simp] theorem Run.toIdle_frame (r : Run) :
    (Run.toIdle r).position = r.position ∧ (Run.toIdle r).grantKnown = r.grantKnown ∧
    (Run.toIdle r).nextId = r.nextId ∧ (Run.toIdle r).told = r.told := by
  simp [Run.toIdle]

@[simp] theorem Run.note_frame (r : Run) (id : Nat) (o : CmdOutcome) :
    (Run.note r id o).state = r.state ∧ (Run.note r id o).marker = r.marker ∧ (Run.note r id o).held = r.held ∧
    (Run.note r id o).position = r.position ∧ (Run.note r id o).record = r.record ∧
    (Run.note r id o).cursor = r.cursor ∧ (Run.note r id o).vertical = r.vertical ∧
    (Run.note r id o).grantKnown = r.grantKnown ∧ (Run.note r id o).nextId = r.nextId ∧
    (Run.note r id o).moveId = r.moveId ∧ (Run.note r id o).haltId = r.haltId ∧
    (Run.note r id o).retrieveSent = r.retrieveSent ∧ (Run.note r id o).verifyGrant = r.verifyGrant ∧
    (Run.note r id o).traverseAt = r.traverseAt ∧ (Run.note r id o).cableAt = r.cableAt ∧
    (Run.note r id o).traverseLapsed = r.traverseLapsed ∧
    (Run.note r id o).cableLapsed = r.cableLapsed ∧
    (Run.note r id o).settleAt = r.settleAt ∧ (Run.note r id o).retrieveAt = r.retrieveAt ∧
    (Run.note r id o).enquiryAt = r.enquiryAt := by
  simp [Run.note]

@[simp] theorem tellReplaced_frame (c : Option RunCmd) (s : State) :
    (tellReplaced c s).clk = s.clk ∧ (tellReplaced c s).tbl = s.tbl ∧ (tellReplaced c s).stg = s.stg ∧
    (tellReplaced c s).rat = s.rat ∧ (tellReplaced c s).wrn = s.wrn ∧ (tellReplaced c s).pls = s.pls ∧
    (tellReplaced c s).run.state = s.run.state ∧ (tellReplaced c s).run.marker = s.run.marker ∧
    (tellReplaced c s).run.held = s.run.held ∧ (tellReplaced c s).run.position = s.run.position ∧
    (tellReplaced c s).run.record = s.run.record ∧ (tellReplaced c s).run.cursor = s.run.cursor ∧
    (tellReplaced c s).run.vertical = s.run.vertical ∧ (tellReplaced c s).run.grantKnown = s.run.grantKnown ∧
    (tellReplaced c s).run.nextId = s.run.nextId ∧ (tellReplaced c s).run.moveId = s.run.moveId ∧
    (tellReplaced c s).run.moveSent = s.run.moveSent ∧ (tellReplaced c s).run.haltId = s.run.haltId ∧
    (tellReplaced c s).run.retrieveSent = s.run.retrieveSent ∧
    (tellReplaced c s).run.verifyGrant = s.run.verifyGrant ∧
    (tellReplaced c s).run.traverseAt = s.run.traverseAt ∧
    (tellReplaced c s).run.traverseLapsed = s.run.traverseLapsed ∧
    (tellReplaced c s).run.cableAt = s.run.cableAt ∧
    (tellReplaced c s).run.cableLapsed = s.run.cableLapsed ∧
    (tellReplaced c s).run.settleAt = s.run.settleAt ∧ (tellReplaced c s).run.retrieveAt = s.run.retrieveAt ∧
    (tellReplaced c s).run.enquiryAt = s.run.enquiryAt ∧ (tellReplaced c s).loop = s.loop ∧
    (tellReplaced c s).cht = s.cht ∧ (tellReplaced c s).store = s.store ∧ (tellReplaced c s).upl = s.upl ∧
    (tellReplaced c s).ctl = s.ctl ∧ (tellReplaced c s).lines = s.lines ∧
    (tellReplaced c s).resetLine = s.resetLine ∧ (tellReplaced c s).lastReset = s.lastReset ∧
    (tellReplaced c s).pending = s.pending := by
  unfold tellReplaced
  split <;> simp [Run.note, CmdOutcome.reached]

/-- R83: what RUN knows of a command that has been replaced. -/
theorem tellReplaced_told (c : RunCmd) (s : State) :
    (tellReplaced (some c) s).run.told = some (c.id, .replaced) := rfl

@[simp] theorem adopt_frame (start : Nat) (shift : Int) (s : State) :
    (adopt start shift s).1.clk = s.clk ∧ (adopt start shift s).1.tbl = s.tbl ∧ (adopt start shift s).1.stg = s.stg ∧
    (adopt start shift s).1.rat.live = s.rat.live ∧ (adopt start shift s).1.rat.latest = s.rat.latest ∧
    (adopt start shift s).1.wrn = s.wrn ∧ (adopt start shift s).1.pls = s.pls ∧ (adopt start shift s).1.run = s.run ∧
    (adopt start shift s).1.loop = s.loop ∧ (adopt start shift s).1.cht = s.cht ∧
    (adopt start shift s).1.store = s.store ∧ (adopt start shift s).1.upl = s.upl ∧
    (adopt start shift s).1.ctl = s.ctl ∧ (adopt start shift s).1.lines = s.lines ∧
    (adopt start shift s).1.resetLine = s.resetLine ∧ (adopt start shift s).1.lastReset = s.lastReset ∧
    (adopt start shift s).1.pending = s.pending := by
  unfold adopt
  split <;> simp

@[simp] theorem handRun_frame (k : CmdKind) (s : State) :
    (handRun k s).clk = s.clk ∧ (handRun k s).tbl = s.tbl ∧ (handRun k s).stg = s.stg ∧ (handRun k s).rat = s.rat ∧
    (handRun k s).wrn = s.wrn ∧ (handRun k s).pls = s.pls ∧ (handRun k s).run.state = s.run.state ∧
    (handRun k s).run.marker = s.run.marker ∧ (handRun k s).run.held = s.run.held ∧
    (handRun k s).run.position = s.run.position ∧ (handRun k s).run.record = s.run.record ∧
    (handRun k s).run.cursor = s.run.cursor ∧ (handRun k s).run.vertical = s.run.vertical ∧
    (handRun k s).run.grantKnown = s.run.grantKnown ∧ (handRun k s).run.moveId = s.run.moveId ∧
    (handRun k s).run.moveSent = s.run.moveSent ∧ (handRun k s).run.haltId = s.run.haltId ∧
    (handRun k s).run.retrieveSent = s.run.retrieveSent ∧ (handRun k s).run.verifyGrant = s.run.verifyGrant ∧
    (handRun k s).run.traverseAt = s.run.traverseAt ∧
    (handRun k s).run.traverseLapsed = s.run.traverseLapsed ∧
    (handRun k s).run.cableAt = s.run.cableAt ∧
    (handRun k s).run.cableLapsed = s.run.cableLapsed ∧
    (handRun k s).run.settleAt = s.run.settleAt ∧ (handRun k s).run.retrieveAt = s.run.retrieveAt ∧
    (handRun k s).loop.rate = s.loop.rate ∧ (handRun k s).loop.txn = s.loop.txn ∧ (handRun k s).loop.rx = s.loop.rx ∧
    (handRun k s).loop.jam = s.loop.jam ∧ (handRun k s).loop.lineBreak = s.loop.lineBreak ∧
    (handRun k s).loop.lowSince = s.loop.lowSince ∧ (handRun k s).loop.highSince = s.loop.highSince ∧
    (handRun k s).loop.sched = s.loop.sched ∧ (handRun k s).loop.nodeFail = s.loop.nodeFail ∧
    (handRun k s).loop.faults = s.loop.faults ∧ (handRun k s).loop.unsolicited = s.loop.unsolicited ∧
    (handRun k s).loop.droppedService = s.loop.droppedService ∧ (handRun k s).loop.claimPlace = s.loop.claimPlace ∧
    (handRun k s).loop.serviceQ = s.loop.serviceQ ∧ (handRun k s).loop.tx = s.loop.tx ∧
    (handRun k s).loop.grant = s.loop.grant ∧ (handRun k s).cht = s.cht ∧ (handRun k s).store = s.store ∧
    (handRun k s).upl = s.upl ∧ (handRun k s).ctl = s.ctl ∧ (handRun k s).lines = s.lines ∧
    (handRun k s).resetLine = s.resetLine ∧ (handRun k s).lastReset = s.lastReset ∧
    (handRun k s).pending = s.pending := by
  unfold handRun
  split <;> simp

@[simp] theorem handMove_frame (s : State) :
    (handMove s).clk = s.clk ∧ (handMove s).tbl = s.tbl ∧ (handMove s).stg = s.stg ∧ (handMove s).rat = s.rat ∧
    (handMove s).wrn = s.wrn ∧ (handMove s).pls = s.pls ∧ (handMove s).run.state = s.run.state ∧
    (handMove s).run.marker = s.run.marker ∧ (handMove s).run.held = s.run.held ∧
    (handMove s).run.position = s.run.position ∧ (handMove s).run.record = s.run.record ∧
    (handMove s).run.cursor = s.run.cursor ∧ (handMove s).run.vertical = s.run.vertical ∧
    (handMove s).run.grantKnown = s.run.grantKnown ∧ (handMove s).run.haltId = s.run.haltId ∧
    (handMove s).run.retrieveSent = s.run.retrieveSent ∧ (handMove s).run.verifyGrant = s.run.verifyGrant ∧
    (handMove s).run.traverseAt = s.run.traverseAt ∧
    (handMove s).run.traverseLapsed = s.run.traverseLapsed ∧
    (handMove s).run.cableAt = s.run.cableAt ∧
    (handMove s).run.cableLapsed = s.run.cableLapsed ∧
    (handMove s).run.settleAt = s.run.settleAt ∧ (handMove s).run.retrieveAt = s.run.retrieveAt ∧
    (handMove s).loop.rate = s.loop.rate ∧ (handMove s).loop.txn = s.loop.txn ∧ (handMove s).loop.rx = s.loop.rx ∧
    (handMove s).loop.jam = s.loop.jam ∧ (handMove s).loop.lineBreak = s.loop.lineBreak ∧
    (handMove s).loop.lowSince = s.loop.lowSince ∧ (handMove s).loop.highSince = s.loop.highSince ∧
    (handMove s).loop.sched = s.loop.sched ∧ (handMove s).loop.nodeFail = s.loop.nodeFail ∧
    (handMove s).loop.faults = s.loop.faults ∧ (handMove s).loop.unsolicited = s.loop.unsolicited ∧
    (handMove s).loop.droppedService = s.loop.droppedService ∧ (handMove s).loop.claimPlace = s.loop.claimPlace ∧
    (handMove s).loop.serviceQ = s.loop.serviceQ ∧ (handMove s).loop.tx = s.loop.tx ∧
    (handMove s).loop.grant = s.loop.grant ∧ (handMove s).cht = s.cht ∧ (handMove s).store = s.store ∧
    (handMove s).upl = s.upl ∧ (handMove s).ctl = s.ctl ∧ (handMove s).lines = s.lines ∧
    (handMove s).resetLine = s.resetLine ∧ (handMove s).lastReset = s.lastReset ∧ (handMove s).pending = s.pending := by
  unfold handMove
  split <;> simp

@[simp] theorem obtainMove_frame (s : State) :
    (obtainMove s).clk = s.clk ∧ (obtainMove s).tbl = s.tbl ∧ (obtainMove s).stg = s.stg ∧
    (obtainMove s).rat = s.rat ∧ (obtainMove s).wrn = s.wrn ∧ (obtainMove s).pls = s.pls ∧
    (obtainMove s).run.state = s.run.state ∧ (obtainMove s).run.marker = s.run.marker ∧
    (obtainMove s).run.held = s.run.held ∧ (obtainMove s).run.position = s.run.position ∧
    (obtainMove s).run.record = s.run.record ∧ (obtainMove s).run.cursor = s.run.cursor ∧
    (obtainMove s).run.vertical = s.run.vertical ∧ (obtainMove s).run.grantKnown = s.run.grantKnown ∧
    (obtainMove s).run.haltId = s.run.haltId ∧ (obtainMove s).run.retrieveSent = s.run.retrieveSent ∧
    (obtainMove s).run.verifyGrant = s.run.verifyGrant ∧ (obtainMove s).run.traverseAt = s.run.traverseAt ∧
    (obtainMove s).run.traverseLapsed = s.run.traverseLapsed ∧
    (obtainMove s).run.cableAt = s.run.cableAt ∧
    (obtainMove s).run.cableLapsed = s.run.cableLapsed ∧
    (obtainMove s).run.settleAt = s.run.settleAt ∧
    (obtainMove s).run.retrieveAt = s.run.retrieveAt ∧ (obtainMove s).loop.rate = s.loop.rate ∧
    (obtainMove s).loop.txn = s.loop.txn ∧ (obtainMove s).loop.rx = s.loop.rx ∧
    (obtainMove s).loop.jam = s.loop.jam ∧ (obtainMove s).loop.lineBreak = s.loop.lineBreak ∧
    (obtainMove s).loop.lowSince = s.loop.lowSince ∧ (obtainMove s).loop.highSince = s.loop.highSince ∧
    (obtainMove s).loop.sched = s.loop.sched ∧ (obtainMove s).loop.nodeFail = s.loop.nodeFail ∧
    (obtainMove s).loop.faults = s.loop.faults ∧ (obtainMove s).loop.unsolicited = s.loop.unsolicited ∧
    (obtainMove s).loop.droppedService = s.loop.droppedService ∧ (obtainMove s).loop.claimPlace = s.loop.claimPlace ∧
    (obtainMove s).loop.serviceQ = s.loop.serviceQ ∧ (obtainMove s).loop.tx = s.loop.tx ∧
    (obtainMove s).loop.grant = s.loop.grant ∧ (obtainMove s).cht = s.cht ∧ (obtainMove s).store = s.store ∧
    (obtainMove s).upl = s.upl ∧ (obtainMove s).ctl = s.ctl ∧ (obtainMove s).lines = s.lines ∧
    (obtainMove s).resetLine = s.resetLine ∧ (obtainMove s).lastReset = s.lastReset ∧
    (obtainMove s).pending = s.pending := by
  unfold obtainMove
  split <;> simp

@[simp] theorem enterTraverse_frame (entry x : Nat) (alternate : Bool) (s : State) :
    (enterTraverse entry x alternate s).clk = s.clk ∧ (enterTraverse entry x alternate s).tbl = s.tbl ∧
    (enterTraverse entry x alternate s).stg = s.stg ∧ (enterTraverse entry x alternate s).rat = s.rat ∧
    (enterTraverse entry x alternate s).wrn = s.wrn ∧ (enterTraverse entry x alternate s).pls = s.pls ∧
    (enterTraverse entry x alternate s).run.marker = s.run.marker ∧
    (enterTraverse entry x alternate s).run.held = s.run.held ∧
    (enterTraverse entry x alternate s).run.position = s.run.position ∧
    (enterTraverse entry x alternate s).run.record = s.run.record ∧
    (enterTraverse entry x alternate s).run.grantKnown = s.run.grantKnown ∧
    (enterTraverse entry x alternate s).run.retrieveSent = s.run.retrieveSent ∧
    (enterTraverse entry x alternate s).run.verifyGrant = s.run.verifyGrant ∧
    (enterTraverse entry x alternate s).run.retrieveAt = s.run.retrieveAt ∧
    (enterTraverse entry x alternate s).loop.rate = s.loop.rate ∧
    (enterTraverse entry x alternate s).loop.txn = s.loop.txn ∧
    (enterTraverse entry x alternate s).loop.rx = s.loop.rx ∧
    (enterTraverse entry x alternate s).loop.jam = s.loop.jam ∧
    (enterTraverse entry x alternate s).loop.lineBreak = s.loop.lineBreak ∧
    (enterTraverse entry x alternate s).loop.lowSince = s.loop.lowSince ∧
    (enterTraverse entry x alternate s).loop.highSince = s.loop.highSince ∧
    (enterTraverse entry x alternate s).loop.sched = s.loop.sched ∧
    (enterTraverse entry x alternate s).loop.nodeFail = s.loop.nodeFail ∧
    (enterTraverse entry x alternate s).loop.faults = s.loop.faults ∧
    (enterTraverse entry x alternate s).loop.unsolicited = s.loop.unsolicited ∧
    (enterTraverse entry x alternate s).loop.droppedService = s.loop.droppedService ∧
    (enterTraverse entry x alternate s).loop.claimPlace = s.loop.claimPlace ∧
    (enterTraverse entry x alternate s).loop.serviceQ = s.loop.serviceQ ∧
    (enterTraverse entry x alternate s).loop.tx = s.loop.tx ∧
    (enterTraverse entry x alternate s).loop.grant = s.loop.grant ∧ (enterTraverse entry x alternate s).cht = s.cht ∧
    (enterTraverse entry x alternate s).store = s.store ∧ (enterTraverse entry x alternate s).upl = s.upl ∧
    (enterTraverse entry x alternate s).ctl = s.ctl ∧ (enterTraverse entry x alternate s).lines = s.lines ∧
    (enterTraverse entry x alternate s).resetLine = s.resetLine ∧
    (enterTraverse entry x alternate s).lastReset = s.lastReset ∧
    (enterTraverse entry x alternate s).pending = s.pending := by
  simp [enterTraverse]

@[simp] theorem enterVerify_frame (s : State) :
    (enterVerify s).clk = s.clk ∧ (enterVerify s).tbl = s.tbl ∧ (enterVerify s).stg = s.stg ∧
    (enterVerify s).rat = s.rat ∧ (enterVerify s).wrn = s.wrn ∧ (enterVerify s).pls = s.pls ∧
    (enterVerify s).run.marker = s.run.marker ∧ (enterVerify s).run.held = s.run.held ∧
    (enterVerify s).run.position = s.run.position ∧ (enterVerify s).run.record = s.run.record ∧
    (enterVerify s).run.cursor = s.run.cursor ∧ (enterVerify s).run.vertical = s.run.vertical ∧
    (enterVerify s).run.grantKnown = s.run.grantKnown ∧ (enterVerify s).run.retrieveSent = s.run.retrieveSent ∧
    (enterVerify s).run.traverseAt = s.run.traverseAt ∧
    (enterVerify s).run.traverseLapsed = s.run.traverseLapsed ∧
    (enterVerify s).run.cableAt = s.run.cableAt ∧
    (enterVerify s).run.cableLapsed = s.run.cableLapsed ∧
    (enterVerify s).run.settleAt = s.run.settleAt ∧ (enterVerify s).run.retrieveAt = s.run.retrieveAt ∧
    (enterVerify s).loop.rate = s.loop.rate ∧ (enterVerify s).loop.txn = s.loop.txn ∧
    (enterVerify s).loop.rx = s.loop.rx ∧ (enterVerify s).loop.jam = s.loop.jam ∧
    (enterVerify s).loop.lineBreak = s.loop.lineBreak ∧ (enterVerify s).loop.lowSince = s.loop.lowSince ∧
    (enterVerify s).loop.highSince = s.loop.highSince ∧ (enterVerify s).loop.sched = s.loop.sched ∧
    (enterVerify s).loop.nodeFail = s.loop.nodeFail ∧ (enterVerify s).loop.faults = s.loop.faults ∧
    (enterVerify s).loop.unsolicited = s.loop.unsolicited ∧
    (enterVerify s).loop.droppedService = s.loop.droppedService ∧
    (enterVerify s).loop.claimPlace = s.loop.claimPlace ∧ (enterVerify s).loop.serviceQ = s.loop.serviceQ ∧
    (enterVerify s).loop.tx = s.loop.tx ∧ (enterVerify s).loop.grant = s.loop.grant ∧ (enterVerify s).cht = s.cht ∧
    (enterVerify s).store = s.store ∧ (enterVerify s).upl = s.upl ∧ (enterVerify s).ctl = s.ctl ∧
    (enterVerify s).lines = s.lines ∧ (enterVerify s).resetLine = s.resetLine ∧
    (enterVerify s).lastReset = s.lastReset ∧ (enterVerify s).pending = s.pending := by
  unfold enterVerify
  dsimp only
  split <;> simp

@[simp] theorem resumeTraverse_frame (s : State) :
    (resumeTraverse s).clk = s.clk ∧ (resumeTraverse s).tbl = s.tbl ∧ (resumeTraverse s).stg = s.stg ∧
    (resumeTraverse s).rat = s.rat ∧ (resumeTraverse s).wrn = s.wrn ∧ (resumeTraverse s).pls = s.pls ∧
    (resumeTraverse s).run.marker = s.run.marker ∧ (resumeTraverse s).run.held = s.run.held ∧
    (resumeTraverse s).run.position = s.run.position ∧ (resumeTraverse s).run.record = s.run.record ∧
    (resumeTraverse s).run.cursor = s.run.cursor ∧ (resumeTraverse s).run.vertical = s.run.vertical ∧
    (resumeTraverse s).run.grantKnown = s.run.grantKnown ∧ (resumeTraverse s).run.retrieveSent = s.run.retrieveSent ∧
    (resumeTraverse s).run.verifyGrant = s.run.verifyGrant ∧ (resumeTraverse s).run.traverseAt = s.run.traverseAt ∧
    (resumeTraverse s).run.traverseLapsed = s.run.traverseLapsed ∧
    (resumeTraverse s).run.cableAt = s.run.cableAt ∧
    (resumeTraverse s).run.cableLapsed = s.run.cableLapsed ∧
    (resumeTraverse s).run.settleAt = s.run.settleAt ∧
    (resumeTraverse s).run.retrieveAt = s.run.retrieveAt ∧ (resumeTraverse s).loop.rate = s.loop.rate ∧
    (resumeTraverse s).loop.txn = s.loop.txn ∧ (resumeTraverse s).loop.rx = s.loop.rx ∧
    (resumeTraverse s).loop.jam = s.loop.jam ∧ (resumeTraverse s).loop.lineBreak = s.loop.lineBreak ∧
    (resumeTraverse s).loop.lowSince = s.loop.lowSince ∧ (resumeTraverse s).loop.highSince = s.loop.highSince ∧
    (resumeTraverse s).loop.sched = s.loop.sched ∧ (resumeTraverse s).loop.nodeFail = s.loop.nodeFail ∧
    (resumeTraverse s).loop.faults = s.loop.faults ∧ (resumeTraverse s).loop.unsolicited = s.loop.unsolicited ∧
    (resumeTraverse s).loop.droppedService = s.loop.droppedService ∧
    (resumeTraverse s).loop.claimPlace = s.loop.claimPlace ∧ (resumeTraverse s).loop.serviceQ = s.loop.serviceQ ∧
    (resumeTraverse s).loop.tx = s.loop.tx ∧ (resumeTraverse s).loop.grant = s.loop.grant ∧
    (resumeTraverse s).cht = s.cht ∧ (resumeTraverse s).store = s.store ∧ (resumeTraverse s).upl = s.upl ∧
    (resumeTraverse s).ctl = s.ctl ∧ (resumeTraverse s).lines = s.lines ∧
    (resumeTraverse s).resetLine = s.resetLine ∧ (resumeTraverse s).lastReset = s.lastReset ∧
    (resumeTraverse s).pending = s.pending := by
  simp [resumeTraverse]

@[simp] theorem enterSurfaceSeek_frame (s : State) :
    (enterSurfaceSeek s).clk = s.clk ∧ (enterSurfaceSeek s).tbl = s.tbl ∧ (enterSurfaceSeek s).stg = s.stg ∧
    (enterSurfaceSeek s).rat = s.rat ∧ (enterSurfaceSeek s).wrn = s.wrn ∧
    (enterSurfaceSeek s).pls.rotorIn = s.pls.rotorIn ∧ (enterSurfaceSeek s).pls.surfaceIn = s.pls.surfaceIn ∧
    (enterSurfaceSeek s).pls.bottomIn = s.pls.bottomIn ∧ (enterSurfaceSeek s).pls.rotor = s.pls.rotor ∧
    (enterSurfaceSeek s).pls.bottom = s.pls.bottom ∧ (enterSurfaceSeek s).run.marker = s.run.marker ∧
    (enterSurfaceSeek s).run.held = s.run.held ∧ (enterSurfaceSeek s).run.position = s.run.position ∧
    (enterSurfaceSeek s).run.record = s.run.record ∧ (enterSurfaceSeek s).run.cursor = s.run.cursor ∧
    (enterSurfaceSeek s).run.vertical = s.run.vertical ∧ (enterSurfaceSeek s).run.grantKnown = s.run.grantKnown ∧
    (enterSurfaceSeek s).run.retrieveSent = s.run.retrieveSent ∧
    (enterSurfaceSeek s).run.verifyGrant = s.run.verifyGrant ∧ (enterSurfaceSeek s).run.settleAt = s.run.settleAt ∧
    (enterSurfaceSeek s).run.retrieveAt = s.run.retrieveAt ∧ (enterSurfaceSeek s).loop.rate = s.loop.rate ∧
    (enterSurfaceSeek s).loop.txn = s.loop.txn ∧ (enterSurfaceSeek s).loop.rx = s.loop.rx ∧
    (enterSurfaceSeek s).loop.jam = s.loop.jam ∧ (enterSurfaceSeek s).loop.lineBreak = s.loop.lineBreak ∧
    (enterSurfaceSeek s).loop.lowSince = s.loop.lowSince ∧ (enterSurfaceSeek s).loop.highSince = s.loop.highSince ∧
    (enterSurfaceSeek s).loop.sched = s.loop.sched ∧ (enterSurfaceSeek s).loop.nodeFail = s.loop.nodeFail ∧
    (enterSurfaceSeek s).loop.faults = s.loop.faults ∧ (enterSurfaceSeek s).loop.unsolicited = s.loop.unsolicited ∧
    (enterSurfaceSeek s).loop.droppedService = s.loop.droppedService ∧
    (enterSurfaceSeek s).loop.claimPlace = s.loop.claimPlace ∧ (enterSurfaceSeek s).loop.serviceQ = s.loop.serviceQ ∧
    (enterSurfaceSeek s).loop.tx = s.loop.tx ∧ (enterSurfaceSeek s).loop.grant = s.loop.grant ∧
    (enterSurfaceSeek s).cht = s.cht ∧ (enterSurfaceSeek s).store = s.store ∧ (enterSurfaceSeek s).upl = s.upl ∧
    (enterSurfaceSeek s).ctl = s.ctl ∧ (enterSurfaceSeek s).lines = s.lines ∧
    (enterSurfaceSeek s).resetLine = s.resetLine ∧ (enterSurfaceSeek s).lastReset = s.lastReset ∧
    (enterSurfaceSeek s).pending = s.pending := by
  simp [enterSurfaceSeek]

@[simp] theorem enterSound_frame (v : Vertical) (surface : Int) (s : State) :
    (enterSound v surface s).clk = s.clk ∧ (enterSound v surface s).tbl = s.tbl ∧
    (enterSound v surface s).stg = s.stg ∧ (enterSound v surface s).rat = s.rat ∧
    (enterSound v surface s).wrn = s.wrn ∧ (enterSound v surface s).pls.rotorIn = s.pls.rotorIn ∧
    (enterSound v surface s).pls.surfaceIn = s.pls.surfaceIn ∧
    (enterSound v surface s).pls.bottomIn = s.pls.bottomIn ∧ (enterSound v surface s).pls.rotor = s.pls.rotor ∧
    (enterSound v surface s).pls.surface = s.pls.surface ∧ (enterSound v surface s).run.marker = s.run.marker ∧
    (enterSound v surface s).run.held = s.run.held ∧ (enterSound v surface s).run.position = s.run.position ∧
    (enterSound v surface s).run.record = s.run.record ∧ (enterSound v surface s).run.cursor = s.run.cursor ∧
    (enterSound v surface s).run.grantKnown = s.run.grantKnown ∧ (enterSound v surface s).run.nextId = s.run.nextId ∧
    (enterSound v surface s).run.lastCmd = s.run.lastCmd ∧ (enterSound v surface s).run.moveId = s.run.moveId ∧
    (enterSound v surface s).run.moveSent = s.run.moveSent ∧ (enterSound v surface s).run.haltId = s.run.haltId ∧
    (enterSound v surface s).run.retrieveSent = s.run.retrieveSent ∧
    (enterSound v surface s).run.verifyGrant = s.run.verifyGrant ∧
    (enterSound v surface s).run.traverseAt = s.run.traverseAt ∧
    (enterSound v surface s).run.traverseLapsed = s.run.traverseLapsed ∧
    (enterSound v surface s).run.settleAt = s.run.settleAt ∧
    (enterSound v surface s).run.retrieveAt = s.run.retrieveAt ∧
    (enterSound v surface s).run.enquiryAt = s.run.enquiryAt ∧ (enterSound v surface s).loop = s.loop ∧
    (enterSound v surface s).cht = s.cht ∧ (enterSound v surface s).store = s.store ∧
    (enterSound v surface s).upl = s.upl ∧ (enterSound v surface s).ctl = s.ctl ∧
    (enterSound v surface s).lines = s.lines ∧ (enterSound v surface s).resetLine = s.resetLine ∧
    (enterSound v surface s).lastReset = s.lastReset ∧ (enterSound v surface s).pending = s.pending := by
  simp [enterSound]

@[simp] theorem enterFirstPoint_frame (v : Vertical) (bottom : Int) (s : State) :
    (enterFirstPoint v bottom s).clk = s.clk ∧ (enterFirstPoint v bottom s).tbl = s.tbl ∧
    (enterFirstPoint v bottom s).stg = s.stg ∧ (enterFirstPoint v bottom s).rat = s.rat ∧
    (enterFirstPoint v bottom s).wrn = s.wrn ∧ (enterFirstPoint v bottom s).pls.rotorIn = s.pls.rotorIn ∧
    (enterFirstPoint v bottom s).pls.surfaceIn = s.pls.surfaceIn ∧
    (enterFirstPoint v bottom s).pls.bottomIn = s.pls.bottomIn ∧
    (enterFirstPoint v bottom s).pls.rotor = s.pls.rotor ∧ (enterFirstPoint v bottom s).run.marker = s.run.marker ∧
    (enterFirstPoint v bottom s).run.held = s.run.held ∧ (enterFirstPoint v bottom s).run.position = s.run.position ∧
    (enterFirstPoint v bottom s).run.record = s.run.record ∧ (enterFirstPoint v bottom s).run.cursor = s.run.cursor ∧
    (enterFirstPoint v bottom s).run.grantKnown = s.run.grantKnown ∧
    (enterFirstPoint v bottom s).run.retrieveSent = s.run.retrieveSent ∧
    (enterFirstPoint v bottom s).run.verifyGrant = s.run.verifyGrant ∧
    (enterFirstPoint v bottom s).run.traverseAt = s.run.traverseAt ∧
    (enterFirstPoint v bottom s).run.traverseLapsed = s.run.traverseLapsed ∧
    (enterFirstPoint v bottom s).run.settleAt = s.run.settleAt ∧
    (enterFirstPoint v bottom s).run.retrieveAt = s.run.retrieveAt ∧
    (enterFirstPoint v bottom s).loop.rate = s.loop.rate ∧ (enterFirstPoint v bottom s).loop.txn = s.loop.txn ∧
    (enterFirstPoint v bottom s).loop.rx = s.loop.rx ∧ (enterFirstPoint v bottom s).loop.jam = s.loop.jam ∧
    (enterFirstPoint v bottom s).loop.lineBreak = s.loop.lineBreak ∧
    (enterFirstPoint v bottom s).loop.lowSince = s.loop.lowSince ∧
    (enterFirstPoint v bottom s).loop.highSince = s.loop.highSince ∧
    (enterFirstPoint v bottom s).loop.sched = s.loop.sched ∧
    (enterFirstPoint v bottom s).loop.nodeFail = s.loop.nodeFail ∧
    (enterFirstPoint v bottom s).loop.faults = s.loop.faults ∧
    (enterFirstPoint v bottom s).loop.unsolicited = s.loop.unsolicited ∧
    (enterFirstPoint v bottom s).loop.droppedService = s.loop.droppedService ∧
    (enterFirstPoint v bottom s).loop.claimPlace = s.loop.claimPlace ∧
    (enterFirstPoint v bottom s).loop.serviceQ = s.loop.serviceQ ∧ (enterFirstPoint v bottom s).loop.tx = s.loop.tx ∧
    (enterFirstPoint v bottom s).loop.grant = s.loop.grant ∧ (enterFirstPoint v bottom s).cht = s.cht ∧
    (enterFirstPoint v bottom s).store = s.store ∧ (enterFirstPoint v bottom s).upl = s.upl ∧
    (enterFirstPoint v bottom s).ctl = s.ctl ∧ (enterFirstPoint v bottom s).lines = s.lines ∧
    (enterFirstPoint v bottom s).resetLine = s.resetLine ∧ (enterFirstPoint v bottom s).lastReset = s.lastReset ∧
    (enterFirstPoint v bottom s).pending = s.pending := by
  simp [enterFirstPoint]

@[simp] theorem enterNextPoint_frame (s : State) :
    (enterNextPoint s).clk = s.clk ∧ (enterNextPoint s).tbl = s.tbl ∧ (enterNextPoint s).stg = s.stg ∧
    (enterNextPoint s).rat = s.rat ∧ (enterNextPoint s).wrn = s.wrn ∧ (enterNextPoint s).pls = s.pls ∧
    (enterNextPoint s).run.marker = s.run.marker ∧ (enterNextPoint s).run.held = s.run.held ∧
    (enterNextPoint s).run.position = s.run.position ∧ (enterNextPoint s).run.record = s.run.record ∧
    (enterNextPoint s).run.cursor = s.run.cursor ∧ (enterNextPoint s).run.vertical = s.run.vertical ∧
    (enterNextPoint s).run.grantKnown = s.run.grantKnown ∧ (enterNextPoint s).run.retrieveSent = s.run.retrieveSent ∧
    (enterNextPoint s).run.verifyGrant = s.run.verifyGrant ∧ (enterNextPoint s).run.traverseAt = s.run.traverseAt ∧
    (enterNextPoint s).run.traverseLapsed = s.run.traverseLapsed ∧
    (enterNextPoint s).run.settleAt = s.run.settleAt ∧ (enterNextPoint s).run.retrieveAt = s.run.retrieveAt ∧
    (enterNextPoint s).loop.rate = s.loop.rate ∧ (enterNextPoint s).loop.txn = s.loop.txn ∧
    (enterNextPoint s).loop.rx = s.loop.rx ∧ (enterNextPoint s).loop.jam = s.loop.jam ∧
    (enterNextPoint s).loop.lineBreak = s.loop.lineBreak ∧ (enterNextPoint s).loop.lowSince = s.loop.lowSince ∧
    (enterNextPoint s).loop.highSince = s.loop.highSince ∧ (enterNextPoint s).loop.sched = s.loop.sched ∧
    (enterNextPoint s).loop.nodeFail = s.loop.nodeFail ∧ (enterNextPoint s).loop.faults = s.loop.faults ∧
    (enterNextPoint s).loop.unsolicited = s.loop.unsolicited ∧
    (enterNextPoint s).loop.droppedService = s.loop.droppedService ∧
    (enterNextPoint s).loop.claimPlace = s.loop.claimPlace ∧ (enterNextPoint s).loop.serviceQ = s.loop.serviceQ ∧
    (enterNextPoint s).loop.tx = s.loop.tx ∧ (enterNextPoint s).loop.grant = s.loop.grant ∧
    (enterNextPoint s).cht = s.cht ∧ (enterNextPoint s).store = s.store ∧ (enterNextPoint s).upl = s.upl ∧
    (enterNextPoint s).ctl = s.ctl ∧ (enterNextPoint s).lines = s.lines ∧
    (enterNextPoint s).resetLine = s.resetLine ∧ (enterNextPoint s).lastReset = s.lastReset ∧
    (enterNextPoint s).pending = s.pending := by
  simp [enterNextPoint]

@[simp] theorem enterExpose_frame (s : State) :
    (enterExpose s).clk = s.clk ∧ (enterExpose s).tbl = s.tbl ∧ (enterExpose s).stg = s.stg ∧
    (enterExpose s).rat = s.rat ∧ (enterExpose s).wrn = s.wrn ∧ (enterExpose s).pls.rotorIn = s.pls.rotorIn ∧
    (enterExpose s).pls.surfaceIn = s.pls.surfaceIn ∧ (enterExpose s).pls.bottomIn = s.pls.bottomIn ∧
    (enterExpose s).pls.surface = s.pls.surface ∧ (enterExpose s).pls.bottom = s.pls.bottom ∧
    (enterExpose s).run.marker = s.run.marker ∧ (enterExpose s).run.held = s.run.held ∧
    (enterExpose s).run.position = s.run.position ∧ (enterExpose s).run.record = s.run.record ∧
    (enterExpose s).run.cursor = s.run.cursor ∧ (enterExpose s).run.vertical = s.run.vertical ∧
    (enterExpose s).run.grantKnown = s.run.grantKnown ∧ (enterExpose s).run.nextId = s.run.nextId ∧
    (enterExpose s).run.lastCmd = s.run.lastCmd ∧ (enterExpose s).run.retrieveSent = s.run.retrieveSent ∧
    (enterExpose s).run.verifyGrant = s.run.verifyGrant ∧ (enterExpose s).run.traverseAt = s.run.traverseAt ∧
    (enterExpose s).run.traverseLapsed = s.run.traverseLapsed ∧
    (enterExpose s).run.retrieveAt = s.run.retrieveAt ∧ (enterExpose s).run.enquiryAt = s.run.enquiryAt ∧
    (enterExpose s).loop = s.loop ∧ (enterExpose s).cht = s.cht ∧ (enterExpose s).store = s.store ∧
    (enterExpose s).upl = s.upl ∧ (enterExpose s).ctl = s.ctl ∧ (enterExpose s).lines = s.lines ∧
    (enterExpose s).resetLine = s.resetLine ∧ (enterExpose s).lastReset = s.lastReset ∧
    (enterExpose s).pending = s.pending := by
  simp [enterExpose]

@[simp] theorem enterSettle_frame (s : State) :
    (enterSettle s).clk = s.clk ∧ (enterSettle s).tbl = s.tbl ∧ (enterSettle s).stg = s.stg ∧
    (enterSettle s).rat = s.rat ∧ (enterSettle s).wrn = s.wrn ∧ (enterSettle s).pls.rotorIn = s.pls.rotorIn ∧
    (enterSettle s).pls.surfaceIn = s.pls.surfaceIn ∧ (enterSettle s).pls.bottomIn = s.pls.bottomIn ∧
    (enterSettle s).pls.surface = s.pls.surface ∧ (enterSettle s).pls.bottom = s.pls.bottom ∧
    (enterSettle s).run.marker = s.run.marker ∧ (enterSettle s).run.held = s.run.held ∧
    (enterSettle s).run.position = s.run.position ∧ (enterSettle s).run.record = s.run.record ∧
    (enterSettle s).run.cursor = s.run.cursor ∧ (enterSettle s).run.vertical = s.run.vertical ∧
    (enterSettle s).run.grantKnown = s.run.grantKnown ∧ (enterSettle s).run.nextId = s.run.nextId ∧
    (enterSettle s).run.lastCmd = s.run.lastCmd ∧ (enterSettle s).run.retrieveSent = s.run.retrieveSent ∧
    (enterSettle s).run.verifyGrant = s.run.verifyGrant ∧ (enterSettle s).run.traverseAt = s.run.traverseAt ∧
    (enterSettle s).run.traverseLapsed = s.run.traverseLapsed ∧
    (enterSettle s).run.retrieveAt = s.run.retrieveAt ∧ (enterSettle s).run.enquiryAt = s.run.enquiryAt ∧
    (enterSettle s).loop = s.loop ∧ (enterSettle s).cht = s.cht ∧ (enterSettle s).store = s.store ∧
    (enterSettle s).upl = s.upl ∧ (enterSettle s).ctl = s.ctl ∧ (enterSettle s).lines = s.lines ∧
    (enterSettle s).resetLine = s.resetLine ∧ (enterSettle s).lastReset = s.lastReset ∧
    (enterSettle s).pending = s.pending := by
  unfold enterSettle
  split <;> simp

@[simp] theorem enterLift_frame (s : State) :
    (enterLift s).clk = s.clk ∧ (enterLift s).tbl = s.tbl ∧ (enterLift s).stg = s.stg ∧ (enterLift s).rat = s.rat ∧
    (enterLift s).wrn = s.wrn ∧ (enterLift s).pls = s.pls ∧ (enterLift s).run.marker = s.run.marker ∧
    (enterLift s).run.held = s.run.held ∧ (enterLift s).run.position = s.run.position ∧
    (enterLift s).run.record = s.run.record ∧ (enterLift s).run.cursor = s.run.cursor ∧
    (enterLift s).run.vertical = s.run.vertical ∧ (enterLift s).run.grantKnown = s.run.grantKnown ∧
    (enterLift s).run.retrieveSent = s.run.retrieveSent ∧ (enterLift s).run.verifyGrant = s.run.verifyGrant ∧
    (enterLift s).run.traverseAt = s.run.traverseAt ∧
    (enterLift s).run.traverseLapsed = s.run.traverseLapsed ∧
    (enterLift s).run.settleAt = s.run.settleAt ∧
    (enterLift s).run.retrieveAt = s.run.retrieveAt ∧ (enterLift s).loop.rate = s.loop.rate ∧
    (enterLift s).loop.txn = s.loop.txn ∧ (enterLift s).loop.rx = s.loop.rx ∧ (enterLift s).loop.jam = s.loop.jam ∧
    (enterLift s).loop.lineBreak = s.loop.lineBreak ∧ (enterLift s).loop.lowSince = s.loop.lowSince ∧
    (enterLift s).loop.highSince = s.loop.highSince ∧ (enterLift s).loop.sched = s.loop.sched ∧
    (enterLift s).loop.nodeFail = s.loop.nodeFail ∧ (enterLift s).loop.faults = s.loop.faults ∧
    (enterLift s).loop.unsolicited = s.loop.unsolicited ∧ (enterLift s).loop.droppedService = s.loop.droppedService ∧
    (enterLift s).loop.claimPlace = s.loop.claimPlace ∧ (enterLift s).loop.serviceQ = s.loop.serviceQ ∧
    (enterLift s).loop.tx = s.loop.tx ∧ (enterLift s).loop.grant = s.loop.grant ∧ (enterLift s).cht = s.cht ∧
    (enterLift s).store = s.store ∧ (enterLift s).upl = s.upl ∧ (enterLift s).ctl = s.ctl ∧
    (enterLift s).lines = s.lines ∧ (enterLift s).resetLine = s.resetLine ∧ (enterLift s).lastReset = s.lastReset ∧
    (enterLift s).pending = s.pending := by
  simp [enterLift]

@[simp] theorem enterRetrieve_frame (s : State) :
    (enterRetrieve s).clk = s.clk ∧ (enterRetrieve s).tbl = s.tbl ∧ (enterRetrieve s).stg = s.stg ∧
    (enterRetrieve s).rat = s.rat ∧ (enterRetrieve s).wrn = s.wrn ∧ (enterRetrieve s).pls.rotorIn = s.pls.rotorIn ∧
    (enterRetrieve s).pls.surfaceIn = s.pls.surfaceIn ∧ (enterRetrieve s).pls.bottomIn = s.pls.bottomIn ∧
    (enterRetrieve s).run.marker = s.run.marker ∧ (enterRetrieve s).run.held = s.run.held ∧
    (enterRetrieve s).run.position = s.run.position ∧ (enterRetrieve s).run.record = s.run.record ∧
    (enterRetrieve s).run.grantKnown = s.run.grantKnown ∧ (enterRetrieve s).loop.rate = s.loop.rate ∧
    (enterRetrieve s).loop.txn = s.loop.txn ∧ (enterRetrieve s).loop.rx = s.loop.rx ∧
    (enterRetrieve s).loop.jam = s.loop.jam ∧ (enterRetrieve s).loop.lineBreak = s.loop.lineBreak ∧
    (enterRetrieve s).loop.lowSince = s.loop.lowSince ∧ (enterRetrieve s).loop.highSince = s.loop.highSince ∧
    (enterRetrieve s).loop.sched = s.loop.sched ∧ (enterRetrieve s).loop.nodeFail = s.loop.nodeFail ∧
    (enterRetrieve s).loop.faults = s.loop.faults ∧ (enterRetrieve s).loop.unsolicited = s.loop.unsolicited ∧
    (enterRetrieve s).loop.droppedService = s.loop.droppedService ∧
    (enterRetrieve s).loop.claimPlace = s.loop.claimPlace ∧ (enterRetrieve s).loop.serviceQ = s.loop.serviceQ ∧
    (enterRetrieve s).loop.tx = s.loop.tx ∧ (enterRetrieve s).loop.grant = s.loop.grant ∧
    (enterRetrieve s).cht = s.cht ∧ (enterRetrieve s).store = s.store ∧ (enterRetrieve s).upl = s.upl ∧
    (enterRetrieve s).ctl = s.ctl ∧ (enterRetrieve s).lines = s.lines ∧ (enterRetrieve s).resetLine = s.resetLine ∧
    (enterRetrieve s).lastReset = s.lastReset ∧ (enterRetrieve s).pending = s.pending := by
  simp [enterRetrieve]

@[simp] theorem finishRun_frame (r : RunRec) (outcome : RunOutcome) (s : State) :
    (finishRun r outcome s).clk = s.clk ∧ (finishRun r outcome s).tbl = s.tbl ∧ (finishRun r outcome s).stg = s.stg ∧
    (finishRun r outcome s).rat.live = s.rat.live ∧ (finishRun r outcome s).rat.latest = s.rat.latest ∧
    (finishRun r outcome s).wrn = s.wrn ∧ (finishRun r outcome s).pls = s.pls ∧
    (finishRun r outcome s).run.position = s.run.position ∧
    (finishRun r outcome s).run.grantKnown = s.run.grantKnown ∧ (finishRun r outcome s).run.nextId = s.run.nextId ∧
    (finishRun r outcome s).loop = s.loop ∧ (finishRun r outcome s).cht = s.cht ∧
    (finishRun r outcome s).upl.rate = s.upl.rate ∧ (finishRun r outcome s).upl.slot = s.upl.slot ∧
    (finishRun r outcome s).upl.fwdQ = s.upl.fwdQ ∧ (finishRun r outcome s).upl.nextFwd = s.upl.nextFwd ∧
    (finishRun r outcome s).upl.assembling = s.upl.assembling ∧ (finishRun r outcome s).upl.framing = s.upl.framing ∧
    (finishRun r outcome s).upl.gap = s.upl.gap ∧ (finishRun r outcome s).upl.length = s.upl.length ∧
    (finishRun r outcome s).upl.crc = s.upl.crc ∧ (finishRun r outcome s).upl.linkLost = s.upl.linkLost ∧
    (finishRun r outcome s).upl.foreign = s.upl.foreign ∧
    (finishRun r outcome s).upl.kindDiscards = s.upl.kindDiscards ∧
    (finishRun r outcome s).upl.huntDiscards = s.upl.huntDiscards ∧
    (finishRun r outcome s).upl.lastChar = s.upl.lastChar ∧ (finishRun r outcome s).upl.tail = s.upl.tail ∧
    (finishRun r outcome s).upl.ready = s.upl.ready ∧
    (finishRun r outcome s).ctl = s.ctl ∧ (finishRun r outcome s).lines = s.lines ∧
    (finishRun r outcome s).resetLine = s.resetLine ∧ (finishRun r outcome s).lastReset = s.lastReset ∧
    (finishRun r outcome s).pending = s.pending := by
  unfold finishRun
  dsimp only
  split <;> simp

@[simp] theorem endClose_frame (r : RunRec) (c : Calc) (s : State) :
    (endClose r c s).clk = s.clk ∧ (endClose r c s).tbl = s.tbl ∧ (endClose r c s).stg = s.stg ∧
    (endClose r c s).rat.live = s.rat.live ∧ (endClose r c s).rat.latest = s.rat.latest ∧
    (endClose r c s).wrn = s.wrn ∧ (endClose r c s).pls.rotorIn = s.pls.rotorIn ∧
    (endClose r c s).pls.surfaceIn = s.pls.surfaceIn ∧ (endClose r c s).pls.bottomIn = s.pls.bottomIn ∧
    (endClose r c s).run.position = s.run.position ∧ (endClose r c s).run.grantKnown = s.run.grantKnown ∧
    (endClose r c s).loop.rate = s.loop.rate ∧ (endClose r c s).loop.txn = s.loop.txn ∧
    (endClose r c s).loop.rx = s.loop.rx ∧ (endClose r c s).loop.jam = s.loop.jam ∧
    (endClose r c s).loop.lineBreak = s.loop.lineBreak ∧ (endClose r c s).loop.lowSince = s.loop.lowSince ∧
    (endClose r c s).loop.highSince = s.loop.highSince ∧ (endClose r c s).loop.sched = s.loop.sched ∧
    (endClose r c s).loop.nodeFail = s.loop.nodeFail ∧ (endClose r c s).loop.faults = s.loop.faults ∧
    (endClose r c s).loop.unsolicited = s.loop.unsolicited ∧
    (endClose r c s).loop.droppedService = s.loop.droppedService ∧
    (endClose r c s).loop.claimPlace = s.loop.claimPlace ∧ (endClose r c s).loop.serviceQ = s.loop.serviceQ ∧
    (endClose r c s).loop.tx = s.loop.tx ∧ (endClose r c s).loop.grant = s.loop.grant ∧
    (endClose r c s).cht = s.cht ∧ (endClose r c s).upl.rate = s.upl.rate ∧ (endClose r c s).upl.slot = s.upl.slot ∧
    (endClose r c s).upl.fwdQ = s.upl.fwdQ ∧ (endClose r c s).upl.nextFwd = s.upl.nextFwd ∧
    (endClose r c s).upl.assembling = s.upl.assembling ∧ (endClose r c s).upl.framing = s.upl.framing ∧
    (endClose r c s).upl.gap = s.upl.gap ∧ (endClose r c s).upl.length = s.upl.length ∧
    (endClose r c s).upl.crc = s.upl.crc ∧ (endClose r c s).upl.linkLost = s.upl.linkLost ∧
    (endClose r c s).upl.foreign = s.upl.foreign ∧ (endClose r c s).upl.kindDiscards = s.upl.kindDiscards ∧
    (endClose r c s).upl.huntDiscards = s.upl.huntDiscards ∧
    (endClose r c s).upl.lastChar = s.upl.lastChar ∧ (endClose r c s).upl.tail = s.upl.tail ∧
    (endClose r c s).upl.ready = s.upl.ready ∧
    (endClose r c s).ctl = s.ctl ∧ (endClose r c s).lines = s.lines ∧ (endClose r c s).resetLine = s.resetLine ∧
    (endClose r c s).lastReset = s.lastReset ∧ (endClose r c s).pending = s.pending := by
  unfold endClose
  split <;> simp

@[simp] theorem enterClose_frame (r : RunRec) (s : State) :
    (enterClose r s).clk = s.clk ∧ (enterClose r s).tbl = s.tbl ∧ (enterClose r s).stg = s.stg ∧
    (enterClose r s).rat.live = s.rat.live ∧ (enterClose r s).rat.latest = s.rat.latest ∧
    (enterClose r s).wrn = s.wrn ∧ (enterClose r s).pls.rotorIn = s.pls.rotorIn ∧
    (enterClose r s).pls.surfaceIn = s.pls.surfaceIn ∧ (enterClose r s).pls.bottomIn = s.pls.bottomIn ∧
    (enterClose r s).run.position = s.run.position ∧ (enterClose r s).run.grantKnown = s.run.grantKnown ∧
    (enterClose r s).loop.rate = s.loop.rate ∧ (enterClose r s).loop.txn = s.loop.txn ∧
    (enterClose r s).loop.rx = s.loop.rx ∧ (enterClose r s).loop.jam = s.loop.jam ∧
    (enterClose r s).loop.lineBreak = s.loop.lineBreak ∧ (enterClose r s).loop.lowSince = s.loop.lowSince ∧
    (enterClose r s).loop.highSince = s.loop.highSince ∧ (enterClose r s).loop.sched = s.loop.sched ∧
    (enterClose r s).loop.nodeFail = s.loop.nodeFail ∧ (enterClose r s).loop.faults = s.loop.faults ∧
    (enterClose r s).loop.unsolicited = s.loop.unsolicited ∧
    (enterClose r s).loop.droppedService = s.loop.droppedService ∧
    (enterClose r s).loop.claimPlace = s.loop.claimPlace ∧ (enterClose r s).loop.serviceQ = s.loop.serviceQ ∧
    (enterClose r s).loop.tx = s.loop.tx ∧ (enterClose r s).loop.grant = s.loop.grant ∧
    (enterClose r s).cht = s.cht ∧ (enterClose r s).upl.rate = s.upl.rate ∧ (enterClose r s).upl.slot = s.upl.slot ∧
    (enterClose r s).upl.fwdQ = s.upl.fwdQ ∧ (enterClose r s).upl.nextFwd = s.upl.nextFwd ∧
    (enterClose r s).upl.assembling = s.upl.assembling ∧ (enterClose r s).upl.framing = s.upl.framing ∧
    (enterClose r s).upl.gap = s.upl.gap ∧ (enterClose r s).upl.length = s.upl.length ∧
    (enterClose r s).upl.crc = s.upl.crc ∧ (enterClose r s).upl.linkLost = s.upl.linkLost ∧
    (enterClose r s).upl.foreign = s.upl.foreign ∧ (enterClose r s).upl.kindDiscards = s.upl.kindDiscards ∧
    (enterClose r s).upl.huntDiscards = s.upl.huntDiscards ∧
    (enterClose r s).upl.lastChar = s.upl.lastChar ∧ (enterClose r s).upl.tail = s.upl.tail ∧
    (enterClose r s).upl.ready = s.upl.ready ∧
    (enterClose r s).ctl = s.ctl ∧ (enterClose r s).lines = s.lines ∧ (enterClose r s).resetLine = s.resetLine ∧
    (enterClose r s).lastReset = s.lastReset ∧ (enterClose r s).pending = s.pending := by
  unfold enterClose
  dsimp only
  split <;> simp

@[simp] theorem endMarkedRetrieval_frame (m : Marker) (r : RunRec) (home : Bool) (s : State) :
    (endMarkedRetrieval m r home s).clk = s.clk ∧ (endMarkedRetrieval m r home s).tbl = s.tbl ∧
    (endMarkedRetrieval m r home s).stg = s.stg ∧ (endMarkedRetrieval m r home s).rat.live = s.rat.live ∧
    (endMarkedRetrieval m r home s).rat.latest = s.rat.latest ∧ (endMarkedRetrieval m r home s).wrn = s.wrn ∧
    (endMarkedRetrieval m r home s).pls = s.pls ∧ (endMarkedRetrieval m r home s).run.position = s.run.position ∧
    (endMarkedRetrieval m r home s).run.grantKnown = s.run.grantKnown ∧
    (endMarkedRetrieval m r home s).run.nextId = s.run.nextId ∧ (endMarkedRetrieval m r home s).loop = s.loop ∧
    (endMarkedRetrieval m r home s).cht = s.cht ∧ (endMarkedRetrieval m r home s).upl.rate = s.upl.rate ∧
    (endMarkedRetrieval m r home s).upl.slot = s.upl.slot ∧ (endMarkedRetrieval m r home s).upl.fwdQ = s.upl.fwdQ ∧
    (endMarkedRetrieval m r home s).upl.nextFwd = s.upl.nextFwd ∧
    (endMarkedRetrieval m r home s).upl.assembling = s.upl.assembling ∧
    (endMarkedRetrieval m r home s).upl.framing = s.upl.framing ∧
    (endMarkedRetrieval m r home s).upl.gap = s.upl.gap ∧ (endMarkedRetrieval m r home s).upl.length = s.upl.length ∧
    (endMarkedRetrieval m r home s).upl.crc = s.upl.crc ∧
    (endMarkedRetrieval m r home s).upl.linkLost = s.upl.linkLost ∧
    (endMarkedRetrieval m r home s).upl.foreign = s.upl.foreign ∧
    (endMarkedRetrieval m r home s).upl.kindDiscards = s.upl.kindDiscards ∧
    (endMarkedRetrieval m r home s).upl.huntDiscards = s.upl.huntDiscards ∧
    (endMarkedRetrieval m r home s).upl.lastChar = s.upl.lastChar ∧
    (endMarkedRetrieval m r home s).upl.tail = s.upl.tail ∧
    (endMarkedRetrieval m r home s).upl.ready = s.upl.ready ∧ (endMarkedRetrieval m r home s).ctl = s.ctl ∧
    (endMarkedRetrieval m r home s).lines = s.lines ∧ (endMarkedRetrieval m r home s).resetLine = s.resetLine ∧
    (endMarkedRetrieval m r home s).lastReset = s.lastReset ∧ (endMarkedRetrieval m r home s).pending = s.pending := by
  unfold endMarkedRetrieval
  split <;> simp

@[simp] theorem endRetrieval_frame (home : Bool) (s : State) :
    (endRetrieval home s).clk = s.clk ∧ (endRetrieval home s).tbl = s.tbl ∧ (endRetrieval home s).stg = s.stg ∧
    (endRetrieval home s).rat.live = s.rat.live ∧ (endRetrieval home s).rat.latest = s.rat.latest ∧
    (endRetrieval home s).wrn = s.wrn ∧ (endRetrieval home s).pls.rotorIn = s.pls.rotorIn ∧
    (endRetrieval home s).pls.surfaceIn = s.pls.surfaceIn ∧ (endRetrieval home s).pls.bottomIn = s.pls.bottomIn ∧
    (endRetrieval home s).run.position = s.run.position ∧ (endRetrieval home s).run.grantKnown = s.run.grantKnown ∧
    (endRetrieval home s).loop.rate = s.loop.rate ∧ (endRetrieval home s).loop.txn = s.loop.txn ∧
    (endRetrieval home s).loop.rx = s.loop.rx ∧ (endRetrieval home s).loop.jam = s.loop.jam ∧
    (endRetrieval home s).loop.lineBreak = s.loop.lineBreak ∧ (endRetrieval home s).loop.lowSince = s.loop.lowSince ∧
    (endRetrieval home s).loop.highSince = s.loop.highSince ∧ (endRetrieval home s).loop.sched = s.loop.sched ∧
    (endRetrieval home s).loop.nodeFail = s.loop.nodeFail ∧ (endRetrieval home s).loop.faults = s.loop.faults ∧
    (endRetrieval home s).loop.unsolicited = s.loop.unsolicited ∧
    (endRetrieval home s).loop.droppedService = s.loop.droppedService ∧
    (endRetrieval home s).loop.claimPlace = s.loop.claimPlace ∧
    (endRetrieval home s).loop.serviceQ = s.loop.serviceQ ∧ (endRetrieval home s).loop.tx = s.loop.tx ∧
    (endRetrieval home s).loop.grant = s.loop.grant ∧ (endRetrieval home s).cht = s.cht ∧
    (endRetrieval home s).upl.rate = s.upl.rate ∧ (endRetrieval home s).upl.slot = s.upl.slot ∧
    (endRetrieval home s).upl.fwdQ = s.upl.fwdQ ∧ (endRetrieval home s).upl.nextFwd = s.upl.nextFwd ∧
    (endRetrieval home s).upl.assembling = s.upl.assembling ∧ (endRetrieval home s).upl.framing = s.upl.framing ∧
    (endRetrieval home s).upl.gap = s.upl.gap ∧ (endRetrieval home s).upl.length = s.upl.length ∧
    (endRetrieval home s).upl.crc = s.upl.crc ∧ (endRetrieval home s).upl.linkLost = s.upl.linkLost ∧
    (endRetrieval home s).upl.foreign = s.upl.foreign ∧ (endRetrieval home s).upl.kindDiscards = s.upl.kindDiscards ∧
    (endRetrieval home s).upl.huntDiscards = s.upl.huntDiscards ∧
    (endRetrieval home s).upl.lastChar = s.upl.lastChar ∧ (endRetrieval home s).upl.tail = s.upl.tail ∧
    (endRetrieval home s).upl.ready = s.upl.ready ∧
    (endRetrieval home s).ctl = s.ctl ∧ (endRetrieval home s).lines = s.lines ∧
    (endRetrieval home s).resetLine = s.resetLine ∧ (endRetrieval home s).lastReset = s.lastReset ∧
    (endRetrieval home s).pending = s.pending := by
  unfold endRetrieval
  dsimp only
  (repeat' split) <;> simp

@[simp] theorem addCause_frame (cause : RunOutcome) (s : State) :
    (addCause cause s).clk = s.clk ∧ (addCause cause s).tbl = s.tbl ∧ (addCause cause s).stg = s.stg ∧
    (addCause cause s).rat = s.rat ∧ (addCause cause s).wrn = s.wrn ∧ (addCause cause s).pls = s.pls ∧
    (addCause cause s).run.state = s.run.state ∧ (addCause cause s).run.marker = s.run.marker ∧
    (addCause cause s).run.held = s.run.held ∧ (addCause cause s).run.position = s.run.position ∧
    (addCause cause s).run.cursor = s.run.cursor ∧ (addCause cause s).run.vertical = s.run.vertical ∧
    (addCause cause s).run.grantKnown = s.run.grantKnown ∧ (addCause cause s).run.nextId = s.run.nextId ∧
    (addCause cause s).run.lastCmd = s.run.lastCmd ∧ (addCause cause s).run.moveId = s.run.moveId ∧
    (addCause cause s).run.moveSent = s.run.moveSent ∧ (addCause cause s).run.haltId = s.run.haltId ∧
    (addCause cause s).run.retrieveSent = s.run.retrieveSent ∧
    (addCause cause s).run.verifyGrant = s.run.verifyGrant ∧ (addCause cause s).run.traverseAt = s.run.traverseAt ∧
    (addCause cause s).run.traverseLapsed = s.run.traverseLapsed ∧
    (addCause cause s).run.cableAt = s.run.cableAt ∧
    (addCause cause s).run.cableLapsed = s.run.cableLapsed ∧
    (addCause cause s).run.settleAt = s.run.settleAt ∧
    (addCause cause s).run.retrieveAt = s.run.retrieveAt ∧ (addCause cause s).run.enquiryAt = s.run.enquiryAt ∧
    (addCause cause s).loop = s.loop ∧ (addCause cause s).cht = s.cht ∧ (addCause cause s).store = s.store ∧
    (addCause cause s).upl = s.upl ∧ (addCause cause s).ctl = s.ctl ∧ (addCause cause s).lines = s.lines ∧
    (addCause cause s).resetLine = s.resetLine ∧ (addCause cause s).lastReset = s.lastReset ∧
    (addCause cause s).pending = s.pending := by
  simp [addCause]

@[simp] theorem abortRun_frame (cause : RunOutcome) (s : State) :
    (abortRun cause s).clk = s.clk ∧ (abortRun cause s).tbl = s.tbl ∧ (abortRun cause s).stg = s.stg ∧
    (abortRun cause s).rat = s.rat ∧ (abortRun cause s).wrn = s.wrn ∧
    (abortRun cause s).pls.rotorIn = s.pls.rotorIn ∧ (abortRun cause s).pls.surfaceIn = s.pls.surfaceIn ∧
    (abortRun cause s).pls.bottomIn = s.pls.bottomIn ∧ (abortRun cause s).run.marker = s.run.marker ∧
    (abortRun cause s).run.held = s.run.held ∧ (abortRun cause s).run.position = s.run.position ∧
    (abortRun cause s).run.grantKnown = s.run.grantKnown ∧ (abortRun cause s).loop.rate = s.loop.rate ∧
    (abortRun cause s).loop.txn = s.loop.txn ∧ (abortRun cause s).loop.rx = s.loop.rx ∧
    (abortRun cause s).loop.jam = s.loop.jam ∧ (abortRun cause s).loop.lineBreak = s.loop.lineBreak ∧
    (abortRun cause s).loop.lowSince = s.loop.lowSince ∧ (abortRun cause s).loop.highSince = s.loop.highSince ∧
    (abortRun cause s).loop.sched = s.loop.sched ∧ (abortRun cause s).loop.nodeFail = s.loop.nodeFail ∧
    (abortRun cause s).loop.faults = s.loop.faults ∧ (abortRun cause s).loop.unsolicited = s.loop.unsolicited ∧
    (abortRun cause s).loop.droppedService = s.loop.droppedService ∧
    (abortRun cause s).loop.serviceQ = s.loop.serviceQ ∧ (abortRun cause s).loop.tx = s.loop.tx ∧
    (abortRun cause s).loop.grant.node = s.loop.grant.node ∧
    (abortRun cause s).loop.grant.limit = s.loop.grant.limit ∧
    (abortRun cause s).loop.grant.mode = s.loop.grant.mode ∧
    (abortRun cause s).loop.grant.count = s.loop.grant.count ∧
    (abortRun cause s).loop.grant.began = s.loop.grant.began ∧
    (abortRun cause s).loop.grant.wait = s.loop.grant.wait ∧
    (abortRun cause s).loop.grant.interleaveAt = s.loop.grant.interleaveAt ∧
    (abortRun cause s).loop.grant.lastEnd = s.loop.grant.lastEnd ∧
    (abortRun cause s).loop.grant.begun = s.loop.grant.begun ∧ (abortRun cause s).cht = s.cht ∧
    (abortRun cause s).store = s.store ∧ (abortRun cause s).upl = s.upl ∧ (abortRun cause s).ctl = s.ctl ∧
    (abortRun cause s).lines = s.lines ∧ (abortRun cause s).resetLine = s.resetLine ∧
    (abortRun cause s).lastReset = s.lastReset ∧ (abortRun cause s).pending = s.pending := by
  unfold abortRun
  (repeat' split) <;> simp

@[simp] theorem runCountRise_frame (addr count : Nat) (s : State) :
    (runCountRise addr count s).clk = s.clk ∧ (runCountRise addr count s).tbl = s.tbl ∧
    (runCountRise addr count s).stg = s.stg ∧ (runCountRise addr count s).rat = s.rat ∧
    (runCountRise addr count s).wrn = s.wrn ∧ (runCountRise addr count s).pls.rotorIn = s.pls.rotorIn ∧
    (runCountRise addr count s).pls.surfaceIn = s.pls.surfaceIn ∧
    (runCountRise addr count s).pls.bottomIn = s.pls.bottomIn ∧
    (runCountRise addr count s).run.marker = s.run.marker ∧ (runCountRise addr count s).run.held = s.run.held ∧
    (runCountRise addr count s).run.position = s.run.position ∧
    (runCountRise addr count s).run.grantKnown = s.run.grantKnown ∧
    (runCountRise addr count s).loop.rate = s.loop.rate ∧ (runCountRise addr count s).loop.txn = s.loop.txn ∧
    (runCountRise addr count s).loop.rx = s.loop.rx ∧ (runCountRise addr count s).loop.jam = s.loop.jam ∧
    (runCountRise addr count s).loop.lineBreak = s.loop.lineBreak ∧
    (runCountRise addr count s).loop.lowSince = s.loop.lowSince ∧
    (runCountRise addr count s).loop.highSince = s.loop.highSince ∧
    (runCountRise addr count s).loop.sched = s.loop.sched ∧
    (runCountRise addr count s).loop.nodeFail = s.loop.nodeFail ∧
    (runCountRise addr count s).loop.faults = s.loop.faults ∧
    (runCountRise addr count s).loop.unsolicited = s.loop.unsolicited ∧
    (runCountRise addr count s).loop.droppedService = s.loop.droppedService ∧
    (runCountRise addr count s).loop.serviceQ = s.loop.serviceQ ∧ (runCountRise addr count s).loop.tx = s.loop.tx ∧
    (runCountRise addr count s).loop.grant.node = s.loop.grant.node ∧
    (runCountRise addr count s).loop.grant.limit = s.loop.grant.limit ∧
    (runCountRise addr count s).loop.grant.mode = s.loop.grant.mode ∧
    (runCountRise addr count s).loop.grant.count = s.loop.grant.count ∧
    (runCountRise addr count s).loop.grant.began = s.loop.grant.began ∧
    (runCountRise addr count s).loop.grant.wait = s.loop.grant.wait ∧
    (runCountRise addr count s).loop.grant.interleaveAt = s.loop.grant.interleaveAt ∧
    (runCountRise addr count s).loop.grant.lastEnd = s.loop.grant.lastEnd ∧
    (runCountRise addr count s).loop.grant.begun = s.loop.grant.begun ∧ (runCountRise addr count s).cht = s.cht ∧
    (runCountRise addr count s).store = s.store ∧ (runCountRise addr count s).upl = s.upl ∧
    (runCountRise addr count s).ctl = s.ctl ∧ (runCountRise addr count s).lines = s.lines ∧
    (runCountRise addr count s).resetLine = s.resetLine ∧ (runCountRise addr count s).lastReset = s.lastReset ∧
    (runCountRise addr count s).pending = s.pending := by
  unfold runCountRise
  split <;> simp

@[simp] theorem failTraverse_frame (r : RunRec) (v : Vertical) (s : State) :
    (failTraverse r v s).clk = s.clk ∧ (failTraverse r v s).tbl = s.tbl ∧ (failTraverse r v s).stg = s.stg ∧
    (failTraverse r v s).rat = s.rat ∧ (failTraverse r v s).wrn = s.wrn ∧
    (failTraverse r v s).pls.rotorIn = s.pls.rotorIn ∧ (failTraverse r v s).pls.surfaceIn = s.pls.surfaceIn ∧
    (failTraverse r v s).pls.bottomIn = s.pls.bottomIn ∧ (failTraverse r v s).run.marker = s.run.marker ∧
    (failTraverse r v s).run.held = s.run.held ∧ (failTraverse r v s).run.position = s.run.position ∧
    (failTraverse r v s).run.grantKnown = s.run.grantKnown ∧ (failTraverse r v s).loop.rate = s.loop.rate ∧
    (failTraverse r v s).loop.txn = s.loop.txn ∧ (failTraverse r v s).loop.rx = s.loop.rx ∧
    (failTraverse r v s).loop.jam = s.loop.jam ∧ (failTraverse r v s).loop.lineBreak = s.loop.lineBreak ∧
    (failTraverse r v s).loop.lowSince = s.loop.lowSince ∧ (failTraverse r v s).loop.highSince = s.loop.highSince ∧
    (failTraverse r v s).loop.sched = s.loop.sched ∧ (failTraverse r v s).loop.nodeFail = s.loop.nodeFail ∧
    (failTraverse r v s).loop.faults = s.loop.faults ∧ (failTraverse r v s).loop.unsolicited = s.loop.unsolicited ∧
    (failTraverse r v s).loop.droppedService = s.loop.droppedService ∧
    (failTraverse r v s).loop.serviceQ = s.loop.serviceQ ∧ (failTraverse r v s).loop.tx = s.loop.tx ∧
    (failTraverse r v s).loop.grant.node = s.loop.grant.node ∧
    (failTraverse r v s).loop.grant.limit = s.loop.grant.limit ∧
    (failTraverse r v s).loop.grant.mode = s.loop.grant.mode ∧
    (failTraverse r v s).loop.grant.count = s.loop.grant.count ∧
    (failTraverse r v s).loop.grant.began = s.loop.grant.began ∧
    (failTraverse r v s).loop.grant.wait = s.loop.grant.wait ∧
    (failTraverse r v s).loop.grant.interleaveAt = s.loop.grant.interleaveAt ∧
    (failTraverse r v s).loop.grant.lastEnd = s.loop.grant.lastEnd ∧
    (failTraverse r v s).loop.grant.begun = s.loop.grant.begun ∧ (failTraverse r v s).cht = s.cht ∧
    (failTraverse r v s).store = s.store ∧ (failTraverse r v s).upl = s.upl ∧ (failTraverse r v s).ctl = s.ctl ∧
    (failTraverse r v s).lines = s.lines ∧ (failTraverse r v s).resetLine = s.resetLine ∧
    (failTraverse r v s).lastReset = s.lastReset ∧ (failTraverse r v s).pending = s.pending := by
  unfold failTraverse
  split <;> simp

@[simp] theorem judgeConfirm_frame (r : RunRec) (v : Vertical) (p : Position) (s : State) :
    (judgeConfirm r v p s).clk = s.clk ∧ (judgeConfirm r v p s).tbl = s.tbl ∧ (judgeConfirm r v p s).stg = s.stg ∧
    (judgeConfirm r v p s).rat = s.rat ∧ (judgeConfirm r v p s).wrn = s.wrn ∧
    (judgeConfirm r v p s).pls.rotorIn = s.pls.rotorIn ∧ (judgeConfirm r v p s).pls.surfaceIn = s.pls.surfaceIn ∧
    (judgeConfirm r v p s).pls.bottomIn = s.pls.bottomIn ∧ (judgeConfirm r v p s).run.marker = s.run.marker ∧
    (judgeConfirm r v p s).run.held = s.run.held ∧ (judgeConfirm r v p s).run.position = s.run.position ∧
    (judgeConfirm r v p s).run.grantKnown = s.run.grantKnown ∧ (judgeConfirm r v p s).loop.rate = s.loop.rate ∧
    (judgeConfirm r v p s).loop.txn = s.loop.txn ∧ (judgeConfirm r v p s).loop.rx = s.loop.rx ∧
    (judgeConfirm r v p s).loop.jam = s.loop.jam ∧ (judgeConfirm r v p s).loop.lineBreak = s.loop.lineBreak ∧
    (judgeConfirm r v p s).loop.lowSince = s.loop.lowSince ∧
    (judgeConfirm r v p s).loop.highSince = s.loop.highSince ∧ (judgeConfirm r v p s).loop.sched = s.loop.sched ∧
    (judgeConfirm r v p s).loop.nodeFail = s.loop.nodeFail ∧ (judgeConfirm r v p s).loop.faults = s.loop.faults ∧
    (judgeConfirm r v p s).loop.unsolicited = s.loop.unsolicited ∧
    (judgeConfirm r v p s).loop.droppedService = s.loop.droppedService ∧
    (judgeConfirm r v p s).loop.serviceQ = s.loop.serviceQ ∧ (judgeConfirm r v p s).loop.tx = s.loop.tx ∧
    (judgeConfirm r v p s).loop.grant.node = s.loop.grant.node ∧
    (judgeConfirm r v p s).loop.grant.limit = s.loop.grant.limit ∧
    (judgeConfirm r v p s).loop.grant.mode = s.loop.grant.mode ∧
    (judgeConfirm r v p s).loop.grant.count = s.loop.grant.count ∧
    (judgeConfirm r v p s).loop.grant.began = s.loop.grant.began ∧
    (judgeConfirm r v p s).loop.grant.wait = s.loop.grant.wait ∧
    (judgeConfirm r v p s).loop.grant.interleaveAt = s.loop.grant.interleaveAt ∧
    (judgeConfirm r v p s).loop.grant.lastEnd = s.loop.grant.lastEnd ∧
    (judgeConfirm r v p s).loop.grant.begun = s.loop.grant.begun ∧ (judgeConfirm r v p s).cht = s.cht ∧
    (judgeConfirm r v p s).store = s.store ∧ (judgeConfirm r v p s).upl = s.upl ∧
    (judgeConfirm r v p s).ctl = s.ctl ∧ (judgeConfirm r v p s).lines = s.lines ∧
    (judgeConfirm r v p s).resetLine = s.resetLine ∧ (judgeConfirm r v p s).lastReset = s.lastReset ∧
    (judgeConfirm r v p s).pending = s.pending := by
  unfold judgeConfirm
  (repeat' split) <;> simp

@[simp] theorem completeVertical_frame (r : RunRec) (v : Vertical) (s : State) :
    (completeVertical r v s).clk = s.clk ∧ (completeVertical r v s).tbl = s.tbl ∧
    (completeVertical r v s).stg = s.stg ∧ (completeVertical r v s).rat.live = s.rat.live ∧
    (completeVertical r v s).rat.latest = s.rat.latest ∧ (completeVertical r v s).wrn = s.wrn ∧
    (completeVertical r v s).pls.rotorIn = s.pls.rotorIn ∧ (completeVertical r v s).pls.surfaceIn = s.pls.surfaceIn ∧
    (completeVertical r v s).pls.bottomIn = s.pls.bottomIn ∧ (completeVertical r v s).run.position = s.run.position ∧
    (completeVertical r v s).run.grantKnown = s.run.grantKnown ∧ (completeVertical r v s).loop.rate = s.loop.rate ∧
    (completeVertical r v s).loop.txn = s.loop.txn ∧ (completeVertical r v s).loop.rx = s.loop.rx ∧
    (completeVertical r v s).loop.jam = s.loop.jam ∧ (completeVertical r v s).loop.lineBreak = s.loop.lineBreak ∧
    (completeVertical r v s).loop.lowSince = s.loop.lowSince ∧
    (completeVertical r v s).loop.highSince = s.loop.highSince ∧ (completeVertical r v s).loop.sched = s.loop.sched ∧
    (completeVertical r v s).loop.nodeFail = s.loop.nodeFail ∧ (completeVertical r v s).loop.faults = s.loop.faults ∧
    (completeVertical r v s).loop.unsolicited = s.loop.unsolicited ∧
    (completeVertical r v s).loop.droppedService = s.loop.droppedService ∧
    (completeVertical r v s).loop.claimPlace = s.loop.claimPlace ∧
    (completeVertical r v s).loop.serviceQ = s.loop.serviceQ ∧ (completeVertical r v s).loop.tx = s.loop.tx ∧
    (completeVertical r v s).loop.grant = s.loop.grant ∧ (completeVertical r v s).cht = s.cht ∧
    (completeVertical r v s).upl.rate = s.upl.rate ∧ (completeVertical r v s).upl.slot = s.upl.slot ∧
    (completeVertical r v s).upl.fwdQ = s.upl.fwdQ ∧ (completeVertical r v s).upl.nextFwd = s.upl.nextFwd ∧
    (completeVertical r v s).upl.assembling = s.upl.assembling ∧
    (completeVertical r v s).upl.framing = s.upl.framing ∧ (completeVertical r v s).upl.gap = s.upl.gap ∧
    (completeVertical r v s).upl.length = s.upl.length ∧ (completeVertical r v s).upl.crc = s.upl.crc ∧
    (completeVertical r v s).upl.linkLost = s.upl.linkLost ∧ (completeVertical r v s).upl.foreign = s.upl.foreign ∧
    (completeVertical r v s).upl.kindDiscards = s.upl.kindDiscards ∧
    (completeVertical r v s).upl.huntDiscards = s.upl.huntDiscards ∧
    (completeVertical r v s).upl.lastChar = s.upl.lastChar ∧ (completeVertical r v s).upl.tail = s.upl.tail ∧
    (completeVertical r v s).upl.ready = s.upl.ready ∧ (completeVertical r v s).ctl = s.ctl ∧
    (completeVertical r v s).lines = s.lines ∧ (completeVertical r v s).resetLine = s.resetLine ∧
    (completeVertical r v s).lastReset = s.lastReset ∧ (completeVertical r v s).pending = s.pending := by
  unfold completeVertical
  split <;> simp

@[simp] theorem judgePosition_frame (p : Position) (answering : Option Nat) (s : State) :
    (judgePosition p answering s).clk = s.clk ∧ (judgePosition p answering s).tbl = s.tbl ∧
    (judgePosition p answering s).stg = s.stg ∧ (judgePosition p answering s).rat.live = s.rat.live ∧
    (judgePosition p answering s).rat.latest = s.rat.latest ∧ (judgePosition p answering s).wrn = s.wrn ∧
    (judgePosition p answering s).pls.rotorIn = s.pls.rotorIn ∧
    (judgePosition p answering s).pls.surfaceIn = s.pls.surfaceIn ∧
    (judgePosition p answering s).pls.bottomIn = s.pls.bottomIn ∧
    (judgePosition p answering s).run.position = s.run.position ∧
    (judgePosition p answering s).run.grantKnown = s.run.grantKnown ∧
    (judgePosition p answering s).loop.rate = s.loop.rate ∧ (judgePosition p answering s).loop.txn = s.loop.txn ∧
    (judgePosition p answering s).loop.rx = s.loop.rx ∧ (judgePosition p answering s).loop.jam = s.loop.jam ∧
    (judgePosition p answering s).loop.lineBreak = s.loop.lineBreak ∧
    (judgePosition p answering s).loop.lowSince = s.loop.lowSince ∧
    (judgePosition p answering s).loop.highSince = s.loop.highSince ∧
    (judgePosition p answering s).loop.sched = s.loop.sched ∧
    (judgePosition p answering s).loop.nodeFail = s.loop.nodeFail ∧
    (judgePosition p answering s).loop.faults = s.loop.faults ∧
    (judgePosition p answering s).loop.unsolicited = s.loop.unsolicited ∧
    (judgePosition p answering s).loop.droppedService = s.loop.droppedService ∧
    (judgePosition p answering s).loop.serviceQ = s.loop.serviceQ ∧
    (judgePosition p answering s).loop.tx = s.loop.tx ∧
    (judgePosition p answering s).loop.grant.node = s.loop.grant.node ∧
    (judgePosition p answering s).loop.grant.limit = s.loop.grant.limit ∧
    (judgePosition p answering s).loop.grant.mode = s.loop.grant.mode ∧
    (judgePosition p answering s).loop.grant.count = s.loop.grant.count ∧
    (judgePosition p answering s).loop.grant.began = s.loop.grant.began ∧
    (judgePosition p answering s).loop.grant.wait = s.loop.grant.wait ∧
    (judgePosition p answering s).loop.grant.interleaveAt = s.loop.grant.interleaveAt ∧
    (judgePosition p answering s).loop.grant.lastEnd = s.loop.grant.lastEnd ∧
    (judgePosition p answering s).loop.grant.begun = s.loop.grant.begun ∧ (judgePosition p answering s).cht = s.cht ∧
    (judgePosition p answering s).upl.rate = s.upl.rate ∧ (judgePosition p answering s).upl.slot = s.upl.slot ∧
    (judgePosition p answering s).upl.fwdQ = s.upl.fwdQ ∧ (judgePosition p answering s).upl.nextFwd = s.upl.nextFwd ∧
    (judgePosition p answering s).upl.assembling = s.upl.assembling ∧
    (judgePosition p answering s).upl.framing = s.upl.framing ∧ (judgePosition p answering s).upl.gap = s.upl.gap ∧
    (judgePosition p answering s).upl.length = s.upl.length ∧ (judgePosition p answering s).upl.crc = s.upl.crc ∧
    (judgePosition p answering s).upl.linkLost = s.upl.linkLost ∧
    (judgePosition p answering s).upl.foreign = s.upl.foreign ∧
    (judgePosition p answering s).upl.kindDiscards = s.upl.kindDiscards ∧
    (judgePosition p answering s).upl.huntDiscards = s.upl.huntDiscards ∧
    (judgePosition p answering s).upl.lastChar = s.upl.lastChar ∧ (judgePosition p answering s).upl.tail = s.upl.tail ∧
    (judgePosition p answering s).upl.ready = s.upl.ready ∧ (judgePosition p answering s).ctl = s.ctl ∧
    (judgePosition p answering s).lines = s.lines ∧ (judgePosition p answering s).resetLine = s.resetLine ∧
    (judgePosition p answering s).lastReset = s.lastReset ∧ (judgePosition p answering s).pending = s.pending := by
  unfold judgePosition whenever
  (repeat' split) <;> simp

@[simp] theorem runPosition_frame (p : Position) (answering : Option Nat) (s : State) :
    (runPosition p answering s).clk = s.clk ∧ (runPosition p answering s).tbl = s.tbl ∧
    (runPosition p answering s).stg = s.stg ∧ (runPosition p answering s).rat.live = s.rat.live ∧
    (runPosition p answering s).rat.latest = s.rat.latest ∧ (runPosition p answering s).wrn = s.wrn ∧
    (runPosition p answering s).pls.rotorIn = s.pls.rotorIn ∧
    (runPosition p answering s).pls.surfaceIn = s.pls.surfaceIn ∧
    (runPosition p answering s).pls.bottomIn = s.pls.bottomIn ∧
    (runPosition p answering s).run.grantKnown = s.run.grantKnown ∧
    (runPosition p answering s).loop.rate = s.loop.rate ∧ (runPosition p answering s).loop.txn = s.loop.txn ∧
    (runPosition p answering s).loop.rx = s.loop.rx ∧ (runPosition p answering s).loop.jam = s.loop.jam ∧
    (runPosition p answering s).loop.lineBreak = s.loop.lineBreak ∧
    (runPosition p answering s).loop.lowSince = s.loop.lowSince ∧
    (runPosition p answering s).loop.highSince = s.loop.highSince ∧
    (runPosition p answering s).loop.sched = s.loop.sched ∧
    (runPosition p answering s).loop.nodeFail = s.loop.nodeFail ∧
    (runPosition p answering s).loop.faults = s.loop.faults ∧
    (runPosition p answering s).loop.unsolicited = s.loop.unsolicited ∧
    (runPosition p answering s).loop.droppedService = s.loop.droppedService ∧
    (runPosition p answering s).loop.serviceQ = s.loop.serviceQ ∧ (runPosition p answering s).loop.tx = s.loop.tx ∧
    (runPosition p answering s).loop.grant.node = s.loop.grant.node ∧
    (runPosition p answering s).loop.grant.limit = s.loop.grant.limit ∧
    (runPosition p answering s).loop.grant.mode = s.loop.grant.mode ∧
    (runPosition p answering s).loop.grant.count = s.loop.grant.count ∧
    (runPosition p answering s).loop.grant.began = s.loop.grant.began ∧
    (runPosition p answering s).loop.grant.wait = s.loop.grant.wait ∧
    (runPosition p answering s).loop.grant.interleaveAt = s.loop.grant.interleaveAt ∧
    (runPosition p answering s).loop.grant.lastEnd = s.loop.grant.lastEnd ∧
    (runPosition p answering s).loop.grant.begun = s.loop.grant.begun ∧ (runPosition p answering s).cht = s.cht ∧
    (runPosition p answering s).upl.rate = s.upl.rate ∧ (runPosition p answering s).upl.slot = s.upl.slot ∧
    (runPosition p answering s).upl.fwdQ = s.upl.fwdQ ∧ (runPosition p answering s).upl.nextFwd = s.upl.nextFwd ∧
    (runPosition p answering s).upl.assembling = s.upl.assembling ∧
    (runPosition p answering s).upl.framing = s.upl.framing ∧ (runPosition p answering s).upl.gap = s.upl.gap ∧
    (runPosition p answering s).upl.length = s.upl.length ∧ (runPosition p answering s).upl.crc = s.upl.crc ∧
    (runPosition p answering s).upl.linkLost = s.upl.linkLost ∧
    (runPosition p answering s).upl.foreign = s.upl.foreign ∧
    (runPosition p answering s).upl.kindDiscards = s.upl.kindDiscards ∧
    (runPosition p answering s).upl.huntDiscards = s.upl.huntDiscards ∧
    (runPosition p answering s).upl.lastChar = s.upl.lastChar ∧ (runPosition p answering s).upl.tail = s.upl.tail ∧
    (runPosition p answering s).upl.ready = s.upl.ready ∧ (runPosition p answering s).ctl = s.ctl ∧
    (runPosition p answering s).lines = s.lines ∧ (runPosition p answering s).resetLine = s.resetLine ∧
    (runPosition p answering s).lastReset = s.lastReset ∧ (runPosition p answering s).pending = s.pending := by
  unfold runPosition
  (repeat' split) <;> simp

@[simp] theorem runOutcome_frame (id : Nat) (o : CmdOutcome) (s : State) :
    (runOutcome id o s).clk = s.clk ∧ (runOutcome id o s).tbl = s.tbl ∧ (runOutcome id o s).stg = s.stg ∧
    (runOutcome id o s).rat = s.rat ∧ (runOutcome id o s).wrn = s.wrn ∧ (runOutcome id o s).pls = s.pls ∧
    (runOutcome id o s).run.state = s.run.state ∧ (runOutcome id o s).run.marker = s.run.marker ∧
    (runOutcome id o s).run.held = s.run.held ∧ (runOutcome id o s).run.position = s.run.position ∧
    (runOutcome id o s).run.record = s.run.record ∧ (runOutcome id o s).run.cursor = s.run.cursor ∧
    (runOutcome id o s).run.vertical = s.run.vertical ∧ (runOutcome id o s).run.grantKnown = s.run.grantKnown ∧
    (runOutcome id o s).run.verifyGrant = s.run.verifyGrant ∧ (runOutcome id o s).run.traverseAt = s.run.traverseAt ∧
    (runOutcome id o s).run.traverseLapsed = s.run.traverseLapsed ∧
    (runOutcome id o s).run.cableAt = s.run.cableAt ∧
    (runOutcome id o s).run.cableLapsed = s.run.cableLapsed ∧
    (runOutcome id o s).run.settleAt = s.run.settleAt ∧
    (runOutcome id o s).run.retrieveAt = s.run.retrieveAt ∧ (runOutcome id o s).loop.rate = s.loop.rate ∧
    (runOutcome id o s).loop.txn = s.loop.txn ∧ (runOutcome id o s).loop.rx = s.loop.rx ∧
    (runOutcome id o s).loop.jam = s.loop.jam ∧ (runOutcome id o s).loop.lineBreak = s.loop.lineBreak ∧
    (runOutcome id o s).loop.lowSince = s.loop.lowSince ∧ (runOutcome id o s).loop.highSince = s.loop.highSince ∧
    (runOutcome id o s).loop.sched = s.loop.sched ∧ (runOutcome id o s).loop.nodeFail = s.loop.nodeFail ∧
    (runOutcome id o s).loop.faults = s.loop.faults ∧ (runOutcome id o s).loop.unsolicited = s.loop.unsolicited ∧
    (runOutcome id o s).loop.droppedService = s.loop.droppedService ∧
    (runOutcome id o s).loop.claimPlace = s.loop.claimPlace ∧ (runOutcome id o s).loop.serviceQ = s.loop.serviceQ ∧
    (runOutcome id o s).loop.tx = s.loop.tx ∧ (runOutcome id o s).loop.grant = s.loop.grant ∧
    (runOutcome id o s).cht = s.cht ∧ (runOutcome id o s).store = s.store ∧ (runOutcome id o s).upl = s.upl ∧
    (runOutcome id o s).ctl = s.ctl ∧ (runOutcome id o s).lines = s.lines ∧
    (runOutcome id o s).resetLine = s.resetLine ∧ (runOutcome id o s).lastReset = s.lastReset ∧
    (runOutcome id o s).pending = s.pending := by
  unfold runOutcome
  (repeat' split) <;> simp

@[simp] theorem runGrantBegun_frame (s : State) :
    (runGrantBegun s).clk = s.clk ∧ (runGrantBegun s).tbl = s.tbl ∧ (runGrantBegun s).stg = s.stg ∧
    (runGrantBegun s).rat = s.rat ∧ (runGrantBegun s).wrn = s.wrn ∧ (runGrantBegun s).pls = s.pls ∧
    (runGrantBegun s).run.state = s.run.state ∧ (runGrantBegun s).run.marker = s.run.marker ∧
    (runGrantBegun s).run.held = s.run.held ∧ (runGrantBegun s).run.position = s.run.position ∧
    (runGrantBegun s).run.record = s.run.record ∧ (runGrantBegun s).run.cursor = s.run.cursor ∧
    (runGrantBegun s).run.vertical = s.run.vertical ∧ (runGrantBegun s).run.haltId = s.run.haltId ∧
    (runGrantBegun s).run.retrieveSent = s.run.retrieveSent ∧ (runGrantBegun s).run.verifyGrant = s.run.verifyGrant ∧
    (runGrantBegun s).run.traverseAt = s.run.traverseAt ∧
    (runGrantBegun s).run.traverseLapsed = s.run.traverseLapsed ∧
    (runGrantBegun s).run.cableAt = s.run.cableAt ∧
    (runGrantBegun s).run.cableLapsed = s.run.cableLapsed ∧
    (runGrantBegun s).run.settleAt = s.run.settleAt ∧ (runGrantBegun s).run.retrieveAt = s.run.retrieveAt ∧
    (runGrantBegun s).loop.rate = s.loop.rate ∧ (runGrantBegun s).loop.txn = s.loop.txn ∧
    (runGrantBegun s).loop.rx = s.loop.rx ∧ (runGrantBegun s).loop.jam = s.loop.jam ∧
    (runGrantBegun s).loop.lineBreak = s.loop.lineBreak ∧ (runGrantBegun s).loop.lowSince = s.loop.lowSince ∧
    (runGrantBegun s).loop.highSince = s.loop.highSince ∧ (runGrantBegun s).loop.sched = s.loop.sched ∧
    (runGrantBegun s).loop.nodeFail = s.loop.nodeFail ∧ (runGrantBegun s).loop.faults = s.loop.faults ∧
    (runGrantBegun s).loop.unsolicited = s.loop.unsolicited ∧
    (runGrantBegun s).loop.droppedService = s.loop.droppedService ∧
    (runGrantBegun s).loop.claimPlace = s.loop.claimPlace ∧ (runGrantBegun s).loop.serviceQ = s.loop.serviceQ ∧
    (runGrantBegun s).loop.tx = s.loop.tx ∧ (runGrantBegun s).loop.grant = s.loop.grant ∧
    (runGrantBegun s).cht = s.cht ∧ (runGrantBegun s).store = s.store ∧ (runGrantBegun s).upl = s.upl ∧
    (runGrantBegun s).ctl = s.ctl ∧ (runGrantBegun s).lines = s.lines ∧ (runGrantBegun s).resetLine = s.resetLine ∧
    (runGrantBegun s).lastReset = s.lastReset ∧ (runGrantBegun s).pending = s.pending := by
  unfold runGrantBegun
  split <;> simp

@[simp] theorem runGrantEnded_frame (s : State) :
    (runGrantEnded s).clk = s.clk ∧ (runGrantEnded s).tbl = s.tbl ∧ (runGrantEnded s).stg = s.stg ∧
    (runGrantEnded s).rat = s.rat ∧ (runGrantEnded s).wrn = s.wrn ∧ (runGrantEnded s).pls = s.pls ∧
    (runGrantEnded s).run.state = s.run.state ∧ (runGrantEnded s).run.marker = s.run.marker ∧
    (runGrantEnded s).run.held = s.run.held ∧ (runGrantEnded s).run.position = s.run.position ∧
    (runGrantEnded s).run.record = s.run.record ∧ (runGrantEnded s).run.cursor = s.run.cursor ∧
    (runGrantEnded s).run.vertical = s.run.vertical ∧ (runGrantEnded s).run.moveId = s.run.moveId ∧
    (runGrantEnded s).run.moveSent = s.run.moveSent ∧ (runGrantEnded s).run.haltId = s.run.haltId ∧
    (runGrantEnded s).run.retrieveSent = s.run.retrieveSent ∧ (runGrantEnded s).run.traverseAt = s.run.traverseAt ∧
    (runGrantEnded s).run.traverseLapsed = s.run.traverseLapsed ∧
    (runGrantEnded s).run.cableAt = s.run.cableAt ∧
    (runGrantEnded s).run.cableLapsed = s.run.cableLapsed ∧
    (runGrantEnded s).run.settleAt = s.run.settleAt ∧
    (runGrantEnded s).run.retrieveAt = s.run.retrieveAt ∧ (runGrantEnded s).loop.rate = s.loop.rate ∧
    (runGrantEnded s).loop.txn = s.loop.txn ∧ (runGrantEnded s).loop.rx = s.loop.rx ∧
    (runGrantEnded s).loop.jam = s.loop.jam ∧ (runGrantEnded s).loop.lineBreak = s.loop.lineBreak ∧
    (runGrantEnded s).loop.lowSince = s.loop.lowSince ∧ (runGrantEnded s).loop.highSince = s.loop.highSince ∧
    (runGrantEnded s).loop.sched = s.loop.sched ∧ (runGrantEnded s).loop.nodeFail = s.loop.nodeFail ∧
    (runGrantEnded s).loop.faults = s.loop.faults ∧ (runGrantEnded s).loop.unsolicited = s.loop.unsolicited ∧
    (runGrantEnded s).loop.droppedService = s.loop.droppedService ∧
    (runGrantEnded s).loop.claimPlace = s.loop.claimPlace ∧ (runGrantEnded s).loop.serviceQ = s.loop.serviceQ ∧
    (runGrantEnded s).loop.tx = s.loop.tx ∧ (runGrantEnded s).loop.grant = s.loop.grant ∧
    (runGrantEnded s).cht = s.cht ∧ (runGrantEnded s).store = s.store ∧ (runGrantEnded s).upl = s.upl ∧
    (runGrantEnded s).ctl = s.ctl ∧ (runGrantEnded s).lines = s.lines ∧ (runGrantEnded s).resetLine = s.resetLine ∧
    (runGrantEnded s).lastReset = s.lastReset ∧ (runGrantEnded s).pending = s.pending := by
  unfold runGrantEnded
  (repeat' split) <;> simp

@[simp] theorem runRotorResult_frame (r : RotorResult) (s : State) :
    (runRotorResult r s).clk = s.clk ∧ (runRotorResult r s).tbl = s.tbl ∧ (runRotorResult r s).stg = s.stg ∧
    (runRotorResult r s).rat = s.rat ∧ (runRotorResult r s).wrn = s.wrn ∧ (runRotorResult r s).pls = s.pls ∧
    (runRotorResult r s).run.marker = s.run.marker ∧ (runRotorResult r s).run.held = s.run.held ∧
    (runRotorResult r s).run.position = s.run.position ∧ (runRotorResult r s).run.record = s.run.record ∧
    (runRotorResult r s).run.cursor = s.run.cursor ∧ (runRotorResult r s).run.grantKnown = s.run.grantKnown ∧
    (runRotorResult r s).run.retrieveSent = s.run.retrieveSent ∧
    (runRotorResult r s).run.verifyGrant = s.run.verifyGrant ∧
    (runRotorResult r s).run.traverseAt = s.run.traverseAt ∧
    (runRotorResult r s).run.traverseLapsed = s.run.traverseLapsed ∧
    (runRotorResult r s).run.settleAt = s.run.settleAt ∧
    (runRotorResult r s).run.retrieveAt = s.run.retrieveAt ∧ (runRotorResult r s).loop.rate = s.loop.rate ∧
    (runRotorResult r s).loop.txn = s.loop.txn ∧ (runRotorResult r s).loop.rx = s.loop.rx ∧
    (runRotorResult r s).loop.jam = s.loop.jam ∧ (runRotorResult r s).loop.lineBreak = s.loop.lineBreak ∧
    (runRotorResult r s).loop.lowSince = s.loop.lowSince ∧ (runRotorResult r s).loop.highSince = s.loop.highSince ∧
    (runRotorResult r s).loop.sched = s.loop.sched ∧ (runRotorResult r s).loop.nodeFail = s.loop.nodeFail ∧
    (runRotorResult r s).loop.faults = s.loop.faults ∧ (runRotorResult r s).loop.unsolicited = s.loop.unsolicited ∧
    (runRotorResult r s).loop.droppedService = s.loop.droppedService ∧
    (runRotorResult r s).loop.claimPlace = s.loop.claimPlace ∧ (runRotorResult r s).loop.serviceQ = s.loop.serviceQ ∧
    (runRotorResult r s).loop.tx = s.loop.tx ∧ (runRotorResult r s).loop.grant = s.loop.grant ∧
    (runRotorResult r s).cht = s.cht ∧ (runRotorResult r s).store = s.store ∧ (runRotorResult r s).upl = s.upl ∧
    (runRotorResult r s).ctl = s.ctl ∧ (runRotorResult r s).lines = s.lines ∧
    (runRotorResult r s).resetLine = s.resetLine ∧ (runRotorResult r s).lastReset = s.lastReset ∧
    (runRotorResult r s).pending = s.pending := by
  unfold runRotorResult
  (repeat' split) <;> simp

@[simp] theorem runSurfaceLatch_frame (l : LatchVal) (s : State) :
    (runSurfaceLatch l s).clk = s.clk ∧ (runSurfaceLatch l s).tbl = s.tbl ∧ (runSurfaceLatch l s).stg = s.stg ∧
    (runSurfaceLatch l s).rat = s.rat ∧ (runSurfaceLatch l s).wrn = s.wrn ∧
    (runSurfaceLatch l s).pls.rotorIn = s.pls.rotorIn ∧ (runSurfaceLatch l s).pls.surfaceIn = s.pls.surfaceIn ∧
    (runSurfaceLatch l s).pls.bottomIn = s.pls.bottomIn ∧ (runSurfaceLatch l s).run.marker = s.run.marker ∧
    (runSurfaceLatch l s).run.held = s.run.held ∧ (runSurfaceLatch l s).run.position = s.run.position ∧
    (runSurfaceLatch l s).run.grantKnown = s.run.grantKnown ∧ (runSurfaceLatch l s).loop.rate = s.loop.rate ∧
    (runSurfaceLatch l s).loop.txn = s.loop.txn ∧ (runSurfaceLatch l s).loop.rx = s.loop.rx ∧
    (runSurfaceLatch l s).loop.jam = s.loop.jam ∧ (runSurfaceLatch l s).loop.lineBreak = s.loop.lineBreak ∧
    (runSurfaceLatch l s).loop.lowSince = s.loop.lowSince ∧ (runSurfaceLatch l s).loop.highSince = s.loop.highSince ∧
    (runSurfaceLatch l s).loop.sched = s.loop.sched ∧ (runSurfaceLatch l s).loop.nodeFail = s.loop.nodeFail ∧
    (runSurfaceLatch l s).loop.faults = s.loop.faults ∧ (runSurfaceLatch l s).loop.unsolicited = s.loop.unsolicited ∧
    (runSurfaceLatch l s).loop.droppedService = s.loop.droppedService ∧
    (runSurfaceLatch l s).loop.serviceQ = s.loop.serviceQ ∧ (runSurfaceLatch l s).loop.tx = s.loop.tx ∧
    (runSurfaceLatch l s).loop.grant.node = s.loop.grant.node ∧
    (runSurfaceLatch l s).loop.grant.limit = s.loop.grant.limit ∧
    (runSurfaceLatch l s).loop.grant.mode = s.loop.grant.mode ∧
    (runSurfaceLatch l s).loop.grant.count = s.loop.grant.count ∧
    (runSurfaceLatch l s).loop.grant.began = s.loop.grant.began ∧
    (runSurfaceLatch l s).loop.grant.wait = s.loop.grant.wait ∧
    (runSurfaceLatch l s).loop.grant.interleaveAt = s.loop.grant.interleaveAt ∧
    (runSurfaceLatch l s).loop.grant.lastEnd = s.loop.grant.lastEnd ∧
    (runSurfaceLatch l s).loop.grant.begun = s.loop.grant.begun ∧ (runSurfaceLatch l s).cht = s.cht ∧
    (runSurfaceLatch l s).store = s.store ∧ (runSurfaceLatch l s).upl = s.upl ∧ (runSurfaceLatch l s).ctl = s.ctl ∧
    (runSurfaceLatch l s).lines = s.lines ∧ (runSurfaceLatch l s).resetLine = s.resetLine ∧
    (runSurfaceLatch l s).lastReset = s.lastReset ∧ (runSurfaceLatch l s).pending = s.pending := by
  unfold runSurfaceLatch
  (repeat' split) <;> simp

@[simp] theorem runBottomLatch_frame (l : LatchVal) (s : State) :
    (runBottomLatch l s).clk = s.clk ∧ (runBottomLatch l s).tbl = s.tbl ∧ (runBottomLatch l s).stg = s.stg ∧
    (runBottomLatch l s).rat = s.rat ∧ (runBottomLatch l s).wrn = s.wrn ∧
    (runBottomLatch l s).pls.rotorIn = s.pls.rotorIn ∧ (runBottomLatch l s).pls.surfaceIn = s.pls.surfaceIn ∧
    (runBottomLatch l s).pls.bottomIn = s.pls.bottomIn ∧ (runBottomLatch l s).run.marker = s.run.marker ∧
    (runBottomLatch l s).run.held = s.run.held ∧ (runBottomLatch l s).run.position = s.run.position ∧
    (runBottomLatch l s).run.grantKnown = s.run.grantKnown ∧ (runBottomLatch l s).loop.rate = s.loop.rate ∧
    (runBottomLatch l s).loop.txn = s.loop.txn ∧ (runBottomLatch l s).loop.rx = s.loop.rx ∧
    (runBottomLatch l s).loop.jam = s.loop.jam ∧ (runBottomLatch l s).loop.lineBreak = s.loop.lineBreak ∧
    (runBottomLatch l s).loop.lowSince = s.loop.lowSince ∧ (runBottomLatch l s).loop.highSince = s.loop.highSince ∧
    (runBottomLatch l s).loop.sched = s.loop.sched ∧ (runBottomLatch l s).loop.nodeFail = s.loop.nodeFail ∧
    (runBottomLatch l s).loop.faults = s.loop.faults ∧ (runBottomLatch l s).loop.unsolicited = s.loop.unsolicited ∧
    (runBottomLatch l s).loop.droppedService = s.loop.droppedService ∧
    (runBottomLatch l s).loop.serviceQ = s.loop.serviceQ ∧ (runBottomLatch l s).loop.tx = s.loop.tx ∧
    (runBottomLatch l s).loop.grant.node = s.loop.grant.node ∧
    (runBottomLatch l s).loop.grant.limit = s.loop.grant.limit ∧
    (runBottomLatch l s).loop.grant.mode = s.loop.grant.mode ∧
    (runBottomLatch l s).loop.grant.count = s.loop.grant.count ∧
    (runBottomLatch l s).loop.grant.began = s.loop.grant.began ∧
    (runBottomLatch l s).loop.grant.wait = s.loop.grant.wait ∧
    (runBottomLatch l s).loop.grant.interleaveAt = s.loop.grant.interleaveAt ∧
    (runBottomLatch l s).loop.grant.lastEnd = s.loop.grant.lastEnd ∧
    (runBottomLatch l s).loop.grant.begun = s.loop.grant.begun ∧ (runBottomLatch l s).cht = s.cht ∧
    (runBottomLatch l s).store = s.store ∧ (runBottomLatch l s).upl = s.upl ∧ (runBottomLatch l s).ctl = s.ctl ∧
    (runBottomLatch l s).lines = s.lines ∧ (runBottomLatch l s).resetLine = s.resetLine ∧
    (runBottomLatch l s).lastReset = s.lastReset ∧ (runBottomLatch l s).pending = s.pending := by
  unfold runBottomLatch
  (repeat' split) <;> simp

@[simp] theorem beginRun_frame (plan addr : Nat) (s : State) :
    (beginRun plan addr s).clk = s.clk ∧ (beginRun plan addr s).tbl = s.tbl ∧ (beginRun plan addr s).stg = s.stg ∧
    (beginRun plan addr s).rat = s.rat ∧ (beginRun plan addr s).wrn = s.wrn ∧ (beginRun plan addr s).pls = s.pls ∧
    (beginRun plan addr s).run.position = s.run.position ∧ (beginRun plan addr s).run.grantKnown = s.run.grantKnown ∧
    (beginRun plan addr s).run.retrieveSent = s.run.retrieveSent ∧
    (beginRun plan addr s).run.verifyGrant = s.run.verifyGrant ∧
    (beginRun plan addr s).run.retrieveAt = s.run.retrieveAt ∧ (beginRun plan addr s).loop.rate = s.loop.rate ∧
    (beginRun plan addr s).loop.txn = s.loop.txn ∧ (beginRun plan addr s).loop.rx = s.loop.rx ∧
    (beginRun plan addr s).loop.jam = s.loop.jam ∧ (beginRun plan addr s).loop.lineBreak = s.loop.lineBreak ∧
    (beginRun plan addr s).loop.lowSince = s.loop.lowSince ∧
    (beginRun plan addr s).loop.highSince = s.loop.highSince ∧ (beginRun plan addr s).loop.sched = s.loop.sched ∧
    (beginRun plan addr s).loop.nodeFail = s.loop.nodeFail ∧ (beginRun plan addr s).loop.faults = s.loop.faults ∧
    (beginRun plan addr s).loop.unsolicited = s.loop.unsolicited ∧
    (beginRun plan addr s).loop.droppedService = s.loop.droppedService ∧
    (beginRun plan addr s).loop.claimPlace = s.loop.claimPlace ∧
    (beginRun plan addr s).loop.serviceQ = s.loop.serviceQ ∧ (beginRun plan addr s).loop.tx = s.loop.tx ∧
    (beginRun plan addr s).loop.grant = s.loop.grant ∧ (beginRun plan addr s).cht = s.cht ∧
    (beginRun plan addr s).store = s.store ∧ (beginRun plan addr s).upl = s.upl ∧
    (beginRun plan addr s).ctl = s.ctl ∧ (beginRun plan addr s).lines = s.lines ∧
    (beginRun plan addr s).resetLine = s.resetLine ∧ (beginRun plan addr s).lastReset = s.lastReset ∧
    (beginRun plan addr s).pending = s.pending := by
  unfold beginRun
  dsimp only
  split <;> simp

@[simp] theorem resetRun_frame (marker : Option Marker) (s : State) :
    (resetRun marker s).clk = s.clk ∧ (resetRun marker s).tbl = s.tbl ∧ (resetRun marker s).stg = s.stg ∧
    (resetRun marker s).rat = s.rat ∧ (resetRun marker s).wrn = s.wrn ∧
    (resetRun marker s).pls.rotorIn = s.pls.rotorIn ∧ (resetRun marker s).pls.surfaceIn = s.pls.surfaceIn ∧
    (resetRun marker s).pls.bottomIn = s.pls.bottomIn ∧ (resetRun marker s).loop.rate = s.loop.rate ∧
    (resetRun marker s).loop.txn = s.loop.txn ∧ (resetRun marker s).loop.rx = s.loop.rx ∧
    (resetRun marker s).loop.jam = s.loop.jam ∧ (resetRun marker s).loop.lineBreak = s.loop.lineBreak ∧
    (resetRun marker s).loop.lowSince = s.loop.lowSince ∧ (resetRun marker s).loop.highSince = s.loop.highSince ∧
    (resetRun marker s).loop.sched = s.loop.sched ∧ (resetRun marker s).loop.nodeFail = s.loop.nodeFail ∧
    (resetRun marker s).loop.faults = s.loop.faults ∧ (resetRun marker s).loop.unsolicited = s.loop.unsolicited ∧
    (resetRun marker s).loop.droppedService = s.loop.droppedService ∧
    (resetRun marker s).loop.claimPlace = s.loop.claimPlace ∧ (resetRun marker s).loop.serviceQ = s.loop.serviceQ ∧
    (resetRun marker s).loop.tx = s.loop.tx ∧ (resetRun marker s).loop.grant = s.loop.grant ∧
    (resetRun marker s).cht = s.cht ∧ (resetRun marker s).store = s.store ∧ (resetRun marker s).upl = s.upl ∧
    (resetRun marker s).ctl = s.ctl ∧ (resetRun marker s).lines = s.lines ∧
    (resetRun marker s).resetLine = s.resetLine ∧ (resetRun marker s).lastReset = s.lastReset ∧
    (resetRun marker s).pending = s.pending := by
  unfold resetRun
  split <;> simp

end Sys2Proof.Machine
end

