-- ==== Sys2Proof/Laws/StageFrame.lean ====
section
/-! SUPPORT. What the operations of the warning and stage units leave as it was: one lemma per
operation, for all the fields it does not touch. -/

namespace Sys2Proof.Machine

@[simp] theorem Wrn.evaluate_frame (w : Wrn) (table : List Byte) (value : RuleEntry → Option Int) :
    (Wrn.evaluate w table value).stageLost = w.stageLost ∧ (Wrn.evaluate w table value).target = w.target ∧
    (Wrn.evaluate w table value).level = w.level ∧ (Wrn.evaluate w table value).standDown = w.standDown ∧
    (Wrn.evaluate w table value).resetHold = w.resetHold ∧ (Wrn.evaluate w table value).silenced = w.silenced ∧
    (Wrn.evaluate w table value).test = w.test ∧ (Wrn.evaluate w table value).outputs = w.outputs := by
  simp [Wrn.evaluate]

@[simp] theorem drive_frame (s : State) :
    (drive s).clk = s.clk ∧ (drive s).tbl = s.tbl ∧ (drive s).stg = s.stg ∧ (drive s).rat = s.rat ∧
    (drive s).wrn.rules = s.wrn.rules ∧ (drive s).wrn.stageLost = s.wrn.stageLost ∧
    (drive s).wrn.target = s.wrn.target ∧ (drive s).wrn.level = s.wrn.level ∧
    (drive s).wrn.standDown = s.wrn.standDown ∧ (drive s).wrn.resetHold = s.wrn.resetHold ∧
    (drive s).wrn.silenced = s.wrn.silenced ∧ (drive s).wrn.test = s.wrn.test ∧ (drive s).pls = s.pls ∧
    (drive s).run = s.run ∧ (drive s).loop = s.loop ∧ (drive s).cht = s.cht ∧ (drive s).store = s.store ∧
    (drive s).upl = s.upl ∧ (drive s).ctl = s.ctl ∧ (drive s).lines = s.lines ∧ (drive s).resetLine = s.resetLine ∧
    (drive s).lastReset = s.lastReset ∧ (drive s).pending = s.pending := by
  simp [drive]

@[simp] theorem warnRecord_frame (old new : Nat) (cause : WarnCause) (s : State) :
    (warnRecord old new cause s).clk = s.clk ∧ (warnRecord old new cause s).tbl = s.tbl ∧
    (warnRecord old new cause s).stg = s.stg ∧ (warnRecord old new cause s).rat = s.rat ∧
    (warnRecord old new cause s).wrn = s.wrn ∧ (warnRecord old new cause s).pls = s.pls ∧
    (warnRecord old new cause s).run = s.run ∧ (warnRecord old new cause s).loop = s.loop ∧
    (warnRecord old new cause s).cht = s.cht ∧ (warnRecord old new cause s).upl.rate = s.upl.rate ∧
    (warnRecord old new cause s).upl.slot = s.upl.slot ∧ (warnRecord old new cause s).upl.fwdQ = s.upl.fwdQ ∧
    (warnRecord old new cause s).upl.nextFwd = s.upl.nextFwd ∧
    (warnRecord old new cause s).upl.assembling = s.upl.assembling ∧
    (warnRecord old new cause s).upl.framing = s.upl.framing ∧ (warnRecord old new cause s).upl.gap = s.upl.gap ∧
    (warnRecord old new cause s).upl.length = s.upl.length ∧ (warnRecord old new cause s).upl.crc = s.upl.crc ∧
    (warnRecord old new cause s).upl.linkLost = s.upl.linkLost ∧
    (warnRecord old new cause s).upl.foreign = s.upl.foreign ∧
    (warnRecord old new cause s).upl.kindDiscards = s.upl.kindDiscards ∧
    (warnRecord old new cause s).upl.huntDiscards = s.upl.huntDiscards ∧
    (warnRecord old new cause s).upl.lastChar = s.upl.lastChar ∧ (warnRecord old new cause s).upl.tail = s.upl.tail ∧
    (warnRecord old new cause s).upl.ready = s.upl.ready ∧ (warnRecord old new cause s).ctl = s.ctl ∧
    (warnRecord old new cause s).lines = s.lines ∧ (warnRecord old new cause s).resetLine = s.resetLine ∧
    (warnRecord old new cause s).lastReset = s.lastReset ∧ (warnRecord old new cause s).pending = s.pending := by
  simp [warnRecord]

@[simp] theorem imposeInterlock_frame (s : State) :
    (imposeInterlock s).clk = s.clk ∧ (imposeInterlock s).tbl = s.tbl ∧ (imposeInterlock s).stg = s.stg ∧
    (imposeInterlock s).rat = s.rat ∧ (imposeInterlock s).wrn = s.wrn ∧
    (imposeInterlock s).pls.rotorIn = s.pls.rotorIn ∧ (imposeInterlock s).pls.surfaceIn = s.pls.surfaceIn ∧
    (imposeInterlock s).pls.bottomIn = s.pls.bottomIn ∧ (imposeInterlock s).run.marker = s.run.marker ∧
    (imposeInterlock s).run.held = s.run.held ∧ (imposeInterlock s).run.position = s.run.position ∧
    (imposeInterlock s).run.grantKnown = s.run.grantKnown ∧ (imposeInterlock s).loop.rate = s.loop.rate ∧
    (imposeInterlock s).loop.txn = s.loop.txn ∧ (imposeInterlock s).loop.rx = s.loop.rx ∧
    (imposeInterlock s).loop.jam = s.loop.jam ∧ (imposeInterlock s).loop.lineBreak = s.loop.lineBreak ∧
    (imposeInterlock s).loop.lowSince = s.loop.lowSince ∧ (imposeInterlock s).loop.highSince = s.loop.highSince ∧
    (imposeInterlock s).loop.sched = s.loop.sched ∧ (imposeInterlock s).loop.nodeFail = s.loop.nodeFail ∧
    (imposeInterlock s).loop.faults = s.loop.faults ∧ (imposeInterlock s).loop.unsolicited = s.loop.unsolicited ∧
    (imposeInterlock s).loop.droppedService = s.loop.droppedService ∧
    (imposeInterlock s).loop.serviceQ = s.loop.serviceQ ∧ (imposeInterlock s).loop.tx = s.loop.tx ∧
    (imposeInterlock s).loop.grant.node = s.loop.grant.node ∧
    (imposeInterlock s).loop.grant.limit = s.loop.grant.limit ∧
    (imposeInterlock s).loop.grant.mode = s.loop.grant.mode ∧
    (imposeInterlock s).loop.grant.count = s.loop.grant.count ∧
    (imposeInterlock s).loop.grant.began = s.loop.grant.began ∧
    (imposeInterlock s).loop.grant.wait = s.loop.grant.wait ∧
    (imposeInterlock s).loop.grant.interleaveAt = s.loop.grant.interleaveAt ∧
    (imposeInterlock s).loop.grant.lastEnd = s.loop.grant.lastEnd ∧
    (imposeInterlock s).loop.grant.begun = s.loop.grant.begun ∧ (imposeInterlock s).cht = s.cht ∧
    (imposeInterlock s).store = s.store ∧ (imposeInterlock s).upl = s.upl ∧ (imposeInterlock s).ctl = s.ctl ∧
    (imposeInterlock s).lines = s.lines ∧ (imposeInterlock s).resetLine = s.resetLine ∧
    (imposeInterlock s).lastReset = s.lastReset ∧ (imposeInterlock s).pending = s.pending := by
  simp [imposeInterlock]

@[simp] theorem rise_frame (target : Nat) (s : State) :
    (rise target s).clk = s.clk ∧ (rise target s).tbl = s.tbl ∧ (rise target s).stg = s.stg ∧
    (rise target s).rat = s.rat ∧ (rise target s).wrn.rules = s.wrn.rules ∧
    (rise target s).wrn.stageLost = s.wrn.stageLost ∧ (rise target s).wrn.target = s.wrn.target ∧
    (rise target s).wrn.resetHold = s.wrn.resetHold ∧ (rise target s).pls.rotorIn = s.pls.rotorIn ∧
    (rise target s).pls.surfaceIn = s.pls.surfaceIn ∧ (rise target s).pls.bottomIn = s.pls.bottomIn ∧
    (rise target s).run.marker = s.run.marker ∧ (rise target s).run.held = s.run.held ∧
    (rise target s).run.position = s.run.position ∧ (rise target s).run.grantKnown = s.run.grantKnown ∧
    (rise target s).loop.rate = s.loop.rate ∧ (rise target s).loop.txn = s.loop.txn ∧
    (rise target s).loop.rx = s.loop.rx ∧ (rise target s).loop.jam = s.loop.jam ∧
    (rise target s).loop.lineBreak = s.loop.lineBreak ∧ (rise target s).loop.lowSince = s.loop.lowSince ∧
    (rise target s).loop.highSince = s.loop.highSince ∧ (rise target s).loop.sched = s.loop.sched ∧
    (rise target s).loop.nodeFail = s.loop.nodeFail ∧ (rise target s).loop.faults = s.loop.faults ∧
    (rise target s).loop.unsolicited = s.loop.unsolicited ∧
    (rise target s).loop.droppedService = s.loop.droppedService ∧ (rise target s).loop.serviceQ = s.loop.serviceQ ∧
    (rise target s).loop.tx = s.loop.tx ∧ (rise target s).loop.grant.node = s.loop.grant.node ∧
    (rise target s).loop.grant.limit = s.loop.grant.limit ∧ (rise target s).loop.grant.mode = s.loop.grant.mode ∧
    (rise target s).loop.grant.count = s.loop.grant.count ∧ (rise target s).loop.grant.began = s.loop.grant.began ∧
    (rise target s).loop.grant.wait = s.loop.grant.wait ∧
    (rise target s).loop.grant.interleaveAt = s.loop.grant.interleaveAt ∧
    (rise target s).loop.grant.lastEnd = s.loop.grant.lastEnd ∧
    (rise target s).loop.grant.begun = s.loop.grant.begun ∧ (rise target s).cht = s.cht ∧
    (rise target s).upl.rate = s.upl.rate ∧ (rise target s).upl.slot = s.upl.slot ∧
    (rise target s).upl.fwdQ = s.upl.fwdQ ∧ (rise target s).upl.nextFwd = s.upl.nextFwd ∧
    (rise target s).upl.assembling = s.upl.assembling ∧ (rise target s).upl.framing = s.upl.framing ∧
    (rise target s).upl.gap = s.upl.gap ∧ (rise target s).upl.length = s.upl.length ∧
    (rise target s).upl.crc = s.upl.crc ∧ (rise target s).upl.linkLost = s.upl.linkLost ∧
    (rise target s).upl.foreign = s.upl.foreign ∧ (rise target s).upl.kindDiscards = s.upl.kindDiscards ∧
    (rise target s).upl.huntDiscards = s.upl.huntDiscards ∧
    (rise target s).upl.lastChar = s.upl.lastChar ∧ (rise target s).upl.tail = s.upl.tail ∧
    (rise target s).upl.ready = s.upl.ready ∧
    (rise target s).ctl = s.ctl ∧ (rise target s).lines = s.lines ∧ (rise target s).resetLine = s.resetLine ∧
    (rise target s).lastReset = s.lastReset ∧ (rise target s).pending = s.pending := by
  unfold rise
  dsimp only
  split <;> simp

@[simp] theorem standDownFall_frame (s : State) :
    (standDownFall s).clk = s.clk ∧ (standDownFall s).tbl = s.tbl ∧ (standDownFall s).stg = s.stg ∧
    (standDownFall s).rat = s.rat ∧ (standDownFall s).wrn.rules = s.wrn.rules ∧
    (standDownFall s).wrn.stageLost = s.wrn.stageLost ∧ (standDownFall s).wrn.target = s.wrn.target ∧
    (standDownFall s).wrn.resetHold = s.wrn.resetHold ∧ (standDownFall s).wrn.silenced = s.wrn.silenced ∧
    (standDownFall s).pls = s.pls ∧ (standDownFall s).run = s.run ∧ (standDownFall s).loop = s.loop ∧
    (standDownFall s).cht = s.cht ∧ (standDownFall s).upl.rate = s.upl.rate ∧
    (standDownFall s).upl.slot = s.upl.slot ∧ (standDownFall s).upl.fwdQ = s.upl.fwdQ ∧
    (standDownFall s).upl.nextFwd = s.upl.nextFwd ∧ (standDownFall s).upl.assembling = s.upl.assembling ∧
    (standDownFall s).upl.framing = s.upl.framing ∧ (standDownFall s).upl.gap = s.upl.gap ∧
    (standDownFall s).upl.length = s.upl.length ∧ (standDownFall s).upl.crc = s.upl.crc ∧
    (standDownFall s).upl.linkLost = s.upl.linkLost ∧ (standDownFall s).upl.foreign = s.upl.foreign ∧
    (standDownFall s).upl.kindDiscards = s.upl.kindDiscards ∧
    (standDownFall s).upl.huntDiscards = s.upl.huntDiscards ∧
    (standDownFall s).upl.lastChar = s.upl.lastChar ∧ (standDownFall s).upl.tail = s.upl.tail ∧
    (standDownFall s).upl.ready = s.upl.ready ∧
    (standDownFall s).ctl = s.ctl ∧ (standDownFall s).lines = s.lines ∧ (standDownFall s).resetLine = s.resetLine ∧
    (standDownFall s).lastReset = s.lastReset ∧ (standDownFall s).pending = s.pending := by
  simp [standDownFall]

@[simp] theorem startStandDown_frame (s : State) :
    (startStandDown s).clk = s.clk ∧ (startStandDown s).tbl = s.tbl ∧ (startStandDown s).stg = s.stg ∧
    (startStandDown s).rat = s.rat ∧ (startStandDown s).wrn.rules = s.wrn.rules ∧
    (startStandDown s).wrn.stageLost = s.wrn.stageLost ∧ (startStandDown s).wrn.target = s.wrn.target ∧
    (startStandDown s).wrn.resetHold = s.wrn.resetHold ∧ (startStandDown s).wrn.silenced = s.wrn.silenced ∧
    (startStandDown s).pls = s.pls ∧ (startStandDown s).run = s.run ∧ (startStandDown s).loop = s.loop ∧
    (startStandDown s).cht = s.cht ∧ (startStandDown s).upl.rate = s.upl.rate ∧
    (startStandDown s).upl.slot = s.upl.slot ∧ (startStandDown s).upl.fwdQ = s.upl.fwdQ ∧
    (startStandDown s).upl.nextFwd = s.upl.nextFwd ∧ (startStandDown s).upl.assembling = s.upl.assembling ∧
    (startStandDown s).upl.framing = s.upl.framing ∧ (startStandDown s).upl.gap = s.upl.gap ∧
    (startStandDown s).upl.length = s.upl.length ∧ (startStandDown s).upl.crc = s.upl.crc ∧
    (startStandDown s).upl.linkLost = s.upl.linkLost ∧ (startStandDown s).upl.foreign = s.upl.foreign ∧
    (startStandDown s).upl.kindDiscards = s.upl.kindDiscards ∧
    (startStandDown s).upl.huntDiscards = s.upl.huntDiscards ∧
    (startStandDown s).upl.lastChar = s.upl.lastChar ∧ (startStandDown s).upl.tail = s.upl.tail ∧
    (startStandDown s).upl.ready = s.upl.ready ∧
    (startStandDown s).ctl = s.ctl ∧ (startStandDown s).lines = s.lines ∧
    (startStandDown s).resetLine = s.resetLine ∧ (startStandDown s).lastReset = s.lastReset ∧
    (startStandDown s).pending = s.pending := by
  unfold startStandDown
  dsimp only
  (repeat' split) <;> simp

@[simp] theorem applyTarget_frame (s : State) :
    (applyTarget s).clk = s.clk ∧ (applyTarget s).tbl = s.tbl ∧ (applyTarget s).stg = s.stg ∧
    (applyTarget s).rat = s.rat ∧ (applyTarget s).wrn.rules = s.wrn.rules ∧
    (applyTarget s).wrn.stageLost = s.wrn.stageLost ∧ (applyTarget s).wrn.resetHold = s.wrn.resetHold ∧
    (applyTarget s).pls.rotorIn = s.pls.rotorIn ∧ (applyTarget s).pls.surfaceIn = s.pls.surfaceIn ∧
    (applyTarget s).pls.bottomIn = s.pls.bottomIn ∧ (applyTarget s).run.marker = s.run.marker ∧
    (applyTarget s).run.held = s.run.held ∧ (applyTarget s).run.position = s.run.position ∧
    (applyTarget s).run.grantKnown = s.run.grantKnown ∧ (applyTarget s).loop.rate = s.loop.rate ∧
    (applyTarget s).loop.txn = s.loop.txn ∧ (applyTarget s).loop.rx = s.loop.rx ∧
    (applyTarget s).loop.jam = s.loop.jam ∧ (applyTarget s).loop.lineBreak = s.loop.lineBreak ∧
    (applyTarget s).loop.lowSince = s.loop.lowSince ∧ (applyTarget s).loop.highSince = s.loop.highSince ∧
    (applyTarget s).loop.sched = s.loop.sched ∧ (applyTarget s).loop.nodeFail = s.loop.nodeFail ∧
    (applyTarget s).loop.faults = s.loop.faults ∧ (applyTarget s).loop.unsolicited = s.loop.unsolicited ∧
    (applyTarget s).loop.droppedService = s.loop.droppedService ∧ (applyTarget s).loop.serviceQ = s.loop.serviceQ ∧
    (applyTarget s).loop.tx = s.loop.tx ∧ (applyTarget s).loop.grant.node = s.loop.grant.node ∧
    (applyTarget s).loop.grant.limit = s.loop.grant.limit ∧ (applyTarget s).loop.grant.mode = s.loop.grant.mode ∧
    (applyTarget s).loop.grant.count = s.loop.grant.count ∧ (applyTarget s).loop.grant.began = s.loop.grant.began ∧
    (applyTarget s).loop.grant.wait = s.loop.grant.wait ∧
    (applyTarget s).loop.grant.interleaveAt = s.loop.grant.interleaveAt ∧
    (applyTarget s).loop.grant.lastEnd = s.loop.grant.lastEnd ∧
    (applyTarget s).loop.grant.begun = s.loop.grant.begun ∧ (applyTarget s).cht = s.cht ∧
    (applyTarget s).upl.rate = s.upl.rate ∧ (applyTarget s).upl.slot = s.upl.slot ∧
    (applyTarget s).upl.fwdQ = s.upl.fwdQ ∧ (applyTarget s).upl.nextFwd = s.upl.nextFwd ∧
    (applyTarget s).upl.assembling = s.upl.assembling ∧ (applyTarget s).upl.framing = s.upl.framing ∧
    (applyTarget s).upl.gap = s.upl.gap ∧ (applyTarget s).upl.length = s.upl.length ∧
    (applyTarget s).upl.crc = s.upl.crc ∧ (applyTarget s).upl.linkLost = s.upl.linkLost ∧
    (applyTarget s).upl.foreign = s.upl.foreign ∧ (applyTarget s).upl.kindDiscards = s.upl.kindDiscards ∧
    (applyTarget s).upl.huntDiscards = s.upl.huntDiscards ∧
    (applyTarget s).upl.lastChar = s.upl.lastChar ∧ (applyTarget s).upl.tail = s.upl.tail ∧
    (applyTarget s).upl.ready = s.upl.ready ∧
    (applyTarget s).ctl = s.ctl ∧ (applyTarget s).lines = s.lines ∧ (applyTarget s).resetLine = s.resetLine ∧
    (applyTarget s).lastReset = s.lastReset ∧ (applyTarget s).pending = s.pending := by
  unfold applyTarget
  dsimp only
  (repeat' split) <;> simp

@[simp] theorem endEvaluation_frame (s : State) :
    (endEvaluation s).clk = s.clk ∧ (endEvaluation s).tbl = s.tbl ∧ (endEvaluation s).stg = s.stg ∧
    (endEvaluation s).rat = s.rat ∧ (endEvaluation s).wrn.rules = s.wrn.rules ∧
    (endEvaluation s).wrn.stageLost = s.wrn.stageLost ∧ (endEvaluation s).pls.rotorIn = s.pls.rotorIn ∧
    (endEvaluation s).pls.surfaceIn = s.pls.surfaceIn ∧ (endEvaluation s).pls.bottomIn = s.pls.bottomIn ∧
    (endEvaluation s).run.marker = s.run.marker ∧ (endEvaluation s).run.held = s.run.held ∧
    (endEvaluation s).run.position = s.run.position ∧ (endEvaluation s).run.grantKnown = s.run.grantKnown ∧
    (endEvaluation s).loop.rate = s.loop.rate ∧ (endEvaluation s).loop.txn = s.loop.txn ∧
    (endEvaluation s).loop.rx = s.loop.rx ∧ (endEvaluation s).loop.jam = s.loop.jam ∧
    (endEvaluation s).loop.lineBreak = s.loop.lineBreak ∧ (endEvaluation s).loop.lowSince = s.loop.lowSince ∧
    (endEvaluation s).loop.highSince = s.loop.highSince ∧ (endEvaluation s).loop.sched = s.loop.sched ∧
    (endEvaluation s).loop.nodeFail = s.loop.nodeFail ∧ (endEvaluation s).loop.faults = s.loop.faults ∧
    (endEvaluation s).loop.unsolicited = s.loop.unsolicited ∧
    (endEvaluation s).loop.droppedService = s.loop.droppedService ∧
    (endEvaluation s).loop.serviceQ = s.loop.serviceQ ∧ (endEvaluation s).loop.tx = s.loop.tx ∧
    (endEvaluation s).loop.grant.node = s.loop.grant.node ∧ (endEvaluation s).loop.grant.limit = s.loop.grant.limit ∧
    (endEvaluation s).loop.grant.mode = s.loop.grant.mode ∧ (endEvaluation s).loop.grant.count = s.loop.grant.count ∧
    (endEvaluation s).loop.grant.began = s.loop.grant.began ∧ (endEvaluation s).loop.grant.wait = s.loop.grant.wait ∧
    (endEvaluation s).loop.grant.interleaveAt = s.loop.grant.interleaveAt ∧
    (endEvaluation s).loop.grant.lastEnd = s.loop.grant.lastEnd ∧
    (endEvaluation s).loop.grant.begun = s.loop.grant.begun ∧ (endEvaluation s).cht = s.cht ∧
    (endEvaluation s).upl.rate = s.upl.rate ∧ (endEvaluation s).upl.slot = s.upl.slot ∧
    (endEvaluation s).upl.fwdQ = s.upl.fwdQ ∧ (endEvaluation s).upl.nextFwd = s.upl.nextFwd ∧
    (endEvaluation s).upl.assembling = s.upl.assembling ∧ (endEvaluation s).upl.framing = s.upl.framing ∧
    (endEvaluation s).upl.gap = s.upl.gap ∧ (endEvaluation s).upl.length = s.upl.length ∧
    (endEvaluation s).upl.crc = s.upl.crc ∧ (endEvaluation s).upl.linkLost = s.upl.linkLost ∧
    (endEvaluation s).upl.foreign = s.upl.foreign ∧ (endEvaluation s).upl.kindDiscards = s.upl.kindDiscards ∧
    (endEvaluation s).upl.huntDiscards = s.upl.huntDiscards ∧
    (endEvaluation s).upl.lastChar = s.upl.lastChar ∧ (endEvaluation s).upl.tail = s.upl.tail ∧
    (endEvaluation s).upl.ready = s.upl.ready ∧
    (endEvaluation s).ctl = s.ctl ∧ (endEvaluation s).lines = s.lines ∧ (endEvaluation s).resetLine = s.resetLine ∧
    (endEvaluation s).lastReset = s.lastReset ∧ (endEvaluation s).pending = s.pending := by
  simp [endEvaluation]

@[simp] theorem wrnStage_frame (stage : Int) (discharge : Option Nat) (s : State) :
    (wrnStage stage discharge s).clk = s.clk ∧ (wrnStage stage discharge s).tbl = s.tbl ∧
    (wrnStage stage discharge s).stg = s.stg ∧ (wrnStage stage discharge s).rat = s.rat ∧
    (wrnStage stage discharge s).pls.rotorIn = s.pls.rotorIn ∧
    (wrnStage stage discharge s).pls.surfaceIn = s.pls.surfaceIn ∧
    (wrnStage stage discharge s).pls.bottomIn = s.pls.bottomIn ∧
    (wrnStage stage discharge s).run.marker = s.run.marker ∧ (wrnStage stage discharge s).run.held = s.run.held ∧
    (wrnStage stage discharge s).run.position = s.run.position ∧
    (wrnStage stage discharge s).run.grantKnown = s.run.grantKnown ∧
    (wrnStage stage discharge s).loop.rate = s.loop.rate ∧ (wrnStage stage discharge s).loop.txn = s.loop.txn ∧
    (wrnStage stage discharge s).loop.rx = s.loop.rx ∧ (wrnStage stage discharge s).loop.jam = s.loop.jam ∧
    (wrnStage stage discharge s).loop.lineBreak = s.loop.lineBreak ∧
    (wrnStage stage discharge s).loop.lowSince = s.loop.lowSince ∧
    (wrnStage stage discharge s).loop.highSince = s.loop.highSince ∧
    (wrnStage stage discharge s).loop.sched = s.loop.sched ∧
    (wrnStage stage discharge s).loop.nodeFail = s.loop.nodeFail ∧
    (wrnStage stage discharge s).loop.faults = s.loop.faults ∧
    (wrnStage stage discharge s).loop.unsolicited = s.loop.unsolicited ∧
    (wrnStage stage discharge s).loop.droppedService = s.loop.droppedService ∧
    (wrnStage stage discharge s).loop.serviceQ = s.loop.serviceQ ∧ (wrnStage stage discharge s).loop.tx = s.loop.tx ∧
    (wrnStage stage discharge s).loop.grant.node = s.loop.grant.node ∧
    (wrnStage stage discharge s).loop.grant.limit = s.loop.grant.limit ∧
    (wrnStage stage discharge s).loop.grant.mode = s.loop.grant.mode ∧
    (wrnStage stage discharge s).loop.grant.count = s.loop.grant.count ∧
    (wrnStage stage discharge s).loop.grant.began = s.loop.grant.began ∧
    (wrnStage stage discharge s).loop.grant.wait = s.loop.grant.wait ∧
    (wrnStage stage discharge s).loop.grant.interleaveAt = s.loop.grant.interleaveAt ∧
    (wrnStage stage discharge s).loop.grant.lastEnd = s.loop.grant.lastEnd ∧
    (wrnStage stage discharge s).loop.grant.begun = s.loop.grant.begun ∧ (wrnStage stage discharge s).cht = s.cht ∧
    (wrnStage stage discharge s).upl.rate = s.upl.rate ∧ (wrnStage stage discharge s).upl.slot = s.upl.slot ∧
    (wrnStage stage discharge s).upl.fwdQ = s.upl.fwdQ ∧ (wrnStage stage discharge s).upl.nextFwd = s.upl.nextFwd ∧
    (wrnStage stage discharge s).upl.assembling = s.upl.assembling ∧
    (wrnStage stage discharge s).upl.framing = s.upl.framing ∧ (wrnStage stage discharge s).upl.gap = s.upl.gap ∧
    (wrnStage stage discharge s).upl.length = s.upl.length ∧ (wrnStage stage discharge s).upl.crc = s.upl.crc ∧
    (wrnStage stage discharge s).upl.linkLost = s.upl.linkLost ∧
    (wrnStage stage discharge s).upl.foreign = s.upl.foreign ∧
    (wrnStage stage discharge s).upl.kindDiscards = s.upl.kindDiscards ∧
    (wrnStage stage discharge s).upl.huntDiscards = s.upl.huntDiscards ∧
    (wrnStage stage discharge s).upl.lastChar = s.upl.lastChar ∧ (wrnStage stage discharge s).upl.tail = s.upl.tail ∧
    (wrnStage stage discharge s).upl.ready = s.upl.ready ∧ (wrnStage stage discharge s).ctl = s.ctl ∧
    (wrnStage stage discharge s).lines = s.lines ∧ (wrnStage stage discharge s).resetLine = s.resetLine ∧
    (wrnStage stage discharge s).lastReset = s.lastReset ∧ (wrnStage stage discharge s).pending = s.pending := by
  simp [wrnStage]

@[simp] theorem wrnHistory_frame (s : State) :
    (wrnHistory s).clk = s.clk ∧ (wrnHistory s).tbl = s.tbl ∧ (wrnHistory s).stg = s.stg ∧
    (wrnHistory s).rat = s.rat ∧ (wrnHistory s).wrn.stageLost = s.wrn.stageLost ∧
    (wrnHistory s).pls.rotorIn = s.pls.rotorIn ∧ (wrnHistory s).pls.surfaceIn = s.pls.surfaceIn ∧
    (wrnHistory s).pls.bottomIn = s.pls.bottomIn ∧ (wrnHistory s).run.marker = s.run.marker ∧
    (wrnHistory s).run.held = s.run.held ∧ (wrnHistory s).run.position = s.run.position ∧
    (wrnHistory s).run.grantKnown = s.run.grantKnown ∧ (wrnHistory s).loop.rate = s.loop.rate ∧
    (wrnHistory s).loop.txn = s.loop.txn ∧ (wrnHistory s).loop.rx = s.loop.rx ∧
    (wrnHistory s).loop.jam = s.loop.jam ∧ (wrnHistory s).loop.lineBreak = s.loop.lineBreak ∧
    (wrnHistory s).loop.lowSince = s.loop.lowSince ∧ (wrnHistory s).loop.highSince = s.loop.highSince ∧
    (wrnHistory s).loop.sched = s.loop.sched ∧ (wrnHistory s).loop.nodeFail = s.loop.nodeFail ∧
    (wrnHistory s).loop.faults = s.loop.faults ∧ (wrnHistory s).loop.unsolicited = s.loop.unsolicited ∧
    (wrnHistory s).loop.droppedService = s.loop.droppedService ∧ (wrnHistory s).loop.serviceQ = s.loop.serviceQ ∧
    (wrnHistory s).loop.tx = s.loop.tx ∧ (wrnHistory s).loop.grant.node = s.loop.grant.node ∧
    (wrnHistory s).loop.grant.limit = s.loop.grant.limit ∧ (wrnHistory s).loop.grant.mode = s.loop.grant.mode ∧
    (wrnHistory s).loop.grant.count = s.loop.grant.count ∧ (wrnHistory s).loop.grant.began = s.loop.grant.began ∧
    (wrnHistory s).loop.grant.wait = s.loop.grant.wait ∧
    (wrnHistory s).loop.grant.interleaveAt = s.loop.grant.interleaveAt ∧
    (wrnHistory s).loop.grant.lastEnd = s.loop.grant.lastEnd ∧ (wrnHistory s).loop.grant.begun = s.loop.grant.begun ∧
    (wrnHistory s).cht = s.cht ∧ (wrnHistory s).upl.rate = s.upl.rate ∧ (wrnHistory s).upl.slot = s.upl.slot ∧
    (wrnHistory s).upl.fwdQ = s.upl.fwdQ ∧ (wrnHistory s).upl.nextFwd = s.upl.nextFwd ∧
    (wrnHistory s).upl.assembling = s.upl.assembling ∧ (wrnHistory s).upl.framing = s.upl.framing ∧
    (wrnHistory s).upl.gap = s.upl.gap ∧ (wrnHistory s).upl.length = s.upl.length ∧
    (wrnHistory s).upl.crc = s.upl.crc ∧ (wrnHistory s).upl.linkLost = s.upl.linkLost ∧
    (wrnHistory s).upl.foreign = s.upl.foreign ∧ (wrnHistory s).upl.kindDiscards = s.upl.kindDiscards ∧
    (wrnHistory s).upl.huntDiscards = s.upl.huntDiscards ∧
    (wrnHistory s).upl.lastChar = s.upl.lastChar ∧ (wrnHistory s).upl.tail = s.upl.tail ∧
    (wrnHistory s).upl.ready = s.upl.ready ∧
    (wrnHistory s).ctl = s.ctl ∧ (wrnHistory s).lines = s.lines ∧ (wrnHistory s).resetLine = s.resetLine ∧
    (wrnHistory s).lastReset = s.lastReset ∧ (wrnHistory s).pending = s.pending := by
  simp [wrnHistory]

@[simp] theorem wrnStageLost_frame (s : State) :
    (wrnStageLost s).clk = s.clk ∧ (wrnStageLost s).tbl = s.tbl ∧ (wrnStageLost s).stg = s.stg ∧
    (wrnStageLost s).rat = s.rat ∧ (wrnStageLost s).wrn.rules = s.wrn.rules ∧
    (wrnStageLost s).wrn.resetHold = s.wrn.resetHold ∧ (wrnStageLost s).pls.rotorIn = s.pls.rotorIn ∧
    (wrnStageLost s).pls.surfaceIn = s.pls.surfaceIn ∧ (wrnStageLost s).pls.bottomIn = s.pls.bottomIn ∧
    (wrnStageLost s).run.marker = s.run.marker ∧ (wrnStageLost s).run.held = s.run.held ∧
    (wrnStageLost s).run.position = s.run.position ∧ (wrnStageLost s).run.grantKnown = s.run.grantKnown ∧
    (wrnStageLost s).loop.rate = s.loop.rate ∧ (wrnStageLost s).loop.txn = s.loop.txn ∧
    (wrnStageLost s).loop.rx = s.loop.rx ∧ (wrnStageLost s).loop.jam = s.loop.jam ∧
    (wrnStageLost s).loop.lineBreak = s.loop.lineBreak ∧ (wrnStageLost s).loop.lowSince = s.loop.lowSince ∧
    (wrnStageLost s).loop.highSince = s.loop.highSince ∧ (wrnStageLost s).loop.sched = s.loop.sched ∧
    (wrnStageLost s).loop.nodeFail = s.loop.nodeFail ∧ (wrnStageLost s).loop.faults = s.loop.faults ∧
    (wrnStageLost s).loop.unsolicited = s.loop.unsolicited ∧
    (wrnStageLost s).loop.droppedService = s.loop.droppedService ∧ (wrnStageLost s).loop.serviceQ = s.loop.serviceQ ∧
    (wrnStageLost s).loop.tx = s.loop.tx ∧ (wrnStageLost s).loop.grant.node = s.loop.grant.node ∧
    (wrnStageLost s).loop.grant.limit = s.loop.grant.limit ∧ (wrnStageLost s).loop.grant.mode = s.loop.grant.mode ∧
    (wrnStageLost s).loop.grant.count = s.loop.grant.count ∧ (wrnStageLost s).loop.grant.began = s.loop.grant.began ∧
    (wrnStageLost s).loop.grant.wait = s.loop.grant.wait ∧
    (wrnStageLost s).loop.grant.interleaveAt = s.loop.grant.interleaveAt ∧
    (wrnStageLost s).loop.grant.lastEnd = s.loop.grant.lastEnd ∧
    (wrnStageLost s).loop.grant.begun = s.loop.grant.begun ∧ (wrnStageLost s).cht = s.cht ∧
    (wrnStageLost s).upl.rate = s.upl.rate ∧ (wrnStageLost s).upl.slot = s.upl.slot ∧
    (wrnStageLost s).upl.fwdQ = s.upl.fwdQ ∧ (wrnStageLost s).upl.nextFwd = s.upl.nextFwd ∧
    (wrnStageLost s).upl.assembling = s.upl.assembling ∧ (wrnStageLost s).upl.framing = s.upl.framing ∧
    (wrnStageLost s).upl.gap = s.upl.gap ∧ (wrnStageLost s).upl.length = s.upl.length ∧
    (wrnStageLost s).upl.crc = s.upl.crc ∧ (wrnStageLost s).upl.linkLost = s.upl.linkLost ∧
    (wrnStageLost s).upl.foreign = s.upl.foreign ∧ (wrnStageLost s).upl.kindDiscards = s.upl.kindDiscards ∧
    (wrnStageLost s).upl.huntDiscards = s.upl.huntDiscards ∧
    (wrnStageLost s).upl.lastChar = s.upl.lastChar ∧ (wrnStageLost s).upl.tail = s.upl.tail ∧
    (wrnStageLost s).upl.ready = s.upl.ready ∧
    (wrnStageLost s).ctl = s.ctl ∧ (wrnStageLost s).lines = s.lines ∧ (wrnStageLost s).resetLine = s.resetLine ∧
    (wrnStageLost s).lastReset = s.lastReset ∧ (wrnStageLost s).pending = s.pending := by
  simp [wrnStageLost]

@[simp] theorem rulesWritten_frame (off len : Nat) (s : State) :
    (rulesWritten off len s).clk = s.clk ∧ (rulesWritten off len s).tbl = s.tbl ∧
    (rulesWritten off len s).stg = s.stg ∧ (rulesWritten off len s).rat = s.rat ∧
    (rulesWritten off len s).wrn.stageLost = s.wrn.stageLost ∧
    (rulesWritten off len s).wrn.resetHold = s.wrn.resetHold ∧ (rulesWritten off len s).pls.rotorIn = s.pls.rotorIn ∧
    (rulesWritten off len s).pls.surfaceIn = s.pls.surfaceIn ∧
    (rulesWritten off len s).pls.bottomIn = s.pls.bottomIn ∧ (rulesWritten off len s).run.marker = s.run.marker ∧
    (rulesWritten off len s).run.held = s.run.held ∧ (rulesWritten off len s).run.position = s.run.position ∧
    (rulesWritten off len s).run.grantKnown = s.run.grantKnown ∧ (rulesWritten off len s).loop.rate = s.loop.rate ∧
    (rulesWritten off len s).loop.txn = s.loop.txn ∧ (rulesWritten off len s).loop.rx = s.loop.rx ∧
    (rulesWritten off len s).loop.jam = s.loop.jam ∧ (rulesWritten off len s).loop.lineBreak = s.loop.lineBreak ∧
    (rulesWritten off len s).loop.lowSince = s.loop.lowSince ∧
    (rulesWritten off len s).loop.highSince = s.loop.highSince ∧ (rulesWritten off len s).loop.sched = s.loop.sched ∧
    (rulesWritten off len s).loop.nodeFail = s.loop.nodeFail ∧ (rulesWritten off len s).loop.faults = s.loop.faults ∧
    (rulesWritten off len s).loop.unsolicited = s.loop.unsolicited ∧
    (rulesWritten off len s).loop.droppedService = s.loop.droppedService ∧
    (rulesWritten off len s).loop.serviceQ = s.loop.serviceQ ∧ (rulesWritten off len s).loop.tx = s.loop.tx ∧
    (rulesWritten off len s).loop.grant.node = s.loop.grant.node ∧
    (rulesWritten off len s).loop.grant.limit = s.loop.grant.limit ∧
    (rulesWritten off len s).loop.grant.mode = s.loop.grant.mode ∧
    (rulesWritten off len s).loop.grant.count = s.loop.grant.count ∧
    (rulesWritten off len s).loop.grant.began = s.loop.grant.began ∧
    (rulesWritten off len s).loop.grant.wait = s.loop.grant.wait ∧
    (rulesWritten off len s).loop.grant.interleaveAt = s.loop.grant.interleaveAt ∧
    (rulesWritten off len s).loop.grant.lastEnd = s.loop.grant.lastEnd ∧
    (rulesWritten off len s).loop.grant.begun = s.loop.grant.begun ∧ (rulesWritten off len s).cht = s.cht ∧
    (rulesWritten off len s).upl.rate = s.upl.rate ∧ (rulesWritten off len s).upl.slot = s.upl.slot ∧
    (rulesWritten off len s).upl.fwdQ = s.upl.fwdQ ∧ (rulesWritten off len s).upl.nextFwd = s.upl.nextFwd ∧
    (rulesWritten off len s).upl.assembling = s.upl.assembling ∧
    (rulesWritten off len s).upl.framing = s.upl.framing ∧ (rulesWritten off len s).upl.gap = s.upl.gap ∧
    (rulesWritten off len s).upl.length = s.upl.length ∧ (rulesWritten off len s).upl.crc = s.upl.crc ∧
    (rulesWritten off len s).upl.linkLost = s.upl.linkLost ∧ (rulesWritten off len s).upl.foreign = s.upl.foreign ∧
    (rulesWritten off len s).upl.kindDiscards = s.upl.kindDiscards ∧
    (rulesWritten off len s).upl.huntDiscards = s.upl.huntDiscards ∧
    (rulesWritten off len s).upl.lastChar = s.upl.lastChar ∧ (rulesWritten off len s).upl.tail = s.upl.tail ∧
    (rulesWritten off len s).upl.ready = s.upl.ready ∧ (rulesWritten off len s).ctl = s.ctl ∧
    (rulesWritten off len s).lines = s.lines ∧ (rulesWritten off len s).resetLine = s.resetLine ∧
    (rulesWritten off len s).lastReset = s.lastReset ∧ (rulesWritten off len s).pending = s.pending := by
  simp [rulesWritten]

@[simp] theorem standDownChanged_frame (old : List Byte) (s : State) :
    (standDownChanged old s).clk = s.clk ∧ (standDownChanged old s).tbl = s.tbl ∧
    (standDownChanged old s).stg = s.stg ∧ (standDownChanged old s).rat = s.rat ∧
    (standDownChanged old s).wrn.rules = s.wrn.rules ∧ (standDownChanged old s).wrn.stageLost = s.wrn.stageLost ∧
    (standDownChanged old s).wrn.target = s.wrn.target ∧ (standDownChanged old s).wrn.resetHold = s.wrn.resetHold ∧
    (standDownChanged old s).wrn.silenced = s.wrn.silenced ∧ (standDownChanged old s).pls = s.pls ∧
    (standDownChanged old s).run = s.run ∧ (standDownChanged old s).loop = s.loop ∧
    (standDownChanged old s).cht = s.cht ∧ (standDownChanged old s).upl.rate = s.upl.rate ∧
    (standDownChanged old s).upl.slot = s.upl.slot ∧ (standDownChanged old s).upl.fwdQ = s.upl.fwdQ ∧
    (standDownChanged old s).upl.nextFwd = s.upl.nextFwd ∧
    (standDownChanged old s).upl.assembling = s.upl.assembling ∧
    (standDownChanged old s).upl.framing = s.upl.framing ∧ (standDownChanged old s).upl.gap = s.upl.gap ∧
    (standDownChanged old s).upl.length = s.upl.length ∧ (standDownChanged old s).upl.crc = s.upl.crc ∧
    (standDownChanged old s).upl.linkLost = s.upl.linkLost ∧ (standDownChanged old s).upl.foreign = s.upl.foreign ∧
    (standDownChanged old s).upl.kindDiscards = s.upl.kindDiscards ∧
    (standDownChanged old s).upl.huntDiscards = s.upl.huntDiscards ∧
    (standDownChanged old s).upl.lastChar = s.upl.lastChar ∧ (standDownChanged old s).upl.tail = s.upl.tail ∧
    (standDownChanged old s).upl.ready = s.upl.ready ∧ (standDownChanged old s).ctl = s.ctl ∧
    (standDownChanged old s).lines = s.lines ∧ (standDownChanged old s).resetLine = s.resetLine ∧
    (standDownChanged old s).lastReset = s.lastReset ∧ (standDownChanged old s).pending = s.pending := by
  unfold standDownChanged
  dsimp only
  (repeat' split) <;> simp

@[simp] theorem stopLevelChanged_frame (old : List Byte) (s : State) :
    (stopLevelChanged old s).clk = s.clk ∧ (stopLevelChanged old s).tbl = s.tbl ∧
    (stopLevelChanged old s).stg = s.stg ∧ (stopLevelChanged old s).rat = s.rat ∧
    (stopLevelChanged old s).wrn = s.wrn ∧ (stopLevelChanged old s).pls.rotorIn = s.pls.rotorIn ∧
    (stopLevelChanged old s).pls.surfaceIn = s.pls.surfaceIn ∧
    (stopLevelChanged old s).pls.bottomIn = s.pls.bottomIn ∧ (stopLevelChanged old s).run.marker = s.run.marker ∧
    (stopLevelChanged old s).run.held = s.run.held ∧ (stopLevelChanged old s).run.position = s.run.position ∧
    (stopLevelChanged old s).run.grantKnown = s.run.grantKnown ∧ (stopLevelChanged old s).loop.rate = s.loop.rate ∧
    (stopLevelChanged old s).loop.txn = s.loop.txn ∧ (stopLevelChanged old s).loop.rx = s.loop.rx ∧
    (stopLevelChanged old s).loop.jam = s.loop.jam ∧ (stopLevelChanged old s).loop.lineBreak = s.loop.lineBreak ∧
    (stopLevelChanged old s).loop.lowSince = s.loop.lowSince ∧
    (stopLevelChanged old s).loop.highSince = s.loop.highSince ∧ (stopLevelChanged old s).loop.sched = s.loop.sched ∧
    (stopLevelChanged old s).loop.nodeFail = s.loop.nodeFail ∧ (stopLevelChanged old s).loop.faults = s.loop.faults ∧
    (stopLevelChanged old s).loop.unsolicited = s.loop.unsolicited ∧
    (stopLevelChanged old s).loop.droppedService = s.loop.droppedService ∧
    (stopLevelChanged old s).loop.serviceQ = s.loop.serviceQ ∧ (stopLevelChanged old s).loop.tx = s.loop.tx ∧
    (stopLevelChanged old s).loop.grant.node = s.loop.grant.node ∧
    (stopLevelChanged old s).loop.grant.limit = s.loop.grant.limit ∧
    (stopLevelChanged old s).loop.grant.mode = s.loop.grant.mode ∧
    (stopLevelChanged old s).loop.grant.count = s.loop.grant.count ∧
    (stopLevelChanged old s).loop.grant.began = s.loop.grant.began ∧
    (stopLevelChanged old s).loop.grant.wait = s.loop.grant.wait ∧
    (stopLevelChanged old s).loop.grant.interleaveAt = s.loop.grant.interleaveAt ∧
    (stopLevelChanged old s).loop.grant.lastEnd = s.loop.grant.lastEnd ∧
    (stopLevelChanged old s).loop.grant.begun = s.loop.grant.begun ∧ (stopLevelChanged old s).cht = s.cht ∧
    (stopLevelChanged old s).store = s.store ∧ (stopLevelChanged old s).upl = s.upl ∧
    (stopLevelChanged old s).ctl = s.ctl ∧ (stopLevelChanged old s).lines = s.lines ∧
    (stopLevelChanged old s).resetLine = s.resetLine ∧ (stopLevelChanged old s).lastReset = s.lastReset ∧
    (stopLevelChanged old s).pending = s.pending := by
  unfold stopLevelChanged
  split <;> simp

@[simp] theorem wrnFresh_frame (level : Nat) (s : State) :
    (wrnFresh level s).clk = s.clk ∧ (wrnFresh level s).tbl = s.tbl ∧ (wrnFresh level s).stg = s.stg ∧
    (wrnFresh level s).rat = s.rat ∧ (wrnFresh level s).wrn.target = s.wrn.target ∧ (wrnFresh level s).pls = s.pls ∧
    (wrnFresh level s).run = s.run ∧ (wrnFresh level s).loop = s.loop ∧ (wrnFresh level s).cht = s.cht ∧
    (wrnFresh level s).store = s.store ∧ (wrnFresh level s).upl = s.upl ∧ (wrnFresh level s).ctl = s.ctl ∧
    (wrnFresh level s).lines = s.lines ∧ (wrnFresh level s).resetLine = s.resetLine ∧
    (wrnFresh level s).lastReset = s.lastReset ∧ (wrnFresh level s).pending = s.pending := by
  simp [wrnFresh]

@[simp] theorem Stg.setSource_frame (g : Stg) (src : Source) (r : SourceRec) :
    (Stg.setSource g src r).selection = g.selection ∧ (Stg.setSource g src r).recovery = g.recovery ∧
    (Stg.setSource g src r).offset = g.offset ∧ (Stg.setSource g src r).selected = g.selected ∧
    (Stg.setSource g src r).history = g.history ∧ (Stg.setSource g src r).historyAt = g.historyAt ∧
    (Stg.setSource g src r).openStart = g.openStart ∧ (Stg.setSource g src r).nextBoundary = g.nextBoundary ∧
    (Stg.setSource g src r).acc = g.acc := by
  unfold Stg.setSource
  split <;> simp

@[simp] theorem Stg.align_frame (g : Stg) (v : Sample) :
    (Stg.align g v).prim = g.prim ∧ (Stg.align g v).sec = g.sec ∧ (Stg.align g v).selection = g.selection ∧
    (Stg.align g v).recovery = g.recovery ∧ (Stg.align g v).selected = g.selected ∧
    (Stg.align g v).history = g.history ∧ (Stg.align g v).historyAt = g.historyAt ∧
    (Stg.align g v).openStart = g.openStart ∧ (Stg.align g v).nextBoundary = g.nextBoundary ∧
    (Stg.align g v).acc = g.acc := by
  unfold Stg.align
  split <;> simp

@[simp] theorem markInterval_frame (f : IntervalFlags) (s : State) :
    (markInterval f s).clk = s.clk ∧ (markInterval f s).tbl = s.tbl ∧ (markInterval f s).stg.prim = s.stg.prim ∧
    (markInterval f s).stg.sec = s.stg.sec ∧ (markInterval f s).stg.selection = s.stg.selection ∧
    (markInterval f s).stg.recovery = s.stg.recovery ∧ (markInterval f s).stg.offset = s.stg.offset ∧
    (markInterval f s).stg.selected = s.stg.selected ∧ (markInterval f s).stg.history = s.stg.history ∧
    (markInterval f s).stg.historyAt = s.stg.historyAt ∧ (markInterval f s).stg.openStart = s.stg.openStart ∧
    (markInterval f s).stg.nextBoundary = s.stg.nextBoundary ∧ (markInterval f s).rat = s.rat ∧
    (markInterval f s).wrn = s.wrn ∧ (markInterval f s).pls = s.pls ∧ (markInterval f s).run = s.run ∧
    (markInterval f s).loop = s.loop ∧ (markInterval f s).cht = s.cht ∧ (markInterval f s).store = s.store ∧
    (markInterval f s).upl = s.upl ∧ (markInterval f s).ctl = s.ctl ∧ (markInterval f s).lines = s.lines ∧
    (markInterval f s).resetLine = s.resetLine ∧ (markInterval f s).lastReset = s.lastReset ∧
    (markInterval f s).pending = s.pending := by
  simp [markInterval]

@[simp] theorem closeInterval_frame (s : State) :
    (closeInterval s).clk = s.clk ∧ (closeInterval s).tbl = s.tbl ∧ (closeInterval s).stg = s.stg ∧
    (closeInterval s).rat = s.rat ∧ (closeInterval s).wrn = s.wrn ∧ (closeInterval s).pls = s.pls ∧
    (closeInterval s).run = s.run ∧ (closeInterval s).loop = s.loop ∧ (closeInterval s).cht = s.cht ∧
    (closeInterval s).upl.rate = s.upl.rate ∧ (closeInterval s).upl.slot = s.upl.slot ∧
    (closeInterval s).upl.fwdQ = s.upl.fwdQ ∧ (closeInterval s).upl.nextFwd = s.upl.nextFwd ∧
    (closeInterval s).upl.assembling = s.upl.assembling ∧ (closeInterval s).upl.framing = s.upl.framing ∧
    (closeInterval s).upl.gap = s.upl.gap ∧ (closeInterval s).upl.length = s.upl.length ∧
    (closeInterval s).upl.crc = s.upl.crc ∧ (closeInterval s).upl.linkLost = s.upl.linkLost ∧
    (closeInterval s).upl.foreign = s.upl.foreign ∧ (closeInterval s).upl.kindDiscards = s.upl.kindDiscards ∧
    (closeInterval s).upl.huntDiscards = s.upl.huntDiscards ∧
    (closeInterval s).upl.lastChar = s.upl.lastChar ∧ (closeInterval s).upl.tail = s.upl.tail ∧
    (closeInterval s).upl.ready = s.upl.ready ∧
    (closeInterval s).ctl = s.ctl ∧ (closeInterval s).lines = s.lines ∧ (closeInterval s).resetLine = s.resetLine ∧
    (closeInterval s).lastReset = s.lastReset ∧ (closeInterval s).pending = s.pending := by
  simp [closeInterval]

@[simp] theorem openInterval_frame (start after : Nat) (s : State) :
    (openInterval start after s).clk = s.clk ∧ (openInterval start after s).tbl = s.tbl ∧
    (openInterval start after s).stg.prim = s.stg.prim ∧ (openInterval start after s).stg.sec = s.stg.sec ∧
    (openInterval start after s).stg.selection = s.stg.selection ∧
    (openInterval start after s).stg.recovery = s.stg.recovery ∧
    (openInterval start after s).stg.offset = s.stg.offset ∧
    (openInterval start after s).stg.selected = s.stg.selected ∧
    (openInterval start after s).stg.history = s.stg.history ∧
    (openInterval start after s).stg.historyAt = s.stg.historyAt ∧ (openInterval start after s).rat = s.rat ∧
    (openInterval start after s).wrn = s.wrn ∧ (openInterval start after s).pls = s.pls ∧
    (openInterval start after s).run = s.run ∧ (openInterval start after s).loop = s.loop ∧
    (openInterval start after s).cht = s.cht ∧ (openInterval start after s).store = s.store ∧
    (openInterval start after s).upl = s.upl ∧ (openInterval start after s).ctl = s.ctl ∧
    (openInterval start after s).lines = s.lines ∧ (openInterval start after s).resetLine = s.resetLine ∧
    (openInterval start after s).lastReset = s.lastReset ∧ (openInterval start after s).pending = s.pending := by
  simp [openInterval]

@[simp] theorem publish_frame (s : State) :
    (publish s).clk = s.clk ∧ (publish s).tbl = s.tbl ∧ (publish s).stg.prim = s.stg.prim ∧
    (publish s).stg.sec = s.stg.sec ∧ (publish s).stg.selection = s.stg.selection ∧
    (publish s).stg.recovery = s.stg.recovery ∧ (publish s).stg.offset = s.stg.offset ∧
    (publish s).stg.history = s.stg.history ∧ (publish s).stg.historyAt = s.stg.historyAt ∧
    (publish s).stg.openStart = s.stg.openStart ∧ (publish s).stg.nextBoundary = s.stg.nextBoundary ∧
    (publish s).rat.live = s.rat.live ∧ (publish s).rat.shifts = s.rat.shifts ∧
    (publish s).pls.rotorIn = s.pls.rotorIn ∧ (publish s).pls.surfaceIn = s.pls.surfaceIn ∧
    (publish s).pls.bottomIn = s.pls.bottomIn ∧ (publish s).run.marker = s.run.marker ∧
    (publish s).run.held = s.run.held ∧ (publish s).run.position = s.run.position ∧
    (publish s).run.grantKnown = s.run.grantKnown ∧ (publish s).loop.rate = s.loop.rate ∧
    (publish s).loop.txn = s.loop.txn ∧ (publish s).loop.rx = s.loop.rx ∧ (publish s).loop.jam = s.loop.jam ∧
    (publish s).loop.lineBreak = s.loop.lineBreak ∧ (publish s).loop.lowSince = s.loop.lowSince ∧
    (publish s).loop.highSince = s.loop.highSince ∧ (publish s).loop.sched = s.loop.sched ∧
    (publish s).loop.nodeFail = s.loop.nodeFail ∧ (publish s).loop.faults = s.loop.faults ∧
    (publish s).loop.unsolicited = s.loop.unsolicited ∧ (publish s).loop.droppedService = s.loop.droppedService ∧
    (publish s).loop.serviceQ = s.loop.serviceQ ∧ (publish s).loop.tx = s.loop.tx ∧
    (publish s).loop.grant.node = s.loop.grant.node ∧ (publish s).loop.grant.limit = s.loop.grant.limit ∧
    (publish s).loop.grant.mode = s.loop.grant.mode ∧ (publish s).loop.grant.count = s.loop.grant.count ∧
    (publish s).loop.grant.began = s.loop.grant.began ∧ (publish s).loop.grant.wait = s.loop.grant.wait ∧
    (publish s).loop.grant.interleaveAt = s.loop.grant.interleaveAt ∧
    (publish s).loop.grant.lastEnd = s.loop.grant.lastEnd ∧ (publish s).loop.grant.begun = s.loop.grant.begun ∧
    (publish s).cht = s.cht ∧ (publish s).upl.rate = s.upl.rate ∧ (publish s).upl.slot = s.upl.slot ∧
    (publish s).upl.fwdQ = s.upl.fwdQ ∧ (publish s).upl.nextFwd = s.upl.nextFwd ∧
    (publish s).upl.assembling = s.upl.assembling ∧ (publish s).upl.framing = s.upl.framing ∧
    (publish s).upl.gap = s.upl.gap ∧ (publish s).upl.length = s.upl.length ∧ (publish s).upl.crc = s.upl.crc ∧
    (publish s).upl.linkLost = s.upl.linkLost ∧ (publish s).upl.foreign = s.upl.foreign ∧
    (publish s).upl.kindDiscards = s.upl.kindDiscards ∧ (publish s).upl.huntDiscards = s.upl.huntDiscards ∧
    (publish s).upl.lastChar = s.upl.lastChar ∧ (publish s).upl.tail = s.upl.tail ∧
    (publish s).upl.ready = s.upl.ready ∧ (publish s).ctl = s.ctl ∧ (publish s).lines = s.lines ∧
    (publish s).resetLine = s.resetLine ∧ (publish s).lastReset = s.lastReset ∧ (publish s).pending = s.pending := by
  unfold publish
  split <;> simp

@[simp] theorem loseStage_frame (s : State) :
    (loseStage s).clk = s.clk ∧ (loseStage s).tbl = s.tbl ∧ (loseStage s).stg.prim = s.stg.prim ∧
    (loseStage s).stg.sec = s.stg.sec ∧ (loseStage s).stg.recovery = s.stg.recovery ∧
    (loseStage s).stg.offset = s.stg.offset ∧ (loseStage s).stg.history = s.stg.history ∧
    (loseStage s).stg.historyAt = s.stg.historyAt ∧ (loseStage s).stg.openStart = s.stg.openStart ∧
    (loseStage s).stg.nextBoundary = s.stg.nextBoundary ∧ (loseStage s).rat.live = s.rat.live ∧
    (loseStage s).rat.shifts = s.rat.shifts ∧ (loseStage s).wrn.rules = s.wrn.rules ∧
    (loseStage s).wrn.resetHold = s.wrn.resetHold ∧ (loseStage s).pls.rotorIn = s.pls.rotorIn ∧
    (loseStage s).pls.surfaceIn = s.pls.surfaceIn ∧ (loseStage s).pls.bottomIn = s.pls.bottomIn ∧
    (loseStage s).run.marker = s.run.marker ∧ (loseStage s).run.held = s.run.held ∧
    (loseStage s).run.position = s.run.position ∧ (loseStage s).run.grantKnown = s.run.grantKnown ∧
    (loseStage s).loop.rate = s.loop.rate ∧ (loseStage s).loop.txn = s.loop.txn ∧ (loseStage s).loop.rx = s.loop.rx ∧
    (loseStage s).loop.jam = s.loop.jam ∧ (loseStage s).loop.lineBreak = s.loop.lineBreak ∧
    (loseStage s).loop.lowSince = s.loop.lowSince ∧ (loseStage s).loop.highSince = s.loop.highSince ∧
    (loseStage s).loop.sched = s.loop.sched ∧ (loseStage s).loop.nodeFail = s.loop.nodeFail ∧
    (loseStage s).loop.faults = s.loop.faults ∧ (loseStage s).loop.unsolicited = s.loop.unsolicited ∧
    (loseStage s).loop.droppedService = s.loop.droppedService ∧ (loseStage s).loop.serviceQ = s.loop.serviceQ ∧
    (loseStage s).loop.tx = s.loop.tx ∧ (loseStage s).loop.grant.node = s.loop.grant.node ∧
    (loseStage s).loop.grant.limit = s.loop.grant.limit ∧ (loseStage s).loop.grant.mode = s.loop.grant.mode ∧
    (loseStage s).loop.grant.count = s.loop.grant.count ∧ (loseStage s).loop.grant.began = s.loop.grant.began ∧
    (loseStage s).loop.grant.wait = s.loop.grant.wait ∧
    (loseStage s).loop.grant.interleaveAt = s.loop.grant.interleaveAt ∧
    (loseStage s).loop.grant.lastEnd = s.loop.grant.lastEnd ∧ (loseStage s).loop.grant.begun = s.loop.grant.begun ∧
    (loseStage s).cht = s.cht ∧ (loseStage s).upl.rate = s.upl.rate ∧ (loseStage s).upl.slot = s.upl.slot ∧
    (loseStage s).upl.fwdQ = s.upl.fwdQ ∧ (loseStage s).upl.nextFwd = s.upl.nextFwd ∧
    (loseStage s).upl.assembling = s.upl.assembling ∧ (loseStage s).upl.framing = s.upl.framing ∧
    (loseStage s).upl.gap = s.upl.gap ∧ (loseStage s).upl.length = s.upl.length ∧ (loseStage s).upl.crc = s.upl.crc ∧
    (loseStage s).upl.linkLost = s.upl.linkLost ∧ (loseStage s).upl.foreign = s.upl.foreign ∧
    (loseStage s).upl.kindDiscards = s.upl.kindDiscards ∧ (loseStage s).upl.huntDiscards = s.upl.huntDiscards ∧
    (loseStage s).upl.lastChar = s.upl.lastChar ∧ (loseStage s).upl.tail = s.upl.tail ∧
    (loseStage s).upl.ready = s.upl.ready ∧ (loseStage s).ctl = s.ctl ∧ (loseStage s).lines = s.lines ∧
    (loseStage s).resetLine = s.resetLine ∧ (loseStage s).lastReset = s.lastReset ∧
    (loseStage s).pending = s.pending := by
  simp [loseStage]

@[simp] theorem restoreStage_frame (src : Source) (s : State) :
    (restoreStage src s).clk = s.clk ∧ (restoreStage src s).tbl = s.tbl ∧
    (restoreStage src s).stg.prim = s.stg.prim ∧ (restoreStage src s).stg.sec = s.stg.sec ∧
    (restoreStage src s).stg.offset = s.stg.offset ∧ (restoreStage src s).stg.selected = s.stg.selected ∧
    (restoreStage src s).stg.history = s.stg.history ∧ (restoreStage src s).stg.historyAt = s.stg.historyAt ∧
    (restoreStage src s).stg.openStart = s.stg.openStart ∧
    (restoreStage src s).stg.nextBoundary = s.stg.nextBoundary ∧ (restoreStage src s).stg.acc = s.stg.acc ∧
    (restoreStage src s).rat = s.rat ∧ (restoreStage src s).wrn = s.wrn ∧ (restoreStage src s).pls = s.pls ∧
    (restoreStage src s).run = s.run ∧ (restoreStage src s).loop = s.loop ∧ (restoreStage src s).cht = s.cht ∧
    (restoreStage src s).upl.rate = s.upl.rate ∧ (restoreStage src s).upl.slot = s.upl.slot ∧
    (restoreStage src s).upl.fwdQ = s.upl.fwdQ ∧ (restoreStage src s).upl.nextFwd = s.upl.nextFwd ∧
    (restoreStage src s).upl.assembling = s.upl.assembling ∧ (restoreStage src s).upl.framing = s.upl.framing ∧
    (restoreStage src s).upl.gap = s.upl.gap ∧ (restoreStage src s).upl.length = s.upl.length ∧
    (restoreStage src s).upl.crc = s.upl.crc ∧ (restoreStage src s).upl.linkLost = s.upl.linkLost ∧
    (restoreStage src s).upl.foreign = s.upl.foreign ∧ (restoreStage src s).upl.kindDiscards = s.upl.kindDiscards ∧
    (restoreStage src s).upl.huntDiscards = s.upl.huntDiscards ∧
    (restoreStage src s).upl.lastChar = s.upl.lastChar ∧ (restoreStage src s).upl.tail = s.upl.tail ∧
    (restoreStage src s).upl.ready = s.upl.ready ∧
    (restoreStage src s).ctl = s.ctl ∧ (restoreStage src s).lines = s.lines ∧
    (restoreStage src s).resetLine = s.resetLine ∧ (restoreStage src s).lastReset = s.lastReset ∧
    (restoreStage src s).pending = s.pending := by
  simp [restoreStage]

@[simp] theorem selectAfter_frame (src : Source) (s : State) :
    (selectAfter src s).clk = s.clk ∧ (selectAfter src s).tbl = s.tbl ∧ (selectAfter src s).stg.prim = s.stg.prim ∧
    (selectAfter src s).stg.sec = s.stg.sec ∧ (selectAfter src s).stg.offset = s.stg.offset ∧
    (selectAfter src s).stg.selected = s.stg.selected ∧ (selectAfter src s).stg.history = s.stg.history ∧
    (selectAfter src s).stg.historyAt = s.stg.historyAt ∧ (selectAfter src s).stg.openStart = s.stg.openStart ∧
    (selectAfter src s).stg.nextBoundary = s.stg.nextBoundary ∧ (selectAfter src s).stg.acc = s.stg.acc ∧
    (selectAfter src s).rat = s.rat ∧ (selectAfter src s).wrn = s.wrn ∧ (selectAfter src s).pls = s.pls ∧
    (selectAfter src s).run = s.run ∧ (selectAfter src s).loop = s.loop ∧ (selectAfter src s).cht = s.cht ∧
    (selectAfter src s).upl.rate = s.upl.rate ∧ (selectAfter src s).upl.slot = s.upl.slot ∧
    (selectAfter src s).upl.fwdQ = s.upl.fwdQ ∧ (selectAfter src s).upl.nextFwd = s.upl.nextFwd ∧
    (selectAfter src s).upl.assembling = s.upl.assembling ∧ (selectAfter src s).upl.framing = s.upl.framing ∧
    (selectAfter src s).upl.gap = s.upl.gap ∧ (selectAfter src s).upl.length = s.upl.length ∧
    (selectAfter src s).upl.crc = s.upl.crc ∧ (selectAfter src s).upl.linkLost = s.upl.linkLost ∧
    (selectAfter src s).upl.foreign = s.upl.foreign ∧ (selectAfter src s).upl.kindDiscards = s.upl.kindDiscards ∧
    (selectAfter src s).upl.huntDiscards = s.upl.huntDiscards ∧
    (selectAfter src s).upl.lastChar = s.upl.lastChar ∧ (selectAfter src s).upl.tail = s.upl.tail ∧
    (selectAfter src s).upl.ready = s.upl.ready ∧
    (selectAfter src s).ctl = s.ctl ∧ (selectAfter src s).lines = s.lines ∧
    (selectAfter src s).resetLine = s.resetLine ∧ (selectAfter src s).lastReset = s.lastReset ∧
    (selectAfter src s).pending = s.pending := by
  unfold selectAfter
  (repeat' split) <;> simp

@[simp] theorem accept_frame (src : Source) (v : Sample) (t : Nat) (s : State) :
    (accept src v t s).clk = s.clk ∧ (accept src v t s).tbl = s.tbl ∧
    (accept src v t s).stg.history = s.stg.history ∧ (accept src v t s).stg.historyAt = s.stg.historyAt ∧
    (accept src v t s).stg.openStart = s.stg.openStart ∧ (accept src v t s).stg.nextBoundary = s.stg.nextBoundary ∧
    (accept src v t s).rat.live = s.rat.live ∧ (accept src v t s).rat.shifts = s.rat.shifts ∧
    (accept src v t s).pls.rotorIn = s.pls.rotorIn ∧ (accept src v t s).pls.surfaceIn = s.pls.surfaceIn ∧
    (accept src v t s).pls.bottomIn = s.pls.bottomIn ∧ (accept src v t s).run.marker = s.run.marker ∧
    (accept src v t s).run.held = s.run.held ∧ (accept src v t s).run.position = s.run.position ∧
    (accept src v t s).run.grantKnown = s.run.grantKnown ∧ (accept src v t s).loop.rate = s.loop.rate ∧
    (accept src v t s).loop.txn = s.loop.txn ∧ (accept src v t s).loop.rx = s.loop.rx ∧
    (accept src v t s).loop.jam = s.loop.jam ∧ (accept src v t s).loop.lineBreak = s.loop.lineBreak ∧
    (accept src v t s).loop.lowSince = s.loop.lowSince ∧ (accept src v t s).loop.highSince = s.loop.highSince ∧
    (accept src v t s).loop.sched = s.loop.sched ∧ (accept src v t s).loop.nodeFail = s.loop.nodeFail ∧
    (accept src v t s).loop.faults = s.loop.faults ∧ (accept src v t s).loop.unsolicited = s.loop.unsolicited ∧
    (accept src v t s).loop.droppedService = s.loop.droppedService ∧
    (accept src v t s).loop.serviceQ = s.loop.serviceQ ∧ (accept src v t s).loop.tx = s.loop.tx ∧
    (accept src v t s).loop.grant.node = s.loop.grant.node ∧
    (accept src v t s).loop.grant.limit = s.loop.grant.limit ∧
    (accept src v t s).loop.grant.mode = s.loop.grant.mode ∧
    (accept src v t s).loop.grant.count = s.loop.grant.count ∧
    (accept src v t s).loop.grant.began = s.loop.grant.began ∧
    (accept src v t s).loop.grant.wait = s.loop.grant.wait ∧
    (accept src v t s).loop.grant.interleaveAt = s.loop.grant.interleaveAt ∧
    (accept src v t s).loop.grant.lastEnd = s.loop.grant.lastEnd ∧
    (accept src v t s).loop.grant.begun = s.loop.grant.begun ∧ (accept src v t s).cht = s.cht ∧
    (accept src v t s).upl.rate = s.upl.rate ∧ (accept src v t s).upl.slot = s.upl.slot ∧
    (accept src v t s).upl.fwdQ = s.upl.fwdQ ∧ (accept src v t s).upl.nextFwd = s.upl.nextFwd ∧
    (accept src v t s).upl.assembling = s.upl.assembling ∧ (accept src v t s).upl.framing = s.upl.framing ∧
    (accept src v t s).upl.gap = s.upl.gap ∧ (accept src v t s).upl.length = s.upl.length ∧
    (accept src v t s).upl.crc = s.upl.crc ∧ (accept src v t s).upl.linkLost = s.upl.linkLost ∧
    (accept src v t s).upl.foreign = s.upl.foreign ∧ (accept src v t s).upl.kindDiscards = s.upl.kindDiscards ∧
    (accept src v t s).upl.huntDiscards = s.upl.huntDiscards ∧
    (accept src v t s).upl.lastChar = s.upl.lastChar ∧ (accept src v t s).upl.tail = s.upl.tail ∧
    (accept src v t s).upl.ready = s.upl.ready ∧
    (accept src v t s).ctl = s.ctl ∧ (accept src v t s).lines = s.lines ∧
    (accept src v t s).resetLine = s.resetLine ∧ (accept src v t s).lastReset = s.lastReset ∧
    (accept src v t s).pending = s.pending := by
  unfold accept
  dsimp only
  (repeat' split) <;> simp

@[simp] theorem becomeSuspect_frame (src : Source) (v : Sample) (s : State) :
    (becomeSuspect src v s).clk = s.clk ∧ (becomeSuspect src v s).tbl = s.tbl ∧
    (becomeSuspect src v s).stg.selection = s.stg.selection ∧ (becomeSuspect src v s).stg.offset = s.stg.offset ∧
    (becomeSuspect src v s).stg.selected = s.stg.selected ∧ (becomeSuspect src v s).stg.history = s.stg.history ∧
    (becomeSuspect src v s).stg.historyAt = s.stg.historyAt ∧
    (becomeSuspect src v s).stg.openStart = s.stg.openStart ∧
    (becomeSuspect src v s).stg.nextBoundary = s.stg.nextBoundary ∧ (becomeSuspect src v s).stg.acc = s.stg.acc ∧
    (becomeSuspect src v s).rat = s.rat ∧ (becomeSuspect src v s).wrn = s.wrn ∧ (becomeSuspect src v s).pls = s.pls ∧
    (becomeSuspect src v s).run = s.run ∧ (becomeSuspect src v s).loop = s.loop ∧
    (becomeSuspect src v s).cht = s.cht ∧ (becomeSuspect src v s).store = s.store ∧
    (becomeSuspect src v s).upl = s.upl ∧ (becomeSuspect src v s).ctl = s.ctl ∧
    (becomeSuspect src v s).lines = s.lines ∧ (becomeSuspect src v s).resetLine = s.resetLine ∧
    (becomeSuspect src v s).lastReset = s.lastReset ∧ (becomeSuspect src v s).pending = s.pending := by
  unfold becomeSuspect
  split <;> simp

@[simp] theorem dropSuspect_frame (src : Source) (s : State) :
    (dropSuspect src s).clk = s.clk ∧ (dropSuspect src s).tbl = s.tbl ∧
    (dropSuspect src s).stg.selection = s.stg.selection ∧ (dropSuspect src s).stg.recovery = s.stg.recovery ∧
    (dropSuspect src s).stg.offset = s.stg.offset ∧ (dropSuspect src s).stg.selected = s.stg.selected ∧
    (dropSuspect src s).stg.history = s.stg.history ∧ (dropSuspect src s).stg.historyAt = s.stg.historyAt ∧
    (dropSuspect src s).stg.openStart = s.stg.openStart ∧ (dropSuspect src s).stg.nextBoundary = s.stg.nextBoundary ∧
    (dropSuspect src s).stg.acc = s.stg.acc ∧ (dropSuspect src s).rat = s.rat ∧ (dropSuspect src s).wrn = s.wrn ∧
    (dropSuspect src s).pls = s.pls ∧ (dropSuspect src s).run = s.run ∧ (dropSuspect src s).loop = s.loop ∧
    (dropSuspect src s).cht = s.cht ∧ (dropSuspect src s).store = s.store ∧ (dropSuspect src s).upl = s.upl ∧
    (dropSuspect src s).ctl = s.ctl ∧ (dropSuspect src s).lines = s.lines ∧
    (dropSuspect src s).resetLine = s.resetLine ∧ (dropSuspect src s).lastReset = s.lastReset ∧
    (dropSuspect src s).pending = s.pending := by
  simp [dropSuspect]

@[simp] theorem judgeSample_frame (src : Source) (v : Sample) (t : Nat) (s : State) :
    (judgeSample src v t s).clk = s.clk ∧ (judgeSample src v t s).tbl = s.tbl ∧
    (judgeSample src v t s).stg.history = s.stg.history ∧ (judgeSample src v t s).stg.historyAt = s.stg.historyAt ∧
    (judgeSample src v t s).stg.openStart = s.stg.openStart ∧
    (judgeSample src v t s).stg.nextBoundary = s.stg.nextBoundary ∧ (judgeSample src v t s).rat.live = s.rat.live ∧
    (judgeSample src v t s).rat.shifts = s.rat.shifts ∧ (judgeSample src v t s).pls.rotorIn = s.pls.rotorIn ∧
    (judgeSample src v t s).pls.surfaceIn = s.pls.surfaceIn ∧ (judgeSample src v t s).pls.bottomIn = s.pls.bottomIn ∧
    (judgeSample src v t s).run.marker = s.run.marker ∧ (judgeSample src v t s).run.held = s.run.held ∧
    (judgeSample src v t s).run.position = s.run.position ∧
    (judgeSample src v t s).run.grantKnown = s.run.grantKnown ∧ (judgeSample src v t s).loop.rate = s.loop.rate ∧
    (judgeSample src v t s).loop.txn = s.loop.txn ∧ (judgeSample src v t s).loop.rx = s.loop.rx ∧
    (judgeSample src v t s).loop.jam = s.loop.jam ∧ (judgeSample src v t s).loop.lineBreak = s.loop.lineBreak ∧
    (judgeSample src v t s).loop.lowSince = s.loop.lowSince ∧
    (judgeSample src v t s).loop.highSince = s.loop.highSince ∧ (judgeSample src v t s).loop.sched = s.loop.sched ∧
    (judgeSample src v t s).loop.nodeFail = s.loop.nodeFail ∧ (judgeSample src v t s).loop.faults = s.loop.faults ∧
    (judgeSample src v t s).loop.unsolicited = s.loop.unsolicited ∧
    (judgeSample src v t s).loop.droppedService = s.loop.droppedService ∧
    (judgeSample src v t s).loop.serviceQ = s.loop.serviceQ ∧ (judgeSample src v t s).loop.tx = s.loop.tx ∧
    (judgeSample src v t s).loop.grant.node = s.loop.grant.node ∧
    (judgeSample src v t s).loop.grant.limit = s.loop.grant.limit ∧
    (judgeSample src v t s).loop.grant.mode = s.loop.grant.mode ∧
    (judgeSample src v t s).loop.grant.count = s.loop.grant.count ∧
    (judgeSample src v t s).loop.grant.began = s.loop.grant.began ∧
    (judgeSample src v t s).loop.grant.wait = s.loop.grant.wait ∧
    (judgeSample src v t s).loop.grant.interleaveAt = s.loop.grant.interleaveAt ∧
    (judgeSample src v t s).loop.grant.lastEnd = s.loop.grant.lastEnd ∧
    (judgeSample src v t s).loop.grant.begun = s.loop.grant.begun ∧ (judgeSample src v t s).cht = s.cht ∧
    (judgeSample src v t s).upl.rate = s.upl.rate ∧ (judgeSample src v t s).upl.slot = s.upl.slot ∧
    (judgeSample src v t s).upl.fwdQ = s.upl.fwdQ ∧ (judgeSample src v t s).upl.nextFwd = s.upl.nextFwd ∧
    (judgeSample src v t s).upl.assembling = s.upl.assembling ∧ (judgeSample src v t s).upl.framing = s.upl.framing ∧
    (judgeSample src v t s).upl.gap = s.upl.gap ∧ (judgeSample src v t s).upl.length = s.upl.length ∧
    (judgeSample src v t s).upl.crc = s.upl.crc ∧ (judgeSample src v t s).upl.linkLost = s.upl.linkLost ∧
    (judgeSample src v t s).upl.foreign = s.upl.foreign ∧
    (judgeSample src v t s).upl.kindDiscards = s.upl.kindDiscards ∧
    (judgeSample src v t s).upl.huntDiscards = s.upl.huntDiscards ∧
    (judgeSample src v t s).upl.lastChar = s.upl.lastChar ∧ (judgeSample src v t s).upl.tail = s.upl.tail ∧
    (judgeSample src v t s).upl.ready = s.upl.ready ∧
    (judgeSample src v t s).ctl = s.ctl ∧ (judgeSample src v t s).lines = s.lines ∧
    (judgeSample src v t s).resetLine = s.resetLine ∧ (judgeSample src v t s).lastReset = s.lastReset ∧
    (judgeSample src v t s).pending = s.pending := by
  unfold judgeSample
  dsimp only
  (repeat' split) <;> simp

@[simp] theorem stageSample_frame (src : Source) (raw : Nat) (gain offset : Int) (t : Nat) (s : State) :
    (stageSample src raw gain offset t s).clk = s.clk ∧ (stageSample src raw gain offset t s).tbl = s.tbl ∧
    (stageSample src raw gain offset t s).stg.history = s.stg.history ∧
    (stageSample src raw gain offset t s).stg.historyAt = s.stg.historyAt ∧
    (stageSample src raw gain offset t s).stg.openStart = s.stg.openStart ∧
    (stageSample src raw gain offset t s).stg.nextBoundary = s.stg.nextBoundary ∧
    (stageSample src raw gain offset t s).rat.live = s.rat.live ∧
    (stageSample src raw gain offset t s).rat.shifts = s.rat.shifts ∧
    (stageSample src raw gain offset t s).pls.rotorIn = s.pls.rotorIn ∧
    (stageSample src raw gain offset t s).pls.surfaceIn = s.pls.surfaceIn ∧
    (stageSample src raw gain offset t s).pls.bottomIn = s.pls.bottomIn ∧
    (stageSample src raw gain offset t s).run.marker = s.run.marker ∧
    (stageSample src raw gain offset t s).run.held = s.run.held ∧
    (stageSample src raw gain offset t s).run.position = s.run.position ∧
    (stageSample src raw gain offset t s).run.grantKnown = s.run.grantKnown ∧
    (stageSample src raw gain offset t s).loop.rate = s.loop.rate ∧
    (stageSample src raw gain offset t s).loop.txn = s.loop.txn ∧
    (stageSample src raw gain offset t s).loop.rx = s.loop.rx ∧
    (stageSample src raw gain offset t s).loop.jam = s.loop.jam ∧
    (stageSample src raw gain offset t s).loop.lineBreak = s.loop.lineBreak ∧
    (stageSample src raw gain offset t s).loop.lowSince = s.loop.lowSince ∧
    (stageSample src raw gain offset t s).loop.highSince = s.loop.highSince ∧
    (stageSample src raw gain offset t s).loop.sched = s.loop.sched ∧
    (stageSample src raw gain offset t s).loop.nodeFail = s.loop.nodeFail ∧
    (stageSample src raw gain offset t s).loop.faults = s.loop.faults ∧
    (stageSample src raw gain offset t s).loop.unsolicited = s.loop.unsolicited ∧
    (stageSample src raw gain offset t s).loop.droppedService = s.loop.droppedService ∧
    (stageSample src raw gain offset t s).loop.serviceQ = s.loop.serviceQ ∧
    (stageSample src raw gain offset t s).loop.tx = s.loop.tx ∧
    (stageSample src raw gain offset t s).loop.grant.node = s.loop.grant.node ∧
    (stageSample src raw gain offset t s).loop.grant.limit = s.loop.grant.limit ∧
    (stageSample src raw gain offset t s).loop.grant.mode = s.loop.grant.mode ∧
    (stageSample src raw gain offset t s).loop.grant.count = s.loop.grant.count ∧
    (stageSample src raw gain offset t s).loop.grant.began = s.loop.grant.began ∧
    (stageSample src raw gain offset t s).loop.grant.wait = s.loop.grant.wait ∧
    (stageSample src raw gain offset t s).loop.grant.interleaveAt = s.loop.grant.interleaveAt ∧
    (stageSample src raw gain offset t s).loop.grant.lastEnd = s.loop.grant.lastEnd ∧
    (stageSample src raw gain offset t s).loop.grant.begun = s.loop.grant.begun ∧
    (stageSample src raw gain offset t s).cht = s.cht ∧ (stageSample src raw gain offset t s).upl.rate = s.upl.rate ∧
    (stageSample src raw gain offset t s).upl.slot = s.upl.slot ∧
    (stageSample src raw gain offset t s).upl.fwdQ = s.upl.fwdQ ∧
    (stageSample src raw gain offset t s).upl.nextFwd = s.upl.nextFwd ∧
    (stageSample src raw gain offset t s).upl.assembling = s.upl.assembling ∧
    (stageSample src raw gain offset t s).upl.framing = s.upl.framing ∧
    (stageSample src raw gain offset t s).upl.gap = s.upl.gap ∧
    (stageSample src raw gain offset t s).upl.length = s.upl.length ∧
    (stageSample src raw gain offset t s).upl.crc = s.upl.crc ∧
    (stageSample src raw gain offset t s).upl.linkLost = s.upl.linkLost ∧
    (stageSample src raw gain offset t s).upl.foreign = s.upl.foreign ∧
    (stageSample src raw gain offset t s).upl.kindDiscards = s.upl.kindDiscards ∧
    (stageSample src raw gain offset t s).upl.huntDiscards = s.upl.huntDiscards ∧
    (stageSample src raw gain offset t s).upl.lastChar = s.upl.lastChar ∧
    (stageSample src raw gain offset t s).upl.tail = s.upl.tail ∧
    (stageSample src raw gain offset t s).upl.ready = s.upl.ready ∧
    (stageSample src raw gain offset t s).ctl = s.ctl ∧ (stageSample src raw gain offset t s).lines = s.lines ∧
    (stageSample src raw gain offset t s).resetLine = s.resetLine ∧
    (stageSample src raw gain offset t s).lastReset = s.lastReset ∧
    (stageSample src raw gain offset t s).pending = s.pending := by
  simp [stageSample]

@[simp] theorem selectAfterStale_frame (src : Source) (s : State) :
    (selectAfterStale src s).clk = s.clk ∧ (selectAfterStale src s).tbl = s.tbl ∧
    (selectAfterStale src s).stg.prim = s.stg.prim ∧ (selectAfterStale src s).stg.sec = s.stg.sec ∧
    (selectAfterStale src s).stg.offset = s.stg.offset ∧ (selectAfterStale src s).stg.history = s.stg.history ∧
    (selectAfterStale src s).stg.historyAt = s.stg.historyAt ∧
    (selectAfterStale src s).stg.openStart = s.stg.openStart ∧
    (selectAfterStale src s).stg.nextBoundary = s.stg.nextBoundary ∧ (selectAfterStale src s).rat.live = s.rat.live ∧
    (selectAfterStale src s).rat.shifts = s.rat.shifts ∧ (selectAfterStale src s).pls.rotorIn = s.pls.rotorIn ∧
    (selectAfterStale src s).pls.surfaceIn = s.pls.surfaceIn ∧
    (selectAfterStale src s).pls.bottomIn = s.pls.bottomIn ∧ (selectAfterStale src s).run.marker = s.run.marker ∧
    (selectAfterStale src s).run.held = s.run.held ∧ (selectAfterStale src s).run.position = s.run.position ∧
    (selectAfterStale src s).run.grantKnown = s.run.grantKnown ∧ (selectAfterStale src s).loop.rate = s.loop.rate ∧
    (selectAfterStale src s).loop.txn = s.loop.txn ∧ (selectAfterStale src s).loop.rx = s.loop.rx ∧
    (selectAfterStale src s).loop.jam = s.loop.jam ∧ (selectAfterStale src s).loop.lineBreak = s.loop.lineBreak ∧
    (selectAfterStale src s).loop.lowSince = s.loop.lowSince ∧
    (selectAfterStale src s).loop.highSince = s.loop.highSince ∧ (selectAfterStale src s).loop.sched = s.loop.sched ∧
    (selectAfterStale src s).loop.nodeFail = s.loop.nodeFail ∧ (selectAfterStale src s).loop.faults = s.loop.faults ∧
    (selectAfterStale src s).loop.unsolicited = s.loop.unsolicited ∧
    (selectAfterStale src s).loop.droppedService = s.loop.droppedService ∧
    (selectAfterStale src s).loop.serviceQ = s.loop.serviceQ ∧ (selectAfterStale src s).loop.tx = s.loop.tx ∧
    (selectAfterStale src s).loop.grant.node = s.loop.grant.node ∧
    (selectAfterStale src s).loop.grant.limit = s.loop.grant.limit ∧
    (selectAfterStale src s).loop.grant.mode = s.loop.grant.mode ∧
    (selectAfterStale src s).loop.grant.count = s.loop.grant.count ∧
    (selectAfterStale src s).loop.grant.began = s.loop.grant.began ∧
    (selectAfterStale src s).loop.grant.wait = s.loop.grant.wait ∧
    (selectAfterStale src s).loop.grant.interleaveAt = s.loop.grant.interleaveAt ∧
    (selectAfterStale src s).loop.grant.lastEnd = s.loop.grant.lastEnd ∧
    (selectAfterStale src s).loop.grant.begun = s.loop.grant.begun ∧ (selectAfterStale src s).cht = s.cht ∧
    (selectAfterStale src s).upl.rate = s.upl.rate ∧ (selectAfterStale src s).upl.slot = s.upl.slot ∧
    (selectAfterStale src s).upl.fwdQ = s.upl.fwdQ ∧ (selectAfterStale src s).upl.nextFwd = s.upl.nextFwd ∧
    (selectAfterStale src s).upl.assembling = s.upl.assembling ∧
    (selectAfterStale src s).upl.framing = s.upl.framing ∧ (selectAfterStale src s).upl.gap = s.upl.gap ∧
    (selectAfterStale src s).upl.length = s.upl.length ∧ (selectAfterStale src s).upl.crc = s.upl.crc ∧
    (selectAfterStale src s).upl.linkLost = s.upl.linkLost ∧ (selectAfterStale src s).upl.foreign = s.upl.foreign ∧
    (selectAfterStale src s).upl.kindDiscards = s.upl.kindDiscards ∧
    (selectAfterStale src s).upl.huntDiscards = s.upl.huntDiscards ∧
    (selectAfterStale src s).upl.lastChar = s.upl.lastChar ∧ (selectAfterStale src s).upl.tail = s.upl.tail ∧
    (selectAfterStale src s).upl.ready = s.upl.ready ∧ (selectAfterStale src s).ctl = s.ctl ∧
    (selectAfterStale src s).lines = s.lines ∧ (selectAfterStale src s).resetLine = s.resetLine ∧
    (selectAfterStale src s).lastReset = s.lastReset ∧ (selectAfterStale src s).pending = s.pending := by
  unfold selectAfterStale
  (repeat' split) <;> simp

@[simp] theorem becomeStale_frame (src : Source) (s : State) :
    (becomeStale src s).clk = s.clk ∧ (becomeStale src s).tbl = s.tbl ∧
    (becomeStale src s).stg.offset = s.stg.offset ∧ (becomeStale src s).stg.history = s.stg.history ∧
    (becomeStale src s).stg.historyAt = s.stg.historyAt ∧ (becomeStale src s).stg.openStart = s.stg.openStart ∧
    (becomeStale src s).stg.nextBoundary = s.stg.nextBoundary ∧ (becomeStale src s).rat.live = s.rat.live ∧
    (becomeStale src s).rat.shifts = s.rat.shifts ∧ (becomeStale src s).pls.rotorIn = s.pls.rotorIn ∧
    (becomeStale src s).pls.surfaceIn = s.pls.surfaceIn ∧ (becomeStale src s).pls.bottomIn = s.pls.bottomIn ∧
    (becomeStale src s).run.marker = s.run.marker ∧ (becomeStale src s).run.held = s.run.held ∧
    (becomeStale src s).run.position = s.run.position ∧ (becomeStale src s).run.grantKnown = s.run.grantKnown ∧
    (becomeStale src s).loop.rate = s.loop.rate ∧ (becomeStale src s).loop.txn = s.loop.txn ∧
    (becomeStale src s).loop.rx = s.loop.rx ∧ (becomeStale src s).loop.jam = s.loop.jam ∧
    (becomeStale src s).loop.lineBreak = s.loop.lineBreak ∧ (becomeStale src s).loop.lowSince = s.loop.lowSince ∧
    (becomeStale src s).loop.highSince = s.loop.highSince ∧ (becomeStale src s).loop.sched = s.loop.sched ∧
    (becomeStale src s).loop.nodeFail = s.loop.nodeFail ∧ (becomeStale src s).loop.faults = s.loop.faults ∧
    (becomeStale src s).loop.unsolicited = s.loop.unsolicited ∧
    (becomeStale src s).loop.droppedService = s.loop.droppedService ∧
    (becomeStale src s).loop.serviceQ = s.loop.serviceQ ∧ (becomeStale src s).loop.tx = s.loop.tx ∧
    (becomeStale src s).loop.grant.node = s.loop.grant.node ∧
    (becomeStale src s).loop.grant.limit = s.loop.grant.limit ∧
    (becomeStale src s).loop.grant.mode = s.loop.grant.mode ∧
    (becomeStale src s).loop.grant.count = s.loop.grant.count ∧
    (becomeStale src s).loop.grant.began = s.loop.grant.began ∧
    (becomeStale src s).loop.grant.wait = s.loop.grant.wait ∧
    (becomeStale src s).loop.grant.interleaveAt = s.loop.grant.interleaveAt ∧
    (becomeStale src s).loop.grant.lastEnd = s.loop.grant.lastEnd ∧
    (becomeStale src s).loop.grant.begun = s.loop.grant.begun ∧ (becomeStale src s).cht = s.cht ∧
    (becomeStale src s).upl.rate = s.upl.rate ∧ (becomeStale src s).upl.slot = s.upl.slot ∧
    (becomeStale src s).upl.fwdQ = s.upl.fwdQ ∧ (becomeStale src s).upl.nextFwd = s.upl.nextFwd ∧
    (becomeStale src s).upl.assembling = s.upl.assembling ∧ (becomeStale src s).upl.framing = s.upl.framing ∧
    (becomeStale src s).upl.gap = s.upl.gap ∧ (becomeStale src s).upl.length = s.upl.length ∧
    (becomeStale src s).upl.crc = s.upl.crc ∧ (becomeStale src s).upl.linkLost = s.upl.linkLost ∧
    (becomeStale src s).upl.foreign = s.upl.foreign ∧ (becomeStale src s).upl.kindDiscards = s.upl.kindDiscards ∧
    (becomeStale src s).upl.huntDiscards = s.upl.huntDiscards ∧
    (becomeStale src s).upl.lastChar = s.upl.lastChar ∧ (becomeStale src s).upl.tail = s.upl.tail ∧
    (becomeStale src s).upl.ready = s.upl.ready ∧
    (becomeStale src s).ctl = s.ctl ∧ (becomeStale src s).lines = s.lines ∧
    (becomeStale src s).resetLine = s.resetLine ∧ (becomeStale src s).lastReset = s.lastReset ∧
    (becomeStale src s).pending = s.pending := by
  simp [becomeStale]

@[simp] theorem missingSample_frame (src : Source) (s : State) :
    (missingSample src s).clk = s.clk ∧ (missingSample src s).tbl = s.tbl ∧
    (missingSample src s).stg.prim = s.stg.prim ∧ (missingSample src s).stg.sec = s.stg.sec ∧
    (missingSample src s).stg.selection = s.stg.selection ∧ (missingSample src s).stg.offset = s.stg.offset ∧
    (missingSample src s).stg.selected = s.stg.selected ∧ (missingSample src s).stg.history = s.stg.history ∧
    (missingSample src s).stg.historyAt = s.stg.historyAt ∧ (missingSample src s).stg.openStart = s.stg.openStart ∧
    (missingSample src s).stg.nextBoundary = s.stg.nextBoundary ∧ (missingSample src s).rat = s.rat ∧
    (missingSample src s).wrn = s.wrn ∧ (missingSample src s).pls = s.pls ∧ (missingSample src s).run = s.run ∧
    (missingSample src s).loop = s.loop ∧ (missingSample src s).cht = s.cht ∧ (missingSample src s).store = s.store ∧
    (missingSample src s).upl = s.upl ∧ (missingSample src s).ctl = s.ctl ∧ (missingSample src s).lines = s.lines ∧
    (missingSample src s).resetLine = s.resetLine ∧ (missingSample src s).lastReset = s.lastReset ∧
    (missingSample src s).pending = s.pending := by
  unfold missingSample
  dsimp only
  split <;> simp

@[simp] theorem staleLimitChanged_frame (old : List Byte) (s : State) :
    (staleLimitChanged old s).clk = s.clk ∧ (staleLimitChanged old s).tbl = s.tbl ∧
    (staleLimitChanged old s).stg.offset = s.stg.offset ∧ (staleLimitChanged old s).stg.history = s.stg.history ∧
    (staleLimitChanged old s).stg.historyAt = s.stg.historyAt ∧
    (staleLimitChanged old s).stg.openStart = s.stg.openStart ∧
    (staleLimitChanged old s).stg.nextBoundary = s.stg.nextBoundary ∧
    (staleLimitChanged old s).rat.live = s.rat.live ∧ (staleLimitChanged old s).rat.shifts = s.rat.shifts ∧
    (staleLimitChanged old s).pls.rotorIn = s.pls.rotorIn ∧
    (staleLimitChanged old s).pls.surfaceIn = s.pls.surfaceIn ∧
    (staleLimitChanged old s).pls.bottomIn = s.pls.bottomIn ∧ (staleLimitChanged old s).run.marker = s.run.marker ∧
    (staleLimitChanged old s).run.held = s.run.held ∧ (staleLimitChanged old s).run.position = s.run.position ∧
    (staleLimitChanged old s).run.grantKnown = s.run.grantKnown ∧ (staleLimitChanged old s).loop.rate = s.loop.rate ∧
    (staleLimitChanged old s).loop.txn = s.loop.txn ∧ (staleLimitChanged old s).loop.rx = s.loop.rx ∧
    (staleLimitChanged old s).loop.jam = s.loop.jam ∧ (staleLimitChanged old s).loop.lineBreak = s.loop.lineBreak ∧
    (staleLimitChanged old s).loop.lowSince = s.loop.lowSince ∧
    (staleLimitChanged old s).loop.highSince = s.loop.highSince ∧
    (staleLimitChanged old s).loop.sched = s.loop.sched ∧ (staleLimitChanged old s).loop.nodeFail = s.loop.nodeFail ∧
    (staleLimitChanged old s).loop.faults = s.loop.faults ∧
    (staleLimitChanged old s).loop.unsolicited = s.loop.unsolicited ∧
    (staleLimitChanged old s).loop.droppedService = s.loop.droppedService ∧
    (staleLimitChanged old s).loop.serviceQ = s.loop.serviceQ ∧ (staleLimitChanged old s).loop.tx = s.loop.tx ∧
    (staleLimitChanged old s).loop.grant.node = s.loop.grant.node ∧
    (staleLimitChanged old s).loop.grant.limit = s.loop.grant.limit ∧
    (staleLimitChanged old s).loop.grant.mode = s.loop.grant.mode ∧
    (staleLimitChanged old s).loop.grant.count = s.loop.grant.count ∧
    (staleLimitChanged old s).loop.grant.began = s.loop.grant.began ∧
    (staleLimitChanged old s).loop.grant.wait = s.loop.grant.wait ∧
    (staleLimitChanged old s).loop.grant.interleaveAt = s.loop.grant.interleaveAt ∧
    (staleLimitChanged old s).loop.grant.lastEnd = s.loop.grant.lastEnd ∧
    (staleLimitChanged old s).loop.grant.begun = s.loop.grant.begun ∧ (staleLimitChanged old s).cht = s.cht ∧
    (staleLimitChanged old s).upl.rate = s.upl.rate ∧ (staleLimitChanged old s).upl.slot = s.upl.slot ∧
    (staleLimitChanged old s).upl.fwdQ = s.upl.fwdQ ∧ (staleLimitChanged old s).upl.nextFwd = s.upl.nextFwd ∧
    (staleLimitChanged old s).upl.assembling = s.upl.assembling ∧
    (staleLimitChanged old s).upl.framing = s.upl.framing ∧ (staleLimitChanged old s).upl.gap = s.upl.gap ∧
    (staleLimitChanged old s).upl.length = s.upl.length ∧ (staleLimitChanged old s).upl.crc = s.upl.crc ∧
    (staleLimitChanged old s).upl.linkLost = s.upl.linkLost ∧ (staleLimitChanged old s).upl.foreign = s.upl.foreign ∧
    (staleLimitChanged old s).upl.kindDiscards = s.upl.kindDiscards ∧
    (staleLimitChanged old s).upl.huntDiscards = s.upl.huntDiscards ∧
    (staleLimitChanged old s).upl.lastChar = s.upl.lastChar ∧ (staleLimitChanged old s).upl.tail = s.upl.tail ∧
    (staleLimitChanged old s).upl.ready = s.upl.ready ∧ (staleLimitChanged old s).ctl = s.ctl ∧
    (staleLimitChanged old s).lines = s.lines ∧ (staleLimitChanged old s).resetLine = s.resetLine ∧
    (staleLimitChanged old s).lastReset = s.lastReset ∧ (staleLimitChanged old s).pending = s.pending := by
  unfold staleLimitChanged
  dsimp only
  (repeat' split) <;> simp

@[simp] theorem historyStepChanged_frame (old : List Byte) (s : State) :
    (historyStepChanged old s).clk = s.clk ∧ (historyStepChanged old s).tbl = s.tbl ∧
    (historyStepChanged old s).stg.prim = s.stg.prim ∧ (historyStepChanged old s).stg.sec = s.stg.sec ∧
    (historyStepChanged old s).stg.selection = s.stg.selection ∧
    (historyStepChanged old s).stg.recovery = s.stg.recovery ∧ (historyStepChanged old s).stg.offset = s.stg.offset ∧
    (historyStepChanged old s).stg.selected = s.stg.selected ∧
    (historyStepChanged old s).stg.openStart = s.stg.openStart ∧
    (historyStepChanged old s).stg.nextBoundary = s.stg.nextBoundary ∧
    (historyStepChanged old s).stg.acc = s.stg.acc ∧ (historyStepChanged old s).rat = s.rat ∧
    (historyStepChanged old s).wrn = s.wrn ∧ (historyStepChanged old s).pls = s.pls ∧
    (historyStepChanged old s).run = s.run ∧ (historyStepChanged old s).loop = s.loop ∧
    (historyStepChanged old s).cht = s.cht ∧ (historyStepChanged old s).store = s.store ∧
    (historyStepChanged old s).upl = s.upl ∧ (historyStepChanged old s).ctl = s.ctl ∧
    (historyStepChanged old s).lines = s.lines ∧ (historyStepChanged old s).resetLine = s.resetLine ∧
    (historyStepChanged old s).lastReset = s.lastReset ∧ (historyStepChanged old s).pending = s.pending := by
  unfold historyStepChanged
  split <;> simp

@[simp] theorem stgFresh_frame (s : State) :
    (stgFresh s).clk = s.clk ∧ (stgFresh s).tbl = s.tbl ∧ (stgFresh s).rat = s.rat ∧ (stgFresh s).wrn = s.wrn ∧
    (stgFresh s).pls = s.pls ∧ (stgFresh s).run = s.run ∧ (stgFresh s).loop = s.loop ∧ (stgFresh s).cht = s.cht ∧
    (stgFresh s).store = s.store ∧ (stgFresh s).upl = s.upl ∧ (stgFresh s).ctl = s.ctl ∧
    (stgFresh s).lines = s.lines ∧ (stgFresh s).resetLine = s.resetLine ∧ (stgFresh s).lastReset = s.lastReset ∧
    (stgFresh s).pending = s.pending := by
  simp [stgFresh]

end Sys2Proof.Machine
end

