-- ==== Sys2Proof/Laws/ChannelFrame.lean ====
section
/-! SUPPORT. What the operations of the control decoder and the channel table leave as it was: one lemma per
operation, for all the fields it does not touch. -/

namespace Sys2Proof.Machine

@[simp] theorem setQueue_frame (q : List Request) (s : State) :
    (setQueue q s).clk = s.clk ∧ (setQueue q s).tbl = s.tbl ∧ (setQueue q s).stg = s.stg ∧
    (setQueue q s).rat = s.rat ∧ (setQueue q s).wrn = s.wrn ∧ (setQueue q s).pls = s.pls ∧
    (setQueue q s).run = s.run ∧ (setQueue q s).loop = s.loop ∧ (setQueue q s).cht = s.cht ∧
    (setQueue q s).store = s.store ∧ (setQueue q s).upl.rate = s.upl.rate ∧
    (setQueue q s).upl.buffer = s.upl.buffer ∧ (setQueue q s).upl.slot = s.upl.slot ∧
    (setQueue q s).upl.fwdQ = s.upl.fwdQ ∧ (setQueue q s).upl.nextFwd = s.upl.nextFwd ∧
    (setQueue q s).upl.assembling = s.upl.assembling ∧ (setQueue q s).upl.framing = s.upl.framing ∧
    (setQueue q s).upl.gap = s.upl.gap ∧ (setQueue q s).upl.length = s.upl.length ∧
    (setQueue q s).upl.crc = s.upl.crc ∧ (setQueue q s).upl.linkLost = s.upl.linkLost ∧
    (setQueue q s).upl.foreign = s.upl.foreign ∧ (setQueue q s).upl.kindDiscards = s.upl.kindDiscards ∧
    (setQueue q s).upl.huntDiscards = s.upl.huntDiscards ∧
    (setQueue q s).upl.lastChar = s.upl.lastChar ∧ (setQueue q s).upl.tail = s.upl.tail ∧
    (setQueue q s).ctl.inHand = s.ctl.inHand ∧
    (setQueue q s).ctl.pendingReply = s.ctl.pendingReply ∧ (setQueue q s).ctl.resetWait = s.ctl.resetWait ∧
    (setQueue q s).ctl.droppedBusy = s.ctl.droppedBusy ∧ (setQueue q s).ctl.lastRefusal = s.ctl.lastRefusal ∧
    (setQueue q s).lines = s.lines ∧ (setQueue q s).resetLine = s.resetLine ∧
    (setQueue q s).lastReset = s.lastReset ∧ (setQueue q s).pending = s.pending := by
  simp [setQueue]

@[simp] theorem placeReply_frame (r : Reply) (s : State) :
    (placeReply r s).clk = s.clk ∧ (placeReply r s).tbl = s.tbl ∧ (placeReply r s).stg = s.stg ∧
    (placeReply r s).rat = s.rat ∧ (placeReply r s).wrn = s.wrn ∧ (placeReply r s).pls = s.pls ∧
    (placeReply r s).run = s.run ∧ (placeReply r s).loop = s.loop ∧ (placeReply r s).cht = s.cht ∧
    (placeReply r s).store = s.store ∧ (placeReply r s).upl.rate = s.upl.rate ∧
    (placeReply r s).upl.fwdQ = s.upl.fwdQ ∧ (placeReply r s).upl.nextFwd = s.upl.nextFwd ∧
    (placeReply r s).upl.assembling = s.upl.assembling ∧ (placeReply r s).upl.framing = s.upl.framing ∧
    (placeReply r s).upl.gap = s.upl.gap ∧ (placeReply r s).upl.length = s.upl.length ∧
    (placeReply r s).upl.crc = s.upl.crc ∧ (placeReply r s).upl.linkLost = s.upl.linkLost ∧
    (placeReply r s).upl.foreign = s.upl.foreign ∧ (placeReply r s).upl.kindDiscards = s.upl.kindDiscards ∧
    (placeReply r s).upl.huntDiscards = s.upl.huntDiscards ∧
    (placeReply r s).upl.lastChar = s.upl.lastChar ∧ (placeReply r s).upl.tail = s.upl.tail ∧
    (placeReply r s).upl.ready = s.upl.ready ∧
    (placeReply r s).ctl.queue = s.ctl.queue ∧ (placeReply r s).ctl.droppedBusy = s.ctl.droppedBusy ∧
    (placeReply r s).ctl.lastRefusal = s.ctl.lastRefusal ∧ (placeReply r s).lines = s.lines ∧
    (placeReply r s).resetLine = s.resetLine ∧ (placeReply r s).lastReset = s.lastReset ∧
    (placeReply r s).pending = s.pending := by
  simp [placeReply]

@[simp] theorem sendReply_frame (payload : List Byte) (s : State) :
    (sendReply payload s).clk = s.clk ∧ (sendReply payload s).tbl = s.tbl ∧ (sendReply payload s).stg = s.stg ∧
    (sendReply payload s).rat = s.rat ∧ (sendReply payload s).wrn = s.wrn ∧ (sendReply payload s).pls = s.pls ∧
    (sendReply payload s).run = s.run ∧ (sendReply payload s).loop.rate = s.loop.rate ∧
    (sendReply payload s).loop.txn = s.loop.txn ∧ (sendReply payload s).loop.rx = s.loop.rx ∧
    (sendReply payload s).loop.jam = s.loop.jam ∧ (sendReply payload s).loop.lineBreak = s.loop.lineBreak ∧
    (sendReply payload s).loop.lowSince = s.loop.lowSince ∧ (sendReply payload s).loop.highSince = s.loop.highSince ∧
    (sendReply payload s).loop.sched = s.loop.sched ∧ (sendReply payload s).loop.nodeFail = s.loop.nodeFail ∧
    (sendReply payload s).loop.faults = s.loop.faults ∧ (sendReply payload s).loop.unsolicited = s.loop.unsolicited ∧
    (sendReply payload s).loop.droppedService = s.loop.droppedService ∧
    (sendReply payload s).loop.claimPlace = s.loop.claimPlace ∧
    (sendReply payload s).loop.winchPlace = s.loop.winchPlace ∧ (sendReply payload s).loop.tx = s.loop.tx ∧
    (sendReply payload s).loop.pendingCmd = s.loop.pendingCmd ∧ (sendReply payload s).loop.grant = s.loop.grant ∧
    (sendReply payload s).cht = s.cht ∧ (sendReply payload s).store = s.store ∧
    (sendReply payload s).upl.rate = s.upl.rate ∧ (sendReply payload s).upl.fwdQ = s.upl.fwdQ ∧
    (sendReply payload s).upl.nextFwd = s.upl.nextFwd ∧ (sendReply payload s).upl.assembling = s.upl.assembling ∧
    (sendReply payload s).upl.framing = s.upl.framing ∧ (sendReply payload s).upl.gap = s.upl.gap ∧
    (sendReply payload s).upl.length = s.upl.length ∧ (sendReply payload s).upl.crc = s.upl.crc ∧
    (sendReply payload s).upl.linkLost = s.upl.linkLost ∧ (sendReply payload s).upl.foreign = s.upl.foreign ∧
    (sendReply payload s).upl.kindDiscards = s.upl.kindDiscards ∧
    (sendReply payload s).upl.huntDiscards = s.upl.huntDiscards ∧
    (sendReply payload s).upl.lastChar = s.upl.lastChar ∧ (sendReply payload s).upl.tail = s.upl.tail ∧
    (sendReply payload s).upl.ready = s.upl.ready ∧
    (sendReply payload s).ctl.queue = s.ctl.queue ∧ (sendReply payload s).ctl.droppedBusy = s.ctl.droppedBusy ∧
    (sendReply payload s).ctl.lastRefusal = s.ctl.lastRefusal ∧ (sendReply payload s).lines = s.lines ∧
    (sendReply payload s).resetLine = s.resetLine ∧ (sendReply payload s).lastReset = s.lastReset ∧
    (sendReply payload s).pending = s.pending := by
  unfold sendReply
  (repeat' split) <;> simp

@[simp] theorem offerPending_frame (s : State) :
    (offerPending s).clk = s.clk ∧ (offerPending s).tbl = s.tbl ∧ (offerPending s).stg = s.stg ∧
    (offerPending s).rat = s.rat ∧ (offerPending s).wrn = s.wrn ∧ (offerPending s).pls = s.pls ∧
    (offerPending s).run = s.run ∧ (offerPending s).loop = s.loop ∧ (offerPending s).cht = s.cht ∧
    (offerPending s).store = s.store ∧ (offerPending s).upl.rate = s.upl.rate ∧
    (offerPending s).upl.fwdQ = s.upl.fwdQ ∧ (offerPending s).upl.nextFwd = s.upl.nextFwd ∧
    (offerPending s).upl.assembling = s.upl.assembling ∧ (offerPending s).upl.framing = s.upl.framing ∧
    (offerPending s).upl.gap = s.upl.gap ∧ (offerPending s).upl.length = s.upl.length ∧
    (offerPending s).upl.crc = s.upl.crc ∧ (offerPending s).upl.linkLost = s.upl.linkLost ∧
    (offerPending s).upl.foreign = s.upl.foreign ∧ (offerPending s).upl.kindDiscards = s.upl.kindDiscards ∧
    (offerPending s).upl.huntDiscards = s.upl.huntDiscards ∧
    (offerPending s).upl.lastChar = s.upl.lastChar ∧ (offerPending s).upl.tail = s.upl.tail ∧
    (offerPending s).upl.ready = s.upl.ready ∧
    (offerPending s).ctl.queue = s.ctl.queue ∧ (offerPending s).ctl.droppedBusy = s.ctl.droppedBusy ∧
    (offerPending s).ctl.lastRefusal = s.ctl.lastRefusal ∧ (offerPending s).lines = s.lines ∧
    (offerPending s).resetLine = s.resetLine ∧ (offerPending s).lastReset = s.lastReset ∧
    (offerPending s).pending = s.pending := by
  unfold offerPending
  (repeat' split) <;> simp

@[simp] theorem answer_frame (code : Byte) (fields : List Byte) (s : State) :
    (answer code fields s).clk = s.clk ∧ (answer code fields s).tbl = s.tbl ∧ (answer code fields s).stg = s.stg ∧
    (answer code fields s).rat = s.rat ∧ (answer code fields s).wrn = s.wrn ∧ (answer code fields s).pls = s.pls ∧
    (answer code fields s).run = s.run ∧ (answer code fields s).loop.rate = s.loop.rate ∧
    (answer code fields s).loop.txn = s.loop.txn ∧ (answer code fields s).loop.rx = s.loop.rx ∧
    (answer code fields s).loop.jam = s.loop.jam ∧ (answer code fields s).loop.lineBreak = s.loop.lineBreak ∧
    (answer code fields s).loop.lowSince = s.loop.lowSince ∧
    (answer code fields s).loop.highSince = s.loop.highSince ∧ (answer code fields s).loop.sched = s.loop.sched ∧
    (answer code fields s).loop.nodeFail = s.loop.nodeFail ∧ (answer code fields s).loop.faults = s.loop.faults ∧
    (answer code fields s).loop.unsolicited = s.loop.unsolicited ∧
    (answer code fields s).loop.droppedService = s.loop.droppedService ∧
    (answer code fields s).loop.claimPlace = s.loop.claimPlace ∧
    (answer code fields s).loop.winchPlace = s.loop.winchPlace ∧ (answer code fields s).loop.tx = s.loop.tx ∧
    (answer code fields s).loop.pendingCmd = s.loop.pendingCmd ∧ (answer code fields s).loop.grant = s.loop.grant ∧
    (answer code fields s).cht = s.cht ∧ (answer code fields s).store = s.store ∧
    (answer code fields s).upl.rate = s.upl.rate ∧ (answer code fields s).upl.fwdQ = s.upl.fwdQ ∧
    (answer code fields s).upl.nextFwd = s.upl.nextFwd ∧ (answer code fields s).upl.assembling = s.upl.assembling ∧
    (answer code fields s).upl.framing = s.upl.framing ∧ (answer code fields s).upl.gap = s.upl.gap ∧
    (answer code fields s).upl.length = s.upl.length ∧ (answer code fields s).upl.crc = s.upl.crc ∧
    (answer code fields s).upl.linkLost = s.upl.linkLost ∧ (answer code fields s).upl.foreign = s.upl.foreign ∧
    (answer code fields s).upl.kindDiscards = s.upl.kindDiscards ∧
    (answer code fields s).upl.huntDiscards = s.upl.huntDiscards ∧
    (answer code fields s).upl.lastChar = s.upl.lastChar ∧ (answer code fields s).upl.tail = s.upl.tail ∧
    (answer code fields s).upl.ready = s.upl.ready ∧
    (answer code fields s).ctl.queue = s.ctl.queue ∧ (answer code fields s).ctl.droppedBusy = s.ctl.droppedBusy ∧
    (answer code fields s).ctl.lastRefusal = s.ctl.lastRefusal ∧ (answer code fields s).lines = s.lines ∧
    (answer code fields s).resetLine = s.resetLine ∧ (answer code fields s).lastReset = s.lastReset ∧
    (answer code fields s).pending = s.pending := by
  simp [answer]

@[simp] theorem refuseBusy_frame (r : Request) (s : State) :
    (refuseBusy r s).clk = s.clk ∧ (refuseBusy r s).tbl = s.tbl ∧ (refuseBusy r s).stg = s.stg ∧
    (refuseBusy r s).rat = s.rat ∧ (refuseBusy r s).wrn = s.wrn ∧ (refuseBusy r s).pls = s.pls ∧
    (refuseBusy r s).run = s.run ∧ (refuseBusy r s).loop.rate = s.loop.rate ∧
    (refuseBusy r s).loop.txn = s.loop.txn ∧ (refuseBusy r s).loop.rx = s.loop.rx ∧
    (refuseBusy r s).loop.jam = s.loop.jam ∧ (refuseBusy r s).loop.lineBreak = s.loop.lineBreak ∧
    (refuseBusy r s).loop.lowSince = s.loop.lowSince ∧ (refuseBusy r s).loop.highSince = s.loop.highSince ∧
    (refuseBusy r s).loop.sched = s.loop.sched ∧ (refuseBusy r s).loop.nodeFail = s.loop.nodeFail ∧
    (refuseBusy r s).loop.faults = s.loop.faults ∧ (refuseBusy r s).loop.unsolicited = s.loop.unsolicited ∧
    (refuseBusy r s).loop.claimPlace = s.loop.claimPlace ∧ (refuseBusy r s).loop.winchPlace = s.loop.winchPlace ∧
    (refuseBusy r s).loop.tx = s.loop.tx ∧ (refuseBusy r s).loop.pendingCmd = s.loop.pendingCmd ∧
    (refuseBusy r s).loop.grant = s.loop.grant ∧ (refuseBusy r s).cht = s.cht ∧ (refuseBusy r s).store = s.store ∧
    (refuseBusy r s).upl.rate = s.upl.rate ∧ (refuseBusy r s).upl.fwdQ = s.upl.fwdQ ∧
    (refuseBusy r s).upl.nextFwd = s.upl.nextFwd ∧ (refuseBusy r s).upl.assembling = s.upl.assembling ∧
    (refuseBusy r s).upl.framing = s.upl.framing ∧ (refuseBusy r s).upl.gap = s.upl.gap ∧
    (refuseBusy r s).upl.length = s.upl.length ∧ (refuseBusy r s).upl.crc = s.upl.crc ∧
    (refuseBusy r s).upl.linkLost = s.upl.linkLost ∧ (refuseBusy r s).upl.foreign = s.upl.foreign ∧
    (refuseBusy r s).upl.kindDiscards = s.upl.kindDiscards ∧ (refuseBusy r s).upl.huntDiscards = s.upl.huntDiscards ∧
    (refuseBusy r s).upl.lastChar = s.upl.lastChar ∧ (refuseBusy r s).upl.tail = s.upl.tail ∧
    (refuseBusy r s).upl.ready = s.upl.ready ∧ (refuseBusy r s).ctl.queue = s.ctl.queue ∧
    (refuseBusy r s).ctl.inHand = s.ctl.inHand ∧ (refuseBusy r s).ctl.pendingReply = s.ctl.pendingReply ∧
    (refuseBusy r s).ctl.resetWait = s.ctl.resetWait ∧ (refuseBusy r s).ctl.lastRefusal = s.ctl.lastRefusal ∧
    (refuseBusy r s).lines = s.lines ∧ (refuseBusy r s).resetLine = s.resetLine ∧
    (refuseBusy r s).lastReset = s.lastReset ∧ (refuseBusy r s).pending = s.pending := by
  unfold refuseBusy
  (repeat' split) <;> simp

@[simp] theorem enqueue_frame (r : Request) (s : State) :
    (enqueue r s).clk = s.clk ∧ (enqueue r s).tbl = s.tbl ∧ (enqueue r s).stg = s.stg ∧ (enqueue r s).rat = s.rat ∧
    (enqueue r s).wrn = s.wrn ∧ (enqueue r s).pls = s.pls ∧ (enqueue r s).run = s.run ∧
    (enqueue r s).loop.rate = s.loop.rate ∧ (enqueue r s).loop.txn = s.loop.txn ∧ (enqueue r s).loop.rx = s.loop.rx ∧
    (enqueue r s).loop.jam = s.loop.jam ∧ (enqueue r s).loop.lineBreak = s.loop.lineBreak ∧
    (enqueue r s).loop.lowSince = s.loop.lowSince ∧ (enqueue r s).loop.highSince = s.loop.highSince ∧
    (enqueue r s).loop.sched = s.loop.sched ∧ (enqueue r s).loop.nodeFail = s.loop.nodeFail ∧
    (enqueue r s).loop.faults = s.loop.faults ∧ (enqueue r s).loop.unsolicited = s.loop.unsolicited ∧
    (enqueue r s).loop.claimPlace = s.loop.claimPlace ∧ (enqueue r s).loop.winchPlace = s.loop.winchPlace ∧
    (enqueue r s).loop.tx = s.loop.tx ∧ (enqueue r s).loop.pendingCmd = s.loop.pendingCmd ∧
    (enqueue r s).loop.grant = s.loop.grant ∧ (enqueue r s).cht = s.cht ∧ (enqueue r s).store = s.store ∧
    (enqueue r s).upl.rate = s.upl.rate ∧ (enqueue r s).upl.fwdQ = s.upl.fwdQ ∧
    (enqueue r s).upl.nextFwd = s.upl.nextFwd ∧ (enqueue r s).upl.assembling = s.upl.assembling ∧
    (enqueue r s).upl.framing = s.upl.framing ∧ (enqueue r s).upl.gap = s.upl.gap ∧
    (enqueue r s).upl.length = s.upl.length ∧ (enqueue r s).upl.crc = s.upl.crc ∧
    (enqueue r s).upl.linkLost = s.upl.linkLost ∧ (enqueue r s).upl.foreign = s.upl.foreign ∧
    (enqueue r s).upl.kindDiscards = s.upl.kindDiscards ∧ (enqueue r s).upl.huntDiscards = s.upl.huntDiscards ∧
    (enqueue r s).upl.lastChar = s.upl.lastChar ∧ (enqueue r s).upl.tail = s.upl.tail ∧
    (enqueue r s).ctl.inHand = s.ctl.inHand ∧ (enqueue r s).ctl.pendingReply = s.ctl.pendingReply ∧
    (enqueue r s).ctl.resetWait = s.ctl.resetWait ∧ (enqueue r s).ctl.lastRefusal = s.ctl.lastRefusal ∧
    (enqueue r s).lines = s.lines ∧ (enqueue r s).resetLine = s.resetLine ∧ (enqueue r s).lastReset = s.lastReset ∧
    (enqueue r s).pending = s.pending := by
  unfold enqueue
  split <;> simp

@[simp] theorem refuseTaken_frame (r : Request) (code : Byte) (s : State) :
    (refuseTaken r code s).clk = s.clk ∧ (refuseTaken r code s).tbl = s.tbl ∧ (refuseTaken r code s).stg = s.stg ∧
    (refuseTaken r code s).rat = s.rat ∧ (refuseTaken r code s).wrn = s.wrn ∧ (refuseTaken r code s).pls = s.pls ∧
    (refuseTaken r code s).run = s.run ∧ (refuseTaken r code s).loop.rate = s.loop.rate ∧
    (refuseTaken r code s).loop.txn = s.loop.txn ∧ (refuseTaken r code s).loop.rx = s.loop.rx ∧
    (refuseTaken r code s).loop.jam = s.loop.jam ∧ (refuseTaken r code s).loop.lineBreak = s.loop.lineBreak ∧
    (refuseTaken r code s).loop.lowSince = s.loop.lowSince ∧
    (refuseTaken r code s).loop.highSince = s.loop.highSince ∧ (refuseTaken r code s).loop.sched = s.loop.sched ∧
    (refuseTaken r code s).loop.nodeFail = s.loop.nodeFail ∧ (refuseTaken r code s).loop.faults = s.loop.faults ∧
    (refuseTaken r code s).loop.unsolicited = s.loop.unsolicited ∧
    (refuseTaken r code s).loop.droppedService = s.loop.droppedService ∧
    (refuseTaken r code s).loop.claimPlace = s.loop.claimPlace ∧
    (refuseTaken r code s).loop.winchPlace = s.loop.winchPlace ∧ (refuseTaken r code s).loop.tx = s.loop.tx ∧
    (refuseTaken r code s).loop.pendingCmd = s.loop.pendingCmd ∧ (refuseTaken r code s).loop.grant = s.loop.grant ∧
    (refuseTaken r code s).cht = s.cht ∧ (refuseTaken r code s).store = s.store ∧
    (refuseTaken r code s).upl.rate = s.upl.rate ∧ (refuseTaken r code s).upl.fwdQ = s.upl.fwdQ ∧
    (refuseTaken r code s).upl.nextFwd = s.upl.nextFwd ∧ (refuseTaken r code s).upl.assembling = s.upl.assembling ∧
    (refuseTaken r code s).upl.framing = s.upl.framing ∧ (refuseTaken r code s).upl.gap = s.upl.gap ∧
    (refuseTaken r code s).upl.length = s.upl.length ∧ (refuseTaken r code s).upl.crc = s.upl.crc ∧
    (refuseTaken r code s).upl.linkLost = s.upl.linkLost ∧ (refuseTaken r code s).upl.foreign = s.upl.foreign ∧
    (refuseTaken r code s).upl.kindDiscards = s.upl.kindDiscards ∧
    (refuseTaken r code s).upl.huntDiscards = s.upl.huntDiscards ∧
    (refuseTaken r code s).upl.lastChar = s.upl.lastChar ∧ (refuseTaken r code s).upl.tail = s.upl.tail ∧
    (refuseTaken r code s).upl.ready = s.upl.ready ∧
    (refuseTaken r code s).ctl.queue = s.ctl.queue ∧ (refuseTaken r code s).ctl.droppedBusy = s.ctl.droppedBusy ∧
    (refuseTaken r code s).lines = s.lines ∧ (refuseTaken r code s).resetLine = s.resetLine ∧
    (refuseTaken r code s).lastReset = s.lastReset ∧ (refuseTaken r code s).pending = s.pending := by
  simp [refuseTaken]

@[simp] theorem takeRequest_frame (s : State) :
    (takeRequest s).clk = s.clk ∧ (takeRequest s).tbl = s.tbl ∧ (takeRequest s).stg = s.stg ∧
    (takeRequest s).rat = s.rat ∧ (takeRequest s).wrn = s.wrn ∧ (takeRequest s).pls = s.pls ∧
    (takeRequest s).run = s.run ∧ (takeRequest s).loop.rate = s.loop.rate ∧ (takeRequest s).loop.txn = s.loop.txn ∧
    (takeRequest s).loop.rx = s.loop.rx ∧ (takeRequest s).loop.jam = s.loop.jam ∧
    (takeRequest s).loop.lineBreak = s.loop.lineBreak ∧ (takeRequest s).loop.lowSince = s.loop.lowSince ∧
    (takeRequest s).loop.highSince = s.loop.highSince ∧ (takeRequest s).loop.sched = s.loop.sched ∧
    (takeRequest s).loop.nodeFail = s.loop.nodeFail ∧ (takeRequest s).loop.faults = s.loop.faults ∧
    (takeRequest s).loop.unsolicited = s.loop.unsolicited ∧
    (takeRequest s).loop.droppedService = s.loop.droppedService ∧
    (takeRequest s).loop.claimPlace = s.loop.claimPlace ∧ (takeRequest s).loop.winchPlace = s.loop.winchPlace ∧
    (takeRequest s).loop.tx = s.loop.tx ∧ (takeRequest s).loop.pendingCmd = s.loop.pendingCmd ∧
    (takeRequest s).loop.grant = s.loop.grant ∧ (takeRequest s).cht = s.cht ∧ (takeRequest s).store = s.store ∧
    (takeRequest s).upl.rate = s.upl.rate ∧ (takeRequest s).upl.fwdQ = s.upl.fwdQ ∧
    (takeRequest s).upl.nextFwd = s.upl.nextFwd ∧ (takeRequest s).upl.assembling = s.upl.assembling ∧
    (takeRequest s).upl.framing = s.upl.framing ∧ (takeRequest s).upl.gap = s.upl.gap ∧
    (takeRequest s).upl.length = s.upl.length ∧ (takeRequest s).upl.crc = s.upl.crc ∧
    (takeRequest s).upl.linkLost = s.upl.linkLost ∧ (takeRequest s).upl.foreign = s.upl.foreign ∧
    (takeRequest s).upl.kindDiscards = s.upl.kindDiscards ∧ (takeRequest s).upl.huntDiscards = s.upl.huntDiscards ∧
    (takeRequest s).upl.lastChar = s.upl.lastChar ∧ (takeRequest s).upl.tail = s.upl.tail ∧
    (takeRequest s).ctl.droppedBusy = s.ctl.droppedBusy ∧ (takeRequest s).lines = s.lines ∧
    (takeRequest s).resetLine = s.resetLine ∧ (takeRequest s).lastReset = s.lastReset ∧
    (takeRequest s).pending = s.pending := by
  unfold takeRequest
  (repeat' split) <;> simp

@[simp] theorem State.onStats_frame (s : State) (i : Nat) (f : EntryStats → EntryStats) :
    (State.onStats s i f).clk = s.clk ∧ (State.onStats s i f).tbl = s.tbl ∧ (State.onStats s i f).stg = s.stg ∧
    (State.onStats s i f).rat = s.rat ∧ (State.onStats s i f).wrn = s.wrn ∧ (State.onStats s i f).pls = s.pls ∧
    (State.onStats s i f).run = s.run ∧ (State.onStats s i f).loop = s.loop ∧
    (State.onStats s i f).cht.view = s.cht.view ∧ (State.onStats s i f).cht.winchClassified = s.cht.winchClassified ∧
    (State.onStats s i f).cht.winchDiscarded = s.cht.winchDiscarded ∧
    (State.onStats s i f).cht.winchReason = s.cht.winchReason ∧
    (State.onStats s i f).cht.unknownAddr = s.cht.unknownAddr ∧
    (State.onStats s i f).cht.unknownTime = s.cht.unknownTime ∧
    (State.onStats s i f).cht.unknownCount = s.cht.unknownCount ∧ (State.onStats s i f).store = s.store ∧
    (State.onStats s i f).upl = s.upl ∧ (State.onStats s i f).ctl = s.ctl ∧ (State.onStats s i f).lines = s.lines ∧
    (State.onStats s i f).resetLine = s.resetLine ∧ (State.onStats s i f).lastReset = s.lastReset ∧
    (State.onStats s i f).pending = s.pending := by
  simp [State.onStats]

@[simp] theorem discard_frame (p : Placing) (r : DiscardReason) (s : State) :
    (discard p r s).clk = s.clk ∧ (discard p r s).tbl = s.tbl ∧ (discard p r s).stg = s.stg ∧
    (discard p r s).rat = s.rat ∧ (discard p r s).wrn = s.wrn ∧ (discard p r s).pls = s.pls ∧
    (discard p r s).run = s.run ∧ (discard p r s).loop = s.loop ∧ (discard p r s).cht.view = s.cht.view ∧
    (discard p r s).cht.winchClassified = s.cht.winchClassified ∧
    (discard p r s).cht.unknownAddr = s.cht.unknownAddr ∧ (discard p r s).cht.unknownTime = s.cht.unknownTime ∧
    (discard p r s).cht.unknownCount = s.cht.unknownCount ∧ (discard p r s).store = s.store ∧
    (discard p r s).upl = s.upl ∧ (discard p r s).ctl = s.ctl ∧ (discard p r s).lines = s.lines ∧
    (discard p r s).resetLine = s.resetLine ∧ (discard p r s).lastReset = s.lastReset ∧
    (discard p r s).pending = s.pending := by
  unfold discard
  split <;> simp

@[simp] theorem discard_entry_winch (i : Nat) (r : DiscardReason) (s : State) :
    (discard (.entry i) r s).cht.winchDiscarded = s.cht.winchDiscarded ∧
    (discard (.entry i) r s).cht.winchReason = s.cht.winchReason := by
  simp [discard]

@[simp] theorem countDelivered_frame (p : Placing) (s : State) :
    (countDelivered p s).clk = s.clk ∧ (countDelivered p s).tbl = s.tbl ∧ (countDelivered p s).stg = s.stg ∧
    (countDelivered p s).rat = s.rat ∧ (countDelivered p s).wrn = s.wrn ∧ (countDelivered p s).pls = s.pls ∧
    (countDelivered p s).run = s.run ∧ (countDelivered p s).loop = s.loop ∧
    (countDelivered p s).cht.view = s.cht.view ∧ (countDelivered p s).cht.winchClassified = s.cht.winchClassified ∧
    (countDelivered p s).cht.winchDiscarded = s.cht.winchDiscarded ∧
    (countDelivered p s).cht.winchReason = s.cht.winchReason ∧
    (countDelivered p s).cht.unknownAddr = s.cht.unknownAddr ∧
    (countDelivered p s).cht.unknownTime = s.cht.unknownTime ∧
    (countDelivered p s).cht.unknownCount = s.cht.unknownCount ∧ (countDelivered p s).store = s.store ∧
    (countDelivered p s).upl = s.upl ∧ (countDelivered p s).ctl = s.ctl ∧ (countDelivered p s).lines = s.lines ∧
    (countDelivered p s).resetLine = s.resetLine ∧ (countDelivered p s).lastReset = s.lastReset ∧
    (countDelivered p s).pending = s.pending := by
  unfold countDelivered
  split <;> simp

@[simp] theorem unknownFrame_frame (f : GoodFrame) (s : State) :
    (unknownFrame f s).clk = s.clk ∧ (unknownFrame f s).tbl = s.tbl ∧ (unknownFrame f s).stg = s.stg ∧
    (unknownFrame f s).rat = s.rat ∧ (unknownFrame f s).wrn = s.wrn ∧ (unknownFrame f s).pls = s.pls ∧
    (unknownFrame f s).run = s.run ∧ (unknownFrame f s).loop = s.loop ∧ (unknownFrame f s).cht.view = s.cht.view ∧
    (unknownFrame f s).cht.stats = s.cht.stats ∧ (unknownFrame f s).cht.winchClassified = s.cht.winchClassified ∧
    (unknownFrame f s).cht.winchDiscarded = s.cht.winchDiscarded ∧
    (unknownFrame f s).cht.winchReason = s.cht.winchReason ∧ (unknownFrame f s).store = s.store ∧
    (unknownFrame f s).upl = s.upl ∧ (unknownFrame f s).ctl = s.ctl ∧ (unknownFrame f s).lines = s.lines ∧
    (unknownFrame f s).resetLine = s.resetLine ∧ (unknownFrame f s).lastReset = s.lastReset ∧
    (unknownFrame f s).pending = s.pending := by
  simp [unknownFrame]

@[simp] theorem deliverStage_frame (i : Nat) (src : Source) (f : GoodFrame) (s : State) :
    (deliverStage i src f s).clk = s.clk ∧ (deliverStage i src f s).tbl = s.tbl ∧
    (deliverStage i src f s).stg.history = s.stg.history ∧ (deliverStage i src f s).stg.historyAt = s.stg.historyAt ∧
    (deliverStage i src f s).stg.openStart = s.stg.openStart ∧
    (deliverStage i src f s).stg.nextBoundary = s.stg.nextBoundary ∧ (deliverStage i src f s).rat.live = s.rat.live ∧
    (deliverStage i src f s).rat.shifts = s.rat.shifts ∧ (deliverStage i src f s).pls.rotorIn = s.pls.rotorIn ∧
    (deliverStage i src f s).pls.surfaceIn = s.pls.surfaceIn ∧
    (deliverStage i src f s).pls.bottomIn = s.pls.bottomIn ∧ (deliverStage i src f s).run.marker = s.run.marker ∧
    (deliverStage i src f s).run.held = s.run.held ∧ (deliverStage i src f s).run.position = s.run.position ∧
    (deliverStage i src f s).run.grantKnown = s.run.grantKnown ∧ (deliverStage i src f s).loop.rate = s.loop.rate ∧
    (deliverStage i src f s).loop.txn = s.loop.txn ∧ (deliverStage i src f s).loop.rx = s.loop.rx ∧
    (deliverStage i src f s).loop.jam = s.loop.jam ∧ (deliverStage i src f s).loop.lineBreak = s.loop.lineBreak ∧
    (deliverStage i src f s).loop.lowSince = s.loop.lowSince ∧
    (deliverStage i src f s).loop.highSince = s.loop.highSince ∧ (deliverStage i src f s).loop.sched = s.loop.sched ∧
    (deliverStage i src f s).loop.nodeFail = s.loop.nodeFail ∧ (deliverStage i src f s).loop.faults = s.loop.faults ∧
    (deliverStage i src f s).loop.unsolicited = s.loop.unsolicited ∧
    (deliverStage i src f s).loop.droppedService = s.loop.droppedService ∧
    (deliverStage i src f s).loop.serviceQ = s.loop.serviceQ ∧ (deliverStage i src f s).loop.tx = s.loop.tx ∧
    (deliverStage i src f s).loop.grant.node = s.loop.grant.node ∧
    (deliverStage i src f s).loop.grant.limit = s.loop.grant.limit ∧
    (deliverStage i src f s).loop.grant.mode = s.loop.grant.mode ∧
    (deliverStage i src f s).loop.grant.count = s.loop.grant.count ∧
    (deliverStage i src f s).loop.grant.began = s.loop.grant.began ∧
    (deliverStage i src f s).loop.grant.wait = s.loop.grant.wait ∧
    (deliverStage i src f s).loop.grant.interleaveAt = s.loop.grant.interleaveAt ∧
    (deliverStage i src f s).loop.grant.lastEnd = s.loop.grant.lastEnd ∧
    (deliverStage i src f s).loop.grant.begun = s.loop.grant.begun ∧ (deliverStage i src f s).cht.view = s.cht.view ∧
    (deliverStage i src f s).cht.winchClassified = s.cht.winchClassified ∧
    (deliverStage i src f s).cht.winchDiscarded = s.cht.winchDiscarded ∧
    (deliverStage i src f s).cht.winchReason = s.cht.winchReason ∧
    (deliverStage i src f s).cht.unknownAddr = s.cht.unknownAddr ∧
    (deliverStage i src f s).cht.unknownTime = s.cht.unknownTime ∧
    (deliverStage i src f s).cht.unknownCount = s.cht.unknownCount ∧ (deliverStage i src f s).upl.rate = s.upl.rate ∧
    (deliverStage i src f s).upl.slot = s.upl.slot ∧ (deliverStage i src f s).upl.fwdQ = s.upl.fwdQ ∧
    (deliverStage i src f s).upl.nextFwd = s.upl.nextFwd ∧
    (deliverStage i src f s).upl.assembling = s.upl.assembling ∧
    (deliverStage i src f s).upl.framing = s.upl.framing ∧ (deliverStage i src f s).upl.gap = s.upl.gap ∧
    (deliverStage i src f s).upl.length = s.upl.length ∧ (deliverStage i src f s).upl.crc = s.upl.crc ∧
    (deliverStage i src f s).upl.linkLost = s.upl.linkLost ∧ (deliverStage i src f s).upl.foreign = s.upl.foreign ∧
    (deliverStage i src f s).upl.kindDiscards = s.upl.kindDiscards ∧
    (deliverStage i src f s).upl.huntDiscards = s.upl.huntDiscards ∧
    (deliverStage i src f s).upl.lastChar = s.upl.lastChar ∧ (deliverStage i src f s).upl.tail = s.upl.tail ∧
    (deliverStage i src f s).upl.ready = s.upl.ready ∧ (deliverStage i src f s).ctl = s.ctl ∧
    (deliverStage i src f s).lines = s.lines ∧ (deliverStage i src f s).resetLine = s.resetLine ∧
    (deliverStage i src f s).lastReset = s.lastReset ∧ (deliverStage i src f s).pending = s.pending := by
  unfold deliverStage
  (try dsimp only)
  (repeat' split) <;> simp

@[simp] theorem forwardFrom_frame (i : Nat) (f : GoodFrame) (s : State) :
    (forwardFrom i f s).clk = s.clk ∧ (forwardFrom i f s).tbl = s.tbl ∧ (forwardFrom i f s).stg = s.stg ∧
    (forwardFrom i f s).rat = s.rat ∧ (forwardFrom i f s).wrn = s.wrn ∧ (forwardFrom i f s).pls = s.pls ∧
    (forwardFrom i f s).run = s.run ∧ (forwardFrom i f s).loop = s.loop ∧ (forwardFrom i f s).cht.view = s.cht.view ∧
    (forwardFrom i f s).cht.winchClassified = s.cht.winchClassified ∧
    (forwardFrom i f s).cht.winchDiscarded = s.cht.winchDiscarded ∧
    (forwardFrom i f s).cht.winchReason = s.cht.winchReason ∧
    (forwardFrom i f s).cht.unknownAddr = s.cht.unknownAddr ∧
    (forwardFrom i f s).cht.unknownTime = s.cht.unknownTime ∧
    (forwardFrom i f s).cht.unknownCount = s.cht.unknownCount ∧ (forwardFrom i f s).store = s.store ∧
    (forwardFrom i f s).upl.rate = s.upl.rate ∧ (forwardFrom i f s).upl.slot = s.upl.slot ∧
    (forwardFrom i f s).upl.assembling = s.upl.assembling ∧ (forwardFrom i f s).upl.framing = s.upl.framing ∧
    (forwardFrom i f s).upl.gap = s.upl.gap ∧ (forwardFrom i f s).upl.length = s.upl.length ∧
    (forwardFrom i f s).upl.crc = s.upl.crc ∧ (forwardFrom i f s).upl.linkLost = s.upl.linkLost ∧
    (forwardFrom i f s).upl.foreign = s.upl.foreign ∧ (forwardFrom i f s).upl.kindDiscards = s.upl.kindDiscards ∧
    (forwardFrom i f s).upl.huntDiscards = s.upl.huntDiscards ∧
    (forwardFrom i f s).upl.lastChar = s.upl.lastChar ∧ (forwardFrom i f s).upl.tail = s.upl.tail ∧
    (forwardFrom i f s).upl.ready = s.upl.ready ∧
    (forwardFrom i f s).ctl = s.ctl ∧ (forwardFrom i f s).lines = s.lines ∧
    (forwardFrom i f s).resetLine = s.resetLine ∧ (forwardFrom i f s).lastReset = s.lastReset ∧
    (forwardFrom i f s).pending = s.pending := by
  simp [forwardFrom]

@[simp] theorem handleStage_frame (i : Nat) (src : Source) (f : GoodFrame) (s : State) :
    (handleStage i src f s).clk = s.clk ∧ (handleStage i src f s).tbl = s.tbl ∧
    (handleStage i src f s).stg.history = s.stg.history ∧ (handleStage i src f s).stg.historyAt = s.stg.historyAt ∧
    (handleStage i src f s).stg.openStart = s.stg.openStart ∧
    (handleStage i src f s).stg.nextBoundary = s.stg.nextBoundary ∧ (handleStage i src f s).rat.live = s.rat.live ∧
    (handleStage i src f s).rat.shifts = s.rat.shifts ∧ (handleStage i src f s).pls.rotorIn = s.pls.rotorIn ∧
    (handleStage i src f s).pls.surfaceIn = s.pls.surfaceIn ∧ (handleStage i src f s).pls.bottomIn = s.pls.bottomIn ∧
    (handleStage i src f s).run.marker = s.run.marker ∧ (handleStage i src f s).run.held = s.run.held ∧
    (handleStage i src f s).run.position = s.run.position ∧
    (handleStage i src f s).run.grantKnown = s.run.grantKnown ∧ (handleStage i src f s).loop.rate = s.loop.rate ∧
    (handleStage i src f s).loop.txn = s.loop.txn ∧ (handleStage i src f s).loop.rx = s.loop.rx ∧
    (handleStage i src f s).loop.jam = s.loop.jam ∧ (handleStage i src f s).loop.lineBreak = s.loop.lineBreak ∧
    (handleStage i src f s).loop.lowSince = s.loop.lowSince ∧
    (handleStage i src f s).loop.highSince = s.loop.highSince ∧ (handleStage i src f s).loop.sched = s.loop.sched ∧
    (handleStage i src f s).loop.nodeFail = s.loop.nodeFail ∧ (handleStage i src f s).loop.faults = s.loop.faults ∧
    (handleStage i src f s).loop.unsolicited = s.loop.unsolicited ∧
    (handleStage i src f s).loop.droppedService = s.loop.droppedService ∧
    (handleStage i src f s).loop.serviceQ = s.loop.serviceQ ∧ (handleStage i src f s).loop.tx = s.loop.tx ∧
    (handleStage i src f s).loop.grant.node = s.loop.grant.node ∧
    (handleStage i src f s).loop.grant.limit = s.loop.grant.limit ∧
    (handleStage i src f s).loop.grant.mode = s.loop.grant.mode ∧
    (handleStage i src f s).loop.grant.count = s.loop.grant.count ∧
    (handleStage i src f s).loop.grant.began = s.loop.grant.began ∧
    (handleStage i src f s).loop.grant.wait = s.loop.grant.wait ∧
    (handleStage i src f s).loop.grant.interleaveAt = s.loop.grant.interleaveAt ∧
    (handleStage i src f s).loop.grant.lastEnd = s.loop.grant.lastEnd ∧
    (handleStage i src f s).loop.grant.begun = s.loop.grant.begun ∧ (handleStage i src f s).cht.view = s.cht.view ∧
    (handleStage i src f s).cht.winchClassified = s.cht.winchClassified ∧
    (handleStage i src f s).cht.winchDiscarded = s.cht.winchDiscarded ∧
    (handleStage i src f s).cht.winchReason = s.cht.winchReason ∧
    (handleStage i src f s).cht.unknownAddr = s.cht.unknownAddr ∧
    (handleStage i src f s).cht.unknownTime = s.cht.unknownTime ∧
    (handleStage i src f s).cht.unknownCount = s.cht.unknownCount ∧ (handleStage i src f s).upl.rate = s.upl.rate ∧
    (handleStage i src f s).upl.slot = s.upl.slot ∧ (handleStage i src f s).upl.assembling = s.upl.assembling ∧
    (handleStage i src f s).upl.framing = s.upl.framing ∧ (handleStage i src f s).upl.gap = s.upl.gap ∧
    (handleStage i src f s).upl.length = s.upl.length ∧ (handleStage i src f s).upl.crc = s.upl.crc ∧
    (handleStage i src f s).upl.linkLost = s.upl.linkLost ∧ (handleStage i src f s).upl.foreign = s.upl.foreign ∧
    (handleStage i src f s).upl.kindDiscards = s.upl.kindDiscards ∧
    (handleStage i src f s).upl.huntDiscards = s.upl.huntDiscards ∧
    (handleStage i src f s).upl.lastChar = s.upl.lastChar ∧ (handleStage i src f s).upl.tail = s.upl.tail ∧
    (handleStage i src f s).upl.ready = s.upl.ready ∧
    (handleStage i src f s).ctl = s.ctl ∧ (handleStage i src f s).lines = s.lines ∧
    (handleStage i src f s).resetLine = s.resetLine ∧ (handleStage i src f s).lastReset = s.lastReset ∧
    (handleStage i src f s).pending = s.pending := by
  unfold handleStage
  (try dsimp only)
  (repeat' split) <;> simp

@[simp] theorem handleWinch_frame (p : Placing) (f : GoodFrame) (s : State) :
    (handleWinch p f s).clk = s.clk ∧ (handleWinch p f s).tbl = s.tbl ∧ (handleWinch p f s).stg = s.stg ∧
    (handleWinch p f s).rat.live = s.rat.live ∧ (handleWinch p f s).rat.latest = s.rat.latest ∧
    (handleWinch p f s).wrn = s.wrn ∧ (handleWinch p f s).pls.rotorIn = s.pls.rotorIn ∧
    (handleWinch p f s).pls.surfaceIn = s.pls.surfaceIn ∧ (handleWinch p f s).pls.bottomIn = s.pls.bottomIn ∧
    (handleWinch p f s).run.grantKnown = s.run.grantKnown ∧ (handleWinch p f s).loop.rate = s.loop.rate ∧
    (handleWinch p f s).loop.txn = s.loop.txn ∧ (handleWinch p f s).loop.rx = s.loop.rx ∧
    (handleWinch p f s).loop.jam = s.loop.jam ∧ (handleWinch p f s).loop.lineBreak = s.loop.lineBreak ∧
    (handleWinch p f s).loop.lowSince = s.loop.lowSince ∧ (handleWinch p f s).loop.highSince = s.loop.highSince ∧
    (handleWinch p f s).loop.sched = s.loop.sched ∧ (handleWinch p f s).loop.nodeFail = s.loop.nodeFail ∧
    (handleWinch p f s).loop.faults = s.loop.faults ∧ (handleWinch p f s).loop.unsolicited = s.loop.unsolicited ∧
    (handleWinch p f s).loop.droppedService = s.loop.droppedService ∧
    (handleWinch p f s).loop.serviceQ = s.loop.serviceQ ∧ (handleWinch p f s).loop.tx = s.loop.tx ∧
    (handleWinch p f s).loop.grant.node = s.loop.grant.node ∧
    (handleWinch p f s).loop.grant.limit = s.loop.grant.limit ∧
    (handleWinch p f s).loop.grant.mode = s.loop.grant.mode ∧
    (handleWinch p f s).loop.grant.count = s.loop.grant.count ∧
    (handleWinch p f s).loop.grant.began = s.loop.grant.began ∧
    (handleWinch p f s).loop.grant.wait = s.loop.grant.wait ∧
    (handleWinch p f s).loop.grant.interleaveAt = s.loop.grant.interleaveAt ∧
    (handleWinch p f s).loop.grant.lastEnd = s.loop.grant.lastEnd ∧
    (handleWinch p f s).loop.grant.begun = s.loop.grant.begun ∧ (handleWinch p f s).cht.view = s.cht.view ∧
    (handleWinch p f s).cht.winchClassified = s.cht.winchClassified ∧
    (handleWinch p f s).cht.unknownAddr = s.cht.unknownAddr ∧
    (handleWinch p f s).cht.unknownTime = s.cht.unknownTime ∧
    (handleWinch p f s).cht.unknownCount = s.cht.unknownCount ∧ (handleWinch p f s).upl.rate = s.upl.rate ∧
    (handleWinch p f s).upl.slot = s.upl.slot ∧ (handleWinch p f s).upl.fwdQ = s.upl.fwdQ ∧
    (handleWinch p f s).upl.nextFwd = s.upl.nextFwd ∧ (handleWinch p f s).upl.assembling = s.upl.assembling ∧
    (handleWinch p f s).upl.framing = s.upl.framing ∧ (handleWinch p f s).upl.gap = s.upl.gap ∧
    (handleWinch p f s).upl.length = s.upl.length ∧ (handleWinch p f s).upl.crc = s.upl.crc ∧
    (handleWinch p f s).upl.linkLost = s.upl.linkLost ∧ (handleWinch p f s).upl.foreign = s.upl.foreign ∧
    (handleWinch p f s).upl.kindDiscards = s.upl.kindDiscards ∧
    (handleWinch p f s).upl.huntDiscards = s.upl.huntDiscards ∧
    (handleWinch p f s).upl.lastChar = s.upl.lastChar ∧ (handleWinch p f s).upl.tail = s.upl.tail ∧
    (handleWinch p f s).upl.ready = s.upl.ready ∧
    (handleWinch p f s).ctl = s.ctl ∧ (handleWinch p f s).lines = s.lines ∧
    (handleWinch p f s).resetLine = s.resetLine ∧ (handleWinch p f s).lastReset = s.lastReset ∧
    (handleWinch p f s).pending = s.pending := by
  unfold handleWinch
  (repeat' split) <;> simp

@[simp] theorem handleForward_frame (i : Nat) (f : GoodFrame) (s : State) :
    (handleForward i f s).clk = s.clk ∧ (handleForward i f s).tbl = s.tbl ∧ (handleForward i f s).stg = s.stg ∧
    (handleForward i f s).rat = s.rat ∧ (handleForward i f s).wrn = s.wrn ∧ (handleForward i f s).pls = s.pls ∧
    (handleForward i f s).run = s.run ∧ (handleForward i f s).loop = s.loop ∧
    (handleForward i f s).cht.view = s.cht.view ∧ (handleForward i f s).cht.winchClassified = s.cht.winchClassified ∧
    (handleForward i f s).cht.winchDiscarded = s.cht.winchDiscarded ∧
    (handleForward i f s).cht.winchReason = s.cht.winchReason ∧
    (handleForward i f s).cht.unknownAddr = s.cht.unknownAddr ∧
    (handleForward i f s).cht.unknownTime = s.cht.unknownTime ∧
    (handleForward i f s).cht.unknownCount = s.cht.unknownCount ∧ (handleForward i f s).store = s.store ∧
    (handleForward i f s).upl.rate = s.upl.rate ∧ (handleForward i f s).upl.slot = s.upl.slot ∧
    (handleForward i f s).upl.assembling = s.upl.assembling ∧ (handleForward i f s).upl.framing = s.upl.framing ∧
    (handleForward i f s).upl.gap = s.upl.gap ∧ (handleForward i f s).upl.length = s.upl.length ∧
    (handleForward i f s).upl.crc = s.upl.crc ∧ (handleForward i f s).upl.linkLost = s.upl.linkLost ∧
    (handleForward i f s).upl.foreign = s.upl.foreign ∧ (handleForward i f s).upl.kindDiscards = s.upl.kindDiscards ∧
    (handleForward i f s).upl.huntDiscards = s.upl.huntDiscards ∧
    (handleForward i f s).upl.lastChar = s.upl.lastChar ∧ (handleForward i f s).upl.tail = s.upl.tail ∧
    (handleForward i f s).upl.ready = s.upl.ready ∧
    (handleForward i f s).ctl = s.ctl ∧ (handleForward i f s).lines = s.lines ∧
    (handleForward i f s).resetLine = s.resetLine ∧ (handleForward i f s).lastReset = s.lastReset ∧
    (handleForward i f s).pending = s.pending := by
  unfold handleForward
  split <;> simp

@[simp] theorem handleService_frame (i : Nat) (f : GoodFrame) (s : State) :
    (handleService i f s).clk = s.clk ∧ (handleService i f s).tbl = s.tbl ∧ (handleService i f s).stg = s.stg ∧
    (handleService i f s).rat = s.rat ∧ (handleService i f s).wrn = s.wrn ∧ (handleService i f s).pls = s.pls ∧
    (handleService i f s).run = s.run ∧ (handleService i f s).loop.rate = s.loop.rate ∧
    (handleService i f s).loop.txn = s.loop.txn ∧ (handleService i f s).loop.rx = s.loop.rx ∧
    (handleService i f s).loop.jam = s.loop.jam ∧ (handleService i f s).loop.lineBreak = s.loop.lineBreak ∧
    (handleService i f s).loop.lowSince = s.loop.lowSince ∧ (handleService i f s).loop.highSince = s.loop.highSince ∧
    (handleService i f s).loop.sched = s.loop.sched ∧ (handleService i f s).loop.nodeFail = s.loop.nodeFail ∧
    (handleService i f s).loop.faults = s.loop.faults ∧ (handleService i f s).loop.unsolicited = s.loop.unsolicited ∧
    (handleService i f s).loop.claimPlace = s.loop.claimPlace ∧
    (handleService i f s).loop.winchPlace = s.loop.winchPlace ∧ (handleService i f s).loop.tx = s.loop.tx ∧
    (handleService i f s).loop.pendingCmd = s.loop.pendingCmd ∧ (handleService i f s).loop.grant = s.loop.grant ∧
    (handleService i f s).cht.view = s.cht.view ∧ (handleService i f s).cht.winchClassified = s.cht.winchClassified ∧
    (handleService i f s).cht.winchDiscarded = s.cht.winchDiscarded ∧
    (handleService i f s).cht.winchReason = s.cht.winchReason ∧
    (handleService i f s).cht.unknownAddr = s.cht.unknownAddr ∧
    (handleService i f s).cht.unknownTime = s.cht.unknownTime ∧
    (handleService i f s).cht.unknownCount = s.cht.unknownCount ∧ (handleService i f s).store = s.store ∧
    (handleService i f s).upl.rate = s.upl.rate ∧ (handleService i f s).upl.fwdQ = s.upl.fwdQ ∧
    (handleService i f s).upl.nextFwd = s.upl.nextFwd ∧ (handleService i f s).upl.assembling = s.upl.assembling ∧
    (handleService i f s).upl.framing = s.upl.framing ∧ (handleService i f s).upl.gap = s.upl.gap ∧
    (handleService i f s).upl.length = s.upl.length ∧ (handleService i f s).upl.crc = s.upl.crc ∧
    (handleService i f s).upl.linkLost = s.upl.linkLost ∧ (handleService i f s).upl.foreign = s.upl.foreign ∧
    (handleService i f s).upl.kindDiscards = s.upl.kindDiscards ∧
    (handleService i f s).upl.huntDiscards = s.upl.huntDiscards ∧
    (handleService i f s).upl.lastChar = s.upl.lastChar ∧ (handleService i f s).upl.tail = s.upl.tail ∧
    (handleService i f s).ctl.inHand = s.ctl.inHand ∧
    (handleService i f s).ctl.pendingReply = s.ctl.pendingReply ∧
    (handleService i f s).ctl.resetWait = s.ctl.resetWait ∧
    (handleService i f s).ctl.lastRefusal = s.ctl.lastRefusal ∧ (handleService i f s).lines = s.lines ∧
    (handleService i f s).resetLine = s.resetLine ∧ (handleService i f s).lastReset = s.lastReset ∧
    (handleService i f s).pending = s.pending := by
  unfold handleService
  (repeat' split) <;> simp

@[simp] theorem handleEntry_frame (i : Nat) (f : GoodFrame) (s : State) :
    (handleEntry i f s).clk = s.clk ∧ (handleEntry i f s).tbl = s.tbl ∧
    (handleEntry i f s).stg.history = s.stg.history ∧ (handleEntry i f s).stg.historyAt = s.stg.historyAt ∧
    (handleEntry i f s).stg.openStart = s.stg.openStart ∧ (handleEntry i f s).stg.nextBoundary = s.stg.nextBoundary ∧
    (handleEntry i f s).rat.live = s.rat.live ∧ (handleEntry i f s).pls.rotorIn = s.pls.rotorIn ∧
    (handleEntry i f s).pls.surfaceIn = s.pls.surfaceIn ∧ (handleEntry i f s).pls.bottomIn = s.pls.bottomIn ∧
    (handleEntry i f s).run.grantKnown = s.run.grantKnown ∧ (handleEntry i f s).loop.rate = s.loop.rate ∧
    (handleEntry i f s).loop.txn = s.loop.txn ∧ (handleEntry i f s).loop.rx = s.loop.rx ∧
    (handleEntry i f s).loop.jam = s.loop.jam ∧ (handleEntry i f s).loop.lineBreak = s.loop.lineBreak ∧
    (handleEntry i f s).loop.lowSince = s.loop.lowSince ∧ (handleEntry i f s).loop.highSince = s.loop.highSince ∧
    (handleEntry i f s).loop.sched = s.loop.sched ∧ (handleEntry i f s).loop.nodeFail = s.loop.nodeFail ∧
    (handleEntry i f s).loop.faults = s.loop.faults ∧ (handleEntry i f s).loop.unsolicited = s.loop.unsolicited ∧
    (handleEntry i f s).loop.tx = s.loop.tx ∧ (handleEntry i f s).loop.grant.node = s.loop.grant.node ∧
    (handleEntry i f s).loop.grant.limit = s.loop.grant.limit ∧
    (handleEntry i f s).loop.grant.mode = s.loop.grant.mode ∧
    (handleEntry i f s).loop.grant.count = s.loop.grant.count ∧
    (handleEntry i f s).loop.grant.began = s.loop.grant.began ∧
    (handleEntry i f s).loop.grant.wait = s.loop.grant.wait ∧
    (handleEntry i f s).loop.grant.interleaveAt = s.loop.grant.interleaveAt ∧
    (handleEntry i f s).loop.grant.lastEnd = s.loop.grant.lastEnd ∧
    (handleEntry i f s).loop.grant.begun = s.loop.grant.begun ∧ (handleEntry i f s).cht.view = s.cht.view ∧
    (handleEntry i f s).cht.winchClassified = s.cht.winchClassified ∧
    (handleEntry i f s).cht.unknownAddr = s.cht.unknownAddr ∧
    (handleEntry i f s).cht.unknownTime = s.cht.unknownTime ∧
    (handleEntry i f s).cht.unknownCount = s.cht.unknownCount ∧ (handleEntry i f s).upl.rate = s.upl.rate ∧
    (handleEntry i f s).upl.assembling = s.upl.assembling ∧ (handleEntry i f s).upl.framing = s.upl.framing ∧
    (handleEntry i f s).upl.gap = s.upl.gap ∧ (handleEntry i f s).upl.length = s.upl.length ∧
    (handleEntry i f s).upl.crc = s.upl.crc ∧ (handleEntry i f s).upl.linkLost = s.upl.linkLost ∧
    (handleEntry i f s).upl.foreign = s.upl.foreign ∧ (handleEntry i f s).upl.kindDiscards = s.upl.kindDiscards ∧
    (handleEntry i f s).upl.huntDiscards = s.upl.huntDiscards ∧
    (handleEntry i f s).upl.lastChar = s.upl.lastChar ∧ (handleEntry i f s).upl.tail = s.upl.tail ∧
    (handleEntry i f s).ctl.inHand = s.ctl.inHand ∧
    (handleEntry i f s).ctl.pendingReply = s.ctl.pendingReply ∧ (handleEntry i f s).ctl.resetWait = s.ctl.resetWait ∧
    (handleEntry i f s).ctl.lastRefusal = s.ctl.lastRefusal ∧ (handleEntry i f s).lines = s.lines ∧
    (handleEntry i f s).resetLine = s.resetLine ∧ (handleEntry i f s).lastReset = s.lastReset ∧
    (handleEntry i f s).pending = s.pending := by
  unfold handleEntry
  (try dsimp only)
  (repeat' split) <;> simp

@[simp] theorem classify_frame (f : GoodFrame) (s : State) :
    (classify f s).clk = s.clk ∧ (classify f s).tbl = s.tbl ∧ (classify f s).stg.history = s.stg.history ∧
    (classify f s).stg.historyAt = s.stg.historyAt ∧ (classify f s).stg.openStart = s.stg.openStart ∧
    (classify f s).stg.nextBoundary = s.stg.nextBoundary ∧ (classify f s).rat.live = s.rat.live ∧
    (classify f s).pls.rotorIn = s.pls.rotorIn ∧ (classify f s).pls.surfaceIn = s.pls.surfaceIn ∧
    (classify f s).pls.bottomIn = s.pls.bottomIn ∧ (classify f s).run.grantKnown = s.run.grantKnown ∧
    (classify f s).loop.rate = s.loop.rate ∧ (classify f s).loop.txn = s.loop.txn ∧
    (classify f s).loop.rx = s.loop.rx ∧ (classify f s).loop.jam = s.loop.jam ∧
    (classify f s).loop.lineBreak = s.loop.lineBreak ∧ (classify f s).loop.lowSince = s.loop.lowSince ∧
    (classify f s).loop.highSince = s.loop.highSince ∧ (classify f s).loop.sched = s.loop.sched ∧
    (classify f s).loop.nodeFail = s.loop.nodeFail ∧ (classify f s).loop.faults = s.loop.faults ∧
    (classify f s).loop.unsolicited = s.loop.unsolicited ∧ (classify f s).loop.tx = s.loop.tx ∧
    (classify f s).loop.grant.node = s.loop.grant.node ∧ (classify f s).loop.grant.limit = s.loop.grant.limit ∧
    (classify f s).loop.grant.mode = s.loop.grant.mode ∧ (classify f s).loop.grant.count = s.loop.grant.count ∧
    (classify f s).loop.grant.began = s.loop.grant.began ∧ (classify f s).loop.grant.wait = s.loop.grant.wait ∧
    (classify f s).loop.grant.interleaveAt = s.loop.grant.interleaveAt ∧
    (classify f s).loop.grant.lastEnd = s.loop.grant.lastEnd ∧ (classify f s).loop.grant.begun = s.loop.grant.begun ∧
    (classify f s).cht.view = s.cht.view ∧ (classify f s).upl.rate = s.upl.rate ∧
    (classify f s).upl.assembling = s.upl.assembling ∧ (classify f s).upl.framing = s.upl.framing ∧
    (classify f s).upl.gap = s.upl.gap ∧ (classify f s).upl.length = s.upl.length ∧
    (classify f s).upl.crc = s.upl.crc ∧ (classify f s).upl.linkLost = s.upl.linkLost ∧
    (classify f s).upl.foreign = s.upl.foreign ∧ (classify f s).upl.kindDiscards = s.upl.kindDiscards ∧
    (classify f s).upl.huntDiscards = s.upl.huntDiscards ∧
    (classify f s).upl.lastChar = s.upl.lastChar ∧ (classify f s).upl.tail = s.upl.tail ∧
    (classify f s).ctl.inHand = s.ctl.inHand ∧
    (classify f s).ctl.pendingReply = s.ctl.pendingReply ∧ (classify f s).ctl.resetWait = s.ctl.resetWait ∧
    (classify f s).ctl.lastRefusal = s.ctl.lastRefusal ∧ (classify f s).lines = s.lines ∧
    (classify f s).resetLine = s.resetLine ∧ (classify f s).lastReset = s.lastReset ∧
    (classify f s).pending = s.pending := by
  unfold classify
  (try dsimp only)
  (repeat' split) <;> simp

@[simp] theorem channelsWritten_frame (old : List Byte) (s : State) :
    (channelsWritten old s).clk = s.clk ∧ (channelsWritten old s).tbl = s.tbl ∧ (channelsWritten old s).stg = s.stg ∧
    (channelsWritten old s).rat = s.rat ∧ (channelsWritten old s).wrn = s.wrn ∧ (channelsWritten old s).pls = s.pls ∧
    (channelsWritten old s).run = s.run ∧ (channelsWritten old s).loop.rate = s.loop.rate ∧
    (channelsWritten old s).loop.txn = s.loop.txn ∧ (channelsWritten old s).loop.rx = s.loop.rx ∧
    (channelsWritten old s).loop.jam = s.loop.jam ∧ (channelsWritten old s).loop.lineBreak = s.loop.lineBreak ∧
    (channelsWritten old s).loop.lowSince = s.loop.lowSince ∧
    (channelsWritten old s).loop.highSince = s.loop.highSince ∧
    (channelsWritten old s).loop.nodeFail = s.loop.nodeFail ∧ (channelsWritten old s).loop.faults = s.loop.faults ∧
    (channelsWritten old s).loop.unsolicited = s.loop.unsolicited ∧
    (channelsWritten old s).loop.droppedService = s.loop.droppedService ∧
    (channelsWritten old s).loop.claimPlace = s.loop.claimPlace ∧
    (channelsWritten old s).loop.winchPlace = s.loop.winchPlace ∧
    (channelsWritten old s).loop.serviceQ = s.loop.serviceQ ∧ (channelsWritten old s).loop.handNo = s.loop.handNo ∧
    (channelsWritten old s).loop.tx = s.loop.tx ∧ (channelsWritten old s).loop.pendingCmd = s.loop.pendingCmd ∧
    (channelsWritten old s).loop.grant = s.loop.grant ∧ (channelsWritten old s).cht.stats = s.cht.stats ∧
    (channelsWritten old s).cht.winchClassified = s.cht.winchClassified ∧
    (channelsWritten old s).cht.winchDiscarded = s.cht.winchDiscarded ∧
    (channelsWritten old s).cht.winchReason = s.cht.winchReason ∧
    (channelsWritten old s).cht.unknownAddr = s.cht.unknownAddr ∧
    (channelsWritten old s).cht.unknownTime = s.cht.unknownTime ∧
    (channelsWritten old s).cht.unknownCount = s.cht.unknownCount ∧ (channelsWritten old s).store = s.store ∧
    (channelsWritten old s).upl = s.upl ∧ (channelsWritten old s).ctl = s.ctl ∧
    (channelsWritten old s).lines = s.lines ∧ (channelsWritten old s).resetLine = s.resetLine ∧
    (channelsWritten old s).lastReset = s.lastReset ∧ (channelsWritten old s).pending = s.pending := by
  simp [channelsWritten]

@[simp] theorem notifyMissing_frame (ch : Nat) (s : State) :
    (notifyMissing ch s).clk = s.clk ∧ (notifyMissing ch s).tbl = s.tbl ∧
    (notifyMissing ch s).stg.prim = s.stg.prim ∧ (notifyMissing ch s).stg.sec = s.stg.sec ∧
    (notifyMissing ch s).stg.selection = s.stg.selection ∧ (notifyMissing ch s).stg.offset = s.stg.offset ∧
    (notifyMissing ch s).stg.selected = s.stg.selected ∧ (notifyMissing ch s).stg.history = s.stg.history ∧
    (notifyMissing ch s).stg.historyAt = s.stg.historyAt ∧ (notifyMissing ch s).stg.openStart = s.stg.openStart ∧
    (notifyMissing ch s).stg.nextBoundary = s.stg.nextBoundary ∧ (notifyMissing ch s).rat = s.rat ∧
    (notifyMissing ch s).wrn = s.wrn ∧ (notifyMissing ch s).pls = s.pls ∧ (notifyMissing ch s).run = s.run ∧
    (notifyMissing ch s).loop = s.loop ∧ (notifyMissing ch s).cht = s.cht ∧ (notifyMissing ch s).store = s.store ∧
    (notifyMissing ch s).upl = s.upl ∧ (notifyMissing ch s).ctl = s.ctl ∧ (notifyMissing ch s).lines = s.lines ∧
    (notifyMissing ch s).resetLine = s.resetLine ∧ (notifyMissing ch s).lastReset = s.lastReset ∧
    (notifyMissing ch s).pending = s.pending := by
  unfold notifyMissing
  split <;> simp

end Sys2Proof.Machine
end

