-- ==== Sys2Proof/Laws/ReceptionFrame.lean ====
section
/-! SUPPORT. What the operations of the ends of frames, transactions and grants leave as it was: one lemma per
operation, for all the fields it does not touch. -/

namespace Sys2Proof.Machine

@[simp] theorem beginFrame_frame (addr : Byte) (s : State) :
    (beginFrame addr s).clk = s.clk ∧ (beginFrame addr s).tbl = s.tbl ∧ (beginFrame addr s).stg = s.stg ∧
    (beginFrame addr s).rat = s.rat ∧ (beginFrame addr s).wrn = s.wrn ∧ (beginFrame addr s).pls = s.pls ∧
    (beginFrame addr s).run = s.run ∧ (beginFrame addr s).loop.rate = s.loop.rate ∧
    (beginFrame addr s).loop.jam = s.loop.jam ∧ (beginFrame addr s).loop.lineBreak = s.loop.lineBreak ∧
    (beginFrame addr s).loop.lowSince = s.loop.lowSince ∧ (beginFrame addr s).loop.highSince = s.loop.highSince ∧
    (beginFrame addr s).loop.sched = s.loop.sched ∧ (beginFrame addr s).loop.nodeFail = s.loop.nodeFail ∧
    (beginFrame addr s).loop.faults = s.loop.faults ∧ (beginFrame addr s).loop.unsolicited = s.loop.unsolicited ∧
    (beginFrame addr s).loop.droppedService = s.loop.droppedService ∧
    (beginFrame addr s).loop.claimPlace = s.loop.claimPlace ∧
    (beginFrame addr s).loop.winchPlace = s.loop.winchPlace ∧ (beginFrame addr s).loop.serviceQ = s.loop.serviceQ ∧
    (beginFrame addr s).loop.handNo = s.loop.handNo ∧ (beginFrame addr s).loop.tx = s.loop.tx ∧
    (beginFrame addr s).loop.pendingCmd = s.loop.pendingCmd ∧
    (beginFrame addr s).loop.grant.state = s.loop.grant.state ∧
    (beginFrame addr s).loop.grant.node = s.loop.grant.node ∧
    (beginFrame addr s).loop.grant.limit = s.loop.grant.limit ∧
    (beginFrame addr s).loop.grant.mode = s.loop.grant.mode ∧
    (beginFrame addr s).loop.grant.count = s.loop.grant.count ∧
    (beginFrame addr s).loop.grant.began = s.loop.grant.began ∧
    (beginFrame addr s).loop.grant.timerAt = s.loop.grant.timerAt ∧
    (beginFrame addr s).loop.grant.cause = s.loop.grant.cause ∧
    (beginFrame addr s).loop.grant.recorded = s.loop.grant.recorded ∧
    (beginFrame addr s).loop.grant.interleaveAt = s.loop.grant.interleaveAt ∧
    (beginFrame addr s).loop.grant.lastEnd = s.loop.grant.lastEnd ∧
    (beginFrame addr s).loop.grant.begun = s.loop.grant.begun ∧ (beginFrame addr s).cht = s.cht ∧
    (beginFrame addr s).store = s.store ∧ (beginFrame addr s).upl = s.upl ∧ (beginFrame addr s).ctl = s.ctl ∧
    (beginFrame addr s).lines = s.lines ∧ (beginFrame addr s).resetLine = s.resetLine ∧
    (beginFrame addr s).lastReset = s.lastReset ∧ (beginFrame addr s).pending = s.pending := by
  unfold beginFrame
  dsimp only
  (repeat' split) <;> simp

@[simp] theorem afterFault_frame (f : FrameFault) (s : State) :
    (afterFault f s).clk = s.clk ∧ (afterFault f s).tbl = s.tbl ∧ (afterFault f s).stg = s.stg ∧
    (afterFault f s).rat = s.rat ∧ (afterFault f s).wrn = s.wrn ∧ (afterFault f s).pls = s.pls ∧
    (afterFault f s).run = s.run ∧ (afterFault f s).loop.rate = s.loop.rate ∧
    (afterFault f s).loop.jam = s.loop.jam ∧ (afterFault f s).loop.lineBreak = s.loop.lineBreak ∧
    (afterFault f s).loop.lowSince = s.loop.lowSince ∧ (afterFault f s).loop.highSince = s.loop.highSince ∧
    (afterFault f s).loop.sched = s.loop.sched ∧ (afterFault f s).loop.nodeFail = s.loop.nodeFail ∧
    (afterFault f s).loop.faults = s.loop.faults ∧ (afterFault f s).loop.unsolicited = s.loop.unsolicited ∧
    (afterFault f s).loop.droppedService = s.loop.droppedService ∧
    (afterFault f s).loop.claimPlace = s.loop.claimPlace ∧ (afterFault f s).loop.winchPlace = s.loop.winchPlace ∧
    (afterFault f s).loop.serviceQ = s.loop.serviceQ ∧ (afterFault f s).loop.handNo = s.loop.handNo ∧
    (afterFault f s).loop.tx = s.loop.tx ∧ (afterFault f s).loop.pendingCmd = s.loop.pendingCmd ∧
    (afterFault f s).loop.grant.state = s.loop.grant.state ∧ (afterFault f s).loop.grant.node = s.loop.grant.node ∧
    (afterFault f s).loop.grant.limit = s.loop.grant.limit ∧ (afterFault f s).loop.grant.mode = s.loop.grant.mode ∧
    (afterFault f s).loop.grant.count = s.loop.grant.count ∧ (afterFault f s).loop.grant.began = s.loop.grant.began ∧
    (afterFault f s).loop.grant.timerAt = s.loop.grant.timerAt ∧
    (afterFault f s).loop.grant.cause = s.loop.grant.cause ∧
    (afterFault f s).loop.grant.recorded = s.loop.grant.recorded ∧
    (afterFault f s).loop.grant.interleaveAt = s.loop.grant.interleaveAt ∧
    (afterFault f s).loop.grant.lastEnd = s.loop.grant.lastEnd ∧
    (afterFault f s).loop.grant.begun = s.loop.grant.begun ∧ (afterFault f s).cht = s.cht ∧
    (afterFault f s).store = s.store ∧ (afterFault f s).upl = s.upl ∧ (afterFault f s).ctl = s.ctl ∧
    (afterFault f s).lines = s.lines ∧ (afterFault f s).resetLine = s.resetLine ∧
    (afterFault f s).lastReset = s.lastReset ∧ (afterFault f s).pending = s.pending := by
  unfold afterFault
  split <;> simp

@[simp] theorem nodeFailure_frame (addr : Nat) (s : State) :
    (nodeFailure addr s).clk = s.clk ∧ (nodeFailure addr s).tbl = s.tbl ∧ (nodeFailure addr s).stg = s.stg ∧
    (nodeFailure addr s).rat = s.rat ∧ (nodeFailure addr s).wrn = s.wrn ∧
    (nodeFailure addr s).pls.rotorIn = s.pls.rotorIn ∧ (nodeFailure addr s).pls.surfaceIn = s.pls.surfaceIn ∧
    (nodeFailure addr s).pls.bottomIn = s.pls.bottomIn ∧ (nodeFailure addr s).run.marker = s.run.marker ∧
    (nodeFailure addr s).run.held = s.run.held ∧ (nodeFailure addr s).run.position = s.run.position ∧
    (nodeFailure addr s).run.grantKnown = s.run.grantKnown ∧ (nodeFailure addr s).loop.rate = s.loop.rate ∧
    (nodeFailure addr s).loop.txn = s.loop.txn ∧ (nodeFailure addr s).loop.rx = s.loop.rx ∧
    (nodeFailure addr s).loop.jam = s.loop.jam ∧ (nodeFailure addr s).loop.lineBreak = s.loop.lineBreak ∧
    (nodeFailure addr s).loop.lowSince = s.loop.lowSince ∧ (nodeFailure addr s).loop.highSince = s.loop.highSince ∧
    (nodeFailure addr s).loop.sched = s.loop.sched ∧ (nodeFailure addr s).loop.faults = s.loop.faults ∧
    (nodeFailure addr s).loop.unsolicited = s.loop.unsolicited ∧
    (nodeFailure addr s).loop.droppedService = s.loop.droppedService ∧
    (nodeFailure addr s).loop.serviceQ = s.loop.serviceQ ∧ (nodeFailure addr s).loop.tx = s.loop.tx ∧
    (nodeFailure addr s).loop.grant.node = s.loop.grant.node ∧
    (nodeFailure addr s).loop.grant.limit = s.loop.grant.limit ∧
    (nodeFailure addr s).loop.grant.mode = s.loop.grant.mode ∧
    (nodeFailure addr s).loop.grant.count = s.loop.grant.count ∧
    (nodeFailure addr s).loop.grant.began = s.loop.grant.began ∧
    (nodeFailure addr s).loop.grant.wait = s.loop.grant.wait ∧
    (nodeFailure addr s).loop.grant.interleaveAt = s.loop.grant.interleaveAt ∧
    (nodeFailure addr s).loop.grant.lastEnd = s.loop.grant.lastEnd ∧
    (nodeFailure addr s).loop.grant.begun = s.loop.grant.begun ∧ (nodeFailure addr s).cht = s.cht ∧
    (nodeFailure addr s).store = s.store ∧ (nodeFailure addr s).upl = s.upl ∧ (nodeFailure addr s).ctl = s.ctl ∧
    (nodeFailure addr s).lines = s.lines ∧ (nodeFailure addr s).resetLine = s.resetLine ∧
    (nodeFailure addr s).lastReset = s.lastReset ∧ (nodeFailure addr s).pending = s.pending := by
  unfold nodeFailure
  dsimp only
  split <;> simp

@[simp] theorem failTxn_frame (k : RxFault) (s : State) :
    (failTxn k s).clk = s.clk ∧ (failTxn k s).tbl = s.tbl ∧ (failTxn k s).stg.prim = s.stg.prim ∧
    (failTxn k s).stg.sec = s.stg.sec ∧ (failTxn k s).stg.selection = s.stg.selection ∧
    (failTxn k s).stg.offset = s.stg.offset ∧ (failTxn k s).stg.selected = s.stg.selected ∧
    (failTxn k s).stg.history = s.stg.history ∧ (failTxn k s).stg.historyAt = s.stg.historyAt ∧
    (failTxn k s).stg.openStart = s.stg.openStart ∧ (failTxn k s).stg.nextBoundary = s.stg.nextBoundary ∧
    (failTxn k s).rat = s.rat ∧ (failTxn k s).wrn = s.wrn ∧ (failTxn k s).pls.rotorIn = s.pls.rotorIn ∧
    (failTxn k s).pls.surfaceIn = s.pls.surfaceIn ∧ (failTxn k s).pls.bottomIn = s.pls.bottomIn ∧
    (failTxn k s).run.marker = s.run.marker ∧ (failTxn k s).run.held = s.run.held ∧
    (failTxn k s).run.position = s.run.position ∧ (failTxn k s).run.grantKnown = s.run.grantKnown ∧
    (failTxn k s).loop.rate = s.loop.rate ∧ (failTxn k s).loop.jam = s.loop.jam ∧
    (failTxn k s).loop.lineBreak = s.loop.lineBreak ∧ (failTxn k s).loop.lowSince = s.loop.lowSince ∧
    (failTxn k s).loop.highSince = s.loop.highSince ∧ (failTxn k s).loop.unsolicited = s.loop.unsolicited ∧
    (failTxn k s).loop.droppedService = s.loop.droppedService ∧ (failTxn k s).loop.serviceQ = s.loop.serviceQ ∧
    (failTxn k s).loop.tx = s.loop.tx ∧ (failTxn k s).loop.grant.node = s.loop.grant.node ∧
    (failTxn k s).loop.grant.limit = s.loop.grant.limit ∧ (failTxn k s).loop.grant.mode = s.loop.grant.mode ∧
    (failTxn k s).loop.grant.count = s.loop.grant.count ∧ (failTxn k s).loop.grant.began = s.loop.grant.began ∧
    (failTxn k s).loop.grant.wait = s.loop.grant.wait ∧
    (failTxn k s).loop.grant.interleaveAt = s.loop.grant.interleaveAt ∧
    (failTxn k s).loop.grant.lastEnd = s.loop.grant.lastEnd ∧ (failTxn k s).loop.grant.begun = s.loop.grant.begun ∧
    (failTxn k s).cht = s.cht ∧ (failTxn k s).store = s.store ∧ (failTxn k s).upl = s.upl ∧
    (failTxn k s).ctl = s.ctl ∧ (failTxn k s).lines = s.lines ∧ (failTxn k s).resetLine = s.resetLine ∧
    (failTxn k s).lastReset = s.lastReset ∧ (failTxn k s).pending = s.pending := by
  unfold failTxn
  (repeat' split) <;> simp

@[simp] theorem endTxnGood_frame (b : FrameBody) (s : State) :
    (endTxnGood b s).clk = s.clk ∧ (endTxnGood b s).tbl = s.tbl ∧ (endTxnGood b s).stg.history = s.stg.history ∧
    (endTxnGood b s).stg.historyAt = s.stg.historyAt ∧ (endTxnGood b s).stg.openStart = s.stg.openStart ∧
    (endTxnGood b s).stg.nextBoundary = s.stg.nextBoundary ∧ (endTxnGood b s).rat.live = s.rat.live ∧
    (endTxnGood b s).pls.rotorIn = s.pls.rotorIn ∧ (endTxnGood b s).pls.surfaceIn = s.pls.surfaceIn ∧
    (endTxnGood b s).pls.bottomIn = s.pls.bottomIn ∧ (endTxnGood b s).run.grantKnown = s.run.grantKnown ∧
    (endTxnGood b s).loop.rate = s.loop.rate ∧ (endTxnGood b s).loop.jam = s.loop.jam ∧
    (endTxnGood b s).loop.lineBreak = s.loop.lineBreak ∧ (endTxnGood b s).loop.lowSince = s.loop.lowSince ∧
    (endTxnGood b s).loop.highSince = s.loop.highSince ∧ (endTxnGood b s).loop.faults = s.loop.faults ∧
    (endTxnGood b s).loop.unsolicited = s.loop.unsolicited ∧ (endTxnGood b s).loop.tx = s.loop.tx ∧
    (endTxnGood b s).loop.grant.node = s.loop.grant.node ∧ (endTxnGood b s).loop.grant.limit = s.loop.grant.limit ∧
    (endTxnGood b s).loop.grant.mode = s.loop.grant.mode ∧ (endTxnGood b s).loop.grant.count = s.loop.grant.count ∧
    (endTxnGood b s).loop.grant.began = s.loop.grant.began ∧ (endTxnGood b s).loop.grant.wait = s.loop.grant.wait ∧
    (endTxnGood b s).loop.grant.interleaveAt = s.loop.grant.interleaveAt ∧
    (endTxnGood b s).loop.grant.lastEnd = s.loop.grant.lastEnd ∧
    (endTxnGood b s).loop.grant.begun = s.loop.grant.begun ∧ (endTxnGood b s).cht.view = s.cht.view ∧
    (endTxnGood b s).upl.rate = s.upl.rate ∧ (endTxnGood b s).upl.assembling = s.upl.assembling ∧
    (endTxnGood b s).upl.framing = s.upl.framing ∧ (endTxnGood b s).upl.gap = s.upl.gap ∧
    (endTxnGood b s).upl.length = s.upl.length ∧ (endTxnGood b s).upl.crc = s.upl.crc ∧
    (endTxnGood b s).upl.linkLost = s.upl.linkLost ∧ (endTxnGood b s).upl.foreign = s.upl.foreign ∧
    (endTxnGood b s).upl.kindDiscards = s.upl.kindDiscards ∧ (endTxnGood b s).upl.huntDiscards = s.upl.huntDiscards ∧
    (endTxnGood b s).upl.lastChar = s.upl.lastChar ∧ (endTxnGood b s).upl.tail = s.upl.tail ∧
    (endTxnGood b s).ctl.inHand = s.ctl.inHand ∧ (endTxnGood b s).ctl.pendingReply = s.ctl.pendingReply ∧
    (endTxnGood b s).ctl.resetWait = s.ctl.resetWait ∧ (endTxnGood b s).ctl.lastRefusal = s.ctl.lastRefusal ∧
    (endTxnGood b s).lines = s.lines ∧ (endTxnGood b s).resetLine = s.resetLine ∧
    (endTxnGood b s).lastReset = s.lastReset ∧ (endTxnGood b s).pending = s.pending := by
  unfold endTxnGood
  (try dsimp only)
  (repeat' split) <;> simp

@[simp] theorem endReply_frame (b : FrameBody) (s : State) :
    (endReply b s).clk = s.clk ∧ (endReply b s).tbl = s.tbl ∧ (endReply b s).stg.history = s.stg.history ∧
    (endReply b s).stg.historyAt = s.stg.historyAt ∧ (endReply b s).stg.openStart = s.stg.openStart ∧
    (endReply b s).stg.nextBoundary = s.stg.nextBoundary ∧ (endReply b s).rat.live = s.rat.live ∧
    (endReply b s).pls.rotorIn = s.pls.rotorIn ∧ (endReply b s).pls.surfaceIn = s.pls.surfaceIn ∧
    (endReply b s).pls.bottomIn = s.pls.bottomIn ∧ (endReply b s).run.grantKnown = s.run.grantKnown ∧
    (endReply b s).loop.rate = s.loop.rate ∧ (endReply b s).loop.jam = s.loop.jam ∧
    (endReply b s).loop.lineBreak = s.loop.lineBreak ∧ (endReply b s).loop.lowSince = s.loop.lowSince ∧
    (endReply b s).loop.highSince = s.loop.highSince ∧ (endReply b s).loop.unsolicited = s.loop.unsolicited ∧
    (endReply b s).loop.tx = s.loop.tx ∧ (endReply b s).loop.grant.node = s.loop.grant.node ∧
    (endReply b s).loop.grant.limit = s.loop.grant.limit ∧ (endReply b s).loop.grant.mode = s.loop.grant.mode ∧
    (endReply b s).loop.grant.count = s.loop.grant.count ∧ (endReply b s).loop.grant.began = s.loop.grant.began ∧
    (endReply b s).loop.grant.wait = s.loop.grant.wait ∧
    (endReply b s).loop.grant.interleaveAt = s.loop.grant.interleaveAt ∧
    (endReply b s).loop.grant.lastEnd = s.loop.grant.lastEnd ∧ (endReply b s).loop.grant.begun = s.loop.grant.begun ∧
    (endReply b s).cht.view = s.cht.view ∧ (endReply b s).upl.rate = s.upl.rate ∧
    (endReply b s).upl.assembling = s.upl.assembling ∧ (endReply b s).upl.framing = s.upl.framing ∧
    (endReply b s).upl.gap = s.upl.gap ∧ (endReply b s).upl.length = s.upl.length ∧
    (endReply b s).upl.crc = s.upl.crc ∧ (endReply b s).upl.linkLost = s.upl.linkLost ∧
    (endReply b s).upl.foreign = s.upl.foreign ∧ (endReply b s).upl.kindDiscards = s.upl.kindDiscards ∧
    (endReply b s).upl.huntDiscards = s.upl.huntDiscards ∧
    (endReply b s).upl.lastChar = s.upl.lastChar ∧ (endReply b s).upl.tail = s.upl.tail ∧
    (endReply b s).ctl.inHand = s.ctl.inHand ∧
    (endReply b s).ctl.pendingReply = s.ctl.pendingReply ∧ (endReply b s).ctl.resetWait = s.ctl.resetWait ∧
    (endReply b s).ctl.lastRefusal = s.ctl.lastRefusal ∧ (endReply b s).lines = s.lines ∧
    (endReply b s).resetLine = s.resetLine ∧ (endReply b s).lastReset = s.lastReset ∧
    (endReply b s).pending = s.pending := by
  unfold endReply
  (repeat' split) <;> simp

@[simp] theorem closeGrant_frame (cause : GrantEnd) (s : State) :
    (closeGrant cause s).clk = s.clk ∧ (closeGrant cause s).tbl = s.tbl ∧ (closeGrant cause s).stg = s.stg ∧
    (closeGrant cause s).rat = s.rat ∧ (closeGrant cause s).wrn = s.wrn ∧ (closeGrant cause s).pls = s.pls ∧
    (closeGrant cause s).run.state = s.run.state ∧ (closeGrant cause s).run.marker = s.run.marker ∧
    (closeGrant cause s).run.held = s.run.held ∧ (closeGrant cause s).run.position = s.run.position ∧
    (closeGrant cause s).run.record = s.run.record ∧ (closeGrant cause s).run.cursor = s.run.cursor ∧
    (closeGrant cause s).run.vertical = s.run.vertical ∧ (closeGrant cause s).run.moveId = s.run.moveId ∧
    (closeGrant cause s).run.moveSent = s.run.moveSent ∧ (closeGrant cause s).run.haltId = s.run.haltId ∧
    (closeGrant cause s).run.retrieveSent = s.run.retrieveSent ∧
    (closeGrant cause s).run.traverseAt = s.run.traverseAt ∧
    (closeGrant cause s).run.traverseLapsed = s.run.traverseLapsed ∧
    (closeGrant cause s).run.cableAt = s.run.cableAt ∧
    (closeGrant cause s).run.cableLapsed = s.run.cableLapsed ∧
    (closeGrant cause s).run.settleAt = s.run.settleAt ∧ (closeGrant cause s).run.retrieveAt = s.run.retrieveAt ∧
    (closeGrant cause s).loop.rate = s.loop.rate ∧ (closeGrant cause s).loop.txn = s.loop.txn ∧
    (closeGrant cause s).loop.jam = s.loop.jam ∧ (closeGrant cause s).loop.lineBreak = s.loop.lineBreak ∧
    (closeGrant cause s).loop.lowSince = s.loop.lowSince ∧ (closeGrant cause s).loop.highSince = s.loop.highSince ∧
    (closeGrant cause s).loop.sched = s.loop.sched ∧ (closeGrant cause s).loop.nodeFail = s.loop.nodeFail ∧
    (closeGrant cause s).loop.faults = s.loop.faults ∧ (closeGrant cause s).loop.unsolicited = s.loop.unsolicited ∧
    (closeGrant cause s).loop.droppedService = s.loop.droppedService ∧
    (closeGrant cause s).loop.serviceQ = s.loop.serviceQ ∧ (closeGrant cause s).loop.tx = s.loop.tx ∧
    (closeGrant cause s).loop.grant.node = s.loop.grant.node ∧
    (closeGrant cause s).loop.grant.limit = s.loop.grant.limit ∧
    (closeGrant cause s).loop.grant.mode = s.loop.grant.mode ∧
    (closeGrant cause s).loop.grant.count = s.loop.grant.count ∧
    (closeGrant cause s).loop.grant.began = s.loop.grant.began ∧
    (closeGrant cause s).loop.grant.begun = s.loop.grant.begun ∧ (closeGrant cause s).cht = s.cht ∧
    (closeGrant cause s).store = s.store ∧ (closeGrant cause s).upl = s.upl ∧ (closeGrant cause s).ctl = s.ctl ∧
    (closeGrant cause s).lines = s.lines ∧ (closeGrant cause s).resetLine = s.resetLine ∧
    (closeGrant cause s).lastReset = s.lastReset ∧ (closeGrant cause s).pending = s.pending := by
  simp [closeGrant]

@[simp] theorem endGrantRx_frame (s : State) :
    (endGrantRx s).clk = s.clk ∧ (endGrantRx s).tbl = s.tbl ∧ (endGrantRx s).stg = s.stg ∧
    (endGrantRx s).rat = s.rat ∧ (endGrantRx s).wrn = s.wrn ∧ (endGrantRx s).pls = s.pls ∧
    (endGrantRx s).run = s.run ∧ (endGrantRx s).loop.rate = s.loop.rate ∧ (endGrantRx s).loop.txn = s.loop.txn ∧
    (endGrantRx s).loop.jam = s.loop.jam ∧ (endGrantRx s).loop.lineBreak = s.loop.lineBreak ∧
    (endGrantRx s).loop.lowSince = s.loop.lowSince ∧ (endGrantRx s).loop.highSince = s.loop.highSince ∧
    (endGrantRx s).loop.sched = s.loop.sched ∧ (endGrantRx s).loop.nodeFail = s.loop.nodeFail ∧
    (endGrantRx s).loop.faults = s.loop.faults ∧ (endGrantRx s).loop.unsolicited = s.loop.unsolicited ∧
    (endGrantRx s).loop.droppedService = s.loop.droppedService ∧ (endGrantRx s).loop.claimPlace = s.loop.claimPlace ∧
    (endGrantRx s).loop.winchPlace = s.loop.winchPlace ∧ (endGrantRx s).loop.serviceQ = s.loop.serviceQ ∧
    (endGrantRx s).loop.handNo = s.loop.handNo ∧ (endGrantRx s).loop.tx = s.loop.tx ∧
    (endGrantRx s).loop.pendingCmd = s.loop.pendingCmd ∧ (endGrantRx s).loop.grant.state = s.loop.grant.state ∧
    (endGrantRx s).loop.grant.node = s.loop.grant.node ∧ (endGrantRx s).loop.grant.limit = s.loop.grant.limit ∧
    (endGrantRx s).loop.grant.mode = s.loop.grant.mode ∧ (endGrantRx s).loop.grant.count = s.loop.grant.count ∧
    (endGrantRx s).loop.grant.began = s.loop.grant.began ∧ (endGrantRx s).loop.grant.timerAt = s.loop.grant.timerAt ∧
    (endGrantRx s).loop.grant.cause = s.loop.grant.cause ∧
    (endGrantRx s).loop.grant.recorded = s.loop.grant.recorded ∧
    (endGrantRx s).loop.grant.interleaveAt = s.loop.grant.interleaveAt ∧
    (endGrantRx s).loop.grant.lastEnd = s.loop.grant.lastEnd ∧ (endGrantRx s).loop.grant.begun = s.loop.grant.begun ∧
    (endGrantRx s).cht = s.cht ∧ (endGrantRx s).store = s.store ∧ (endGrantRx s).upl = s.upl ∧
    (endGrantRx s).ctl = s.ctl ∧ (endGrantRx s).lines = s.lines ∧ (endGrantRx s).resetLine = s.resetLine ∧
    (endGrantRx s).lastReset = s.lastReset ∧ (endGrantRx s).pending = s.pending := by
  simp [endGrantRx]

@[simp] theorem failGrantFrame_frame (k : RxFault) (s : State) :
    (failGrantFrame k s).clk = s.clk ∧ (failGrantFrame k s).tbl = s.tbl ∧ (failGrantFrame k s).stg = s.stg ∧
    (failGrantFrame k s).rat = s.rat ∧ (failGrantFrame k s).wrn = s.wrn ∧
    (failGrantFrame k s).pls.rotorIn = s.pls.rotorIn ∧ (failGrantFrame k s).pls.surfaceIn = s.pls.surfaceIn ∧
    (failGrantFrame k s).pls.bottomIn = s.pls.bottomIn ∧ (failGrantFrame k s).run.marker = s.run.marker ∧
    (failGrantFrame k s).run.held = s.run.held ∧ (failGrantFrame k s).run.position = s.run.position ∧
    (failGrantFrame k s).run.grantKnown = s.run.grantKnown ∧ (failGrantFrame k s).loop.rate = s.loop.rate ∧
    (failGrantFrame k s).loop.txn = s.loop.txn ∧ (failGrantFrame k s).loop.jam = s.loop.jam ∧
    (failGrantFrame k s).loop.lineBreak = s.loop.lineBreak ∧ (failGrantFrame k s).loop.lowSince = s.loop.lowSince ∧
    (failGrantFrame k s).loop.highSince = s.loop.highSince ∧ (failGrantFrame k s).loop.sched = s.loop.sched ∧
    (failGrantFrame k s).loop.unsolicited = s.loop.unsolicited ∧
    (failGrantFrame k s).loop.droppedService = s.loop.droppedService ∧
    (failGrantFrame k s).loop.serviceQ = s.loop.serviceQ ∧ (failGrantFrame k s).loop.tx = s.loop.tx ∧
    (failGrantFrame k s).loop.grant.node = s.loop.grant.node ∧
    (failGrantFrame k s).loop.grant.limit = s.loop.grant.limit ∧
    (failGrantFrame k s).loop.grant.mode = s.loop.grant.mode ∧
    (failGrantFrame k s).loop.grant.count = s.loop.grant.count ∧
    (failGrantFrame k s).loop.grant.began = s.loop.grant.began ∧
    (failGrantFrame k s).loop.grant.interleaveAt = s.loop.grant.interleaveAt ∧
    (failGrantFrame k s).loop.grant.lastEnd = s.loop.grant.lastEnd ∧
    (failGrantFrame k s).loop.grant.begun = s.loop.grant.begun ∧ (failGrantFrame k s).cht = s.cht ∧
    (failGrantFrame k s).store = s.store ∧ (failGrantFrame k s).upl = s.upl ∧ (failGrantFrame k s).ctl = s.ctl ∧
    (failGrantFrame k s).lines = s.lines ∧ (failGrantFrame k s).resetLine = s.resetLine ∧
    (failGrantFrame k s).lastReset = s.lastReset ∧ (failGrantFrame k s).pending = s.pending := by
  simp [failGrantFrame]

@[simp] theorem grantDone_frame (s : State) :
    (grantDone s).clk = s.clk ∧ (grantDone s).tbl = s.tbl ∧ (grantDone s).stg = s.stg ∧ (grantDone s).rat = s.rat ∧
    (grantDone s).wrn = s.wrn ∧ (grantDone s).pls = s.pls ∧ (grantDone s).run = s.run ∧
    (grantDone s).loop.rate = s.loop.rate ∧ (grantDone s).loop.txn = s.loop.txn ∧ (grantDone s).loop.rx = s.loop.rx ∧
    (grantDone s).loop.jam = s.loop.jam ∧ (grantDone s).loop.lineBreak = s.loop.lineBreak ∧
    (grantDone s).loop.lowSince = s.loop.lowSince ∧ (grantDone s).loop.highSince = s.loop.highSince ∧
    (grantDone s).loop.sched = s.loop.sched ∧ (grantDone s).loop.nodeFail = s.loop.nodeFail ∧
    (grantDone s).loop.faults = s.loop.faults ∧ (grantDone s).loop.unsolicited = s.loop.unsolicited ∧
    (grantDone s).loop.droppedService = s.loop.droppedService ∧ (grantDone s).loop.claimPlace = s.loop.claimPlace ∧
    (grantDone s).loop.winchPlace = s.loop.winchPlace ∧ (grantDone s).loop.serviceQ = s.loop.serviceQ ∧
    (grantDone s).loop.handNo = s.loop.handNo ∧ (grantDone s).loop.tx = s.loop.tx ∧
    (grantDone s).loop.pendingCmd = s.loop.pendingCmd ∧ (grantDone s).loop.grant.node = s.loop.grant.node ∧
    (grantDone s).loop.grant.limit = s.loop.grant.limit ∧ (grantDone s).loop.grant.mode = s.loop.grant.mode ∧
    (grantDone s).loop.grant.count = s.loop.grant.count ∧ (grantDone s).loop.grant.began = s.loop.grant.began ∧
    (grantDone s).loop.grant.timerAt = s.loop.grant.timerAt ∧ (grantDone s).loop.grant.cause = s.loop.grant.cause ∧
    (grantDone s).loop.grant.recorded = s.loop.grant.recorded ∧
    (grantDone s).loop.grant.interleaveAt = s.loop.grant.interleaveAt ∧
    (grantDone s).loop.grant.lastEnd = s.loop.grant.lastEnd ∧ (grantDone s).loop.grant.begun = s.loop.grant.begun ∧
    (grantDone s).cht = s.cht ∧ (grantDone s).store = s.store ∧ (grantDone s).upl = s.upl ∧
    (grantDone s).ctl = s.ctl ∧ (grantDone s).lines = s.lines ∧ (grantDone s).resetLine = s.resetLine ∧
    (grantDone s).lastReset = s.lastReset ∧ (grantDone s).pending = s.pending := by
  unfold grantDone
  split <;> simp

@[simp] theorem countPosition_frame (payload : List Byte) (s : State) :
    (countPosition payload s).clk = s.clk ∧ (countPosition payload s).tbl = s.tbl ∧
    (countPosition payload s).stg = s.stg ∧ (countPosition payload s).rat = s.rat ∧
    (countPosition payload s).wrn = s.wrn ∧ (countPosition payload s).pls = s.pls ∧
    (countPosition payload s).run.state = s.run.state ∧ (countPosition payload s).run.marker = s.run.marker ∧
    (countPosition payload s).run.held = s.run.held ∧ (countPosition payload s).run.position = s.run.position ∧
    (countPosition payload s).run.record = s.run.record ∧ (countPosition payload s).run.cursor = s.run.cursor ∧
    (countPosition payload s).run.vertical = s.run.vertical ∧ (countPosition payload s).run.moveId = s.run.moveId ∧
    (countPosition payload s).run.moveSent = s.run.moveSent ∧ (countPosition payload s).run.haltId = s.run.haltId ∧
    (countPosition payload s).run.retrieveSent = s.run.retrieveSent ∧
    (countPosition payload s).run.traverseAt = s.run.traverseAt ∧
    (countPosition payload s).run.traverseLapsed = s.run.traverseLapsed ∧
    (countPosition payload s).run.cableAt = s.run.cableAt ∧
    (countPosition payload s).run.cableLapsed = s.run.cableLapsed ∧
    (countPosition payload s).run.settleAt = s.run.settleAt ∧
    (countPosition payload s).run.retrieveAt = s.run.retrieveAt ∧ (countPosition payload s).loop.rate = s.loop.rate ∧
    (countPosition payload s).loop.txn = s.loop.txn ∧ (countPosition payload s).loop.jam = s.loop.jam ∧
    (countPosition payload s).loop.lineBreak = s.loop.lineBreak ∧
    (countPosition payload s).loop.lowSince = s.loop.lowSince ∧
    (countPosition payload s).loop.highSince = s.loop.highSince ∧
    (countPosition payload s).loop.sched = s.loop.sched ∧ (countPosition payload s).loop.nodeFail = s.loop.nodeFail ∧
    (countPosition payload s).loop.faults = s.loop.faults ∧
    (countPosition payload s).loop.unsolicited = s.loop.unsolicited ∧
    (countPosition payload s).loop.droppedService = s.loop.droppedService ∧
    (countPosition payload s).loop.serviceQ = s.loop.serviceQ ∧ (countPosition payload s).loop.tx = s.loop.tx ∧
    (countPosition payload s).loop.grant.node = s.loop.grant.node ∧
    (countPosition payload s).loop.grant.limit = s.loop.grant.limit ∧
    (countPosition payload s).loop.grant.mode = s.loop.grant.mode ∧
    (countPosition payload s).loop.grant.began = s.loop.grant.began ∧
    (countPosition payload s).loop.grant.begun = s.loop.grant.begun ∧ (countPosition payload s).cht = s.cht ∧
    (countPosition payload s).store = s.store ∧ (countPosition payload s).upl = s.upl ∧
    (countPosition payload s).ctl = s.ctl ∧ (countPosition payload s).lines = s.lines ∧
    (countPosition payload s).resetLine = s.resetLine ∧ (countPosition payload s).lastReset = s.lastReset ∧
    (countPosition payload s).pending = s.pending := by
  unfold countPosition
  dsimp only
  (repeat' split) <;> simp

@[simp] theorem burstEnd_frame (s : State) :
    (burstEnd s).clk = s.clk ∧ (burstEnd s).tbl = s.tbl ∧ (burstEnd s).stg = s.stg ∧ (burstEnd s).rat = s.rat ∧
    (burstEnd s).wrn = s.wrn ∧ (burstEnd s).pls = s.pls ∧ (burstEnd s).run.state = s.run.state ∧
    (burstEnd s).run.marker = s.run.marker ∧ (burstEnd s).run.held = s.run.held ∧
    (burstEnd s).run.position = s.run.position ∧ (burstEnd s).run.record = s.run.record ∧
    (burstEnd s).run.cursor = s.run.cursor ∧ (burstEnd s).run.vertical = s.run.vertical ∧
    (burstEnd s).run.moveId = s.run.moveId ∧ (burstEnd s).run.moveSent = s.run.moveSent ∧
    (burstEnd s).run.haltId = s.run.haltId ∧ (burstEnd s).run.retrieveSent = s.run.retrieveSent ∧
    (burstEnd s).run.traverseAt = s.run.traverseAt ∧
    (burstEnd s).run.traverseLapsed = s.run.traverseLapsed ∧
    (burstEnd s).run.cableAt = s.run.cableAt ∧
    (burstEnd s).run.cableLapsed = s.run.cableLapsed ∧
    (burstEnd s).run.settleAt = s.run.settleAt ∧ (burstEnd s).run.retrieveAt = s.run.retrieveAt ∧
    (burstEnd s).loop.rate = s.loop.rate ∧ (burstEnd s).loop.txn = s.loop.txn ∧ (burstEnd s).loop.jam = s.loop.jam ∧
    (burstEnd s).loop.lineBreak = s.loop.lineBreak ∧ (burstEnd s).loop.lowSince = s.loop.lowSince ∧
    (burstEnd s).loop.highSince = s.loop.highSince ∧ (burstEnd s).loop.sched = s.loop.sched ∧
    (burstEnd s).loop.nodeFail = s.loop.nodeFail ∧ (burstEnd s).loop.faults = s.loop.faults ∧
    (burstEnd s).loop.unsolicited = s.loop.unsolicited ∧ (burstEnd s).loop.droppedService = s.loop.droppedService ∧
    (burstEnd s).loop.serviceQ = s.loop.serviceQ ∧ (burstEnd s).loop.tx = s.loop.tx ∧
    (burstEnd s).loop.grant.node = s.loop.grant.node ∧ (burstEnd s).loop.grant.limit = s.loop.grant.limit ∧
    (burstEnd s).loop.grant.mode = s.loop.grant.mode ∧ (burstEnd s).loop.grant.count = s.loop.grant.count ∧
    (burstEnd s).loop.grant.began = s.loop.grant.began ∧ (burstEnd s).loop.grant.begun = s.loop.grant.begun ∧
    (burstEnd s).cht = s.cht ∧ (burstEnd s).store = s.store ∧ (burstEnd s).upl = s.upl ∧ (burstEnd s).ctl = s.ctl ∧
    (burstEnd s).lines = s.lines ∧ (burstEnd s).resetLine = s.resetLine ∧ (burstEnd s).lastReset = s.lastReset ∧
    (burstEnd s).pending = s.pending := by
  simp [burstEnd]

@[simp] theorem goodGrantFrame_frame (addr : Byte) (b : FrameBody) (s : State) :
    (goodGrantFrame addr b s).clk = s.clk ∧ (goodGrantFrame addr b s).tbl = s.tbl ∧
    (goodGrantFrame addr b s).stg.history = s.stg.history ∧
    (goodGrantFrame addr b s).stg.historyAt = s.stg.historyAt ∧
    (goodGrantFrame addr b s).stg.openStart = s.stg.openStart ∧
    (goodGrantFrame addr b s).stg.nextBoundary = s.stg.nextBoundary ∧
    (goodGrantFrame addr b s).rat.live = s.rat.live ∧ (goodGrantFrame addr b s).pls.rotorIn = s.pls.rotorIn ∧
    (goodGrantFrame addr b s).pls.surfaceIn = s.pls.surfaceIn ∧
    (goodGrantFrame addr b s).pls.bottomIn = s.pls.bottomIn ∧ (goodGrantFrame addr b s).loop.rate = s.loop.rate ∧
    (goodGrantFrame addr b s).loop.txn = s.loop.txn ∧ (goodGrantFrame addr b s).loop.jam = s.loop.jam ∧
    (goodGrantFrame addr b s).loop.lineBreak = s.loop.lineBreak ∧
    (goodGrantFrame addr b s).loop.lowSince = s.loop.lowSince ∧
    (goodGrantFrame addr b s).loop.highSince = s.loop.highSince ∧
    (goodGrantFrame addr b s).loop.sched = s.loop.sched ∧ (goodGrantFrame addr b s).loop.faults = s.loop.faults ∧
    (goodGrantFrame addr b s).loop.unsolicited = s.loop.unsolicited ∧ (goodGrantFrame addr b s).loop.tx = s.loop.tx ∧
    (goodGrantFrame addr b s).loop.grant.node = s.loop.grant.node ∧
    (goodGrantFrame addr b s).loop.grant.limit = s.loop.grant.limit ∧
    (goodGrantFrame addr b s).loop.grant.mode = s.loop.grant.mode ∧
    (goodGrantFrame addr b s).loop.grant.began = s.loop.grant.began ∧
    (goodGrantFrame addr b s).loop.grant.begun = s.loop.grant.begun ∧
    (goodGrantFrame addr b s).cht.view = s.cht.view ∧ (goodGrantFrame addr b s).upl.rate = s.upl.rate ∧
    (goodGrantFrame addr b s).upl.assembling = s.upl.assembling ∧
    (goodGrantFrame addr b s).upl.framing = s.upl.framing ∧ (goodGrantFrame addr b s).upl.gap = s.upl.gap ∧
    (goodGrantFrame addr b s).upl.length = s.upl.length ∧ (goodGrantFrame addr b s).upl.crc = s.upl.crc ∧
    (goodGrantFrame addr b s).upl.linkLost = s.upl.linkLost ∧ (goodGrantFrame addr b s).upl.foreign = s.upl.foreign ∧
    (goodGrantFrame addr b s).upl.kindDiscards = s.upl.kindDiscards ∧
    (goodGrantFrame addr b s).upl.huntDiscards = s.upl.huntDiscards ∧
    (goodGrantFrame addr b s).upl.lastChar = s.upl.lastChar ∧ (goodGrantFrame addr b s).upl.tail = s.upl.tail ∧
    (goodGrantFrame addr b s).ctl.inHand = s.ctl.inHand ∧
    (goodGrantFrame addr b s).ctl.pendingReply = s.ctl.pendingReply ∧
    (goodGrantFrame addr b s).ctl.resetWait = s.ctl.resetWait ∧
    (goodGrantFrame addr b s).ctl.lastRefusal = s.ctl.lastRefusal ∧ (goodGrantFrame addr b s).lines = s.lines ∧
    (goodGrantFrame addr b s).resetLine = s.resetLine ∧ (goodGrantFrame addr b s).lastReset = s.lastReset ∧
    (goodGrantFrame addr b s).pending = s.pending := by
  unfold goodGrantFrame
  (try dsimp only)
  (repeat' split) <;> simp

@[simp] theorem endGrantFrame_frame (fin : FrameEnd) (s : State) :
    (endGrantFrame fin s).clk = s.clk ∧ (endGrantFrame fin s).tbl = s.tbl ∧
    (endGrantFrame fin s).stg.history = s.stg.history ∧ (endGrantFrame fin s).stg.historyAt = s.stg.historyAt ∧
    (endGrantFrame fin s).stg.openStart = s.stg.openStart ∧
    (endGrantFrame fin s).stg.nextBoundary = s.stg.nextBoundary ∧ (endGrantFrame fin s).rat.live = s.rat.live ∧
    (endGrantFrame fin s).pls.rotorIn = s.pls.rotorIn ∧ (endGrantFrame fin s).pls.surfaceIn = s.pls.surfaceIn ∧
    (endGrantFrame fin s).pls.bottomIn = s.pls.bottomIn ∧ (endGrantFrame fin s).loop.rate = s.loop.rate ∧
    (endGrantFrame fin s).loop.jam = s.loop.jam ∧ (endGrantFrame fin s).loop.lineBreak = s.loop.lineBreak ∧
    (endGrantFrame fin s).loop.lowSince = s.loop.lowSince ∧ (endGrantFrame fin s).loop.highSince = s.loop.highSince ∧
    (endGrantFrame fin s).loop.sched = s.loop.sched ∧ (endGrantFrame fin s).loop.unsolicited = s.loop.unsolicited ∧
    (endGrantFrame fin s).loop.tx = s.loop.tx ∧ (endGrantFrame fin s).loop.grant.node = s.loop.grant.node ∧
    (endGrantFrame fin s).loop.grant.limit = s.loop.grant.limit ∧
    (endGrantFrame fin s).loop.grant.mode = s.loop.grant.mode ∧
    (endGrantFrame fin s).loop.grant.began = s.loop.grant.began ∧
    (endGrantFrame fin s).loop.grant.begun = s.loop.grant.begun ∧ (endGrantFrame fin s).cht.view = s.cht.view ∧
    (endGrantFrame fin s).upl.rate = s.upl.rate ∧ (endGrantFrame fin s).upl.assembling = s.upl.assembling ∧
    (endGrantFrame fin s).upl.framing = s.upl.framing ∧ (endGrantFrame fin s).upl.gap = s.upl.gap ∧
    (endGrantFrame fin s).upl.length = s.upl.length ∧ (endGrantFrame fin s).upl.crc = s.upl.crc ∧
    (endGrantFrame fin s).upl.linkLost = s.upl.linkLost ∧ (endGrantFrame fin s).upl.foreign = s.upl.foreign ∧
    (endGrantFrame fin s).upl.kindDiscards = s.upl.kindDiscards ∧
    (endGrantFrame fin s).upl.huntDiscards = s.upl.huntDiscards ∧
    (endGrantFrame fin s).upl.lastChar = s.upl.lastChar ∧ (endGrantFrame fin s).upl.tail = s.upl.tail ∧
    (endGrantFrame fin s).ctl.inHand = s.ctl.inHand ∧
    (endGrantFrame fin s).ctl.pendingReply = s.ctl.pendingReply ∧
    (endGrantFrame fin s).ctl.resetWait = s.ctl.resetWait ∧
    (endGrantFrame fin s).ctl.lastRefusal = s.ctl.lastRefusal ∧ (endGrantFrame fin s).lines = s.lines ∧
    (endGrantFrame fin s).resetLine = s.resetLine ∧ (endGrantFrame fin s).lastReset = s.lastReset ∧
    (endGrantFrame fin s).pending = s.pending := by
  unfold endGrantFrame
  (repeat' split) <;> simp

@[simp] theorem endUnsolicitedRx_frame (s : State) :
    (endUnsolicitedRx s).clk = s.clk ∧ (endUnsolicitedRx s).tbl = s.tbl ∧ (endUnsolicitedRx s).stg = s.stg ∧
    (endUnsolicitedRx s).rat = s.rat ∧ (endUnsolicitedRx s).wrn = s.wrn ∧ (endUnsolicitedRx s).pls = s.pls ∧
    (endUnsolicitedRx s).run = s.run ∧ (endUnsolicitedRx s).loop.rate = s.loop.rate ∧
    (endUnsolicitedRx s).loop.jam = s.loop.jam ∧ (endUnsolicitedRx s).loop.lineBreak = s.loop.lineBreak ∧
    (endUnsolicitedRx s).loop.lowSince = s.loop.lowSince ∧
    (endUnsolicitedRx s).loop.highSince = s.loop.highSince ∧ (endUnsolicitedRx s).loop.sched = s.loop.sched ∧
    (endUnsolicitedRx s).loop.nodeFail = s.loop.nodeFail ∧
    (endUnsolicitedRx s).loop.droppedService = s.loop.droppedService ∧
    (endUnsolicitedRx s).loop.rx = none ∧ (endUnsolicitedRx s).loop.txn = s.loop.txn ∧
    (endUnsolicitedRx s).loop.faults = s.loop.faults ∧ (endUnsolicitedRx s).loop.unsolicited = s.loop.unsolicited ∧
    (endUnsolicitedRx s).loop.claimPlace = s.loop.claimPlace ∧
    (endUnsolicitedRx s).loop.winchPlace = s.loop.winchPlace ∧
    (endUnsolicitedRx s).loop.serviceQ = s.loop.serviceQ ∧ (endUnsolicitedRx s).loop.handNo = s.loop.handNo ∧
    (endUnsolicitedRx s).loop.tx = s.loop.tx ∧ (endUnsolicitedRx s).loop.pendingCmd = s.loop.pendingCmd ∧
    (endUnsolicitedRx s).loop.grant.state = s.loop.grant.state ∧
    (endUnsolicitedRx s).loop.grant.node = s.loop.grant.node ∧
    (endUnsolicitedRx s).loop.grant.limit = s.loop.grant.limit ∧
    (endUnsolicitedRx s).loop.grant.mode = s.loop.grant.mode ∧
    (endUnsolicitedRx s).loop.grant.count = s.loop.grant.count ∧
    (endUnsolicitedRx s).loop.grant.began = s.loop.grant.began ∧
    (endUnsolicitedRx s).loop.grant.timerAt = s.loop.grant.timerAt ∧
    (endUnsolicitedRx s).loop.grant.cause = s.loop.grant.cause ∧
    (endUnsolicitedRx s).loop.grant.recorded = s.loop.grant.recorded ∧
    (endUnsolicitedRx s).loop.grant.interleaveAt = s.loop.grant.interleaveAt ∧
    (endUnsolicitedRx s).loop.grant.lastEnd = s.loop.grant.lastEnd ∧
    (endUnsolicitedRx s).loop.grant.begun = s.loop.grant.begun ∧ (endUnsolicitedRx s).cht = s.cht ∧
    (endUnsolicitedRx s).store = s.store ∧ (endUnsolicitedRx s).upl = s.upl ∧
    (endUnsolicitedRx s).ctl = s.ctl ∧ (endUnsolicitedRx s).lines = s.lines ∧
    (endUnsolicitedRx s).resetLine = s.resetLine ∧ (endUnsolicitedRx s).lastReset = s.lastReset ∧
    (endUnsolicitedRx s).pending = s.pending := by
  unfold endUnsolicitedRx
  split
  · simp
  · simp_all

@[simp] theorem endUnsolicited_frame (fin : FrameEnd) (s : State) :
    (endUnsolicited fin s).clk = s.clk ∧ (endUnsolicited fin s).tbl = s.tbl ∧ (endUnsolicited fin s).stg = s.stg ∧
    (endUnsolicited fin s).rat = s.rat ∧ (endUnsolicited fin s).wrn = s.wrn ∧ (endUnsolicited fin s).pls = s.pls ∧
    (endUnsolicited fin s).run = s.run ∧ (endUnsolicited fin s).loop.rate = s.loop.rate ∧
    (endUnsolicited fin s).loop.jam = s.loop.jam ∧ (endUnsolicited fin s).loop.lineBreak = s.loop.lineBreak ∧
    (endUnsolicited fin s).loop.lowSince = s.loop.lowSince ∧
    (endUnsolicited fin s).loop.highSince = s.loop.highSince ∧ (endUnsolicited fin s).loop.sched = s.loop.sched ∧
    (endUnsolicited fin s).loop.nodeFail = s.loop.nodeFail ∧
    (endUnsolicited fin s).loop.droppedService = s.loop.droppedService ∧
    (endUnsolicited fin s).loop.claimPlace = s.loop.claimPlace ∧
    (endUnsolicited fin s).loop.winchPlace = s.loop.winchPlace ∧
    (endUnsolicited fin s).loop.serviceQ = s.loop.serviceQ ∧ (endUnsolicited fin s).loop.handNo = s.loop.handNo ∧
    (endUnsolicited fin s).loop.tx = s.loop.tx ∧ (endUnsolicited fin s).loop.pendingCmd = s.loop.pendingCmd ∧
    (endUnsolicited fin s).loop.grant.state = s.loop.grant.state ∧
    (endUnsolicited fin s).loop.grant.node = s.loop.grant.node ∧
    (endUnsolicited fin s).loop.grant.limit = s.loop.grant.limit ∧
    (endUnsolicited fin s).loop.grant.mode = s.loop.grant.mode ∧
    (endUnsolicited fin s).loop.grant.count = s.loop.grant.count ∧
    (endUnsolicited fin s).loop.grant.began = s.loop.grant.began ∧
    (endUnsolicited fin s).loop.grant.timerAt = s.loop.grant.timerAt ∧
    (endUnsolicited fin s).loop.grant.cause = s.loop.grant.cause ∧
    (endUnsolicited fin s).loop.grant.recorded = s.loop.grant.recorded ∧
    (endUnsolicited fin s).loop.grant.interleaveAt = s.loop.grant.interleaveAt ∧
    (endUnsolicited fin s).loop.grant.lastEnd = s.loop.grant.lastEnd ∧
    (endUnsolicited fin s).loop.grant.begun = s.loop.grant.begun ∧ (endUnsolicited fin s).cht = s.cht ∧
    (endUnsolicited fin s).store = s.store ∧ (endUnsolicited fin s).upl = s.upl ∧
    (endUnsolicited fin s).ctl = s.ctl ∧ (endUnsolicited fin s).lines = s.lines ∧
    (endUnsolicited fin s).resetLine = s.resetLine ∧ (endUnsolicited fin s).lastReset = s.lastReset ∧
    (endUnsolicited fin s).pending = s.pending := by
  unfold endUnsolicited
  (repeat' split) <;> simp

@[simp] theorem startReplyTimeout_frame (sent : Nat) (s : State) :
    (startReplyTimeout sent s).clk = s.clk ∧ (startReplyTimeout sent s).tbl = s.tbl ∧
    (startReplyTimeout sent s).stg = s.stg ∧ (startReplyTimeout sent s).rat = s.rat ∧
    (startReplyTimeout sent s).wrn = s.wrn ∧ (startReplyTimeout sent s).pls = s.pls ∧
    (startReplyTimeout sent s).run = s.run ∧ (startReplyTimeout sent s).loop.rate = s.loop.rate ∧
    (startReplyTimeout sent s).loop.rx = s.loop.rx ∧ (startReplyTimeout sent s).loop.jam = s.loop.jam ∧
    (startReplyTimeout sent s).loop.lineBreak = s.loop.lineBreak ∧
    (startReplyTimeout sent s).loop.lowSince = s.loop.lowSince ∧
    (startReplyTimeout sent s).loop.highSince = s.loop.highSince ∧
    (startReplyTimeout sent s).loop.sched = s.loop.sched ∧
    (startReplyTimeout sent s).loop.nodeFail = s.loop.nodeFail ∧
    (startReplyTimeout sent s).loop.faults = s.loop.faults ∧
    (startReplyTimeout sent s).loop.unsolicited = s.loop.unsolicited ∧
    (startReplyTimeout sent s).loop.droppedService = s.loop.droppedService ∧
    (startReplyTimeout sent s).loop.claimPlace = s.loop.claimPlace ∧
    (startReplyTimeout sent s).loop.winchPlace = s.loop.winchPlace ∧
    (startReplyTimeout sent s).loop.serviceQ = s.loop.serviceQ ∧
    (startReplyTimeout sent s).loop.handNo = s.loop.handNo ∧ (startReplyTimeout sent s).loop.tx = s.loop.tx ∧
    (startReplyTimeout sent s).loop.pendingCmd = s.loop.pendingCmd ∧
    (startReplyTimeout sent s).loop.grant = s.loop.grant ∧ (startReplyTimeout sent s).cht = s.cht ∧
    (startReplyTimeout sent s).store = s.store ∧ (startReplyTimeout sent s).upl = s.upl ∧
    (startReplyTimeout sent s).ctl = s.ctl ∧ (startReplyTimeout sent s).lines = s.lines ∧
    (startReplyTimeout sent s).resetLine = s.resetLine ∧ (startReplyTimeout sent s).lastReset = s.lastReset ∧
    (startReplyTimeout sent s).pending = s.pending := by
  simp [startReplyTimeout]

@[simp] theorem afterSent_frame (f : CmdFrame) (sent : Nat) (s : State) :
    (afterSent f sent s).clk = s.clk ∧ (afterSent f sent s).tbl = s.tbl ∧ (afterSent f sent s).stg = s.stg ∧
    (afterSent f sent s).rat = s.rat ∧ (afterSent f sent s).wrn = s.wrn ∧ (afterSent f sent s).pls = s.pls ∧
    (afterSent f sent s).run.state = s.run.state ∧ (afterSent f sent s).run.marker = s.run.marker ∧
    (afterSent f sent s).run.held = s.run.held ∧ (afterSent f sent s).run.position = s.run.position ∧
    (afterSent f sent s).run.record = s.run.record ∧ (afterSent f sent s).run.cursor = s.run.cursor ∧
    (afterSent f sent s).run.vertical = s.run.vertical ∧ (afterSent f sent s).run.grantKnown = s.run.grantKnown ∧
    (afterSent f sent s).run.verifyGrant = s.run.verifyGrant ∧
    (afterSent f sent s).run.traverseAt = s.run.traverseAt ∧
    (afterSent f sent s).run.traverseLapsed = s.run.traverseLapsed ∧
    (afterSent f sent s).run.cableAt = s.run.cableAt ∧
    (afterSent f sent s).run.cableLapsed = s.run.cableLapsed ∧
    (afterSent f sent s).run.settleAt = s.run.settleAt ∧ (afterSent f sent s).run.retrieveAt = s.run.retrieveAt ∧
    (afterSent f sent s).loop.rate = s.loop.rate ∧ (afterSent f sent s).loop.rx = s.loop.rx ∧
    (afterSent f sent s).loop.jam = s.loop.jam ∧ (afterSent f sent s).loop.lineBreak = s.loop.lineBreak ∧
    (afterSent f sent s).loop.lowSince = s.loop.lowSince ∧ (afterSent f sent s).loop.highSince = s.loop.highSince ∧
    (afterSent f sent s).loop.sched = s.loop.sched ∧ (afterSent f sent s).loop.nodeFail = s.loop.nodeFail ∧
    (afterSent f sent s).loop.faults = s.loop.faults ∧ (afterSent f sent s).loop.unsolicited = s.loop.unsolicited ∧
    (afterSent f sent s).loop.droppedService = s.loop.droppedService ∧
    (afterSent f sent s).loop.claimPlace = s.loop.claimPlace ∧ (afterSent f sent s).loop.serviceQ = s.loop.serviceQ ∧
    (afterSent f sent s).loop.tx = s.loop.tx ∧ (afterSent f sent s).loop.grant.state = s.loop.grant.state ∧
    (afterSent f sent s).loop.grant.node = s.loop.grant.node ∧
    (afterSent f sent s).loop.grant.limit = s.loop.grant.limit ∧
    (afterSent f sent s).loop.grant.mode = s.loop.grant.mode ∧
    (afterSent f sent s).loop.grant.count = s.loop.grant.count ∧
    (afterSent f sent s).loop.grant.began = s.loop.grant.began ∧
    (afterSent f sent s).loop.grant.timerAt = s.loop.grant.timerAt ∧
    (afterSent f sent s).loop.grant.cause = s.loop.grant.cause ∧
    (afterSent f sent s).loop.grant.recorded = s.loop.grant.recorded ∧
    (afterSent f sent s).loop.grant.interleaveAt = s.loop.grant.interleaveAt ∧
    (afterSent f sent s).loop.grant.lastEnd = s.loop.grant.lastEnd ∧
    (afterSent f sent s).loop.grant.begun = s.loop.grant.begun ∧ (afterSent f sent s).cht = s.cht ∧
    (afterSent f sent s).store = s.store ∧ (afterSent f sent s).upl = s.upl ∧
    (afterSent f sent s).ctl.queue = s.ctl.queue ∧ (afterSent f sent s).ctl.inHand = s.ctl.inHand ∧
    (afterSent f sent s).ctl.pendingReply = s.ctl.pendingReply ∧
    (afterSent f sent s).ctl.droppedBusy = s.ctl.droppedBusy ∧
    (afterSent f sent s).ctl.lastRefusal = s.ctl.lastRefusal ∧ (afterSent f sent s).lines = s.lines ∧
    (afterSent f sent s).resetLine = s.resetLine ∧ (afterSent f sent s).lastReset = s.lastReset ∧
    (afterSent f sent s).pending = s.pending := by
  unfold afterSent
  (repeat' split) <;> simp

@[simp] theorem holdGrant_frame (s : State) :
    (holdGrant s).clk = s.clk ∧ (holdGrant s).tbl = s.tbl ∧ (holdGrant s).stg = s.stg ∧ (holdGrant s).rat = s.rat ∧
    (holdGrant s).wrn = s.wrn ∧ (holdGrant s).pls = s.pls ∧ (holdGrant s).run = s.run ∧
    (holdGrant s).loop.rate = s.loop.rate ∧ (holdGrant s).loop.rx = s.loop.rx ∧ (holdGrant s).loop.jam = s.loop.jam ∧
    (holdGrant s).loop.lineBreak = s.loop.lineBreak ∧ (holdGrant s).loop.lowSince = s.loop.lowSince ∧
    (holdGrant s).loop.highSince = s.loop.highSince ∧ (holdGrant s).loop.sched = s.loop.sched ∧
    (holdGrant s).loop.nodeFail = s.loop.nodeFail ∧ (holdGrant s).loop.faults = s.loop.faults ∧
    (holdGrant s).loop.unsolicited = s.loop.unsolicited ∧ (holdGrant s).loop.droppedService = s.loop.droppedService ∧
    (holdGrant s).loop.claimPlace = s.loop.claimPlace ∧ (holdGrant s).loop.winchPlace = s.loop.winchPlace ∧
    (holdGrant s).loop.serviceQ = s.loop.serviceQ ∧ (holdGrant s).loop.handNo = s.loop.handNo ∧
    (holdGrant s).loop.pendingCmd = s.loop.pendingCmd ∧ (holdGrant s).loop.grant.node = s.loop.grant.node ∧
    (holdGrant s).loop.grant.limit = s.loop.grant.limit ∧ (holdGrant s).loop.grant.mode = s.loop.grant.mode ∧
    (holdGrant s).loop.grant.recorded = s.loop.grant.recorded ∧
    (holdGrant s).loop.grant.interleaveAt = s.loop.grant.interleaveAt ∧
    (holdGrant s).loop.grant.lastEnd = s.loop.grant.lastEnd ∧ (holdGrant s).cht = s.cht ∧
    (holdGrant s).store = s.store ∧ (holdGrant s).upl = s.upl ∧ (holdGrant s).ctl = s.ctl ∧
    (holdGrant s).lines = s.lines ∧ (holdGrant s).resetLine = s.resetLine ∧ (holdGrant s).lastReset = s.lastReset ∧
    (holdGrant s).pending = s.pending := by
  simp [holdGrant]

@[simp] theorem movePending_frame (s : State) :
    (movePending s).clk = s.clk ∧ (movePending s).tbl = s.tbl ∧ (movePending s).stg = s.stg ∧
    (movePending s).rat = s.rat ∧ (movePending s).wrn = s.wrn ∧ (movePending s).pls = s.pls ∧
    (movePending s).run.state = s.run.state ∧ (movePending s).run.marker = s.run.marker ∧
    (movePending s).run.held = s.run.held ∧ (movePending s).run.position = s.run.position ∧
    (movePending s).run.record = s.run.record ∧ (movePending s).run.cursor = s.run.cursor ∧
    (movePending s).run.vertical = s.run.vertical ∧ (movePending s).run.grantKnown = s.run.grantKnown ∧
    (movePending s).run.nextId = s.run.nextId ∧ (movePending s).run.moveId = s.run.moveId ∧
    (movePending s).run.moveSent = s.run.moveSent ∧ (movePending s).run.haltId = s.run.haltId ∧
    (movePending s).run.retrieveSent = s.run.retrieveSent ∧ (movePending s).run.verifyGrant = s.run.verifyGrant ∧
    (movePending s).run.traverseAt = s.run.traverseAt ∧
    (movePending s).run.traverseLapsed = s.run.traverseLapsed ∧
    (movePending s).run.cableAt = s.run.cableAt ∧
    (movePending s).run.cableLapsed = s.run.cableLapsed ∧
    (movePending s).run.settleAt = s.run.settleAt ∧ (movePending s).run.retrieveAt = s.run.retrieveAt ∧
    (movePending s).run.enquiryAt = s.run.enquiryAt ∧ (movePending s).loop.rate = s.loop.rate ∧
    (movePending s).loop.txn = s.loop.txn ∧ (movePending s).loop.rx = s.loop.rx ∧
    (movePending s).loop.jam = s.loop.jam ∧ (movePending s).loop.lineBreak = s.loop.lineBreak ∧
    (movePending s).loop.lowSince = s.loop.lowSince ∧ (movePending s).loop.highSince = s.loop.highSince ∧
    (movePending s).loop.sched = s.loop.sched ∧ (movePending s).loop.nodeFail = s.loop.nodeFail ∧
    (movePending s).loop.faults = s.loop.faults ∧ (movePending s).loop.unsolicited = s.loop.unsolicited ∧
    (movePending s).loop.droppedService = s.loop.droppedService ∧
    (movePending s).loop.claimPlace = s.loop.claimPlace ∧ (movePending s).loop.serviceQ = s.loop.serviceQ ∧
    (movePending s).loop.tx = s.loop.tx ∧ (movePending s).loop.grant = s.loop.grant ∧ (movePending s).cht = s.cht ∧
    (movePending s).store = s.store ∧ (movePending s).upl = s.upl ∧ (movePending s).ctl = s.ctl ∧
    (movePending s).lines = s.lines ∧ (movePending s).resetLine = s.resetLine ∧
    (movePending s).lastReset = s.lastReset ∧ (movePending s).pending = s.pending := by
  simp [movePending]

@[simp] theorem makeRecorded_frame (s : State) :
    (makeRecorded s).clk = s.clk ∧ (makeRecorded s).tbl = s.tbl ∧ (makeRecorded s).stg = s.stg ∧
    (makeRecorded s).rat = s.rat ∧ (makeRecorded s).wrn = s.wrn ∧ (makeRecorded s).pls = s.pls ∧
    (makeRecorded s).run = s.run ∧ (makeRecorded s).loop.rate = s.loop.rate ∧
    (makeRecorded s).loop.txn = s.loop.txn ∧ (makeRecorded s).loop.rx = s.loop.rx ∧
    (makeRecorded s).loop.jam = s.loop.jam ∧ (makeRecorded s).loop.lineBreak = s.loop.lineBreak ∧
    (makeRecorded s).loop.lowSince = s.loop.lowSince ∧ (makeRecorded s).loop.highSince = s.loop.highSince ∧
    (makeRecorded s).loop.sched = s.loop.sched ∧ (makeRecorded s).loop.nodeFail = s.loop.nodeFail ∧
    (makeRecorded s).loop.faults = s.loop.faults ∧ (makeRecorded s).loop.unsolicited = s.loop.unsolicited ∧
    (makeRecorded s).loop.droppedService = s.loop.droppedService ∧
    (makeRecorded s).loop.winchPlace = s.loop.winchPlace ∧ (makeRecorded s).loop.serviceQ = s.loop.serviceQ ∧
    (makeRecorded s).loop.handNo = s.loop.handNo ∧ (makeRecorded s).loop.tx = s.loop.tx ∧
    (makeRecorded s).loop.pendingCmd = s.loop.pendingCmd ∧ (makeRecorded s).loop.grant.node = s.loop.grant.node ∧
    (makeRecorded s).loop.grant.limit = s.loop.grant.limit ∧ (makeRecorded s).loop.grant.mode = s.loop.grant.mode ∧
    (makeRecorded s).loop.grant.count = s.loop.grant.count ∧ (makeRecorded s).loop.grant.began = s.loop.grant.began ∧
    (makeRecorded s).loop.grant.wait = s.loop.grant.wait ∧
    (makeRecorded s).loop.grant.interleaveAt = s.loop.grant.interleaveAt ∧
    (makeRecorded s).loop.grant.lastEnd = s.loop.grant.lastEnd ∧
    (makeRecorded s).loop.grant.begun = s.loop.grant.begun ∧ (makeRecorded s).cht = s.cht ∧
    (makeRecorded s).store = s.store ∧ (makeRecorded s).upl = s.upl ∧ (makeRecorded s).ctl = s.ctl ∧
    (makeRecorded s).lines = s.lines ∧ (makeRecorded s).resetLine = s.resetLine ∧
    (makeRecorded s).lastReset = s.lastReset ∧ (makeRecorded s).pending = s.pending := by
  unfold makeRecorded
  split <;> simp

@[simp] theorem beginGrant_frame (s : State) :
    (beginGrant s).clk = s.clk ∧ (beginGrant s).tbl = s.tbl ∧ (beginGrant s).stg = s.stg ∧
    (beginGrant s).rat = s.rat ∧ (beginGrant s).wrn = s.wrn ∧ (beginGrant s).pls = s.pls ∧
    (beginGrant s).run.state = s.run.state ∧ (beginGrant s).run.marker = s.run.marker ∧
    (beginGrant s).run.held = s.run.held ∧ (beginGrant s).run.position = s.run.position ∧
    (beginGrant s).run.record = s.run.record ∧ (beginGrant s).run.cursor = s.run.cursor ∧
    (beginGrant s).run.vertical = s.run.vertical ∧ (beginGrant s).run.traverseAt = s.run.traverseAt ∧
    (beginGrant s).run.traverseLapsed = s.run.traverseLapsed ∧
    (beginGrant s).run.cableAt = s.run.cableAt ∧
    (beginGrant s).run.cableLapsed = s.run.cableLapsed ∧
    (beginGrant s).run.settleAt = s.run.settleAt ∧
    (beginGrant s).run.retrieveAt = s.run.retrieveAt ∧ (beginGrant s).loop.rate = s.loop.rate ∧
    (beginGrant s).loop.jam = s.loop.jam ∧ (beginGrant s).loop.lineBreak = s.loop.lineBreak ∧
    (beginGrant s).loop.lowSince = s.loop.lowSince ∧ (beginGrant s).loop.highSince = s.loop.highSince ∧
    (beginGrant s).loop.sched = s.loop.sched ∧ (beginGrant s).loop.nodeFail = s.loop.nodeFail ∧
    (beginGrant s).loop.faults = s.loop.faults ∧ (beginGrant s).loop.unsolicited = s.loop.unsolicited ∧
    (beginGrant s).loop.droppedService = s.loop.droppedService ∧ (beginGrant s).loop.serviceQ = s.loop.serviceQ ∧
    (beginGrant s).loop.grant.node = s.loop.grant.node ∧ (beginGrant s).loop.grant.limit = s.loop.grant.limit ∧
    (beginGrant s).loop.grant.mode = s.loop.grant.mode ∧ (beginGrant s).cht = s.cht ∧
    (beginGrant s).store = s.store ∧ (beginGrant s).upl = s.upl ∧ (beginGrant s).ctl = s.ctl ∧
    (beginGrant s).lines = s.lines ∧ (beginGrant s).resetLine = s.resetLine ∧
    (beginGrant s).lastReset = s.lastReset ∧ (beginGrant s).pending = s.pending := by
  unfold beginGrant
  dsimp only
  (repeat' split) <;> simp

end Sys2Proof.Machine
end

