-- ==== Sys2Proof/Laws/ResetFrame.lean ====
section
/-! SUPPORT. What the operations of the resets and the requests leave as it was: one lemma per
operation, for all the fields it does not touch. -/

namespace Sys2Proof.Machine

@[simp] theorem closeRun_frame (kind : ResetKind) (s : State) :
    (closeRun kind s).clk = s.clk ∧ (closeRun kind s).tbl = s.tbl ∧ (closeRun kind s).stg = s.stg ∧
    (closeRun kind s).rat = s.rat ∧ (closeRun kind s).wrn = s.wrn ∧ (closeRun kind s).pls = s.pls ∧
    (closeRun kind s).run.state = s.run.state ∧ (closeRun kind s).run.held = s.run.held ∧
    (closeRun kind s).run.position = s.run.position ∧ (closeRun kind s).run.record = s.run.record ∧
    (closeRun kind s).run.cursor = s.run.cursor ∧ (closeRun kind s).run.vertical = s.run.vertical ∧
    (closeRun kind s).run.grantKnown = s.run.grantKnown ∧ (closeRun kind s).run.nextId = s.run.nextId ∧
    (closeRun kind s).run.lastCmd = s.run.lastCmd ∧ (closeRun kind s).run.moveId = s.run.moveId ∧
    (closeRun kind s).run.moveSent = s.run.moveSent ∧ (closeRun kind s).run.haltId = s.run.haltId ∧
    (closeRun kind s).run.retrieveSent = s.run.retrieveSent ∧ (closeRun kind s).run.verifyGrant = s.run.verifyGrant ∧
    (closeRun kind s).run.traverseAt = s.run.traverseAt ∧
    (closeRun kind s).run.traverseLapsed = s.run.traverseLapsed ∧
    (closeRun kind s).run.cableAt = s.run.cableAt ∧
    (closeRun kind s).run.cableLapsed = s.run.cableLapsed ∧
    (closeRun kind s).run.settleAt = s.run.settleAt ∧ (closeRun kind s).run.retrieveAt = s.run.retrieveAt ∧
    (closeRun kind s).run.enquiryAt = s.run.enquiryAt ∧ (closeRun kind s).loop = s.loop ∧
    (closeRun kind s).cht = s.cht ∧ (closeRun kind s).upl.rate = s.upl.rate ∧
    (closeRun kind s).upl.slot = s.upl.slot ∧ (closeRun kind s).upl.fwdQ = s.upl.fwdQ ∧
    (closeRun kind s).upl.nextFwd = s.upl.nextFwd ∧ (closeRun kind s).upl.assembling = s.upl.assembling ∧
    (closeRun kind s).upl.framing = s.upl.framing ∧ (closeRun kind s).upl.gap = s.upl.gap ∧
    (closeRun kind s).upl.length = s.upl.length ∧ (closeRun kind s).upl.crc = s.upl.crc ∧
    (closeRun kind s).upl.linkLost = s.upl.linkLost ∧ (closeRun kind s).upl.foreign = s.upl.foreign ∧
    (closeRun kind s).upl.kindDiscards = s.upl.kindDiscards ∧
    (closeRun kind s).upl.huntDiscards = s.upl.huntDiscards ∧
    (closeRun kind s).upl.lastChar = s.upl.lastChar ∧ (closeRun kind s).upl.tail = s.upl.tail ∧
    (closeRun kind s).upl.ready = s.upl.ready ∧
    (closeRun kind s).ctl = s.ctl ∧ (closeRun kind s).lines = s.lines ∧ (closeRun kind s).resetLine = s.resetLine ∧
    (closeRun kind s).lastReset = s.lastReset ∧ (closeRun kind s).pending = s.pending := by
  unfold closeRun
  (repeat' split) <;> simp

@[simp] theorem closeOpenInterval_frame (kind : ResetKind) (s : State) :
    (closeOpenInterval kind s).clk = s.clk ∧ (closeOpenInterval kind s).tbl = s.tbl ∧
    (closeOpenInterval kind s).stg.prim = s.stg.prim ∧ (closeOpenInterval kind s).stg.sec = s.stg.sec ∧
    (closeOpenInterval kind s).stg.selection = s.stg.selection ∧
    (closeOpenInterval kind s).stg.recovery = s.stg.recovery ∧ (closeOpenInterval kind s).stg.offset = s.stg.offset ∧
    (closeOpenInterval kind s).stg.selected = s.stg.selected ∧
    (closeOpenInterval kind s).stg.history = s.stg.history ∧
    (closeOpenInterval kind s).stg.historyAt = s.stg.historyAt ∧
    (closeOpenInterval kind s).stg.openStart = s.stg.openStart ∧
    (closeOpenInterval kind s).stg.nextBoundary = s.stg.nextBoundary ∧ (closeOpenInterval kind s).rat = s.rat ∧
    (closeOpenInterval kind s).wrn = s.wrn ∧ (closeOpenInterval kind s).pls = s.pls ∧
    (closeOpenInterval kind s).run = s.run ∧ (closeOpenInterval kind s).loop = s.loop ∧
    (closeOpenInterval kind s).cht = s.cht ∧ (closeOpenInterval kind s).upl.rate = s.upl.rate ∧
    (closeOpenInterval kind s).upl.slot = s.upl.slot ∧ (closeOpenInterval kind s).upl.fwdQ = s.upl.fwdQ ∧
    (closeOpenInterval kind s).upl.nextFwd = s.upl.nextFwd ∧
    (closeOpenInterval kind s).upl.assembling = s.upl.assembling ∧
    (closeOpenInterval kind s).upl.framing = s.upl.framing ∧ (closeOpenInterval kind s).upl.gap = s.upl.gap ∧
    (closeOpenInterval kind s).upl.length = s.upl.length ∧ (closeOpenInterval kind s).upl.crc = s.upl.crc ∧
    (closeOpenInterval kind s).upl.linkLost = s.upl.linkLost ∧
    (closeOpenInterval kind s).upl.foreign = s.upl.foreign ∧
    (closeOpenInterval kind s).upl.kindDiscards = s.upl.kindDiscards ∧
    (closeOpenInterval kind s).upl.huntDiscards = s.upl.huntDiscards ∧
    (closeOpenInterval kind s).upl.lastChar = s.upl.lastChar ∧ (closeOpenInterval kind s).upl.tail = s.upl.tail ∧
    (closeOpenInterval kind s).upl.ready = s.upl.ready ∧ (closeOpenInterval kind s).ctl = s.ctl ∧
    (closeOpenInterval kind s).lines = s.lines ∧ (closeOpenInterval kind s).resetLine = s.resetLine ∧
    (closeOpenInterval kind s).lastReset = s.lastReset ∧ (closeOpenInterval kind s).pending = s.pending := by
  unfold closeOpenInterval
  split <;> simp

@[simp] theorem uplinkReset_frame (kind : ResetKind) (s : State) :
    (uplinkReset kind s).clk = s.clk ∧ (uplinkReset kind s).tbl = s.tbl ∧ (uplinkReset kind s).stg = s.stg ∧
    (uplinkReset kind s).rat = s.rat ∧ (uplinkReset kind s).wrn = s.wrn ∧ (uplinkReset kind s).pls = s.pls ∧
    (uplinkReset kind s).run = s.run ∧ (uplinkReset kind s).loop = s.loop ∧ (uplinkReset kind s).cht = s.cht ∧
    (uplinkReset kind s).ctl = s.ctl ∧ (uplinkReset kind s).lines = s.lines ∧
    (uplinkReset kind s).resetLine = s.resetLine ∧ (uplinkReset kind s).lastReset = s.lastReset ∧
    (uplinkReset kind s).pending = s.pending := by
  unfold uplinkReset
  split <;> simp

@[simp] theorem blocksReset_frame (s : State) :
    (blocksReset s).clk = s.clk ∧ (blocksReset s).tbl = s.tbl ∧ (blocksReset s).stg = s.stg ∧
    (blocksReset s).rat.live = s.rat.live ∧ (blocksReset s).rat.shifts = s.rat.shifts ∧ (blocksReset s).wrn = s.wrn ∧
    (blocksReset s).run = s.run ∧ (blocksReset s).store = s.store ∧ (blocksReset s).upl = s.upl ∧
    (blocksReset s).lines = s.lines ∧ (blocksReset s).resetLine = s.resetLine ∧
    (blocksReset s).lastReset = s.lastReset ∧ (blocksReset s).pending = s.pending := by
  simp [blocksReset]

@[simp] theorem warningReset_frame (kind : ResetKind) (s : State) :
    (warningReset kind s).clk = s.clk ∧ (warningReset kind s).tbl = s.tbl ∧ (warningReset kind s).stg = s.stg ∧
    (warningReset kind s).rat = s.rat ∧ (warningReset kind s).pls.rotorIn = s.pls.rotorIn ∧
    (warningReset kind s).pls.surfaceIn = s.pls.surfaceIn ∧ (warningReset kind s).pls.bottomIn = s.pls.bottomIn ∧
    (warningReset kind s).run.marker = s.run.marker ∧ (warningReset kind s).run.held = s.run.held ∧
    (warningReset kind s).run.position = s.run.position ∧ (warningReset kind s).run.grantKnown = s.run.grantKnown ∧
    (warningReset kind s).loop.rate = s.loop.rate ∧ (warningReset kind s).loop.txn = s.loop.txn ∧
    (warningReset kind s).loop.rx = s.loop.rx ∧ (warningReset kind s).loop.jam = s.loop.jam ∧
    (warningReset kind s).loop.lineBreak = s.loop.lineBreak ∧ (warningReset kind s).loop.lowSince = s.loop.lowSince ∧
    (warningReset kind s).loop.highSince = s.loop.highSince ∧ (warningReset kind s).loop.sched = s.loop.sched ∧
    (warningReset kind s).loop.nodeFail = s.loop.nodeFail ∧ (warningReset kind s).loop.faults = s.loop.faults ∧
    (warningReset kind s).loop.unsolicited = s.loop.unsolicited ∧
    (warningReset kind s).loop.droppedService = s.loop.droppedService ∧
    (warningReset kind s).loop.serviceQ = s.loop.serviceQ ∧ (warningReset kind s).loop.tx = s.loop.tx ∧
    (warningReset kind s).loop.grant.node = s.loop.grant.node ∧
    (warningReset kind s).loop.grant.limit = s.loop.grant.limit ∧
    (warningReset kind s).loop.grant.mode = s.loop.grant.mode ∧
    (warningReset kind s).loop.grant.count = s.loop.grant.count ∧
    (warningReset kind s).loop.grant.began = s.loop.grant.began ∧
    (warningReset kind s).loop.grant.wait = s.loop.grant.wait ∧
    (warningReset kind s).loop.grant.interleaveAt = s.loop.grant.interleaveAt ∧
    (warningReset kind s).loop.grant.lastEnd = s.loop.grant.lastEnd ∧
    (warningReset kind s).loop.grant.begun = s.loop.grant.begun ∧ (warningReset kind s).cht = s.cht ∧
    (warningReset kind s).upl.rate = s.upl.rate ∧ (warningReset kind s).upl.slot = s.upl.slot ∧
    (warningReset kind s).upl.fwdQ = s.upl.fwdQ ∧ (warningReset kind s).upl.nextFwd = s.upl.nextFwd ∧
    (warningReset kind s).upl.assembling = s.upl.assembling ∧ (warningReset kind s).upl.framing = s.upl.framing ∧
    (warningReset kind s).upl.gap = s.upl.gap ∧ (warningReset kind s).upl.length = s.upl.length ∧
    (warningReset kind s).upl.crc = s.upl.crc ∧ (warningReset kind s).upl.linkLost = s.upl.linkLost ∧
    (warningReset kind s).upl.foreign = s.upl.foreign ∧ (warningReset kind s).upl.kindDiscards = s.upl.kindDiscards ∧
    (warningReset kind s).upl.huntDiscards = s.upl.huntDiscards ∧
    (warningReset kind s).upl.lastChar = s.upl.lastChar ∧ (warningReset kind s).upl.tail = s.upl.tail ∧
    (warningReset kind s).upl.ready = s.upl.ready ∧
    (warningReset kind s).ctl = s.ctl ∧ (warningReset kind s).lines = s.lines ∧
    (warningReset kind s).resetLine = s.resetLine ∧ (warningReset kind s).lastReset = s.lastReset ∧
    (warningReset kind s).pending = s.pending := by
  unfold warningReset
  split <;> simp

@[simp] theorem resetBlocks_frame (kind : ResetKind) (s : State) :
    (resetBlocks kind s).clk.time = s.clk.time ∧ (resetBlocks kind s).clk.valid = s.clk.valid ∧
    (resetBlocks kind s).clk.subMs = s.clk.subMs ∧ (resetBlocks kind s).tbl = s.tbl ∧
    (resetBlocks kind s).rat.live = s.rat.live ∧ (resetBlocks kind s).rat.shifts = s.rat.shifts ∧
    (resetBlocks kind s).lines = s.lines ∧ (resetBlocks kind s).pending = s.pending := by
  simp [resetBlocks]

@[simp] theorem resetAll_frame (kind : ResetKind) (s : State) :
    (resetAll kind s).clk.time = s.clk.time ∧ (resetAll kind s).clk.valid = s.clk.valid ∧
    (resetAll kind s).clk.subMs = s.clk.subMs ∧ (resetAll kind s).tbl = s.tbl ∧
    (resetAll kind s).rat.live = s.rat.live ∧ (resetAll kind s).rat.shifts = s.rat.shifts ∧
    (resetAll kind s).lines = s.lines ∧ (resetAll kind s).pending = s.pending := by
  simp [resetAll]

@[simp] theorem answerWrite_frame (t off : Nat) (data : List Byte) (s : State) :
    (answerWrite t off data s).clk = s.clk ∧ (answerWrite t off data s).tbl = s.tbl ∧
    (answerWrite t off data s).stg = s.stg ∧ (answerWrite t off data s).rat = s.rat ∧
    (answerWrite t off data s).wrn = s.wrn ∧ (answerWrite t off data s).pls = s.pls ∧
    (answerWrite t off data s).run = s.run ∧ (answerWrite t off data s).loop.rate = s.loop.rate ∧
    (answerWrite t off data s).loop.txn = s.loop.txn ∧ (answerWrite t off data s).loop.rx = s.loop.rx ∧
    (answerWrite t off data s).loop.jam = s.loop.jam ∧ (answerWrite t off data s).loop.lineBreak = s.loop.lineBreak ∧
    (answerWrite t off data s).loop.lowSince = s.loop.lowSince ∧
    (answerWrite t off data s).loop.highSince = s.loop.highSince ∧
    (answerWrite t off data s).loop.sched = s.loop.sched ∧
    (answerWrite t off data s).loop.nodeFail = s.loop.nodeFail ∧
    (answerWrite t off data s).loop.faults = s.loop.faults ∧
    (answerWrite t off data s).loop.unsolicited = s.loop.unsolicited ∧
    (answerWrite t off data s).loop.droppedService = s.loop.droppedService ∧
    (answerWrite t off data s).loop.claimPlace = s.loop.claimPlace ∧
    (answerWrite t off data s).loop.winchPlace = s.loop.winchPlace ∧ (answerWrite t off data s).loop.tx = s.loop.tx ∧
    (answerWrite t off data s).loop.pendingCmd = s.loop.pendingCmd ∧
    (answerWrite t off data s).loop.grant = s.loop.grant ∧ (answerWrite t off data s).cht = s.cht ∧
    (answerWrite t off data s).store = s.store ∧ (answerWrite t off data s).upl.rate = s.upl.rate ∧
    (answerWrite t off data s).upl.fwdQ = s.upl.fwdQ ∧ (answerWrite t off data s).upl.nextFwd = s.upl.nextFwd ∧
    (answerWrite t off data s).upl.assembling = s.upl.assembling ∧
    (answerWrite t off data s).upl.framing = s.upl.framing ∧ (answerWrite t off data s).upl.gap = s.upl.gap ∧
    (answerWrite t off data s).upl.length = s.upl.length ∧ (answerWrite t off data s).upl.crc = s.upl.crc ∧
    (answerWrite t off data s).upl.linkLost = s.upl.linkLost ∧
    (answerWrite t off data s).upl.foreign = s.upl.foreign ∧
    (answerWrite t off data s).upl.kindDiscards = s.upl.kindDiscards ∧
    (answerWrite t off data s).upl.huntDiscards = s.upl.huntDiscards ∧
    (answerWrite t off data s).upl.lastChar = s.upl.lastChar ∧ (answerWrite t off data s).upl.tail = s.upl.tail ∧
    (answerWrite t off data s).upl.ready = s.upl.ready ∧ (answerWrite t off data s).ctl.queue = s.ctl.queue ∧
    (answerWrite t off data s).ctl.droppedBusy = s.ctl.droppedBusy ∧
    (answerWrite t off data s).ctl.lastRefusal = s.ctl.lastRefusal ∧ (answerWrite t off data s).lines = s.lines ∧
    (answerWrite t off data s).resetLine = s.resetLine ∧ (answerWrite t off data s).lastReset = s.lastReset ∧
    (answerWrite t off data s).pending = s.pending := by
  simp [answerWrite]

@[simp] theorem configWritten_frame (old : List Byte) (s : State) :
    (configWritten old s).clk = s.clk ∧ (configWritten old s).tbl = s.tbl ∧
    (configWritten old s).stg.offset = s.stg.offset ∧ (configWritten old s).stg.openStart = s.stg.openStart ∧
    (configWritten old s).stg.nextBoundary = s.stg.nextBoundary ∧ (configWritten old s).rat.live = s.rat.live ∧
    (configWritten old s).rat.shifts = s.rat.shifts ∧ (configWritten old s).pls.rotorIn = s.pls.rotorIn ∧
    (configWritten old s).pls.surfaceIn = s.pls.surfaceIn ∧ (configWritten old s).pls.bottomIn = s.pls.bottomIn ∧
    (configWritten old s).run.marker = s.run.marker ∧ (configWritten old s).run.held = s.run.held ∧
    (configWritten old s).run.position = s.run.position ∧ (configWritten old s).run.grantKnown = s.run.grantKnown ∧
    (configWritten old s).loop.rate = s.loop.rate ∧ (configWritten old s).loop.txn = s.loop.txn ∧
    (configWritten old s).loop.rx = s.loop.rx ∧ (configWritten old s).loop.jam = s.loop.jam ∧
    (configWritten old s).loop.lineBreak = s.loop.lineBreak ∧ (configWritten old s).loop.lowSince = s.loop.lowSince ∧
    (configWritten old s).loop.highSince = s.loop.highSince ∧ (configWritten old s).loop.sched = s.loop.sched ∧
    (configWritten old s).loop.nodeFail = s.loop.nodeFail ∧ (configWritten old s).loop.faults = s.loop.faults ∧
    (configWritten old s).loop.unsolicited = s.loop.unsolicited ∧
    (configWritten old s).loop.droppedService = s.loop.droppedService ∧
    (configWritten old s).loop.serviceQ = s.loop.serviceQ ∧ (configWritten old s).loop.tx = s.loop.tx ∧
    (configWritten old s).loop.grant.node = s.loop.grant.node ∧
    (configWritten old s).loop.grant.limit = s.loop.grant.limit ∧
    (configWritten old s).loop.grant.mode = s.loop.grant.mode ∧
    (configWritten old s).loop.grant.count = s.loop.grant.count ∧
    (configWritten old s).loop.grant.began = s.loop.grant.began ∧
    (configWritten old s).loop.grant.wait = s.loop.grant.wait ∧
    (configWritten old s).loop.grant.interleaveAt = s.loop.grant.interleaveAt ∧
    (configWritten old s).loop.grant.lastEnd = s.loop.grant.lastEnd ∧
    (configWritten old s).loop.grant.begun = s.loop.grant.begun ∧ (configWritten old s).cht = s.cht ∧
    (configWritten old s).upl.slot = s.upl.slot ∧ (configWritten old s).upl.fwdQ = s.upl.fwdQ ∧
    (configWritten old s).upl.nextFwd = s.upl.nextFwd ∧ (configWritten old s).upl.assembling = s.upl.assembling ∧
    (configWritten old s).upl.framing = s.upl.framing ∧ (configWritten old s).upl.gap = s.upl.gap ∧
    (configWritten old s).upl.length = s.upl.length ∧ (configWritten old s).upl.crc = s.upl.crc ∧
    (configWritten old s).upl.linkLost = s.upl.linkLost ∧ (configWritten old s).upl.foreign = s.upl.foreign ∧
    (configWritten old s).upl.kindDiscards = s.upl.kindDiscards ∧
    (configWritten old s).upl.huntDiscards = s.upl.huntDiscards ∧
    (configWritten old s).upl.lastChar = s.upl.lastChar ∧ (configWritten old s).upl.tail = s.upl.tail ∧
    (configWritten old s).upl.ready = s.upl.ready ∧
    (configWritten old s).ctl = s.ctl ∧ (configWritten old s).lines = s.lines ∧
    (configWritten old s).resetLine = s.resetLine ∧ (configWritten old s).lastReset = s.lastReset ∧
    (configWritten old s).pending = s.pending := by
  simp [configWritten]

@[simp] theorem beginTest_frame (level duration : Nat) (s : State) :
    (beginTest level duration s).clk = s.clk ∧ (beginTest level duration s).tbl = s.tbl ∧
    (beginTest level duration s).stg = s.stg ∧ (beginTest level duration s).rat = s.rat ∧
    (beginTest level duration s).wrn.rules = s.wrn.rules ∧
    (beginTest level duration s).wrn.stageLost = s.wrn.stageLost ∧
    (beginTest level duration s).wrn.target = s.wrn.target ∧ (beginTest level duration s).wrn.level = s.wrn.level ∧
    (beginTest level duration s).wrn.standDown = s.wrn.standDown ∧
    (beginTest level duration s).wrn.resetHold = s.wrn.resetHold ∧
    (beginTest level duration s).wrn.silenced = s.wrn.silenced ∧ (beginTest level duration s).pls = s.pls ∧
    (beginTest level duration s).run = s.run ∧ (beginTest level duration s).loop = s.loop ∧
    (beginTest level duration s).cht = s.cht ∧ (beginTest level duration s).upl.rate = s.upl.rate ∧
    (beginTest level duration s).upl.slot = s.upl.slot ∧ (beginTest level duration s).upl.fwdQ = s.upl.fwdQ ∧
    (beginTest level duration s).upl.nextFwd = s.upl.nextFwd ∧
    (beginTest level duration s).upl.assembling = s.upl.assembling ∧
    (beginTest level duration s).upl.framing = s.upl.framing ∧ (beginTest level duration s).upl.gap = s.upl.gap ∧
    (beginTest level duration s).upl.length = s.upl.length ∧ (beginTest level duration s).upl.crc = s.upl.crc ∧
    (beginTest level duration s).upl.linkLost = s.upl.linkLost ∧
    (beginTest level duration s).upl.foreign = s.upl.foreign ∧
    (beginTest level duration s).upl.kindDiscards = s.upl.kindDiscards ∧
    (beginTest level duration s).upl.huntDiscards = s.upl.huntDiscards ∧
    (beginTest level duration s).upl.lastChar = s.upl.lastChar ∧ (beginTest level duration s).upl.tail = s.upl.tail ∧
    (beginTest level duration s).upl.ready = s.upl.ready ∧ (beginTest level duration s).ctl = s.ctl ∧
    (beginTest level duration s).lines = s.lines ∧ (beginTest level duration s).resetLine = s.resetLine ∧
    (beginTest level duration s).lastReset = s.lastReset ∧ (beginTest level duration s).pending = s.pending := by
  simp [beginTest]

@[simp] theorem setClockTo_frame (t : Nat) (s : State) :
    (setClockTo t s).clk.timebase = s.clk.timebase ∧ (setClockTo t s).tbl = s.tbl ∧
    (setClockTo t s).stg.prim = s.stg.prim ∧ (setClockTo t s).stg.sec = s.stg.sec ∧
    (setClockTo t s).stg.selection = s.stg.selection ∧ (setClockTo t s).stg.recovery = s.stg.recovery ∧
    (setClockTo t s).stg.offset = s.stg.offset ∧ (setClockTo t s).stg.selected = s.stg.selected ∧
    (setClockTo t s).stg.history = s.stg.history ∧ (setClockTo t s).stg.historyAt = s.stg.historyAt ∧
    (setClockTo t s).rat = s.rat ∧ (setClockTo t s).wrn = s.wrn ∧ (setClockTo t s).pls = s.pls ∧
    (setClockTo t s).run = s.run ∧ (setClockTo t s).loop = s.loop ∧ (setClockTo t s).cht = s.cht ∧
    (setClockTo t s).upl.rate = s.upl.rate ∧ (setClockTo t s).upl.slot = s.upl.slot ∧
    (setClockTo t s).upl.fwdQ = s.upl.fwdQ ∧ (setClockTo t s).upl.nextFwd = s.upl.nextFwd ∧
    (setClockTo t s).upl.assembling = s.upl.assembling ∧ (setClockTo t s).upl.framing = s.upl.framing ∧
    (setClockTo t s).upl.gap = s.upl.gap ∧ (setClockTo t s).upl.length = s.upl.length ∧
    (setClockTo t s).upl.crc = s.upl.crc ∧ (setClockTo t s).upl.linkLost = s.upl.linkLost ∧
    (setClockTo t s).upl.foreign = s.upl.foreign ∧ (setClockTo t s).upl.kindDiscards = s.upl.kindDiscards ∧
    (setClockTo t s).upl.huntDiscards = s.upl.huntDiscards ∧
    (setClockTo t s).upl.lastChar = s.upl.lastChar ∧ (setClockTo t s).upl.tail = s.upl.tail ∧
    (setClockTo t s).upl.ready = s.upl.ready ∧
    (setClockTo t s).ctl = s.ctl ∧ (setClockTo t s).lines = s.lines ∧ (setClockTo t s).resetLine = s.resetLine ∧
    (setClockTo t s).lastReset = s.lastReset ∧ (setClockTo t s).pending = s.pending := by
  unfold setClockTo
  dsimp only
  split <;> simp

end Sys2Proof.Machine
end

