-- ==== Sys2Proof/Laws/CommandFrame.lean ====
section
/-! SUPPORT. What the operations of the other commands and of an idle step leave as it was: one lemma per
operation, for all the fields it does not touch. -/

namespace Sys2Proof.Machine

@[simp] theorem enterHistory_frame (s : State) :
    (enterHistory s).clk = s.clk ∧ (enterHistory s).tbl = s.tbl ∧ (enterHistory s).stg.prim = s.stg.prim ∧
    (enterHistory s).stg.sec = s.stg.sec ∧ (enterHistory s).stg.selection = s.stg.selection ∧
    (enterHistory s).stg.recovery = s.stg.recovery ∧ (enterHistory s).stg.offset = s.stg.offset ∧
    (enterHistory s).stg.selected = s.stg.selected ∧ (enterHistory s).stg.openStart = s.stg.openStart ∧
    (enterHistory s).stg.nextBoundary = s.stg.nextBoundary ∧ (enterHistory s).stg.acc = s.stg.acc ∧
    (enterHistory s).rat = s.rat ∧ (enterHistory s).wrn = s.wrn ∧ (enterHistory s).pls = s.pls ∧
    (enterHistory s).run = s.run ∧ (enterHistory s).loop = s.loop ∧ (enterHistory s).cht = s.cht ∧
    (enterHistory s).store = s.store ∧ (enterHistory s).upl = s.upl ∧ (enterHistory s).ctl = s.ctl ∧
    (enterHistory s).lines = s.lines ∧ (enterHistory s).resetLine = s.resetLine ∧
    (enterHistory s).lastReset = s.lastReset ∧ (enterHistory s).pending = s.pending := by
  simp [enterHistory]

@[simp] theorem duePollClaim_frame (s : State) :
    (duePollClaim s).clk = s.clk ∧ (duePollClaim s).tbl = s.tbl ∧ (duePollClaim s).stg = s.stg ∧
    (duePollClaim s).rat = s.rat ∧ (duePollClaim s).wrn = s.wrn ∧ (duePollClaim s).pls = s.pls ∧
    (duePollClaim s).run = s.run ∧ (duePollClaim s).loop.rate = s.loop.rate ∧
    (duePollClaim s).loop.txn = s.loop.txn ∧ (duePollClaim s).loop.rx = s.loop.rx ∧
    (duePollClaim s).loop.jam = s.loop.jam ∧ (duePollClaim s).loop.lineBreak = s.loop.lineBreak ∧
    (duePollClaim s).loop.lowSince = s.loop.lowSince ∧ (duePollClaim s).loop.highSince = s.loop.highSince ∧
    (duePollClaim s).loop.sched = s.loop.sched ∧ (duePollClaim s).loop.nodeFail = s.loop.nodeFail ∧
    (duePollClaim s).loop.faults = s.loop.faults ∧ (duePollClaim s).loop.unsolicited = s.loop.unsolicited ∧
    (duePollClaim s).loop.droppedService = s.loop.droppedService ∧
    (duePollClaim s).loop.winchPlace = s.loop.winchPlace ∧ (duePollClaim s).loop.serviceQ = s.loop.serviceQ ∧
    (duePollClaim s).loop.handNo = s.loop.handNo ∧ (duePollClaim s).loop.tx = s.loop.tx ∧
    (duePollClaim s).loop.pendingCmd = s.loop.pendingCmd ∧ (duePollClaim s).loop.grant.node = s.loop.grant.node ∧
    (duePollClaim s).loop.grant.limit = s.loop.grant.limit ∧ (duePollClaim s).loop.grant.mode = s.loop.grant.mode ∧
    (duePollClaim s).loop.grant.count = s.loop.grant.count ∧ (duePollClaim s).loop.grant.began = s.loop.grant.began ∧
    (duePollClaim s).loop.grant.wait = s.loop.grant.wait ∧
    (duePollClaim s).loop.grant.interleaveAt = s.loop.grant.interleaveAt ∧
    (duePollClaim s).loop.grant.lastEnd = s.loop.grant.lastEnd ∧
    (duePollClaim s).loop.grant.begun = s.loop.grant.begun ∧ (duePollClaim s).cht = s.cht ∧
    (duePollClaim s).store = s.store ∧ (duePollClaim s).upl = s.upl ∧ (duePollClaim s).ctl = s.ctl ∧
    (duePollClaim s).lines = s.lines ∧ (duePollClaim s).resetLine = s.resetLine ∧
    (duePollClaim s).lastReset = s.lastReset ∧ (duePollClaim s).pending = s.pending := by
  unfold duePollClaim
  dsimp only
  split <;> simp

@[simp] theorem skipPoll_frame (ch : Nat) (p : Poll) (s : State) :
    (skipPoll ch p s).clk = s.clk ∧ (skipPoll ch p s).tbl = s.tbl ∧ (skipPoll ch p s).stg.prim = s.stg.prim ∧
    (skipPoll ch p s).stg.sec = s.stg.sec ∧ (skipPoll ch p s).stg.selection = s.stg.selection ∧
    (skipPoll ch p s).stg.offset = s.stg.offset ∧ (skipPoll ch p s).stg.selected = s.stg.selected ∧
    (skipPoll ch p s).stg.history = s.stg.history ∧ (skipPoll ch p s).stg.historyAt = s.stg.historyAt ∧
    (skipPoll ch p s).stg.openStart = s.stg.openStart ∧ (skipPoll ch p s).stg.nextBoundary = s.stg.nextBoundary ∧
    (skipPoll ch p s).rat = s.rat ∧ (skipPoll ch p s).wrn = s.wrn ∧ (skipPoll ch p s).pls = s.pls ∧
    (skipPoll ch p s).run = s.run ∧ (skipPoll ch p s).loop.rate = s.loop.rate ∧
    (skipPoll ch p s).loop.txn = s.loop.txn ∧ (skipPoll ch p s).loop.rx = s.loop.rx ∧
    (skipPoll ch p s).loop.lineBreak = s.loop.lineBreak ∧ (skipPoll ch p s).loop.lowSince = s.loop.lowSince ∧
    (skipPoll ch p s).loop.highSince = s.loop.highSince ∧ (skipPoll ch p s).loop.nodeFail = s.loop.nodeFail ∧
    (skipPoll ch p s).loop.faults = s.loop.faults ∧ (skipPoll ch p s).loop.unsolicited = s.loop.unsolicited ∧
    (skipPoll ch p s).loop.droppedService = s.loop.droppedService ∧
    (skipPoll ch p s).loop.winchPlace = s.loop.winchPlace ∧ (skipPoll ch p s).loop.serviceQ = s.loop.serviceQ ∧
    (skipPoll ch p s).loop.handNo = s.loop.handNo ∧ (skipPoll ch p s).loop.tx = s.loop.tx ∧
    (skipPoll ch p s).loop.pendingCmd = s.loop.pendingCmd ∧ (skipPoll ch p s).loop.grant.node = s.loop.grant.node ∧
    (skipPoll ch p s).loop.grant.limit = s.loop.grant.limit ∧ (skipPoll ch p s).loop.grant.mode = s.loop.grant.mode ∧
    (skipPoll ch p s).loop.grant.count = s.loop.grant.count ∧
    (skipPoll ch p s).loop.grant.began = s.loop.grant.began ∧ (skipPoll ch p s).loop.grant.wait = s.loop.grant.wait ∧
    (skipPoll ch p s).loop.grant.interleaveAt = s.loop.grant.interleaveAt ∧
    (skipPoll ch p s).loop.grant.lastEnd = s.loop.grant.lastEnd ∧
    (skipPoll ch p s).loop.grant.begun = s.loop.grant.begun ∧ (skipPoll ch p s).cht = s.cht ∧
    (skipPoll ch p s).store = s.store ∧ (skipPoll ch p s).upl = s.upl ∧ (skipPoll ch p s).ctl = s.ctl ∧
    (skipPoll ch p s).lines = s.lines ∧ (skipPoll ch p s).resetLine = s.resetLine ∧
    (skipPoll ch p s).lastReset = s.lastReset ∧ (skipPoll ch p s).pending = s.pending := by
  simp [skipPoll]

@[simp] theorem seenHigh_frame (s : State) :
    (seenHigh s).clk = s.clk ∧ (seenHigh s).tbl = s.tbl ∧ (seenHigh s).stg = s.stg ∧ (seenHigh s).rat = s.rat ∧
    (seenHigh s).wrn = s.wrn ∧ (seenHigh s).pls = s.pls ∧ (seenHigh s).run = s.run ∧
    (seenHigh s).loop.rate = s.loop.rate ∧ (seenHigh s).loop.txn = s.loop.txn ∧ (seenHigh s).loop.rx = s.loop.rx ∧
    (seenHigh s).loop.jam = s.loop.jam ∧ (seenHigh s).loop.lineBreak = s.loop.lineBreak ∧
    (seenHigh s).loop.lowSince = s.loop.lowSince ∧ (seenHigh s).loop.sched = s.loop.sched ∧
    (seenHigh s).loop.nodeFail = s.loop.nodeFail ∧ (seenHigh s).loop.faults = s.loop.faults ∧
    (seenHigh s).loop.unsolicited = s.loop.unsolicited ∧ (seenHigh s).loop.droppedService = s.loop.droppedService ∧
    (seenHigh s).loop.claimPlace = s.loop.claimPlace ∧ (seenHigh s).loop.winchPlace = s.loop.winchPlace ∧
    (seenHigh s).loop.serviceQ = s.loop.serviceQ ∧ (seenHigh s).loop.handNo = s.loop.handNo ∧
    (seenHigh s).loop.tx = s.loop.tx ∧ (seenHigh s).loop.pendingCmd = s.loop.pendingCmd ∧
    (seenHigh s).loop.grant = s.loop.grant ∧ (seenHigh s).cht = s.cht ∧ (seenHigh s).store = s.store ∧
    (seenHigh s).upl = s.upl ∧ (seenHigh s).ctl = s.ctl ∧ (seenHigh s).lines = s.lines ∧
    (seenHigh s).resetLine = s.resetLine ∧ (seenHigh s).lastReset = s.lastReset ∧ (seenHigh s).pending = s.pending := by
  simp [seenHigh]

@[simp] theorem gapIn_frame (c : RxContext) (s : State) :
    (gapIn c s).clk = s.clk ∧ (gapIn c s).tbl = s.tbl ∧ (gapIn c s).stg.prim = s.stg.prim ∧
    (gapIn c s).stg.sec = s.stg.sec ∧ (gapIn c s).stg.selection = s.stg.selection ∧
    (gapIn c s).stg.offset = s.stg.offset ∧ (gapIn c s).stg.selected = s.stg.selected ∧
    (gapIn c s).stg.history = s.stg.history ∧ (gapIn c s).stg.historyAt = s.stg.historyAt ∧
    (gapIn c s).stg.openStart = s.stg.openStart ∧ (gapIn c s).stg.nextBoundary = s.stg.nextBoundary ∧
    (gapIn c s).rat = s.rat ∧ (gapIn c s).wrn = s.wrn ∧ (gapIn c s).pls.rotorIn = s.pls.rotorIn ∧
    (gapIn c s).pls.surfaceIn = s.pls.surfaceIn ∧ (gapIn c s).pls.bottomIn = s.pls.bottomIn ∧
    (gapIn c s).run.marker = s.run.marker ∧ (gapIn c s).run.held = s.run.held ∧
    (gapIn c s).run.position = s.run.position ∧ (gapIn c s).run.grantKnown = s.run.grantKnown ∧
    (gapIn c s).loop.rate = s.loop.rate ∧ (gapIn c s).loop.jam = s.loop.jam ∧
    (gapIn c s).loop.lineBreak = s.loop.lineBreak ∧ (gapIn c s).loop.lowSince = s.loop.lowSince ∧
    (gapIn c s).loop.highSince = s.loop.highSince ∧ (gapIn c s).loop.unsolicited = s.loop.unsolicited ∧
    (gapIn c s).loop.droppedService = s.loop.droppedService ∧ (gapIn c s).loop.serviceQ = s.loop.serviceQ ∧
    (gapIn c s).loop.tx = s.loop.tx ∧ (gapIn c s).loop.grant.node = s.loop.grant.node ∧
    (gapIn c s).loop.grant.limit = s.loop.grant.limit ∧ (gapIn c s).loop.grant.mode = s.loop.grant.mode ∧
    (gapIn c s).loop.grant.count = s.loop.grant.count ∧ (gapIn c s).loop.grant.began = s.loop.grant.began ∧
    (gapIn c s).loop.grant.interleaveAt = s.loop.grant.interleaveAt ∧
    (gapIn c s).loop.grant.lastEnd = s.loop.grant.lastEnd ∧ (gapIn c s).loop.grant.begun = s.loop.grant.begun ∧
    (gapIn c s).cht = s.cht ∧ (gapIn c s).store = s.store ∧ (gapIn c s).upl = s.upl ∧ (gapIn c s).ctl = s.ctl ∧
    (gapIn c s).lines = s.lines ∧ (gapIn c s).resetLine = s.resetLine ∧ (gapIn c s).lastReset = s.lastReset ∧
    (gapIn c s).pending = s.pending := by
  unfold gapIn
  split <;> simp

@[simp] theorem setReplyLow_frame (low : Bool) (s : State) :
    (setReplyLow low s).clk = s.clk ∧ (setReplyLow low s).tbl = s.tbl ∧ (setReplyLow low s).stg = s.stg ∧
    (setReplyLow low s).rat = s.rat ∧ (setReplyLow low s).wrn = s.wrn ∧ (setReplyLow low s).pls = s.pls ∧
    (setReplyLow low s).run = s.run ∧ (setReplyLow low s).loop = s.loop ∧ (setReplyLow low s).cht = s.cht ∧
    (setReplyLow low s).store = s.store ∧ (setReplyLow low s).upl = s.upl ∧ (setReplyLow low s).ctl = s.ctl ∧
    (setReplyLow low s).lines.rotorClosed = s.lines.rotorClosed ∧
    (setReplyLow low s).lines.surfaceClosed = s.lines.surfaceClosed ∧
    (setReplyLow low s).lines.bottomClosed = s.lines.bottomClosed ∧ (setReplyLow low s).lines.link = s.lines.link ∧
    (setReplyLow low s).lines.cts = s.lines.cts ∧ (setReplyLow low s).resetLine = s.resetLine ∧
    (setReplyLow low s).lastReset = s.lastReset ∧ (setReplyLow low s).pending = s.pending := by
  simp [setReplyLow]

@[simp] theorem enterJam_frame (s : State) :
    (enterJam s).clk = s.clk ∧ (enterJam s).tbl = s.tbl ∧ (enterJam s).stg = s.stg ∧ (enterJam s).rat = s.rat ∧
    (enterJam s).wrn = s.wrn ∧ (enterJam s).pls = s.pls ∧ (enterJam s).run.state = s.run.state ∧
    (enterJam s).run.marker = s.run.marker ∧ (enterJam s).run.held = s.run.held ∧
    (enterJam s).run.position = s.run.position ∧ (enterJam s).run.record = s.run.record ∧
    (enterJam s).run.cursor = s.run.cursor ∧ (enterJam s).run.vertical = s.run.vertical ∧
    (enterJam s).run.moveId = s.run.moveId ∧ (enterJam s).run.moveSent = s.run.moveSent ∧
    (enterJam s).run.haltId = s.run.haltId ∧ (enterJam s).run.retrieveSent = s.run.retrieveSent ∧
    (enterJam s).run.traverseAt = s.run.traverseAt ∧
    (enterJam s).run.traverseLapsed = s.run.traverseLapsed ∧
    (enterJam s).run.cableAt = s.run.cableAt ∧
    (enterJam s).run.cableLapsed = s.run.cableLapsed ∧
    (enterJam s).run.settleAt = s.run.settleAt ∧ (enterJam s).run.retrieveAt = s.run.retrieveAt ∧
    (enterJam s).loop.rate = s.loop.rate ∧ (enterJam s).loop.txn = s.loop.txn ∧
    (enterJam s).loop.lineBreak = s.loop.lineBreak ∧ (enterJam s).loop.lowSince = s.loop.lowSince ∧
    (enterJam s).loop.highSince = s.loop.highSince ∧ (enterJam s).loop.sched = s.loop.sched ∧
    (enterJam s).loop.nodeFail = s.loop.nodeFail ∧ (enterJam s).loop.faults = s.loop.faults ∧
    (enterJam s).loop.unsolicited = s.loop.unsolicited ∧ (enterJam s).loop.droppedService = s.loop.droppedService ∧
    (enterJam s).loop.serviceQ = s.loop.serviceQ ∧ (enterJam s).loop.tx = s.loop.tx ∧
    (enterJam s).loop.grant.node = s.loop.grant.node ∧ (enterJam s).loop.grant.limit = s.loop.grant.limit ∧
    (enterJam s).loop.grant.mode = s.loop.grant.mode ∧ (enterJam s).loop.grant.count = s.loop.grant.count ∧
    (enterJam s).loop.grant.began = s.loop.grant.began ∧ (enterJam s).loop.grant.begun = s.loop.grant.begun ∧
    (enterJam s).cht = s.cht ∧ (enterJam s).upl.rate = s.upl.rate ∧ (enterJam s).upl.slot = s.upl.slot ∧
    (enterJam s).upl.fwdQ = s.upl.fwdQ ∧ (enterJam s).upl.nextFwd = s.upl.nextFwd ∧
    (enterJam s).upl.assembling = s.upl.assembling ∧ (enterJam s).upl.framing = s.upl.framing ∧
    (enterJam s).upl.gap = s.upl.gap ∧ (enterJam s).upl.length = s.upl.length ∧ (enterJam s).upl.crc = s.upl.crc ∧
    (enterJam s).upl.linkLost = s.upl.linkLost ∧ (enterJam s).upl.foreign = s.upl.foreign ∧
    (enterJam s).upl.kindDiscards = s.upl.kindDiscards ∧ (enterJam s).upl.huntDiscards = s.upl.huntDiscards ∧
    (enterJam s).upl.lastChar = s.upl.lastChar ∧ (enterJam s).upl.tail = s.upl.tail ∧
    (enterJam s).upl.ready = s.upl.ready ∧ (enterJam s).ctl = s.ctl ∧ (enterJam s).lines = s.lines ∧
    (enterJam s).resetLine = s.resetLine ∧ (enterJam s).lastReset = s.lastReset ∧ (enterJam s).pending = s.pending := by
  unfold enterJam
  dsimp only
  split <;> simp

@[simp] theorem leaveJam_frame (j : Jam) (s : State) :
    (leaveJam j s).clk = s.clk ∧ (leaveJam j s).tbl = s.tbl ∧ (leaveJam j s).stg = s.stg ∧
    (leaveJam j s).rat = s.rat ∧ (leaveJam j s).wrn = s.wrn ∧ (leaveJam j s).pls = s.pls ∧
    (leaveJam j s).run = s.run ∧ (leaveJam j s).loop.rate = s.loop.rate ∧ (leaveJam j s).loop.txn = s.loop.txn ∧
    (leaveJam j s).loop.rx = s.loop.rx ∧ (leaveJam j s).loop.lineBreak = s.loop.lineBreak ∧
    (leaveJam j s).loop.lowSince = s.loop.lowSince ∧ (leaveJam j s).loop.highSince = s.loop.highSince ∧
    (leaveJam j s).loop.sched = s.loop.sched ∧ (leaveJam j s).loop.nodeFail = s.loop.nodeFail ∧
    (leaveJam j s).loop.faults = s.loop.faults ∧ (leaveJam j s).loop.unsolicited = s.loop.unsolicited ∧
    (leaveJam j s).loop.droppedService = s.loop.droppedService ∧ (leaveJam j s).loop.claimPlace = s.loop.claimPlace ∧
    (leaveJam j s).loop.winchPlace = s.loop.winchPlace ∧ (leaveJam j s).loop.serviceQ = s.loop.serviceQ ∧
    (leaveJam j s).loop.handNo = s.loop.handNo ∧ (leaveJam j s).loop.tx = s.loop.tx ∧
    (leaveJam j s).loop.pendingCmd = s.loop.pendingCmd ∧ (leaveJam j s).loop.grant = s.loop.grant ∧
    (leaveJam j s).cht = s.cht ∧ (leaveJam j s).upl.rate = s.upl.rate ∧ (leaveJam j s).upl.slot = s.upl.slot ∧
    (leaveJam j s).upl.fwdQ = s.upl.fwdQ ∧ (leaveJam j s).upl.nextFwd = s.upl.nextFwd ∧
    (leaveJam j s).upl.assembling = s.upl.assembling ∧ (leaveJam j s).upl.framing = s.upl.framing ∧
    (leaveJam j s).upl.gap = s.upl.gap ∧ (leaveJam j s).upl.length = s.upl.length ∧
    (leaveJam j s).upl.crc = s.upl.crc ∧ (leaveJam j s).upl.linkLost = s.upl.linkLost ∧
    (leaveJam j s).upl.foreign = s.upl.foreign ∧ (leaveJam j s).upl.kindDiscards = s.upl.kindDiscards ∧
    (leaveJam j s).upl.huntDiscards = s.upl.huntDiscards ∧
    (leaveJam j s).upl.lastChar = s.upl.lastChar ∧ (leaveJam j s).upl.tail = s.upl.tail ∧
    (leaveJam j s).upl.ready = s.upl.ready ∧
    (leaveJam j s).ctl = s.ctl ∧ (leaveJam j s).lines = s.lines ∧ (leaveJam j s).resetLine = s.resetLine ∧
    (leaveJam j s).lastReset = s.lastReset ∧ (leaveJam j s).pending = s.pending := by
  simp [leaveJam]

@[simp] theorem cutFrame_frame (addr : Byte) (r : RxFrame) (s : State) :
    (cutFrame addr r s).clk = s.clk ∧ (cutFrame addr r s).tbl = s.tbl ∧
    (cutFrame addr r s).stg.history = s.stg.history ∧ (cutFrame addr r s).stg.historyAt = s.stg.historyAt ∧
    (cutFrame addr r s).stg.openStart = s.stg.openStart ∧ (cutFrame addr r s).stg.nextBoundary = s.stg.nextBoundary ∧
    (cutFrame addr r s).rat.live = s.rat.live ∧ (cutFrame addr r s).pls.rotorIn = s.pls.rotorIn ∧
    (cutFrame addr r s).pls.surfaceIn = s.pls.surfaceIn ∧ (cutFrame addr r s).pls.bottomIn = s.pls.bottomIn ∧
    (cutFrame addr r s).loop.rate = s.loop.rate ∧ (cutFrame addr r s).loop.jam = s.loop.jam ∧
    (cutFrame addr r s).loop.lineBreak = s.loop.lineBreak ∧ (cutFrame addr r s).loop.lowSince = s.loop.lowSince ∧
    (cutFrame addr r s).loop.highSince = s.loop.highSince ∧ (cutFrame addr r s).loop.tx = s.loop.tx ∧
    (cutFrame addr r s).loop.grant.node = s.loop.grant.node ∧
    (cutFrame addr r s).loop.grant.limit = s.loop.grant.limit ∧
    (cutFrame addr r s).loop.grant.mode = s.loop.grant.mode ∧
    (cutFrame addr r s).loop.grant.began = s.loop.grant.began ∧
    (cutFrame addr r s).loop.grant.begun = s.loop.grant.begun ∧ (cutFrame addr r s).cht.view = s.cht.view ∧
    (cutFrame addr r s).upl.rate = s.upl.rate ∧ (cutFrame addr r s).upl.assembling = s.upl.assembling ∧
    (cutFrame addr r s).upl.framing = s.upl.framing ∧ (cutFrame addr r s).upl.gap = s.upl.gap ∧
    (cutFrame addr r s).upl.length = s.upl.length ∧ (cutFrame addr r s).upl.crc = s.upl.crc ∧
    (cutFrame addr r s).upl.linkLost = s.upl.linkLost ∧ (cutFrame addr r s).upl.foreign = s.upl.foreign ∧
    (cutFrame addr r s).upl.kindDiscards = s.upl.kindDiscards ∧
    (cutFrame addr r s).upl.huntDiscards = s.upl.huntDiscards ∧
    (cutFrame addr r s).upl.lastChar = s.upl.lastChar ∧ (cutFrame addr r s).upl.tail = s.upl.tail ∧
    (cutFrame addr r s).ctl.inHand = s.ctl.inHand ∧
    (cutFrame addr r s).ctl.pendingReply = s.ctl.pendingReply ∧ (cutFrame addr r s).ctl.resetWait = s.ctl.resetWait ∧
    (cutFrame addr r s).ctl.lastRefusal = s.ctl.lastRefusal ∧ (cutFrame addr r s).lines = s.lines ∧
    (cutFrame addr r s).resetLine = s.resetLine ∧ (cutFrame addr r s).lastReset = s.lastReset ∧
    (cutFrame addr r s).pending = s.pending := by
  unfold cutFrame
  (repeat' split) <;> simp

@[simp] theorem endUnanswered_frame (s : State) :
    (endUnanswered s).clk = s.clk ∧ (endUnanswered s).tbl = s.tbl ∧ (endUnanswered s).stg = s.stg ∧
    (endUnanswered s).rat = s.rat ∧ (endUnanswered s).wrn = s.wrn ∧ (endUnanswered s).pls.rotorIn = s.pls.rotorIn ∧
    (endUnanswered s).pls.surfaceIn = s.pls.surfaceIn ∧ (endUnanswered s).pls.bottomIn = s.pls.bottomIn ∧
    (endUnanswered s).run.marker = s.run.marker ∧ (endUnanswered s).run.held = s.run.held ∧
    (endUnanswered s).run.position = s.run.position ∧ (endUnanswered s).loop.rate = s.loop.rate ∧
    (endUnanswered s).loop.txn = s.loop.txn ∧ (endUnanswered s).loop.jam = s.loop.jam ∧
    (endUnanswered s).loop.lineBreak = s.loop.lineBreak ∧ (endUnanswered s).loop.lowSince = s.loop.lowSince ∧
    (endUnanswered s).loop.highSince = s.loop.highSince ∧ (endUnanswered s).loop.sched = s.loop.sched ∧
    (endUnanswered s).loop.faults = s.loop.faults ∧ (endUnanswered s).loop.unsolicited = s.loop.unsolicited ∧
    (endUnanswered s).loop.droppedService = s.loop.droppedService ∧
    (endUnanswered s).loop.serviceQ = s.loop.serviceQ ∧ (endUnanswered s).loop.tx = s.loop.tx ∧
    (endUnanswered s).loop.grant.node = s.loop.grant.node ∧ (endUnanswered s).loop.grant.limit = s.loop.grant.limit ∧
    (endUnanswered s).loop.grant.mode = s.loop.grant.mode ∧ (endUnanswered s).loop.grant.count = s.loop.grant.count ∧
    (endUnanswered s).loop.grant.began = s.loop.grant.began ∧
    (endUnanswered s).loop.grant.begun = s.loop.grant.begun ∧ (endUnanswered s).cht = s.cht ∧
    (endUnanswered s).store = s.store ∧ (endUnanswered s).upl = s.upl ∧ (endUnanswered s).ctl = s.ctl ∧
    (endUnanswered s).lines = s.lines ∧ (endUnanswered s).resetLine = s.resetLine ∧
    (endUnanswered s).lastReset = s.lastReset ∧ (endUnanswered s).pending = s.pending := by
  simp [endUnanswered]

@[simp] theorem handRotor_frame (before : Rotor) (s : State) :
    (handRotor before s).clk = s.clk ∧ (handRotor before s).tbl = s.tbl ∧ (handRotor before s).stg = s.stg ∧
    (handRotor before s).rat = s.rat ∧ (handRotor before s).wrn = s.wrn ∧ (handRotor before s).pls = s.pls ∧
    (handRotor before s).run.marker = s.run.marker ∧ (handRotor before s).run.held = s.run.held ∧
    (handRotor before s).run.position = s.run.position ∧ (handRotor before s).run.record = s.run.record ∧
    (handRotor before s).run.cursor = s.run.cursor ∧ (handRotor before s).run.grantKnown = s.run.grantKnown ∧
    (handRotor before s).run.retrieveSent = s.run.retrieveSent ∧
    (handRotor before s).run.verifyGrant = s.run.verifyGrant ∧
    (handRotor before s).run.traverseAt = s.run.traverseAt ∧
    (handRotor before s).run.traverseLapsed = s.run.traverseLapsed ∧
    (handRotor before s).run.settleAt = s.run.settleAt ∧
    (handRotor before s).run.retrieveAt = s.run.retrieveAt ∧ (handRotor before s).loop.rate = s.loop.rate ∧
    (handRotor before s).loop.txn = s.loop.txn ∧ (handRotor before s).loop.rx = s.loop.rx ∧
    (handRotor before s).loop.jam = s.loop.jam ∧ (handRotor before s).loop.lineBreak = s.loop.lineBreak ∧
    (handRotor before s).loop.lowSince = s.loop.lowSince ∧ (handRotor before s).loop.highSince = s.loop.highSince ∧
    (handRotor before s).loop.sched = s.loop.sched ∧ (handRotor before s).loop.nodeFail = s.loop.nodeFail ∧
    (handRotor before s).loop.faults = s.loop.faults ∧ (handRotor before s).loop.unsolicited = s.loop.unsolicited ∧
    (handRotor before s).loop.droppedService = s.loop.droppedService ∧
    (handRotor before s).loop.claimPlace = s.loop.claimPlace ∧ (handRotor before s).loop.serviceQ = s.loop.serviceQ ∧
    (handRotor before s).loop.tx = s.loop.tx ∧ (handRotor before s).loop.grant = s.loop.grant ∧
    (handRotor before s).cht = s.cht ∧ (handRotor before s).store = s.store ∧ (handRotor before s).upl = s.upl ∧
    (handRotor before s).ctl = s.ctl ∧ (handRotor before s).lines = s.lines ∧
    (handRotor before s).resetLine = s.resetLine ∧ (handRotor before s).lastReset = s.lastReset ∧
    (handRotor before s).pending = s.pending := by
  unfold handRotor
  split <;> simp

@[simp] theorem acceptedClosure_frame (c : Contact) (s : State) :
    (acceptedClosure c s).clk = s.clk ∧ (acceptedClosure c s).tbl = s.tbl ∧ (acceptedClosure c s).stg = s.stg ∧
    (acceptedClosure c s).rat = s.rat ∧ (acceptedClosure c s).wrn = s.wrn ∧
    (acceptedClosure c s).pls.rotorIn = s.pls.rotorIn ∧ (acceptedClosure c s).pls.surfaceIn = s.pls.surfaceIn ∧
    (acceptedClosure c s).pls.bottomIn = s.pls.bottomIn ∧ (acceptedClosure c s).run.marker = s.run.marker ∧
    (acceptedClosure c s).run.held = s.run.held ∧ (acceptedClosure c s).run.position = s.run.position ∧
    (acceptedClosure c s).run.grantKnown = s.run.grantKnown ∧ (acceptedClosure c s).loop.rate = s.loop.rate ∧
    (acceptedClosure c s).loop.txn = s.loop.txn ∧ (acceptedClosure c s).loop.rx = s.loop.rx ∧
    (acceptedClosure c s).loop.jam = s.loop.jam ∧ (acceptedClosure c s).loop.lineBreak = s.loop.lineBreak ∧
    (acceptedClosure c s).loop.lowSince = s.loop.lowSince ∧ (acceptedClosure c s).loop.highSince = s.loop.highSince ∧
    (acceptedClosure c s).loop.sched = s.loop.sched ∧ (acceptedClosure c s).loop.nodeFail = s.loop.nodeFail ∧
    (acceptedClosure c s).loop.faults = s.loop.faults ∧ (acceptedClosure c s).loop.unsolicited = s.loop.unsolicited ∧
    (acceptedClosure c s).loop.droppedService = s.loop.droppedService ∧
    (acceptedClosure c s).loop.serviceQ = s.loop.serviceQ ∧ (acceptedClosure c s).loop.tx = s.loop.tx ∧
    (acceptedClosure c s).loop.grant.node = s.loop.grant.node ∧
    (acceptedClosure c s).loop.grant.limit = s.loop.grant.limit ∧
    (acceptedClosure c s).loop.grant.mode = s.loop.grant.mode ∧
    (acceptedClosure c s).loop.grant.count = s.loop.grant.count ∧
    (acceptedClosure c s).loop.grant.began = s.loop.grant.began ∧
    (acceptedClosure c s).loop.grant.wait = s.loop.grant.wait ∧
    (acceptedClosure c s).loop.grant.interleaveAt = s.loop.grant.interleaveAt ∧
    (acceptedClosure c s).loop.grant.lastEnd = s.loop.grant.lastEnd ∧
    (acceptedClosure c s).loop.grant.begun = s.loop.grant.begun ∧ (acceptedClosure c s).cht = s.cht ∧
    (acceptedClosure c s).store = s.store ∧ (acceptedClosure c s).upl = s.upl ∧ (acceptedClosure c s).ctl = s.ctl ∧
    (acceptedClosure c s).lines = s.lines ∧ (acceptedClosure c s).resetLine = s.resetLine ∧
    (acceptedClosure c s).lastReset = s.lastReset ∧ (acceptedClosure c s).pending = s.pending := by
  unfold acceptedClosure
  dsimp only
  (repeat' split) <;> simp

@[simp] theorem closeContact_frame (c : Contact) (s : State) :
    (closeContact c s).clk = s.clk ∧ (closeContact c s).tbl = s.tbl ∧ (closeContact c s).stg = s.stg ∧
    (closeContact c s).rat = s.rat ∧ (closeContact c s).wrn = s.wrn ∧ (closeContact c s).run.marker = s.run.marker ∧
    (closeContact c s).run.held = s.run.held ∧ (closeContact c s).run.position = s.run.position ∧
    (closeContact c s).run.grantKnown = s.run.grantKnown ∧ (closeContact c s).loop.rate = s.loop.rate ∧
    (closeContact c s).loop.txn = s.loop.txn ∧ (closeContact c s).loop.rx = s.loop.rx ∧
    (closeContact c s).loop.jam = s.loop.jam ∧ (closeContact c s).loop.lineBreak = s.loop.lineBreak ∧
    (closeContact c s).loop.lowSince = s.loop.lowSince ∧ (closeContact c s).loop.highSince = s.loop.highSince ∧
    (closeContact c s).loop.sched = s.loop.sched ∧ (closeContact c s).loop.nodeFail = s.loop.nodeFail ∧
    (closeContact c s).loop.faults = s.loop.faults ∧ (closeContact c s).loop.unsolicited = s.loop.unsolicited ∧
    (closeContact c s).loop.droppedService = s.loop.droppedService ∧
    (closeContact c s).loop.serviceQ = s.loop.serviceQ ∧ (closeContact c s).loop.tx = s.loop.tx ∧
    (closeContact c s).loop.grant.node = s.loop.grant.node ∧
    (closeContact c s).loop.grant.limit = s.loop.grant.limit ∧
    (closeContact c s).loop.grant.mode = s.loop.grant.mode ∧
    (closeContact c s).loop.grant.count = s.loop.grant.count ∧
    (closeContact c s).loop.grant.began = s.loop.grant.began ∧
    (closeContact c s).loop.grant.wait = s.loop.grant.wait ∧
    (closeContact c s).loop.grant.interleaveAt = s.loop.grant.interleaveAt ∧
    (closeContact c s).loop.grant.lastEnd = s.loop.grant.lastEnd ∧
    (closeContact c s).loop.grant.begun = s.loop.grant.begun ∧ (closeContact c s).cht = s.cht ∧
    (closeContact c s).store = s.store ∧ (closeContact c s).upl = s.upl ∧ (closeContact c s).ctl = s.ctl ∧
    (closeContact c s).resetLine = s.resetLine ∧ (closeContact c s).lastReset = s.lastReset ∧
    (closeContact c s).pending = s.pending := by
  unfold closeContact
  dsimp only
  split <;> simp

@[simp] theorem enquire_frame (s : State) :
    (enquire s).clk = s.clk ∧ (enquire s).tbl = s.tbl ∧ (enquire s).stg = s.stg ∧ (enquire s).rat = s.rat ∧
    (enquire s).wrn = s.wrn ∧ (enquire s).pls = s.pls ∧ (enquire s).run.state = s.run.state ∧
    (enquire s).run.marker = s.run.marker ∧ (enquire s).run.held = s.run.held ∧
    (enquire s).run.position = s.run.position ∧ (enquire s).run.record = s.run.record ∧
    (enquire s).run.cursor = s.run.cursor ∧ (enquire s).run.vertical = s.run.vertical ∧
    (enquire s).run.grantKnown = s.run.grantKnown ∧ (enquire s).run.moveId = s.run.moveId ∧
    (enquire s).run.moveSent = s.run.moveSent ∧ (enquire s).run.haltId = s.run.haltId ∧
    (enquire s).run.retrieveSent = s.run.retrieveSent ∧ (enquire s).run.verifyGrant = s.run.verifyGrant ∧
    (enquire s).run.traverseAt = s.run.traverseAt ∧
    (enquire s).run.traverseLapsed = s.run.traverseLapsed ∧
    (enquire s).run.cableAt = s.run.cableAt ∧
    (enquire s).run.cableLapsed = s.run.cableLapsed ∧
    (enquire s).run.settleAt = s.run.settleAt ∧ (enquire s).run.retrieveAt = s.run.retrieveAt ∧
    (enquire s).loop.rate = s.loop.rate ∧ (enquire s).loop.txn = s.loop.txn ∧ (enquire s).loop.rx = s.loop.rx ∧
    (enquire s).loop.jam = s.loop.jam ∧ (enquire s).loop.lineBreak = s.loop.lineBreak ∧
    (enquire s).loop.lowSince = s.loop.lowSince ∧ (enquire s).loop.highSince = s.loop.highSince ∧
    (enquire s).loop.sched = s.loop.sched ∧ (enquire s).loop.nodeFail = s.loop.nodeFail ∧
    (enquire s).loop.faults = s.loop.faults ∧ (enquire s).loop.unsolicited = s.loop.unsolicited ∧
    (enquire s).loop.droppedService = s.loop.droppedService ∧ (enquire s).loop.claimPlace = s.loop.claimPlace ∧
    (enquire s).loop.serviceQ = s.loop.serviceQ ∧ (enquire s).loop.tx = s.loop.tx ∧
    (enquire s).loop.grant = s.loop.grant ∧ (enquire s).cht = s.cht ∧ (enquire s).store = s.store ∧
    (enquire s).upl = s.upl ∧ (enquire s).ctl = s.ctl ∧ (enquire s).lines = s.lines ∧
    (enquire s).resetLine = s.resetLine ∧ (enquire s).lastReset = s.lastReset ∧ (enquire s).pending = s.pending := by
  unfold enquire
  split <;> simp

@[simp] theorem dropAssembly_frame (u : Upl) :
    (dropAssembly u).rate = u.rate ∧ (dropAssembly u).buffer = u.buffer ∧ (dropAssembly u).slot = u.slot ∧
    (dropAssembly u).fwdQ = u.fwdQ ∧ (dropAssembly u).nextFwd = u.nextFwd ∧ (dropAssembly u).framing = u.framing ∧
    (dropAssembly u).gap = u.gap ∧ (dropAssembly u).length = u.length ∧ (dropAssembly u).crc = u.crc ∧
    (dropAssembly u).foreign = u.foreign ∧ (dropAssembly u).kindDiscards = u.kindDiscards ∧
    (dropAssembly u).huntDiscards = u.huntDiscards ∧ (dropAssembly u).tail = u.tail ∧
    (dropAssembly u).ready = u.ready := by
  unfold dropAssembly
  split <;> simp

@[simp] theorem Upl.countFault_frame (u : Upl) (k : UplinkFault) :
    (Upl.countFault u k).rate = u.rate ∧ (Upl.countFault u k).buffer = u.buffer ∧
    (Upl.countFault u k).slot = u.slot ∧ (Upl.countFault u k).fwdQ = u.fwdQ ∧
    (Upl.countFault u k).nextFwd = u.nextFwd ∧ (Upl.countFault u k).assembling = u.assembling ∧
    (Upl.countFault u k).gap = u.gap ∧ (Upl.countFault u k).linkLost = u.linkLost ∧
    (Upl.countFault u k).foreign = u.foreign ∧ (Upl.countFault u k).kindDiscards = u.kindDiscards ∧
    (Upl.countFault u k).huntDiscards = u.huntDiscards ∧ (Upl.countFault u k).lastChar = u.lastChar ∧
    (Upl.countFault u k).tail = u.tail ∧ (Upl.countFault u k).ready = u.ready := by
  unfold Upl.countFault
  split <;> simp

@[simp] theorem hunting_frame (u : Upl) :
    (hunting u).rate = u.rate ∧ (hunting u).buffer = u.buffer ∧ (hunting u).slot = u.slot ∧
    (hunting u).fwdQ = u.fwdQ ∧ (hunting u).nextFwd = u.nextFwd ∧ (hunting u).framing = u.framing ∧
    (hunting u).gap = u.gap ∧ (hunting u).length = u.length ∧ (hunting u).crc = u.crc ∧
    (hunting u).linkLost = u.linkLost ∧ (hunting u).foreign = u.foreign ∧ (hunting u).kindDiscards = u.kindDiscards ∧
    (hunting u).huntDiscards = u.huntDiscards ∧ (hunting u).tail = u.tail ∧ (hunting u).ready = u.ready := by
  simp [hunting]

@[simp] theorem itemGone_frame (it : TxItem) (s : State) :
    (itemGone it s).clk = s.clk ∧ (itemGone it s).tbl = s.tbl ∧ (itemGone it s).stg = s.stg ∧
    (itemGone it s).rat = s.rat ∧ (itemGone it s).wrn = s.wrn ∧ (itemGone it s).pls = s.pls ∧
    (itemGone it s).run = s.run ∧ (itemGone it s).loop = s.loop ∧ (itemGone it s).cht = s.cht ∧
    (itemGone it s).store.nextSeq = s.store.nextSeq ∧ (itemGone it s).store.slotsUsed = s.store.slotsUsed ∧
    (itemGone it s).upl.rate = s.upl.rate ∧ (itemGone it s).upl.nextFwd = s.upl.nextFwd ∧
    (itemGone it s).upl.assembling = s.upl.assembling ∧ (itemGone it s).upl.framing = s.upl.framing ∧
    (itemGone it s).upl.gap = s.upl.gap ∧ (itemGone it s).upl.length = s.upl.length ∧
    (itemGone it s).upl.crc = s.upl.crc ∧ (itemGone it s).upl.linkLost = s.upl.linkLost ∧
    (itemGone it s).upl.foreign = s.upl.foreign ∧ (itemGone it s).upl.kindDiscards = s.upl.kindDiscards ∧
    (itemGone it s).upl.huntDiscards = s.upl.huntDiscards ∧
    (itemGone it s).upl.lastChar = s.upl.lastChar ∧ (itemGone it s).upl.tail = s.upl.tail ∧
    (itemGone it s).upl.ready = s.upl.ready ∧
    (itemGone it s).ctl.queue = s.ctl.queue ∧ (itemGone it s).ctl.droppedBusy = s.ctl.droppedBusy ∧
    (itemGone it s).ctl.lastRefusal = s.ctl.lastRefusal ∧ (itemGone it s).lines = s.lines ∧
    (itemGone it s).resetLine = s.resetLine ∧ (itemGone it s).lastReset = s.lastReset ∧
    (itemGone it s).pending = s.pending := by
  unfold itemGone
  split <;> simp

@[simp] theorem endItem_frame (it : TxItem) (s : State) :
    (endItem it s).clk = s.clk ∧ (endItem it s).tbl = s.tbl ∧ (endItem it s).stg = s.stg ∧
    (endItem it s).rat = s.rat ∧ (endItem it s).wrn = s.wrn ∧ (endItem it s).pls = s.pls ∧
    (endItem it s).run = s.run ∧ (endItem it s).loop = s.loop ∧ (endItem it s).cht = s.cht ∧
    (endItem it s).store.nextSeq = s.store.nextSeq ∧ (endItem it s).store.slotsUsed = s.store.slotsUsed ∧
    (endItem it s).upl.nextFwd = s.upl.nextFwd ∧ (endItem it s).upl.assembling = s.upl.assembling ∧
    (endItem it s).upl.framing = s.upl.framing ∧ (endItem it s).upl.gap = s.upl.gap ∧
    (endItem it s).upl.length = s.upl.length ∧ (endItem it s).upl.crc = s.upl.crc ∧
    (endItem it s).upl.linkLost = s.upl.linkLost ∧ (endItem it s).upl.foreign = s.upl.foreign ∧
    (endItem it s).upl.kindDiscards = s.upl.kindDiscards ∧ (endItem it s).upl.huntDiscards = s.upl.huntDiscards ∧
    (endItem it s).upl.lastChar = s.upl.lastChar ∧ (endItem it s).upl.tail = s.upl.tail ∧
    (endItem it s).upl.ready = s.upl.ready ∧ (endItem it s).ctl.queue = s.ctl.queue ∧
    (endItem it s).ctl.droppedBusy = s.ctl.droppedBusy ∧ (endItem it s).ctl.lastRefusal = s.ctl.lastRefusal ∧
    (endItem it s).lines = s.lines ∧ (endItem it s).resetLine = s.resetLine ∧
    (endItem it s).lastReset = s.lastReset ∧ (endItem it s).pending = s.pending := by
  simp [endItem]

@[simp] theorem abandon_frame (it : TxItem) (s : State) :
    (abandon it s).clk = s.clk ∧ (abandon it s).tbl = s.tbl ∧ (abandon it s).stg = s.stg ∧
    (abandon it s).rat = s.rat ∧ (abandon it s).wrn = s.wrn ∧ (abandon it s).pls = s.pls ∧
    (abandon it s).run = s.run ∧ (abandon it s).loop = s.loop ∧ (abandon it s).cht = s.cht ∧
    (abandon it s).store = s.store ∧ (abandon it s).upl.rate = s.upl.rate ∧ (abandon it s).upl.slot = s.upl.slot ∧
    (abandon it s).upl.fwdQ = s.upl.fwdQ ∧ (abandon it s).upl.nextFwd = s.upl.nextFwd ∧
    (abandon it s).upl.assembling = s.upl.assembling ∧ (abandon it s).upl.framing = s.upl.framing ∧
    (abandon it s).upl.gap = s.upl.gap ∧ (abandon it s).upl.length = s.upl.length ∧
    (abandon it s).upl.crc = s.upl.crc ∧ (abandon it s).upl.linkLost = s.upl.linkLost ∧
    (abandon it s).upl.foreign = s.upl.foreign ∧ (abandon it s).upl.kindDiscards = s.upl.kindDiscards ∧
    (abandon it s).upl.huntDiscards = s.upl.huntDiscards ∧
    (abandon it s).upl.lastChar = s.upl.lastChar ∧ (abandon it s).upl.ready = s.upl.ready ∧
    (abandon it s).ctl.queue = s.ctl.queue ∧ (abandon it s).ctl.inHand = s.ctl.inHand ∧
    (abandon it s).ctl.pendingReply = s.ctl.pendingReply ∧ (abandon it s).ctl.droppedBusy = s.ctl.droppedBusy ∧
    (abandon it s).ctl.lastRefusal = s.ctl.lastRefusal ∧ (abandon it s).lines = s.lines ∧
    (abandon it s).resetLine = s.resetLine ∧ (abandon it s).lastReset = s.lastReset ∧
    (abandon it s).pending = s.pending := by
  unfold abandon
  split <;> simp

@[simp] theorem linkLow_frame (s : State) :
    (linkLow s).clk = s.clk ∧ (linkLow s).tbl = s.tbl ∧ (linkLow s).stg = s.stg ∧ (linkLow s).rat = s.rat ∧
    (linkLow s).wrn = s.wrn ∧ (linkLow s).pls = s.pls ∧ (linkLow s).run = s.run ∧ (linkLow s).loop = s.loop ∧
    (linkLow s).cht = s.cht ∧ (linkLow s).store = s.store ∧ (linkLow s).upl.slot = s.upl.slot ∧
    (linkLow s).upl.fwdQ = s.upl.fwdQ ∧ (linkLow s).upl.nextFwd = s.upl.nextFwd ∧
    (linkLow s).upl.framing = s.upl.framing ∧ (linkLow s).upl.gap = s.upl.gap ∧
    (linkLow s).upl.length = s.upl.length ∧ (linkLow s).upl.crc = s.upl.crc ∧
    (linkLow s).upl.foreign = s.upl.foreign ∧ (linkLow s).upl.kindDiscards = s.upl.kindDiscards ∧
    (linkLow s).upl.huntDiscards = s.upl.huntDiscards ∧
    (linkLow s).upl.ready = s.upl.ready ∧
    (linkLow s).ctl.queue = s.ctl.queue ∧ (linkLow s).ctl.inHand = s.ctl.inHand ∧
    (linkLow s).ctl.pendingReply = s.ctl.pendingReply ∧ (linkLow s).ctl.droppedBusy = s.ctl.droppedBusy ∧
    (linkLow s).ctl.lastRefusal = s.ctl.lastRefusal ∧ (linkLow s).lines.rotorClosed = s.lines.rotorClosed ∧
    (linkLow s).lines.surfaceClosed = s.lines.surfaceClosed ∧ (linkLow s).lines.bottomClosed = s.lines.bottomClosed ∧
    (linkLow s).lines.cts = s.lines.cts ∧ (linkLow s).lines.replyLow = s.lines.replyLow ∧
    (linkLow s).resetLine = s.resetLine ∧ (linkLow s).lastReset = s.lastReset ∧ (linkLow s).pending = s.pending := by
  unfold linkLow
  dsimp only
  split <;> simp

@[simp] theorem judgeUplink_frame (f : UplinkFrame) (s : State) :
    (judgeUplink f s).clk = s.clk ∧ (judgeUplink f s).tbl = s.tbl ∧ (judgeUplink f s).stg = s.stg ∧
    (judgeUplink f s).rat = s.rat ∧ (judgeUplink f s).wrn = s.wrn ∧ (judgeUplink f s).pls = s.pls ∧
    (judgeUplink f s).run = s.run ∧ (judgeUplink f s).loop.rate = s.loop.rate ∧
    (judgeUplink f s).loop.txn = s.loop.txn ∧ (judgeUplink f s).loop.rx = s.loop.rx ∧
    (judgeUplink f s).loop.jam = s.loop.jam ∧ (judgeUplink f s).loop.lineBreak = s.loop.lineBreak ∧
    (judgeUplink f s).loop.lowSince = s.loop.lowSince ∧ (judgeUplink f s).loop.highSince = s.loop.highSince ∧
    (judgeUplink f s).loop.sched = s.loop.sched ∧ (judgeUplink f s).loop.nodeFail = s.loop.nodeFail ∧
    (judgeUplink f s).loop.faults = s.loop.faults ∧ (judgeUplink f s).loop.unsolicited = s.loop.unsolicited ∧
    (judgeUplink f s).loop.claimPlace = s.loop.claimPlace ∧ (judgeUplink f s).loop.winchPlace = s.loop.winchPlace ∧
    (judgeUplink f s).loop.tx = s.loop.tx ∧ (judgeUplink f s).loop.pendingCmd = s.loop.pendingCmd ∧
    (judgeUplink f s).loop.grant = s.loop.grant ∧ (judgeUplink f s).cht = s.cht ∧ (judgeUplink f s).store = s.store ∧
    (judgeUplink f s).upl.rate = s.upl.rate ∧ (judgeUplink f s).upl.fwdQ = s.upl.fwdQ ∧
    (judgeUplink f s).upl.nextFwd = s.upl.nextFwd ∧ (judgeUplink f s).upl.assembling = s.upl.assembling ∧
    (judgeUplink f s).upl.framing = s.upl.framing ∧ (judgeUplink f s).upl.gap = s.upl.gap ∧
    (judgeUplink f s).upl.length = s.upl.length ∧ (judgeUplink f s).upl.crc = s.upl.crc ∧
    (judgeUplink f s).upl.linkLost = s.upl.linkLost ∧ (judgeUplink f s).upl.huntDiscards = s.upl.huntDiscards ∧
    (judgeUplink f s).upl.lastChar = s.upl.lastChar ∧ (judgeUplink f s).upl.tail = s.upl.tail ∧
    (judgeUplink f s).ctl.inHand = s.ctl.inHand ∧ (judgeUplink f s).ctl.pendingReply = s.ctl.pendingReply ∧
    (judgeUplink f s).ctl.resetWait = s.ctl.resetWait ∧ (judgeUplink f s).ctl.lastRefusal = s.ctl.lastRefusal ∧
    (judgeUplink f s).lines = s.lines ∧ (judgeUplink f s).resetLine = s.resetLine ∧
    (judgeUplink f s).lastReset = s.lastReset ∧ (judgeUplink f s).pending = s.pending := by
  unfold judgeUplink
  (repeat' split) <;> simp

@[simp] theorem endUplinkFrame_frame (f : UplinkFrame) (s : State) :
    (endUplinkFrame f s).clk = s.clk ∧ (endUplinkFrame f s).tbl = s.tbl ∧ (endUplinkFrame f s).stg = s.stg ∧
    (endUplinkFrame f s).rat = s.rat ∧ (endUplinkFrame f s).wrn = s.wrn ∧ (endUplinkFrame f s).pls = s.pls ∧
    (endUplinkFrame f s).run = s.run ∧ (endUplinkFrame f s).loop.rate = s.loop.rate ∧
    (endUplinkFrame f s).loop.txn = s.loop.txn ∧ (endUplinkFrame f s).loop.rx = s.loop.rx ∧
    (endUplinkFrame f s).loop.jam = s.loop.jam ∧ (endUplinkFrame f s).loop.lineBreak = s.loop.lineBreak ∧
    (endUplinkFrame f s).loop.lowSince = s.loop.lowSince ∧ (endUplinkFrame f s).loop.highSince = s.loop.highSince ∧
    (endUplinkFrame f s).loop.sched = s.loop.sched ∧ (endUplinkFrame f s).loop.nodeFail = s.loop.nodeFail ∧
    (endUplinkFrame f s).loop.faults = s.loop.faults ∧ (endUplinkFrame f s).loop.unsolicited = s.loop.unsolicited ∧
    (endUplinkFrame f s).loop.claimPlace = s.loop.claimPlace ∧
    (endUplinkFrame f s).loop.winchPlace = s.loop.winchPlace ∧ (endUplinkFrame f s).loop.tx = s.loop.tx ∧
    (endUplinkFrame f s).loop.pendingCmd = s.loop.pendingCmd ∧ (endUplinkFrame f s).loop.grant = s.loop.grant ∧
    (endUplinkFrame f s).cht = s.cht ∧ (endUplinkFrame f s).store = s.store ∧
    (endUplinkFrame f s).upl.fwdQ = s.upl.fwdQ ∧ (endUplinkFrame f s).upl.nextFwd = s.upl.nextFwd ∧
    (endUplinkFrame f s).upl.gap = s.upl.gap ∧ (endUplinkFrame f s).upl.linkLost = s.upl.linkLost ∧
    (endUplinkFrame f s).upl.huntDiscards = s.upl.huntDiscards ∧
    (endUplinkFrame f s).upl.tail = s.upl.tail ∧ (endUplinkFrame f s).ctl.inHand = s.ctl.inHand ∧
    (endUplinkFrame f s).ctl.pendingReply = s.ctl.pendingReply ∧
    (endUplinkFrame f s).ctl.resetWait = s.ctl.resetWait ∧ (endUplinkFrame f s).ctl.lastRefusal = s.ctl.lastRefusal ∧
    (endUplinkFrame f s).lines = s.lines ∧ (endUplinkFrame f s).resetLine = s.resetLine ∧
    (endUplinkFrame f s).lastReset = s.lastReset ∧ (endUplinkFrame f s).pending = s.pending := by
  unfold endUplinkFrame
  split <;> simp

@[simp] theorem passMs_frame (s : State) :
    (passMs s).tbl = s.tbl ∧ (passMs s).stg = s.stg ∧ (passMs s).rat = s.rat ∧ (passMs s).wrn = s.wrn ∧
    (passMs s).pls = s.pls ∧ (passMs s).run = s.run ∧ (passMs s).loop = s.loop ∧ (passMs s).cht = s.cht ∧
    (passMs s).store = s.store ∧ (passMs s).upl.rate = s.upl.rate ∧ (passMs s).upl.slot = s.upl.slot ∧
    (passMs s).upl.fwdQ = s.upl.fwdQ ∧ (passMs s).upl.nextFwd = s.upl.nextFwd ∧
    (passMs s).upl.assembling = s.upl.assembling ∧ (passMs s).upl.framing = s.upl.framing ∧
    (passMs s).upl.gap = s.upl.gap ∧ (passMs s).upl.length = s.upl.length ∧ (passMs s).upl.crc = s.upl.crc ∧
    (passMs s).upl.linkLost = s.upl.linkLost ∧ (passMs s).upl.foreign = s.upl.foreign ∧
    (passMs s).upl.kindDiscards = s.upl.kindDiscards ∧ (passMs s).upl.huntDiscards = s.upl.huntDiscards ∧
    (passMs s).upl.lastChar = s.upl.lastChar ∧
    (passMs s).upl.ready = s.upl.ready ∧ (passMs s).ctl = s.ctl ∧ (passMs s).lines = s.lines ∧
    (passMs s).resetLine = s.resetLine ∧ (passMs s).lastReset = s.lastReset ∧ (passMs s).pending = s.pending := by
  unfold passMs
  dsimp only
  split <;> simp [Upl.sendMs]

@[simp] theorem idle_frame (s : State) :
    (idle s).tbl = s.tbl ∧ (idle s).stg = s.stg ∧ (idle s).rat = s.rat ∧ (idle s).wrn = s.wrn ∧
    (idle s).pls = s.pls ∧ (idle s).run = s.run ∧ (idle s).loop = s.loop ∧ (idle s).cht = s.cht ∧
    (idle s).store = s.store ∧ (idle s).upl.rate = s.upl.rate ∧ (idle s).upl.slot = s.upl.slot ∧
    (idle s).upl.fwdQ = s.upl.fwdQ ∧ (idle s).upl.nextFwd = s.upl.nextFwd ∧
    (idle s).upl.assembling = s.upl.assembling ∧ (idle s).upl.framing = s.upl.framing ∧
    (idle s).upl.gap = s.upl.gap ∧ (idle s).upl.length = s.upl.length ∧ (idle s).upl.crc = s.upl.crc ∧
    (idle s).upl.linkLost = s.upl.linkLost ∧ (idle s).upl.foreign = s.upl.foreign ∧
    (idle s).upl.kindDiscards = s.upl.kindDiscards ∧ (idle s).upl.huntDiscards = s.upl.huntDiscards ∧
    (idle s).upl.lastChar = s.upl.lastChar ∧
    (idle s).upl.ready = s.upl.ready ∧ (idle s).ctl = s.ctl ∧ (idle s).lines = s.lines ∧
    (idle s).resetLine = s.resetLine ∧ (idle s).lastReset = s.lastReset := by
  unfold idle
  split <;> simp

end Sys2Proof.Machine
end

