-- ==== Sys2Proof/WellFormed.lean ====
section
/-! DEFINITION. Which commands the outside world can give: those whose operands the characters on a link can carry. -/

namespace Sys2Proof

/-- R67, R72: a frame of the loop that came to its end has at most 48 payload characters. -/
def FrameBody.wf (b : FrameBody) : Bool := b.payload.length ≤ 48

/-- R75, R104: STRAY arises in a transaction only. -/
def FrameEnd.wf : FrameEnd → Bool
  | .complete b => b.wf
  | .failed .stray => false
  | .failed _ => true

/-- R14: the seconds a backup supply counts stay within the clock. R177: an uplink payload has at most 200 bytes. -/
def Instr.wf : Instr → Bool
  | .powerOnReset _ elapsed _ => elapsed ≤ 4294967295
  | .replyReceived b => b.wf
  | .unsolicitedFrame f => f.wf
  | .grantFrameReceived f => f.wf
  | .uplinkFrameReceived f => f.payload.length ≤ 200
  | _ => true

end Sys2Proof
end

