-- ==== Sys2Proof/Tests/Slice0.lean ====
section
/-! SUPPORT. The model against the worked examples of the manual, the smoke test of the well-formedness checks, and for
each statement of Certificates/Slice0/Obligations.lean that has hypotheses, states that meet them together. Each test
names the example its figures come from. -/

namespace Sys2Proof.Machine.Tests

open Sys2Proof Sys2Proof.Machine

-- Each evaluation by the kernel takes a thread with a large stack: one theorem at a time.
set_option Elab.async false

/-! ## Helpers -/

/-- The state after one command. -/
def after (i : Instr) (s : State) : State :=
  match exec i s with
  | .next t => t
  | _ => s

/-- CTL has the request in hand, taken from the uplink with sequence 7. -/
def serving (q : Req) (s : State) : State :=
  s.setCtl { s.ctl with inHand := some { request := { origin := .uplink 7, payload := [9] }, work := some q } }

/-- The station at timebase `ms`, and its station clock VALID at `time`. -/
def timed (ms time : Nat) (s : State) : State := s.setClk { time := time, valid := true, subMs := 0, timebase := ms }

/-- The reply that stands in the reply slot. -/
def slotPayload (s : State) : List Byte := (s.upl.slot.map Reply.payload).getD []

/-- The last record of the store. -/
def lastRecord (s : State) : Option Content := s.store.records.getLast?.map StoreRec.content

/-! ## Well-formedness: an ill-formed term for each check -/

def body (kind : Byte) (payload : List Byte) : FrameBody :=
  { kind := kind, payload := payload, crc := crc16 (kind :: BitVec.ofNat 8 payload.length :: payload) }

theorem test_wf_backup_seconds :
    (Instr.powerOnReset true 4294967296 State.reset.lines).wf = false ∧
      (Instr.powerOnReset true 4294967295 State.reset.lines).wf = true := by decide

theorem test_wf_reply_length :
    (Instr.replyReceived (body 16 (List.replicate 49 0))).wf = false ∧
      (Instr.replyReceived (body 16 (List.replicate 48 0))).wf = true := by decide +kernel

theorem test_wf_unsolicited_stray :
    (Instr.unsolicitedFrame (.failed .stray)).wf = false ∧ (Instr.unsolicitedFrame (.failed .crc)).wf = true := by decide

theorem test_wf_unsolicited_length :
    (Instr.unsolicitedFrame (.complete (body 16 (List.replicate 49 0)))).wf = false := by decide +kernel

theorem test_wf_grant_stray :
    (Instr.grantFrameReceived (.failed .stray)).wf = false ∧
      (Instr.grantFrameReceived (.failed (.mark 9))).wf = true := by decide

theorem test_wf_uplink_length :
    (Instr.uplinkFrameReceived { station := 1, kind := 1, seq := 0, payload := List.replicate 201 0, crc := 0 }).wf
      = false := by decide +kernel

/-! ## The rating (chapter 2) -/

/-- Rating 12 (2.2). -/
def rating12 : Bank :=
  { ratingId := 12, limit := 600,
    points := [(200, 0), (450, 180), (850, 1200), (1100, 6400), (1600, 19000), (2400, 52000)] }

/-- A time of the season of 2.3: the day of April, the hour and the minute. -/
def apr (day hour minute : Nat) : Nat := 86400 * (day - 1) + 3600 * hour + 60 * minute

def shift12 : ShiftRec := { start := apr 12 9 0, points := [(600, 50), (1400, 20)] }

/-- Table 16. -/
def season : List ShiftRec :=
  [⟨apr 1 6 0, [(0, 40)]⟩, shift12, ⟨apr 20 15 0, [(0, 25)]⟩]

/-- Table 15, with breakpoint 3 as given. -/
def staged12 (q3 : Nat) : List Byte :=
  padTo 293
    (beNat 2 12 ++ beNat 2 600 ++ beNat 1 6 ++
      ([(200, 0), (450, 180), (850, 1200), (1100, q3), (1600, 19000), (2400, 52000)].map fun p : Nat × Nat =>
        beNat 2 p.1 ++ beNat 4 p.2).flatten)

/-- A station with rating 12 and the shift table of Table 16. -/
def rated (s : State) : State := s.setRat { live := rating12, shifts := season, latest := none }

/-- The result of Table 19 for a selected stage. -/
def table19 (h : Int) : RatResult := instantDischarge rating12 (some shift12) h

/-- Table 19, the shift, the effective stage and the discharge of its rows. -/
theorem test_instant_discharges :
    ([1012, 640, 120, 1800, 2690, 19990].map fun h => (table19 h).shift) = [35, 48, 50, 20, 20, 20] ∧
      ([1012, 640, 120, 1800, 2690, 19990].map fun h => (table19 h).eff) = [1047, 688, 170, 1820, 2710, 20000] ∧
      ([1012, 640, 120, 1800, 2690, 19990].map fun h => (table19 h).discharge) =
        [some 5298, some 787, some 0, some 28075, some 64788, some 76750] := by decide +kernel

/-- Table 19, its flags. -/
theorem test_instant_discharge_flags :
    ([1012, 120, 2690, 19990].map fun h => (table19 h).belowRating) = [false, true, false, false] ∧
      ([1012, 120, 2690, 19990].map fun h => (table19 h).extrapolated) = [false, false, true, false] ∧
      ([1012, 120, 2690, 19990].map fun h => ((table19 h).extrapLimit, (table19 h).clamped)) =
        [(false, false), (false, false), (false, false), (true, true)] := by decide +kernel

/-- 2.4: with the clock INVALID every row is computed with a shift of 0. -/
theorem test_discharge_invalid_clock :
    let r := instantDischarge rating12 (applicable season { time := apr 14 10 0, valid := false, subMs := 0, timebase := 0 }) 1012
    r.eff = 1047 - 35 ∧ r.discharge = some 4570 ∧ r.shiftStart = none := by decide +kernel

/-- 2.3: what applies at 14 Apr 10:00 and at 31 Mar 23:00 (which here would lie before 0, so at the first second). -/
theorem test_applicable_shift :
    (applicable season { time := apr 14 10 0, valid := true, subMs := 0, timebase := 0 }) = some shift12 ∧
      (applicable season { time := 0, valid := true, subMs := 0, timebase := 0 }) = none := by decide +kernel

/-- Table 20. -/
theorem test_inverse_lookups :
    [5456, 1200, 52000, 60000, 5298].map (inverseLookup rating12) =
      [.stage 1055 12, .stage 850 12, .stage 2400 12, .outOfRating 12, .stage 1047 12] := by decide +kernel

/-- 2.2: the refused activation of Table 15, at breakpoint 3. -/
theorem test_activation_refused :
    slotPayload (after .activateRating
      (serving .activateRating (rated (State.reset.setTbl { deliveredTables with staged := staged12 1200 })))) =
      [9, 5, 3, 0] := by decide +kernel

/-- 2.2: the activation after the repair of breakpoint 3. -/
theorem test_activation_accepted :
    let t := after .activateRating
      (serving .activateRating (State.reset.setTbl { deliveredTables with staged := staged12 6400 }))
    t.rat.live = rating12 ∧ slotPayload t = [9, 0, 0, 12, 6] := by decide +kernel

/-- 2.3 step 1: REPLACED, 3 records. -/
theorem test_add_shift_replaces :
    let t := after .addShift (serving (.addShift (apr 12 9 0) 1 [(0, 30)]) (rated State.reset))
    t.rat.shifts = [⟨apr 1 6 0, [(0, 40)]⟩, ⟨apr 12 9 0, [(0, 30)]⟩, ⟨apr 20 15 0, [(0, 25)]⟩] ∧
      slotPayload t = [9, 0, 0, 0, 0, 0, 0, 3] := by decide +kernel

/-- 2.3 step 2: INVALID with fault position 1. -/
theorem test_add_shift_refused :
    let t := after .addShift (serving (.addShift (apr 15 0 0) 2 [(800, 10), (700, 5)]) (rated State.reset))
    t.rat.shifts = season ∧ slotPayload t = [9, 5, 1, 0] := by decide +kernel

/-- 2.3 step 3: no record has that start time. -/
theorem test_delete_shift_refused :
    let t := after .deleteShift (serving (.deleteShift (apr 1 7 0)) (rated State.reset))
    t.rat.shifts = season ∧ slotPayload t = [9, 5, 255, 0] := by decide +kernel

theorem test_delete_shift :
    let t := after .deleteShift (serving (.deleteShift (apr 12 9 0)) (rated State.reset))
    t.rat.shifts.map ShiftRec.start = [apr 1 6 0, apr 20 15 0] ∧ slotPayload t = [9, 0, 2] := by decide +kernel

/-- 2.3: a full table loses its earliest record to one of 3 Jun 08:00. -/
theorem test_full_shift_table_evicts :
    let full := (List.range 16).map fun i => ShiftRec.mk (apr (1 + i) 6 0) [(0, 40)]
    let r := placeShift ⟨apr 64 8 0, [(0, 5)]⟩ full
    r.2 = .evicted (apr 1 6 0) ∧ r.1.length = 16 ∧ r.1.getLast?.map ShiftRec.start = some (apr 64 8 0) := by
  decide +kernel

/-! ## Stage and intervals (chapter 1) -/

/-- 2.4, 5.4 step 1: raw 3,325 with gain 32,768 and offset −651. -/
theorem test_scaling :
    scaleSample 3325 32768 (-651) = { mm := 1012, clamped := false } ∧
      scaleSample 1495 65536 (-300) = { mm := 1195, clamped := false } ∧
      scaleSample 65535 65536 0 = { mm := 20000, clamped := true } := by decide +kernel

def source (state : SourceState) (mm : Int) (at_ : Nat) : SourceRec :=
  { state := state, last := some { mm := mm, clamped := false }, lastTime := some at_, suspect := none,
    staleAt := if state = .valid then some (at_ + 900000) else none }

/-- The stage unit with both sources heard, at `ms`. -/
def twoSources (ms : Nat) (prim sec : SourceRec) (sel : Selection) (counter : Nat) (offset mm : Int) : State :=
  (timed ms 40000 State.reset).setStg
    { State.reset.stg with
      prim := prim, sec := sec, selection := sel, recovery := counter, offset := offset,
      selected := some { mm := mm, clamped := false, alignLimit := false, secondaryUsed := false } }

/-- Table 11 at 1,900 s: the changeover to SECONDARY. -/
def at1900 : State :=
  twoSources 1900000 (source .valid 1240 1000000) (source .valid 1228 1870000) .primary 0 12 1240

theorem test_changeover :
    let t := after (.staleTimerExpiry .primary) at1900
    t.stg.prim.state = .stale ∧ t.stg.selection = .secondary ∧ t.stg.recovery = 0 ∧ t.stg.offset = 12 ∧
      t.stg.selected = some { mm := 1240, clamped := false, alignLimit := false, secondaryUsed := true } := by
  decide +kernel

def sampled (src : Source) (mm : Int) (s : State) : State := judgeSample src { mm := mm, clamped := false } s.now s

/-- Table 11 at 1,960 s and 1,990 s: PRIMARY is heard again; the offset follows, the selected stage comes from SECONDARY. -/
theorem test_offset_follows :
    let s := sampled .primary 1251
      (twoSources 1960000 (source .stale 1240 1000000) (source .valid 1233 1930000) .secondary 0 12 1245)
    let t := sampled .secondary 1238 s
    s.stg.recovery = 1 ∧ s.stg.selected.map Selected.mm = some 1245 ∧ t.stg.offset = 13 ∧
      t.stg.selected.map Selected.mm = some 1251 := by decide +kernel

/-- Table 11 at 2,080 s and 2,140 s: the suspect 1,520 and what clears it. -/
theorem test_spike :
    let s := sampled .primary 1520
      (twoSources 2080000 (source .valid 1256 2020000) (source .valid 1242 2050000) .secondary 2 14 1256)
    let t := sampled .primary 1262 s
    s.stg.prim.suspect.map Sample.mm = some 1520 ∧ s.stg.prim.last.map Sample.mm = some 1256 ∧ s.stg.recovery = 0 ∧
      t.stg.prim.suspect = none ∧ t.stg.prim.last.map Sample.mm = some 1262 ∧ t.stg.recovery = 1 := by decide +kernel

/-- Table 11 at 2,260 s: the counter reaches 3, and PRIMARY is selected again. -/
theorem test_return :
    let t := sampled .primary 1271
      (twoSources 2260000 (source .valid 1266 2200000) (source .valid 1262 2230000) .secondary 2 4 1266)
    t.stg.selection = .primary ∧ t.stg.recovery = 0 ∧
      t.stg.selected = some { mm := 1271, clamped := false, alignLimit := false, secondaryUsed := false } := by
  decide +kernel

/-- 1.8: the three samples of the interval of 10:00:00, under rating id 7 and the shift of 08:00:00. -/
def tenOClock : Accum :=
  ([(1012, 5298), (1020, 5460), (1031, 5711)] : List (Int × Nat)).foldl
    (fun a p =>
      a.add { mm := p.1, clamped := false, alignLimit := false, secondaryUsed := false }
        { table19 1012 with discharge := some p.2, ratingId := some 7, shiftStart := some 28800 })
    emptyAccum

/-- The station at a time of the day with an interval open. -/
def opened (start next time : Nat) (a : Accum) (s : State) : State :=
  (timed 5000000 time s).setStg { s.stg with openStart := start, nextBoundary := next, acc := a }

/-- 1.8: the record at 10:15:00, and the interval that follows. -/
theorem test_boundary_close :
    let t := after .intervalBoundary (opened 36000 36900 36900 tenOClock State.reset)
    lastRecord t =
        some (.interval
          { start := 36000, count := 3, mean := some 1021, low := some 1012, high := some 1031, last := some 1031,
            meanDischarge := some 5490, primary := true, secondary := false, flags := noIntervalFlags, quality := .good,
            ratingId := some 7, shiftStart := some 28800 }) ∧
      t.stg.openStart = 36900 ∧ t.stg.nextBoundary = 37800 := by decide +kernel

/-- 1.8: the backward clock set of 10:22:40 to 09:58:10. -/
theorem test_backward_clock_set :
    let t := after .setClock (serving (.setClock 35890) (opened 36900 37800 37360 tenOClock State.reset))
    t.clk.time = 35890 ∧ t.stg.openStart = 35100 ∧ t.stg.nextBoundary = 36000 ∧ t.stg.acc.flags.clockSet = true ∧
      (match lastRecord t with
        | some (.interval r) => r.start == 36900 && r.flags.clockSet && r.quality == .partly
        | _ => false) = true := by decide +kernel

/-- R20: the interval of 10:10 that opens as the length becomes 15 min closes at 10:15. -/
theorem test_changed_interval_length :
    let t := after .intervalBoundary (opened 36000 36600 36600 emptyAccum State.reset)
    t.stg.openStart = 36600 ∧ t.stg.nextBoundary = 36900 := by decide +kernel

/-! ## Warning (chapter 3) -/

def rule (source : Nat) (trigger reset : Int) (persistence target failSafe window : Nat) : List Byte :=
  beNat 1 1 ++ beNat 1 source ++ beInt 4 trigger ++ beInt 4 reset ++ beNat 1 persistence ++ beNat 1 target ++
    beNat 1 failSafe ++ beNat 1 window

/-- The three rules of the flood of 3.5. -/
def floodRules : List Byte :=
  padTo 168 (rule 0 1500 1350 3 1 0 0 ++ rule 2 400 150 2 2 0 15 ++ rule 1 40000 30000 2 3 1 0)

/-- The station with those rules, at a level. -/
def flood (level : Nat) (rules : List RuleState) (s : State) : State :=
  (s.setTbl { deliveredTables with rules := floodRules }).setWrn
    { s.wrn with
      rules := rules ++ List.replicate 9 .off, stageLost := false, level := level, target := level, resetHold := false }

/-- 3.2: 1,012 against 874 over 15 steps of 60 s, and the rates of Table 27. -/
theorem test_rate_of_rise :
    let rate (a b : Int) := riseValue (some a :: List.replicate 14 none ++ [some b]) 60 (ruleEntry floodRules 1)
    rate 1012 874 = some 552 ∧ rate 1610 1480 = some 520 ∧ rate 1720 1480 = some 960 := by decide +kernel

/-- Table 27 at minute 3: rule 0 reaches TRIGGERED, and the level rises to WATCH with cause 0. -/
theorem test_flood_watch :
    let t := wrnStage 1610 (some 20238) (flood 0 [.pending 2, .armed, .armed] (timed 180000 180 State.reset))
    t.wrn.rules.take 3 = [.triggered, .armed, .armed] ∧ t.wrn.level = 1 ∧ t.wrn.outputs = 1 ∧
      (match lastRecord t with
        | some (.warning r) => r.old == 0 && r.new == 1 && r.cause == .rule 0
        | _ => false) = true := by decide +kernel

/-- Table 27 at minute 4.5: rule 1 is TRIGGERED by the history step, and the level rises to ALERT. -/
theorem test_flood_alert :
    let s := flood 1 [.triggered, .pending 1, .armed] (timed 270000 270 State.reset)
    let t := after .historyStep
      (s.setStg
        { s.stg with
          history := List.replicate 64 (some 1480), historyAt := 270000,
          selected := some { mm := 1720, clamped := false, alignLimit := false, secondaryUsed := false } })
    t.wrn.rules.take 3 = [.triggered, .triggered, .armed] ∧ t.wrn.level = 2 ∧ t.stg.historyAt = 330000 := by
  decide +kernel

/-- Table 27 at minute 230: rule 2 is ARMED again, and the stand-down timer of FLOOD runs to minute 350. -/
theorem test_flood_stand_down_starts :
    let t := wrnStage 1700 (some 23950) (flood 3 [.triggered, .armed, .triggered] (timed 13800000 13800 State.reset))
    t.wrn.target = 1 ∧ t.wrn.level = 3 ∧
      t.wrn.standDown = some { start := 13800000, level := 3, expiry := 21000000 } := by decide +kernel

/-- Table 27 at minute 270: stage lost, fail-safe rule 2 counts, and the timer is cancelled. -/
theorem test_flood_stage_lost :
    let s := flood 3 [.triggered, .armed, .armed] (timed 16200000 16200 State.reset)
    let t := wrnStageLost
      (s.setWrn { s.wrn with target := 1, standDown := some { start := 13800000, level := 3, expiry := 21000000 } })
    t.wrn.target = 3 ∧ t.wrn.level = 3 ∧ t.wrn.standDown = none := by decide +kernel

/-- Table 27 at minute 420: the fall from FLOOD to QUIET. -/
theorem test_flood_falls :
    let s := flood 3 [.armed, .armed, .armed] (timed 25200000 25200 State.reset)
    let t := after .standDownExpiry
      (s.setWrn { s.wrn with target := 0, standDown := some { start := 18000000, level := 3, expiry := 25200000 } })
    t.wrn.level = 0 ∧ t.wrn.outputs = 0 ∧
      (match lastRecord t with
        | some (.warning r) => r.old == 3 && r.new == 0 && r.cause == .standDown
        | _ => false) = true := by decide +kernel

/-- 3.6: the station at ALERT with rule 1 TRIGGERED and OUT-B silenced, RESET-PART WARM answered. -/
def warmAtAlert : State :=
  let s := flood 2 [.armed, .triggered, .armed] (timed 500000 500 State.reset)
  (s.setWrn { s.wrn with silenced := true }).setCtl
    { freshCtl with resetWait := some { cold := false, placed := true, gone := true } }

theorem test_warm_reset_at_alert :
    let t := after .warmReset warmAtAlert
    t.wrn.level = 3 ∧ t.wrn.rules.take 3 = [.armed, .armed, .armed] ∧ t.wrn.silenced = false ∧ t.wrn.outputs = 7 ∧
      t.wrn.resetHold = true ∧
      (match lastRecord t with
        | some (.warning r) => r.old == 2 && r.new == 3 && r.cause == .stageLost
        | _ => false) = true := by decide +kernel

/-- 3.6 step 2: the first selected stage, 40 s later, starts the stand-down timer for FLOOD. -/
theorem test_first_stage_after_warm_reset :
    let t := wrnStage 1720 (some 24775) (timed 40000 540 (after .warmReset warmAtAlert))
    t.wrn.rules.take 3 = [.pending 1, .armed, .armed] ∧ t.wrn.target = 0 ∧ t.wrn.level = 3 ∧
      t.wrn.standDown = some { start := 40000, level := 3, expiry := 7240000 } := by decide +kernel

/-- R56, R57: SILENCE at WATCH on the delivered patterns leaves OUT-A, which is not silenceable; a test drives its own. -/
theorem test_silence_and_test :
    let s := flood 2 [.armed, .triggered, .armed] (timed 500000 500 State.reset)
    let t := after .silence (serving .silence s)
    let u := after .warningTest (serving (.warningTest 3 120) s)
    t.wrn.outputs = 1 ∧ slotPayload t = [9, 0, 2] ∧ u.wrn.outputs = 7 ∧
      u.wrn.test = some { level := 3, stopAt := 620000 } ∧
      (after .warningTestEnd (timed 620000 620 u)).wrn.outputs = 3 := by decide +kernel

/-! ## The loop, the channel table and grants (chapters 4 to 6) -/

def chan (enabled addr role index : Nat) (gain offset : Int) (period phase also : Nat) : List Byte :=
  beNat 1 enabled ++ beNat 1 addr ++ beNat 1 role ++ beNat 1 index ++ beInt 4 gain ++ beInt 2 offset ++
    beNat 2 period ++ beNat 2 phase ++ beNat 1 also

/-- Table 35. -/
def table35 : List Byte :=
  padTo 360
    (chan 1 4 0 1 32768 (-651) 60 0 0 ++ chan 1 5 1 2 65536 (-300) 60 30 1 ++ chan 1 9 2 1 0 0 10 5 0 ++
      chan 1 4 0 2 65536 (-1130) 60 0 0 ++ List.replicate 15 0 ++ chan 1 20 4 1 0 0 5 0 0 ++ List.replicate 15 0 ++
      chan 1 12 3 1 0 0 300 10 0 ++ List.replicate 15 0 ++ chan 1 33 3 1 0 0 60 0 0)

/-- The station of Table 35 at `ms`, its view and schedule those of a reset. -/
def station (ms : Nat) : State :=
  let s := timed ms 40000 (State.reset.setTbl { deliveredTables with channels := table35 })
  (s.setCht { s.cht with view := viewOf table35 }).setLoop
    { s.loop with sched := freshSchedule (viewOf table35) table35 }

/-- The treatments of Table 35. -/
theorem test_treatments :
    (viewOf table35).take 10 =
      [.active, .active, .active, .duplicate, .disabled, .active, .disabled, .active, .disabled, .invalid 1] := by
  decide +kernel

def asked (who : Asker) (addr : Nat) (ph : TxnPhase) (s : State) : State :=
  s.setLoop { s.loop with txn := some { asker := who, addr := addr, phase := ph } }

/-- A transaction whose reply is being received. -/
def replying (who : Asker) (addr : Nat) (s : State) : State :=
  let t := asked who addr .replying s
  t.setLoop { t.loop with rx := some { addr := BitVec.ofNat 8 addr, context := .reply } }

def statsOf (s : State) (i : Nat) : EntryStats := s.cht.stats.getD i freshStats

def sampleOf (status : Nat) (values : List Nat) : FrameBody :=
  body 16 (beNat 1 status ++ (values.map (beNat 2)).flatten)

/-- 5.4 step 1: the sample of node 4, the first of all, restores stage at 1,012 mm. -/
theorem test_primary_sample :
    let t := after (.replyReceived (sampleOf 0 [3325, 2139])) (replying (.poll 0) 4 (station 5000))
    (statsOf t 0).classified = 1 ∧ (statsOf t 0).delivered = 1 ∧ (statsOf t 0).nodeStatus = some 0 ∧
      t.stg.selected.map Selected.mm = some 1012 ∧ t.loop.txn ≠ (replying (.poll 0) 4 (station 5000)).loop.txn ∧
      lastRecord t = some (.notice { time := 40000, valid := true, body := .stageRestored .primary }) := by
  decide +kernel

/-- 5.4 steps 2 and 3: the samples of node 5, delivered and forwarded, then a fault code forwarded alone. -/
theorem test_secondary_samples :
    let s := replying (.poll 1) 5 (station 5000)
    let t := after (.replyReceived (sampleOf 0 [812, 1495])) s
    let u := after (.replyReceived (sampleOf 6 [0, 0])) s
    t.stg.sec.last.map Sample.mm = some 1195 ∧ (statsOf t 1).forwarded = 1 ∧
      t.upl.fwdQ.map FwdItem.payload = [[0, 3, 44, 5, 215]] ∧ (statsOf u 1).discarded = 1 ∧
      (statsOf u 1).reason = some .nodeFault ∧ (statsOf u 1).nodeStatus = some 6 ∧ (statsOf u 1).forwarded = 1 ∧
      u.stg.sec.last = none := by decide +kernel

/-- 5.4 step 4: a READ-STATUS from node 20 enters the control queue. -/
theorem test_service_in :
    let t := after (.replyReceived (body 20 [1, 0, 0])) (replying (.poll 5) 20 (station 5000))
    t.ctl.queue = [{ origin := .service 20, payload := [1, 0, 0] }] ∧ (statsOf t 5).delivered = 1 := by decide +kernel

/-- 5.4 step 5: the POSITION of node 9, in HOME at x 0 and cable −450. -/
theorem test_position :
    let t := after (.replyReceived (body 18 (beNat 4 0 ++ beInt 4 (-450) ++ [5]))) (replying (.poll 2) 9 (station 5000))
    t.run.position = some { x := 0, cable := -450, winch := .home, addr := 9, arrived := 5000 } := by decide +kernel

/-- 5.4: the write that disables entry 0 while its poll is outstanding; entry 3 then holds the role and takes the reply. -/
theorem test_write_channels :
    let s := replying (.poll 0) 4 (station 5000)
    let t := after .writeTableChannels (serving (.writeTable 1 0 [0]) s)
    let u := after (.replyReceived (sampleOf 0 [3327, 2144])) t
    t.cht.view.take 4 = [.disabled, .active, .active, .active] ∧ t.loop.poll? 0 = none ∧
      (t.loop.poll? 3).map Poll.due = some 5000 ∧ slotPayload t = [9, 0, 1, 0, 0, 1] ∧
      u.stg.selected.map Selected.mm = some 1014 ∧ (statsOf u 3).delivered = 1 := by decide +kernel

/-- 5.4: a frame from address 13 is unknown. -/
theorem test_unknown_frame :
    let t := classify
      { addr := 13, kind := 16, payload := [0, 0, 0], arrival := 7, polled := none, answering := none } (station 7)
    t.cht.unknownAddr = some 13 ∧ t.cht.unknownCount = 1 := by decide +kernel

/-- The three channels of Table 32. -/
def table32 : List Byte :=
  padTo 360
    (chan 1 4 0 1 65536 0 60 0 0 ++ chan 1 5 1 1 65536 0 60 0 0 ++ List.replicate 75 0 ++ chan 1 12 3 1 0 0 300 10 0)

def station32 (ms : Nat) (sched : List (Option Poll)) : State :=
  let s := timed ms 0 (State.reset.setTbl { deliveredTables with channels := table32 })
  (s.setCht { s.cht with view := viewOf table32 }).setLoop { s.loop with sched := sched }

def dueAtTimes (a b c : Nat) : List (Option Poll) :=
  [some (newPoll a), some (newPoll b), none, none, none, none, none, some (newPoll c)] ++ List.replicate 16 none

/-- Table 32 at 0: channels 0 and 1 fall due together; the lower number is taken, and its due time moves to 60 s. -/
theorem test_polls_fall_due :
    let t := after (.pollDue 0) (station32 0 (dueAtTimes 0 0 10000))
    t.loop.txn.map Txn.addr = some 4 ∧ (t.loop.poll? 0).map Poll.due = some 60000 ∧
      (t.loop.poll? 1).map Poll.due = some 0 := by decide +kernel

/-- Table 32 at 60.03 s: the pending command of the run engine is taken before the due poll of channel 1. -/
theorem test_run_command_before_poll :
    let s := replying (.poll 0) 4 (station32 60030 (dueAtTimes 120000 60000 310000))
    let c : RunCmd := { kind := .poll, addr := 9, id := 3 }
    let t := after (.replyReceived (body 17 [])) (s.setLoop { s.loop with pendingCmd := some c })
    t.loop.txn = some { asker := .run c, addr := 9, phase := .sending } ∧ t.loop.pendingCmd = none ∧
      (t.loop.poll? 1).map Poll.due = some 60000 := by decide +kernel

/-- Table 32 at 10.03 s: the reply timeout of node 12. -/
theorem test_reply_timeout :
    let s := asked (.poll 7) 12 (.waiting (96 * 10030)) (station32 10030 (dueAtTimes 60000 60000 310000))
    let t := after .replyTimeout s
    t.loop.txn = none ∧ t.loop.nodeCount 12 = 1 ∧ t.loop.faults.timeout = 1 ∧ t.stg = s.stg := by decide +kernel

/-- 4.3: at 9,600 bit/s a character of the loop takes 11 bit periods and the reply timeout of 20 characters 22.9 ms. -/
theorem test_reply_timeout_starts :
    let s := asked (.poll 7) 12 .sending (station32 100 (dueAtTimes 60000 60000 310000))
    let t := after .commandFrameSent (s.setLoop { s.loop with tx := some ⟨.opening 12 .poll, 9600⟩ })
    t.loop.txn.map Txn.phase = some (.waiting (9600 + 20 * 110)) ∧ t.loop.tx = none := by decide +kernel

/-- R67: a POLL of node 12 has five characters, the CRC over kind and length. -/
theorem test_poll_frame :
    (CmdFrame.opening 12 .poll).chars.length = 5 ∧ (CmdFrame.opening 12 .poll).chars.take 3 = [12, 1, 0] ∧
      CmdFrame.claim.chars = [31] ∧ (CmdFrame.opening 9 (.grant 32 .onDemand)).chars.take 5 = [9, 6, 2, 32, 1] := by
  decide +kernel

/-- The grant of node 9, begun at `began`, with its mode and count. -/
def granted (state : GrantState) (mode : ReleaseMode) (limit count : Nat) (s : State) : State :=
  s.setLoop
    { s.loop with
      grant :=
        { s.loop.grant with
          state := state, node := 9, limit := limit, mode := mode, count := count,
          timerAt := if state = .held ∨ state = .closing then some (s.now + 5000) else none,
          cause := if state = .claiming then some .duePoll else none } }

/-- A frame from node 9 arrives under its grant. -/
def granting (s : State) : State := s.setLoop { s.loop with rx := some { addr := 9, context := .granted } }

/-- Table 39 at 120.00 s: a due poll under an ON-DEMAND grant claims, and the CLAIM is sent at once. -/
theorem test_due_poll_claims :
    let t := after (.pollDue 0) (granted .held .onDemand 32 5 (station32 120000 (dueAtTimes 120000 120000 310000)))
    t.loop.grant.state = .claiming ∧ t.loop.grant.cause = some .duePoll ∧ t.loop.grant.timerAt = none ∧
      t.loop.tx.map OnAir.frame = some .claim ∧ t.loop.txn = none := by decide +kernel

/-- Table 39 at 120.02 s: the BURST-END that answers the claim, the interleave, and the poll of channel 0. -/
theorem test_claim_answered :
    let s := granting (granted .claiming .onDemand 32 5 (station32 120020 (dueAtTimes 120000 120000 310000)))
    let t := after (.grantFrameReceived (.complete (body 19 []))) (s.setRun { s.run with held := some 9 })
    t.loop.grant.state = .idle ∧ t.loop.grant.lastEnd = some (.claimAnswered, 5) ∧
      t.loop.grant.interleaveAt = some 120520 ∧ t.loop.txn.map Txn.addr = some 4 ∧
      (t.loop.poll? 0).map Poll.due = some 180000 := by decide +kernel

/-- Table 39 at 123.50 s: the POSITION in AT-TARGET is counted and makes the grant CLOSING, its claim wait begun. -/
theorem test_at_target_closes :
    let s := granting (granted .held .onDemand 32 5 (station32 123500 (dueAtTimes 180000 180000 310000)))
    let t := after (.grantFrameReceived (.complete (body 18 (beNat 4 8000 ++ beInt 4 2100 ++ [2]))))
      (s.setRun { s.run with held := some 9 })
    t.loop.grant.state = .closing ∧ t.loop.grant.count = 6 ∧ t.loop.claimPlace = false ∧
      t.loop.grant.wait = some { length := 20, expiry := some (96 * 123500 + 20 * 110) } := by decide +kernel

/-- Table 39 at 124.95 s and 124.97 s: a bad CRC counts against node 9, and the claim wait ends the grant. -/
theorem test_claim_wait_expires :
    let s := granting (granted .claiming .hold 16 1 (station32 124950 (dueAtTimes 180000 180000 310000)))
    let t := after (.grantFrameReceived (.failed .crc))
      (s.setLoop { s.loop with grant := { s.loop.grant with wait := some { length := 20, expiry := none } } })
    let u := after .claimWaitExpiry (timed 124973 0 t)
    t.loop.nodeCount 9 = 1 ∧ t.loop.faults.crc = 1 ∧ t.loop.grant.state = .claiming ∧
      u.loop.nodeCount 9 = 2 ∧ u.loop.grant.state = .idle ∧ u.loop.grant.lastEnd = some (.noBurstEnd, 1) ∧
      u.loop.grant.interleaveAt = some 125473 := by decide +kernel

/-- R76 to R78: a break, the jam after 1,000 ms, and the line cleared after 10 character times. -/
theorem test_break_and_jam :
    let s := after .breakDetected (timed 2000 0 State.reset)
    let t := after .loopJammed (timed 2998 0 s)
    let u := after .breakEnd (timed 3500 0 t)
    let v := after .loopCleared (timed 3512 0 u)
    s.loop.lineBreak = some (96 * 2000 - 220) ∧ t.loop.jam = some { entered := 2998, skipped := 0 } ∧
      u.loop.lineBreak = none ∧ v.loop.jam = none ∧
      lastRecord v = some (.notice { time := 0, valid := true, body := .loopCleared 514 0 }) := by decide +kernel

/-- R76, R85: the break of a line that the reset found low counts its one FRAMING; of one that fell later the row of the
failed character has counted it. -/
theorem test_break_at_reset_counts :
    let s := timed 1000 0 State.reset
    let low : State := s.setLoop { s.loop with lowSince := some (96000 - 220) }
    (after .breakDetected low).loop.faults.framing = 1 ∧
      (after .breakDetected s).loop.faults.framing = 0 := by decide +kernel

/-- R78: a fall shorter than a break restarts the 10 character times. -/
theorem test_short_fall_restarts :
    let s := timed 1000 0 State.reset
    let j : State := s.setLoop { s.loop with jam := some { entered := 900, skipped := 2 }, highSince := 96000 - 1100 }
    let fallen := after (.frameBegins .unmarked) j
    let risen := after .breakEnd fallen
    (after .loopCleared j).loop.jam = none ∧ (after .loopCleared fallen).loop.jam = j.loop.jam ∧
      (after .loopCleared risen).loop.jam = j.loop.jam ∧
      (after .loopCleared (timed 1012 0 risen)).loop.jam = none := by decide +kernel

/-! ## Pulse inputs (chapter 7) -/

/-- The GATE measurement of 7.6, armed at 500.000 s, at a later time and count. -/
def gate (ms count missAt : Nat) : State :=
  let s := timed ms 0 State.reset
  s.setPls
    { s.pls with
      rotor := { armRotor .gate 60 20 1 10000 500000 with count := count, missAt := some missAt },
      rotorIn := { s.pls.rotorIn with lastAccepted := some 500390 } }

/-- Table 44: the bounce of 500.392 s is ignored, the closure of 559.750 s is the 143rd, the exposure ends at 560.000 s. -/
theorem test_gate_exposure :
    let s := after (.contactClosure .rotor) (gate 500392 1 510390)
    let t := after (.contactClosure .rotor) (gate 559750 142 569330)
    let u := after .exposureExpiry (timed 560000 0 t)
    s.pls.rotorIn.ignored = 1 ∧ s.pls.rotor.count = 1 ∧ t.pls.rotor.count = 143 ∧ t.pls.rotor.missAt = some 569750 ∧
      u.pls.rotor.state = .done ∧ u.pls.rotor.result.map RotorResult.n = some 143 ∧
      u.pls.rotor.result.map RotorResult.t = some 60000 := by decide +kernel

/-- 7.6: debris after the 29th closure at 512.300 s. -/
theorem test_no_rotation :
    let t := after .missingPulseExpiry (gate 522300 29 522300)
    t.pls.rotor.result.map RotorResult.noRotation = some true ∧ t.pls.rotor.result.map RotorResult.n = some 29 ∧
      t.pls.rotor.result.map RotorResult.t = some 22300 := by decide +kernel

/-- The PERIOD measurements of 7.6: R = 20, P = 1, a limit of 30 s. -/
def period (ms start count : Nat) : State :=
  let s := timed ms 0 State.reset
  s.setPls
    { s.pls with
      rotor :=
        { armRotor .period 30 20 1 10000 (start - 310) with
          state := .counting, count := count, start := some start, exposureAt := some (start + 30000),
          missAt := some (ms + 9000) } }

/-- 7.6: 20 revolutions in 8.400 s, and the two orders of closure and limit at 730.500 s. -/
theorem test_period :
    let t := after (.contactClosure .rotor) (period 608710 600310 19)
    let u := after .timeLimitExpiry (after (.contactClosure .rotor) (period 730500 700500 14))
    let v := after .timeLimitExpiry (period 730500 700500 14)
    t.pls.rotor.result.map RotorResult.n = some 20 ∧ t.pls.rotor.result.map RotorResult.t = some 8400 ∧
      t.pls.rotor.result.map RotorResult.periodShort = some false ∧
      u.pls.rotor.result.map RotorResult.n = some 15 ∧ u.pls.rotor.result.map RotorResult.t = some 30000 ∧
      v.pls.rotor.result.map RotorResult.n = some 14 ∧
      v.pls.rotor.result.map RotorResult.periodShort = some true := by decide +kernel

/-- Table 45: the surface latch takes 3,210 at age 250 ms, and holds at the second closure. -/
theorem test_surface_latch :
    let s := timed 302450 0 State.reset
    let t := after (.contactClosure .surface)
      ((s.setPls { s.pls with surface := armedLatch 300000 }).setRun
        { s.run with position := some { x := 8000, cable := 3210, winch := .moving, addr := 9, arrived := 302200 } })
    let u := after (.contactClosure .surface) (timed 302460 0 (after (.contactOpening .surface) t))
    t.pls.surface.value = some { cable := some (3210, 250), closedAt := 302450 } ∧
      u.pls.surface = t.pls.surface ∧ u.pls.surfaceIn.accepted = 2 := by decide +kernel

/-- 7.6: a BOTTOM latch armed at 302.450 s does not take the position of 302.200 s. -/
theorem test_no_position :
    ((armedLatch 302450).closure
      (some { x := 8000, cable := 3210, winch := .moving, addr := 9, arrived := 302200 }) 302800).value =
      some { cable := none, closedAt := 302800 } := by decide

/-! ## The run engine and the gauging (chapters 8 and 9) -/

def measure (kind x method alternate : Nat) : List Byte := beNat 1 kind ++ beNat 4 x ++ beNat 1 method ++ beNat 1 alternate

/-- Plan 31 (8.4, 9.1, 9.8). -/
def plan31 : List Byte :=
  padTo 323
    (beNat 2 31 ++ beNat 1 0 ++ beNat 2 10 ++ beNat 4 600000 ++ beNat 4 2000 ++ beNat 2 8 ++ beNat 4 612000 ++
      beNat 1 1 ++ beNat 2 150 ++ beNat 1 0 ++ beNat 2 60 ++ beNat 2 20 ++ beNat 1 20 ++ beNat 2 120 ++ beNat 2 60 ++
      beNat 2 200 ++ beNat 1 32 ++ beNat 1 1 ++ beNat 1 2 ++ beNat 2 50 ++ beNat 2 850 ++ beNat 1 1 ++ beNat 1 6 ++
      measure 0 2000 0 255 ++ measure 1 5000 0 255 ++ measure 1 8000 1 5 ++ measure 1 11000 4 255 ++
      measure 2 14000 0 255 ++ measure 3 8400 0 255)

/-- The station of Table 35 with plan 31 in PLAN-1, rating 12 and the season's shifts. -/
def gaugingStation (ms : Nat) : State :=
  let s := rated (station ms)
  (s.setTbl { s.tbl with plan1 := plan31 }).setStg
    { s.stg with selected := some { mm := 1012, clamped := false, alignLimit := false, secondaryUsed := false } }

/-- The marker and the run record of the run of plan 31. -/
def marker31 : Marker := { plan := 1, planId := 31, addr := 9, start := apr 18 10 41 + 5, startValid := true, written := false }

def record31 (vs : List DoneVert) : RunRec :=
  { plan := 1, planId := 31, start := apr 18 10 41 + 5, startValid := true, startStage := some 1012, verticals := vs,
    outcome := none, flags := noGaugeFlags, figures := none, fromMarker := false }

/-- The vertical at entry 2 as its parts come to be known (Table 49). -/
def vertical2 (surface : Option Int) : Vertical :=
  { entry := 2, targetX := 8000, alternate := false, surface := surface, bottom := none, depth := none, shallow := false,
    points := [], results := [] }

/-- The run of plan 31 in a state, with its vertical. -/
def running (st : RunState) (v : Option Vertical) (s : State) : State :=
  s.setRun
    { s.run with
      state := st, marker := some marker31, held := some 9, record := some (record31 []), cursor := some 2, vertical := v }

theorem test_plan_passes : planFault plan31 = none ∧ nextMeasure plan31 0 = some 1 ∧ nextMeasure plan31 4 = none := by
  decide +kernel

/-- R130: a delivered plan fails at the plan id; a SPARE not strictly between its neighbours fails at its MEASURE entry. -/
theorem test_plan_faults :
    planFault (List.replicate 323 0) = some (240, 0) ∧
      planFault (writeBytes plan31 (43 + 7 * 5 + 1) (beNat 4 11000)) = some (2, 0) := by decide +kernel

/-- R131, R132: START-RUN for PLAN-1 obtains the first move by a GRANT, and is answered with plan id and start time. -/
theorem test_start_run :
    let t := after .startRun (serving (.startRun 1) (gaugingStation 400000))
    t.run.state = .traverse ∧ t.run.cursor = some 1 ∧ t.run.held = some 9 ∧ t.run.traverseAt = some 520000 ∧
      t.loop.grant.state = .opening ∧ t.loop.grant.limit = 32 ∧ t.loop.grant.mode = .onDemand ∧
      slotPayload t = [9, 0, 0, 31, 0, 0, 156, 64, 1] := by decide +kernel

/-- Table 49 at 415.85 s: the answer of the enquiry, 5 mm from the target, in AT-TARGET. -/
theorem test_verify :
    let s := running .verify (some (vertical2 none)) (gaugingStation 415850)
    let t := runPosition { x := 7995, cable := 2100, winch := .atTarget, addr := 9, arrived := 415850 } none s
    t.run.state = .surfaceSeek ∧ t.run.cableAt = some 475850 ∧ t.pls.surface.state = .armed ∧
      t.loop.pendingCmd.map RunCmd.kind = some (.grant 32 .hold) := by decide +kernel

/-- 8.4: the same answer in OBSTRUCTED takes the alternate at 8,400, with a new timer to 535.85 s. -/
theorem test_alternate :
    let s := running .verify (some (vertical2 none)) (gaugingStation 415850)
    let t := runPosition { x := 7995, cable := 2100, winch := .obstructed, addr := 9, arrived := 415850 } none s
    t.run.state = .traverse ∧ t.run.vertical.map Vertical.targetX = some 8400 ∧
      t.run.vertical.map Vertical.alternate = some true ∧ t.run.traverseAt = some 535850 := by decide +kernel

/-- Table 49 at 421.05 s and 426.90 s: the surface latch 3,210 and the bottom latch 4,210. -/
theorem test_sounding :
    let s := running .surfaceSeek (some (vertical2 none)) (gaugingStation 421050)
    let t := runSurfaceLatch { cable := some (3210, 250), closedAt := 421050 } s
    let u := runBottomLatch { cable := some (4210, 100), closedAt := 426900 } (timed 426900 0 t)
    t.run.state = .sound ∧ t.run.cableAt = some 481050 ∧ t.pls.bottom.state = .armed ∧
      u.run.state = .pointSeek ∧ (u.run.vertical.bind Vertical.depth) = some 1150 ∧
      (u.run.vertical.map fun v => v.points.map PointSpec.cable) = some [3440, 4130] ∧
      u.loop.pendingCmd.map RunCmd.kind = some .halt := by decide +kernel

/-- R142: the three points of a depth of 1,150 mm from 3,210. -/
theorem test_three_points :
    (pointsOf .threePoint 3210 4210 1150 false).map PointSpec.cable = [3440, 3900, 4130] := by decide +kernel

/-- Table 49 at 448.10 s: the settle timer expires and the GATE of 60 s is armed. -/
theorem test_settle_and_expose :
    let s := running .settle (some (vertical2 (some 3210))) (gaugingStation 448100)
    let t := after .settleExpiry (s.setRun { s.run with settleAt := some 448100 })
    t.run.state = .expose ∧ t.pls.rotor.mode = .gate ∧ t.pls.rotor.exposureAt = some 508100 := by decide +kernel

/-- Table 50 at 470.00 s: the level rises to ALERT in EXPOSE. -/
theorem test_abort_at_alert :
    let s := running .expose (some (vertical2 (some 3210))) (gaugingStation 470000)
    let t := rise 2 s
    t.run.state = .retrieve ∧ (t.run.record.bind RunRec.outcome) = some .abortedWarning ∧
      t.run.retrieveAt = some 590000 ∧ t.loop.pendingCmd.map RunCmd.kind = some .retrieve ∧
      t.pls.rotor.state = .idle := by decide +kernel

/-- Table 50 at 476.40 s: ABORT-RUN taken in RETRIEVE is answered OK, and adds its flag. -/
theorem test_abort_in_retrieve :
    let t := after .abortRun (serving .abortRun (running .retrieve none (gaugingStation 476400)))
    slotPayload t = [9, 0, 9, 0] ∧ t.run.state = .retrieve ∧
      (t.run.record.map fun r => r.flags.abortedCommand) = some true := by decide +kernel

/-- R150, R151: a POSITION that reports FAULT in CLOSE adds ABORTED-WINCH-FAULT to the flags. -/
theorem test_fault_in_close :
    let p : Position := { x := 0, cable := 0, winch := .fault, addr := 9, arrived := 5 }
    let t := runPosition p none (running .close none (gaugingStation 5))
    t.run.state = .close ∧ (t.run.record.map fun r => r.flags.abortedWinchFault) = some true := by decide +kernel

/-- R151's example: AT-TARGET in POINT-SEEK at the moment of the cable timer's expiry; the expiry taken second aborts the run
in SETTLE. Where an ABORT-RUN is taken first, it is a flag of the run in RETRIEVE. -/
theorem test_timeout_taken_second :
    let s := running .pointSeek (some (vertical2 (some 3210))) (gaugingStation 5000)
    let s := s.setRun { s.run with cableAt := some 5000, moveId := some 3, moveSent := true }
    let t := runPosition { x := 8000, cable := 3440, winch := .atTarget, addr := 9, arrived := 5000 } none s
    let u := after .cableTimeout t
    let v := after .cableTimeout (after .abortRun (serving .abortRun s))
    t.run.state = .settle ∧ t.cableDue = true ∧ u.run.state = .retrieve ∧ u.cableDue = false ∧
      (u.run.record.bind RunRec.outcome) = some .abortedTimeout ∧ v.run.state = .retrieve ∧
      (v.run.record.bind RunRec.outcome) = some .abortedCommand ∧
      (v.run.record.map fun r => r.flags.abortedTimeout) = some true := by decide +kernel

/-- R73, R83: RUN is told REPLACED of its command 7 when it hands another, and of a failed one its kind. -/
theorem test_run_is_told :
    let c : RunCmd := { kind := .poll, addr := 9, id := 7 }
    let s := running .verify none (gaugingStation 100)
    let t := handRun .poll (s.setLoop { s.loop with pendingCmd := some c })
    let u := after .replyTimeout (asked (.run c) 9 (.waiting 9600) s)
    t.run.told = some (7, .replaced) ∧ u.run.told = some (7, .failed .timeout) := by decide +kernel

def rotorResult (mode : RotorMode) (n t : Nat) (noRotation : Bool) : RotorResult :=
  { mode := mode, n := n, t := t, countClamped := false, periodShort := false, noRotation := noRotation, p := 1,
    start := none, stop := 0 }

/-- Table 51. -/
theorem test_point_velocities :
    ([rotorResult .gate 143 60000 false, rotorResult .gate 100 60000 false, rotorResult .gate 41 60000 false,
      rotorResult .gate 29 22300 true, rotorResult .period 20 8400 false].map fun r =>
        (pointResult (planHeader plan31) { kind := .p06, cable := 0, shallow := false } r).velocity) =
      [1467, 1010, 420, 0, 1465] := by decide +kernel

/-- R160: the means of 9.2. -/
theorem test_vertical_means :
    meanVelocity (planHeader plan31) .threePoint false [1012, 930, 810] = 921 ∧
      meanVelocity (planHeader plan31) .surface false [1230] = 1046 := by decide +kernel

def vert (entry x depth mean : Nat) (latch : Int) : DoneVert :=
  { entry := entry, x := x, alternate := false, depth := depth, results := [], mean := mean, latch := some latch,
    flags := noVertFlags }

/-- Table 54. -/
def verticals31 : List DoneVert := [vert 1 5000 600 420 1016, vert 2 8000 1150 910 1021, vert 3 11000 800 650 1029]

/-- Table 55 and the stage figures of 9.8; the variation with the alternate at 8,400. -/
theorem test_mid_section :
    let c := closeFigures plan31 verticals31 (some 1012)
    let d := closeFigures plan31 [vert 1 5000 600 420 1016, vert 2 8400 1150 910 1021, vert 3 11000 800 650 1029] none
    c.panels = [(3000, 756), (3000, 3140), (3000, 1560)] ∧ c.total = 5456 ∧ c.gaugeHeight = some 1022 ∧
      c.stageChange = some 17 ∧ c.unsteady = false ∧ c.asked = some 5456 ∧
      d.panels = [(3200, 806), (3000, 3140), (2800, 1456)] ∧ d.total = 5402 := by decide +kernel

/-- The run of 9.8 in CLOSE, its lookup asked. -/
def closing31 : State :=
  let r := { record31 verticals31 with figures := some (closeFigures plan31 verticals31 (some 1012)) }
  let s := running .close none (gaugingStation 900000)
  (s.setRun { s.run with record := some r }).setRat
    { s.rat with shifts := [⟨apr 1 6 0, [(0, 40)]⟩, ⟨apr 12 9 0, [(0, 30)]⟩, ⟨apr 20 15 0, [(0, 25)]⟩] }

/-- 9.8: the answer 1,055 gives +33 mm, and the complete run is retrieved. -/
theorem test_lookup_answered :
    let t := after .inverseLookup closing31
    t.run.state = .retrieve ∧ (t.run.record.bind RunRec.outcome) = some .complete ∧
      (t.run.record.bind RunRec.figures).bind Calc.indicated = some 33 ∧
      (t.run.record.bind RunRec.figures).bind Calc.ratingId = some 12 := by decide +kernel

/-- 9.8 and Table 17: the finish at 18 Apr 11:20:00 grades GOOD and adopts (0, +33). -/
theorem test_finish_adopts :
    let s := after .inverseLookup closing31
    let t := endRetrieval true (timed 950000 (apr 18 11 20) s)
    t.run.state = .idle ∧ t.run.marker = none ∧
      t.rat.shifts =
        [⟨apr 1 6 0, [(0, 40)]⟩, ⟨apr 12 9 0, [(0, 30)]⟩, ⟨apr 18 11 20, [(0, 33)]⟩, ⟨apr 20 15 0, [(0, 25)]⟩] ∧
      (match lastRecord t with
        | some (.gauging g) =>
          g.grade == .good && g.outcome == .complete && g.placement == some .inserted && g.total == 5456 &&
            g.stop == apr 18 11 20 && g.flags == { noGaugeFlags with shiftAdopted := true } && g.verticals.length == 3
        | _ => false) = true := by decide +kernel

/-! ## The store and the uplink (chapter 10) -/

def intervalRec (start : Nat) : IntervalRec := intervalRecord start emptyAccum

/-- A store of one-slot interval records numbered from `first`, those below `unsent` SENT. -/
def storeOf (first count unsent : Nat) : Store :=
  { records := (List.range count).map fun i =>
      { seq := first + i, content := .interval (intervalRec (900 * i)), sent := first + i < unsent }
    nextSeq := first + count, slotsUsed := count }

def gaugeRec (vs : List DoneVert) : GaugeRec :=
  gaugeRecord { record31 vs with verticals := vs } .complete (closeFigures plan31 vs none) noGaugeFlags .good none
    { time := 5, valid := true, subMs := 0, timebase := 0 }

/-- 10.7: the gauging record of three verticals needs five slots, and goes as two REPORT frames. -/
theorem test_gauging_record_parts :
    (Content.gauging (gaugeRec verticals31)).slotCount = 5 ∧
      ((reportFrames 1 { seq := 11048, content := .gauging (gaugeRec verticals31), sent := false }).map List.length) =
        [2 + 2 + 1 + 2 + 1 + 4 + 176 + 2, 2 + 2 + 1 + 2 + 1 + 4 + 44 + 2] := by decide +kernel

/-- 10.7 at the size of its end: of a store with 2,048 slots in use, here held by its last eight records, the append of
five slots removes the five oldest. -/
theorem test_append_removes :
    let st := Store.append { storeOf 9000 8 9003 with slotsUsed := 2048 } (.gauging (gaugeRec verticals31))
    st.records.map StoreRec.seq = [9005, 9006, 9007, 9008] ∧ st.slotsUsed = 2048 ∧ st.nextSeq = 9009 := by
  decide +kernel

/-- The office's requests of 10.7, on a store that holds 9,005 to 9,010 and the gauging record 11,048. -/
def officeStore : Store :=
  { records := (storeOf 9005 6 0).records ++ [{ seq := 11048, content := .gauging (gaugeRec verticals31), sent := true }]
    nextSeq := 11049, slotsUsed := 11 }

/-- The fields of a READ-RECORDS reply before its body: mark, oldest, continue point and part, count; then the length of
the whole reply payload. -/
def recordsHead (first part : Nat) : Option (List Byte × Nat) :=
  (readRecords officeStore first 8 part).map fun p => (p.take 7, p.length + 2)

/-- 10.7, the four requests; 9,004 has been removed. -/
theorem test_read_records :
    recordsHead 9004 0 = some (beNat 1 3 ++ beNat 2 9005 ++ beNat 2 9008 ++ beNat 1 0 ++ beNat 1 3, 162) ∧
      recordsHead 11048 0 = some (beNat 1 0 ++ beNat 2 0 ++ beNat 2 11048 ++ beNat 1 4 ++ beNat 1 1, 9 + 7 + 176) ∧
      recordsHead 11048 4 = some (beNat 1 0 ++ beNat 2 0 ++ beNat 2 11049 ++ beNat 1 0 ++ beNat 1 1, 9 + 7 + 44) ∧
      recordsHead 11049 0 = some (beNat 1 2 ++ beNat 2 0 ++ beNat 2 11049 ++ beNat 1 0 ++ beNat 1 0, 9) := by
  decide +kernel

/-- LINK is up and the store holds 9,000 to 9,007, those below 9,003 SENT. -/
def upStation : State :=
  let s := timed 1000 0 State.reset
  (s.setStore (storeOf 9000 8 9003)).setLines { s.lines with link := true, cts := true }

/-- 10.7: LINK rises, the oldest UNSENT record goes as one frame, is marked SENT at its end; LINK low abandons the next. -/
theorem test_uplink_sends :
    let s := after .linkRise (upStation.setLines { upStation.lines with link := false })
    let sent := s.setUpl { s.upl with buffer := s.upl.buffer.map fun it => { it with elapsed := it.whole 100 } }
    let t := after .uplinkItemEnd sent
    let u := after .linkFall t
    s.upl.buffer.map TxItem.number = some 9003 ∧ (s.upl.buffer.map fun it => it.frames.length) = some 1 ∧
      ((t.store.records.filter StoreRec.sent).map StoreRec.seq) = [9000, 9001, 9002, 9003] ∧
      t.upl.buffer.map TxItem.number = some 9004 ∧ u.upl.buffer = none ∧ u.store = t.store := by decide +kernel

/-- R178: with CTS low the character begun is finished and no other begins; here 50 of its 100 fine units have gone. -/
theorem test_cts_pauses :
    let it : TxItem := { cls := .interval, number := 1, frames := [List.replicate 10 0], elapsed := 250 }
    (it.advance false 100 96).elapsed = 300 ∧ ((it.advance false 100 96).advance false 100 96).elapsed = 300 ∧
      (it.advance true 100 96).elapsed = 346 := by decide

/-- R180: LINK falls with 50 of 100 units of a character gone and rises at once; the next item begins after the 50 that
remain. -/
theorem test_abandoned_character_ends :
    let it : TxItem := { cls := .interval, number := 9003, frames := [List.replicate 12 0], elapsed := 250 }
    let s := after .linkFall (upStation.setUpl { upStation.upl with buffer := some it })
    let t := (passMs (after .linkRise s)).upl
    s.upl.buffer = none ∧ s.upl.tail = 50 ∧ t.tail = 0 ∧ (t.buffer.map TxItem.elapsed) = some 46 := by decide +kernel

/-- R153: a grant of another node than the one held is not held for the winch. -/
theorem test_grant_known_for_the_winch :
    let r (h : Option Nat) : Run := { State.reset.run with held := h, grantKnown := some 9 }
    (r (some 9)).knowsGrant = true ∧ (r (some 10)).knowsGrant = false ∧ (r none).knowsGrant = false := by decide

/-- R175, R179: a forward item dropped while its copy is sent leaves the queue as it stands, also where a later item has come
to bear its number. -/
theorem test_dropped_forward_item :
    let f (n : Nat) : FwdItem :=
      { number := n, channel := 7, addr := 12, time := 0, valid := false, kind := 16, payload := [] }
    let it : TxItem := { cls := .forward, number := 0, frames := [List.replicate 12 0], elapsed := 1200 }
    let s := upStation.setUpl { upStation.upl with fwdQ := (List.range 8).map f, nextFwd := 8, buffer := some it }
    let t := forwardAdd 7 12 16 [] s
    let u := after .uplinkItemEnd (t.setUpl { t.upl with fwdQ := t.upl.fwdQ.tail ++ [f 0] })
    t.upl.buffer = some { it with dropped := true } ∧ t.upl.fwdQ.map FwdItem.number = [1, 2, 3, 4, 5, 6, 7, 8] ∧
      u.upl.fwdQ.map FwdItem.number = [2, 3, 4, 5, 6, 7, 8, 0] ∧
      (after .uplinkItemEnd s).upl.fwdQ.map FwdItem.number = [1, 2, 3, 4, 5, 6, 7] := by decide +kernel

/-- The cyclic code of R67 and R177: the check value of its standard test text (123456789). -/
theorem test_crc : crc16 [49, 50, 51, 52, 53, 54, 55, 56, 57] = 0x29B1 := by decide +kernel

/-- An uplink frame for station 1. -/
def control (kind : Byte) (seq : Half) (payload : List Byte) : UplinkFrame :=
  { station := 1, kind := kind, seq := seq, payload := payload, crc := crc16 (uplinkBody 1 kind.toNat seq.toNat payload) }

/-- R184, R185: a hunt with a sync pair and without, and a CONTROL frame; a frame of another kind is discarded; a bad CRC counts. -/
theorem test_uplink_reception :
    let s := after (.syncPairReceived ⟨3, true⟩) State.reset
    let h := after (.syncPairReceived ⟨5, false⟩) State.reset
    let t := after (.uplinkFrameReceived (control 1 7 [9])) s
    let u := after (.uplinkFrameReceived (control 2 7 [9])) s
    let v := after (.uplinkFrameReceived { control 1 7 [9] with crc := 0 }) s
    s.upl.assembling = true ∧ s.upl.huntDiscards = 3 ∧ h.upl.assembling = false ∧ h.upl.huntDiscards = 5 ∧
      t.upl.assembling = false ∧
      t.ctl.queue = [{ origin := .uplink 7, payload := [9] }] ∧ u.upl.kindDiscards = 1 ∧ u.ctl.queue = [] ∧
      v.upl.crc = 1 ∧ v.ctl.queue = [] := by decide +kernel

/-- R184: the gap, more than 250 ms after a character of the frame, and the faults of one that does not come to its end. -/
theorem test_uplink_faults :
    let s := after (.syncPairReceived ⟨0, true⟩) State.reset
    let late := after .uplinkReceiveGap (timed 251 0 s)
    let kept := after (.syncPairReceived ⟨0, false⟩) (timed 200 0 s)
    (after .uplinkReceiveGap (timed 250 0 s)).upl.gap = 0 ∧ (after .uplinkReceiveGap (timed 450 0 kept)).upl.gap = 0 ∧
      kept.upl.assembling = true ∧ late.upl.gap = 1 ∧ late.upl.assembling = false ∧
      (after (.uplinkFrameError .framing) s).upl.framing = 1 ∧ (after (.uplinkFrameError .length) s).upl.length = 1 := by
  decide +kernel

/-! ## Requests and resets (chapter 11) -/

def queued (origin : Origin) (payload : List Byte) (s : State) : State :=
  s.setCtl { s.ctl with queue := [{ origin := origin, payload := payload }] }

/-- R190: the refusals at form, table and origin, and the order of the checks. -/
theorem test_request_refused :
    (slotPayload (after .requestTaken (queued (.uplink 3) [9, 0] State.reset)) = [9, 2]) ∧
      (slotPayload (after .requestTaken (queued (.uplink 3) [3, 11, 0, 0, 1] State.reset)) = [3, 3]) ∧
      (slotPayload (after .requestTaken (queued (.uplink 3) [4, 0, 0, 0, 5] State.reset)) = [4, 4]) ∧
      (slotPayload (after .requestTaken (queued (.uplink 3) [4, 3, 0, 0, 5] State.reset)) = [4, 3]) := by decide +kernel

/-- R192: READ-TABLE of the first four bytes of the delivered CONFIG (Table 64: spike limit 150, stale limit 900). -/
theorem test_read_table :
    slotPayload (after .readTable (serving (.readTable 0 0 4) State.reset)) = [9, 0, 0, 0, 0, 0, 150, 3, 132] := by
  decide +kernel

/-- R193: a write to CONFIG from the loop, and a write to the plan table that the run marker names. -/
theorem test_write_tables :
    let t := after .writeTableConfig (serving (.writeTable 0 0 [0, 200]) State.reset)
    let u := after .writeTablePlan
      (serving (.writeTable 8 0 [0, 32]) (running .expose (some (vertical2 (some 3210))) (gaugingStation 470000)))
    cfgSpikeLimit t.tbl.config = 200 ∧ slotPayload t = [9, 0, 0, 0, 0, 2] ∧ slotPayload u = [9, 7] ∧
      u.tbl.plan1 = plan31 := by decide +kernel

/-- R193: RATING-STAGED and PATTERNS hold the bytes written. -/
theorem test_write_staged_and_patterns :
    let t := after .writeTableRatingStaged (serving (.writeTable 2 0 [0, 12]) State.reset)
    let u := after .writeTablePatterns (serving (.writeTable 6 0 [8, 8]) State.reset)
    stagedId t.tbl.staged = 12 ∧ u.wrn.outputs = 8 := by decide +kernel

/-- R43: a write to RULES examines the entries it touches. -/
theorem test_write_rules :
    let t := after .writeTableRules (serving (.writeTable 5 0 (rule 0 1500 1350 3 1 0 0)) State.reset)
    t.wrn.rules.take 2 = [.armed, .off] := by decide +kernel

/-- R194: the first section of READ-STATUS is answered as one page of at most 192 bytes. -/
theorem test_read_status :
    let p := slotPayload (after .readStatus (serving (.readStatus 0 0) State.reset))
    p.take 4 = [9, 0, 0, 0] ∧ p.length ≤ 197 := by decide +kernel

/-- R195: RESET-PART with LINK low, its reply placed: the reset follows at once. -/
theorem test_reset_part :
    let t := after .resetPart (serving (.resetPart true) State.reset)
    let u := after .coldReset t
    slotPayload t = [9, 0] ∧ t.ctl.resetWait = some { cold := true, placed := true, gone := true } ∧
      u.lastReset = .cold ∧ u.ctl.resetWait = none ∧ u.store.records.map StoreRec.seq = [0] ∧ u.store.nextSeq = 1 := by
  decide +kernel

/-- R196: an asserted RESET line holds the part, and its release is a WARM reset. -/
theorem test_reset_line :
    let s := after .resetLineAssert (timed 60000 60 State.reset)
    s.resetLine = true ∧ (after .historyStep s).stg.historyAt = 60000 ∧ (after .warmReset s).resetLine = false ∧
      (after .warmReset s).lastReset = .warm ∧ (after .warmReset s).clk.timebase = 0 := by decide +kernel

/-- R14: the clock after a POWER-ON, from the backup supply and without it. -/
theorem test_power_on :
    let s := timed 60000 1000 State.reset
    let t := after (.powerOnReset true 50 State.reset.lines) s
    let u := after (.powerOnReset false 50 State.reset.lines) s
    t.clk.time = 1050 ∧ t.clk.valid = true ∧ t.clk.timebase = 0 ∧ u.clk.time = 0 ∧ u.clk.valid = false := by
  decide +kernel

/-! ## States that meet the hypotheses of the statements

One or more witnesses for each statement that has hypotheses, named after it, at boundary values of what the hypotheses
and the clauses range over. -/

theorem serving_reset (q : Req) : Serving (serving q State.reset) q := ⟨rfl, rfl, rfl, rfl⟩

theorem witness_StepRunsFrontCommand :
    ({ State.reset with pending := [.historyStep, .silence] } : State).pending = .historyStep :: [.silence] := rfl

/-- Something is due at timebase 60,000, nothing at 59,999, in the last millisecond of a second or before it. -/
theorem witness_IdleStepLetsTimePass :
    (timed 60000 0 State.reset).pending = [] ∧ dueEvents (timed 60000 0 State.reset) ≠ [] ∧
      dueEvents (timed 59999 4294967295 { State.reset with stg := { State.reset.stg with nextBoundary := 4294967400 } }) = [] ∧
      dueEvents (State.reset.setClk { State.reset.clk with subMs := 999 }) = [] ∧
      dueEvents (State.reset.setClk { State.reset.clk with subMs := 998 }) = [] ∧
      dueEvents { timed 60000 0 State.reset with resetLine := true } = [] := by decide +kernel

/-- Nothing is due, and an item is being sent, between two characters, within one and in its last one; and one waits for the
end of an abandoned character, in this millisecond or past it. -/
theorem witness_IdleStepLetsTimePass_sending :
    ∀ e ∈ [200, 250, 1199],
      let it : TxItem := { cls := .interval, number := 9003, frames := [List.replicate 12 0], elapsed := e }
      let s : State := upStation.setUpl { upStation.upl with buffer := some it }
      let low : State := s.setLines { s.lines with cts := false }
      let late (n : Nat) : State := s.setUpl { s.upl with tail := n }
      dueEvents (late 95) = [] ∧ dueEvents (late 96) = [] ∧ fineMs = 96 ∧ s.upl.tail = 0 ∧ s.pending = [] ∧ dueEvents s = [] ∧ dueEvents low = [] ∧ s.resetLine = false ∧ s.upl.buffer = some it ∧
        s.lines.cts = true ∧ low.lines.cts = false ∧ it.elapsed ≤ it.whole (uplinkChar s.upl.rate) ∧
        (it.elapsed % uplinkChar s.upl.rate = 0 ↔ e = 200) := by decide +kernel

theorem witness_AssertedResetLineHoldsThePart :
    (after .resetLineAssert State.reset).resetLine = true ∧ Instr.historyStep ≠ .warmReset ∧
      (∀ h e l, Instr.historyStep ≠ .powerOnReset h e l) := ⟨rfl, nofun, nofun⟩

/-- The two ways to a WARM reset; a run to close that works or that has ended, or none; the fail-safe target above the
level or not. -/
theorem witness_WarmResetClosesIntervalAndRun :
    let due (s : State) : State := { s with resetLine := true }
    warmAtAlert.resetDue false = true ∧ failSafeTarget warmAtAlert.tbl.rules = 3 ∧ warmAtAlert.wrn.level = 2 ∧
      (due State.reset).resetLine = true ∧ (due State.reset).runToClose.isNone = true ∧
      failSafeTarget State.reset.tbl.rules = 0 ∧
      (due (running .expose none (station 0))).runToClose = some (record31 []) ∧ RunState.expose.working = true ∧
      (due (running .retrieve none (station 0))).runToClose = some (record31 []) ∧ RunState.retrieve.working = false := by
  decide +kernel

/-- A COLD reset that is due, with a fail-safe rule and without. -/
theorem witness_ColdResetEmptiesTheStore :
    let cold (s : State) : State := s.setCtl { freshCtl with resetWait := some ⟨true, true, true⟩ }
    (cold warmAtAlert).resetLine = false ∧ (cold warmAtAlert).resetDue true = true ∧
      (cold State.reset).resetDue true = true ∧ failSafeTarget (cold State.reset).tbl.rules = 0 ∧
      failSafeTarget (cold warmAtAlert).tbl.rules = 3 := by decide +kernel

/-- A request that is good, and ones refused at each of the first three checks; three and one left in the queue. -/
theorem witness_RequestTakenIsJudged :
    let s (p : List Byte) : State := queued (.uplink 3) p State.reset
    let r (p : List Byte) : Request := { origin := .uplink 3, payload := p }
    (s [9]).resetLine = false ∧ (s [9]).ctl.queue = [r [9]] ∧ (s [9]).ctl.inHand = none ∧
      (s [9]).ctl.pendingReply = none ∧ (s [9]).ctl.resetWait = none ∧ parseRequest [9] = some .abortRun ∧
      parseRequest [9, 0] = none ∧ (s [9, 0]).ctl.queue = [r [9, 0]] ∧
      parseRequest [3, 11, 0, 0, 1] = some (.readTable 11 0 1) ∧ tableGood (.readTable 11 0 1) = false ∧
      tableGood (.writeTable 0 0 [5]) = true ∧
      originGood State.reset.tbl.config (.uplink 3) (.writeTable 0 0 [5]) = false := by decide +kernel

/-- READ-STATUS of the last section, at its first and at a page past its end. -/
theorem witness_ReadStatusAnswersOnePage :
    Serving (serving (.readStatus 9 0) State.reset) (.readStatus 9 0) ∧
      Serving (serving (.readStatus 9 255) State.reset) (.readStatus 9 255) := ⟨serving_reset _, serving_reset _⟩

def office (first limit part : Nat) : State :=
  serving (.readRecords first limit part) (State.reset.setStore officeStore)

/-- READ-RECORDS of a held number, its last slot and past it; a first record of five slots, cut at the fourth, and one of
one slot, which whole records follow; 1, 32,768 and 32,769 after the newest; an empty store; a limit of 0, 1, 8 and 9. -/
theorem witness_ReadRecordsAnswersByTheNumber :
    (∀ first limit part, Serving (office first limit part) (.readRecords first limit part)) ∧
      Serving (serving (.readRecords 0 1 0) State.reset) (.readRecords 0 1 0) ∧
      State.reset.store.records = [] ∧
      (officeStore.records.find? fun r => r.seq == 11048).map (fun r => r.content.slotCount) = some 5 ∧
      (officeStore.records.find? fun r => r.seq == 9005).map (fun r => r.content.slotCount) = some 1 ∧
      (officeStore.records.find? fun r => r.seq == 9004) = none ∧ (11049 + 65536 - 11048) % 65536 = 1 ∧
      (43816 + 65536 - 11048) % 65536 = 32768 ∧ (43817 + 65536 - 11048) % 65536 = 32769 :=
  ⟨fun _ _ _ => ⟨rfl, rfl, rfl, rfl⟩, serving_reset _, rfl, by decide +kernel, by decide +kernel, by decide +kernel, rfl,
    rfl, rfl⟩

/-- READ-TABLE to the last byte of CONFIG and of PLAN-3. -/
theorem witness_ReadTableCopiesTheBytes :
    Serving (serving (.readTable 0 31 1) State.reset) (.readTable 0 31 1) ∧
      Serving (serving (.readTable 10 131 192) State.reset) (.readTable 10 131 192) ∧
      (State.reset.tableBytes 0).length = tableSize 0 ∧ 31 + 1 ≤ tableSize 0 ∧
      (State.reset.tableBytes 10).length = tableSize 10 ∧ 131 + 192 ≤ tableSize 10 :=
  ⟨serving_reset _, serving_reset _, by decide +kernel, by decide +kernel, by decide +kernel, by decide +kernel⟩

/-- A write to the last byte of CONFIG, and one that changes the history step. -/
theorem witness_WriteTableConfigStoresItsBytes :
    Serving (serving (.writeTable 0 31 [4]) State.reset) (.writeTable 0 31 [4]) ∧
      31 + [(4 : Byte)].length ≤ State.reset.tbl.config.length ∧
      Serving (serving (.writeTable 0 7 [0, 30]) State.reset) (.writeTable 0 7 [0, 30]) ∧
      7 + [(0 : Byte), 30].length ≤ State.reset.tbl.config.length ∧
      cfgHistoryStep (writeBytes State.reset.tbl.config 7 [0, 30]) ≠ cfgHistoryStep State.reset.tbl.config ∧
      cfgHistoryStep (writeBytes State.reset.tbl.config 31 [4]) = cfgHistoryStep State.reset.tbl.config :=
  ⟨serving_reset _, by decide, serving_reset _, by decide, by decide +kernel, by decide +kernel⟩

theorem serving_station (q : Req) (n : Nat) : Serving (serving q (station n)) q := ⟨rfl, rfl, rfl, rfl⟩

/-- A write to the last entry of CHANNELS; a write that takes entry 0 from ACTIVE, and one that changes its phase. -/
theorem witness_WriteTableChannelsRecomputesTheView :
    Serving (serving (.writeTable 1 359 [0]) (station 5000)) (.writeTable 1 359 [0]) ∧
      359 + [(0 : Byte)].length ≤ (station 5000).tbl.channels.length ∧
      treatmentOf (writeBytes table35 0 [0]) 0 = .disabled ∧ treatmentOf (writeBytes table35 0 [0]) 3 = .active ∧
      activeIn (station 5000).cht.view 3 = false ∧ activeIn (station 5000).cht.view 0 = true ∧
      (chanEntry (writeBytes table35 12 [0, 5]) 0).phase = 5 ∧ treatmentOf (writeBytes table35 12 [0, 5]) 0 = .active ∧
      (chanEntry table35 0).phase = 0 :=
  ⟨serving_station _ _, by decide +kernel, by decide +kernel, by decide +kernel, by decide +kernel, by decide +kernel,
    by decide +kernel, by decide +kernel, by decide +kernel⟩

/-- Writes to the last bytes of RATING-STAGED, PLAN-0 and PLAN-3; a marker that names PLAN-1. -/
theorem witness_WriteTablePlanAndStagedStoreTheirBytes :
    Serving (serving (.writeTable 2 292 [1]) State.reset) (.writeTable 2 292 [1]) ∧
      292 + [(1 : Byte)].length ≤ State.reset.tbl.staged.length ∧
      Serving (serving (.writeTable (7 + 0) 322 [1]) State.reset) (.writeTable (7 + 0) 322 [1]) ∧
      Serving (serving (.writeTable (7 + 3) 322 [1]) State.reset) (.writeTable (7 + 3) 322 [1]) ∧
      322 + [(1 : Byte)].length ≤ (State.reset.tbl.plan 3).length ∧
      Serving (serving (.writeTable (7 + 1) 0 [1]) (running .expose none (station 0))) (.writeTable (7 + 1) 0 [1]) ∧
      (running .expose none (station 0)).run.marker.map Marker.plan = some 1 :=
  ⟨serving_reset _, by decide +kernel, serving_reset _, serving_reset _, by decide +kernel, ⟨rfl, rfl, rfl, rfl⟩, rfl⟩

/-- A write of rule 11 whole, and of the last byte of PATTERNS; of a rule that keeps the target, one that lowers it and one
that raises it, the reset hold standing or ended, a stand-down running or none. -/
theorem witness_WriteTableRulesAndPatternsAct :
    Serving (serving (.writeTable 5 154 (rule 0 1500 1350 3 1 0 0)) State.reset)
        (.writeTable 5 154 (rule 0 1500 1350 3 1 0 0)) ∧
      154 + (rule 0 1500 1350 3 1 0 0).length ≤ State.reset.tbl.rules.length ∧ State.reset.wrn.rules.length = 12 ∧
      Serving (serving (.writeTable 6 7 [6]) State.reset) (.writeTable 6 7 [6]) ∧
      7 + [(6 : Byte)].length ≤ State.reset.tbl.patterns.length ∧
      (∀ off, Serving (serving (.writeTable 5 off [0]) (flood 2 [.armed, .triggered, .armed] State.reset))
        (.writeTable 5 off [0])) ∧
      (let s (off : Nat) (hold : Bool) : State :=
        let f := flood 2 [.armed, .triggered, .armed] State.reset
        serving (.writeTable 5 off [0]) (f.setWrn { f.wrn with resetHold := hold })
      ∀ hold, (s 14 hold).wrn.resetHold = hold ∧ (s 14 hold).wrn.standDown = none ∧
        (after .writeTableRules (s 14 hold)).wrn.target < (s 14 hold).wrn.level ∧
        (after .writeTableRules (s 0 hold)).wrn.target = (s 0 hold).wrn.level) ∧
      (let f := flood 0 [.armed, .armed, .armed] State.reset
      let s := serving (.writeTable 5 0 [1]) (f.setWrn { f.wrn with stageLost := true })
      s.wrn.level < (after .writeTableRules s).wrn.target) :=
  ⟨serving_reset _, by decide +kernel, by decide +kernel, serving_reset _, by decide, fun _ => ⟨rfl, rfl, rfl, rfl⟩,
    by decide +kernel, by decide +kernel⟩

/-- A STAGED bank that passes; a bad id, limit and count, each one past its range; and a first bad breakpoint 3, and 0. -/
theorem witness_ActivateRatingChecksTheStagedBank :
    Serving (serving .activateRating State.reset) .activateRating ∧ StagedGood (staged12 6400) ∧
      ¬ StagedGood State.reset.tbl.staged ∧ u16 State.reset.tbl.staged 0 < 1 ∧
      2000 < u16 (writeBytes (staged12 6400) 2 (beNat 2 2001)) 2 ∧ ¬ 2000 < u16 (writeBytes (staged12 6400) 2 (beNat 2 2000)) 2 ∧
      u8 (writeBytes (staged12 6400) 4 [1]) 4 < 2 ∧ 48 < u8 (writeBytes (staged12 6400) 4 [49]) 4 ∧
      BreakpointBad (staged12 1200) 3 ∧ (∀ j, j < 3 → ¬ BreakpointBad (staged12 1200) j) ∧
      BreakpointBad (writeBytes (staged12 6400) 5 (beInt 2 (-2001))) 0 := by
  refine ⟨serving_reset _, ⟨by decide +kernel, by decide +kernel, by decide +kernel, by decide +kernel, ?_⟩, ?_, ?_⟩
  · intro i hi
    have h : i < 6 := by have : u8 (staged12 6400) 4 = 6 := by decide +kernel
                         omega
    unfold BreakpointBad
    interval_cases i <;> decide +kernel
  · exact fun h => absurd h.1 (by decide +kernel)
  · unfold BreakpointBad
    decide +kernel

theorem ordered_season : ShiftsOrdered (rated State.reset).rat.shifts := ⟨by decide, by decide⟩

/-- ADD-SHIFT with 1 and 4 points, with a start time held and not held; with 0 and with 5 points; with a point 1 whose
stage is that of point 0, and with a point 0 out of range. -/
theorem witness_AddShiftPlacesTheRecord :
    (∀ start count points, Serving (serving (.addShift start count points) (rated State.reset))
        (.addShift start count points)) ∧ ShiftsOrdered (rated State.reset).rat.shifts ∧ ShiftGood 1 [(0, 30)] ∧
      ShiftGood 4 [(-2000, -2000), (0, 0), (5, 0), (20000, 2000)] ∧ ¬ ShiftGood 0 [] ∧
      ¬ ShiftGood 5 [(0, 0), (1, 0), (2, 0), (3, 0)] ∧ ShiftPointGood [(0, 0), (0, 0)] 0 ∧
      ¬ ShiftPointGood [(0, 0), (0, 0)] 1 ∧ ¬ ShiftPointGood [(0, 2001)] 0 := by
  refine ⟨fun _ _ _ => ⟨rfl, rfl, rfl, rfl⟩, ordered_season, ⟨by decide, by decide, ?_⟩, ⟨by decide, by decide, ?_⟩,
    fun h => absurd h.1 (by decide), fun h => absurd h.2.1 (by decide), ?_, ?_, ?_⟩
  all_goals
    unfold ShiftPointGood
    decide

/-- DELETE-SHIFT of a record held and of one that is not. -/
theorem witness_DeleteShiftRemovesTheRecord :
    (∀ start, Serving (serving (.deleteShift start) (rated State.reset)) (.deleteShift start)) ∧
      ShiftsOrdered (rated State.reset).rat.shifts ∧ (∃ x ∈ (rated State.reset).rat.shifts, x.start = apr 12 9 0) ∧
      ¬ ∃ x ∈ (rated State.reset).rat.shifts, x.start = apr 1 7 0 :=
  ⟨fun _ => ⟨rfl, rfl, rfl, rfl⟩, ordered_season, by decide, by decide⟩

/-- START-RUN accepted, and each of its refusals. -/
theorem witness_StartRunIsJudgedInOrder :
    Serving (serving (.startRun 1) (gaugingStation 0)) (.startRun 1) ∧ (gaugingStation 0).run.state = .idle ∧
      ¬ cfgStopLevel (gaugingStation 0).tbl.config ≤ (gaugingStation 0).wrn.level ∧
      (¬ ∀ i, i < 24 → activeRole (gaugingStation 0).cht.view (gaugingStation 0).tbl.channels i ≠ some .winch) ∧
      planFault ((gaugingStation 0).tbl.plan 1) = none ∧ planFault ((gaugingStation 0).tbl.plan 0) = some (240, 0) ∧
      (∀ i, i < 24 → activeRole State.reset.cht.view State.reset.tbl.channels i ≠ some .winch) ∧
      cfgStopLevel (flood 2 [] State.reset).tbl.config ≤ (flood 2 [] State.reset).wrn.level ∧
      (running .retrieve none (gaugingStation 0)).run.state ≠ .idle :=
  ⟨⟨rfl, rfl, rfl, rfl⟩, rfl, by decide +kernel, by decide +kernel, by decide +kernel, by decide +kernel,
    by decide +kernel, by decide +kernel, by decide +kernel⟩

theorem witness_AbortRunAnswersWithTheStateFound :
    Serving (serving .abortRun (running .expose none (gaugingStation 0))) .abortRun ∧ RunState.expose.working = true ∧
      Serving (serving .abortRun (running .close none (gaugingStation 0))) .abortRun ∧ RunState.close.working = false ∧
      (let s (st : RunState) : State :=
        let t := running st (some (vertical2 (some 3210))) (gaugingStation 5000)
        t.setRun { t.run with traverseAt := some 5000, cableAt := some 4999 }
      (s .verify).traverseDue = true ∧ (s .lift).cableDue = true ∧ (s .expose).cableDue = false) :=
  ⟨⟨rfl, rfl, rfl, rfl⟩, rfl, ⟨rfl, rfl, rfl, rfl⟩, rfl, by decide +kernel⟩

/-- WARNING-TEST at the ends of its ranges and just outside; SILENCE during a test and without one. -/
theorem witness_SilenceAndTestDriveTheOutputs :
    Serving (serving .silence State.reset) .silence ∧
      (∀ level duration, Serving (serving (.warningTest level duration) State.reset) (.warningTest level duration)) ∧
      (1 ≤ 1 ∧ 1 ≤ 3 ∧ 5 ≤ 5 ∧ 5 ≤ 120) ∧ ¬ (1 ≤ 4 ∧ 4 ≤ 3 ∧ 5 ≤ 5 ∧ 5 ≤ 120) ∧ ¬ (1 ≤ 1 ∧ 1 ≤ 3 ∧ 5 ≤ 121 ∧ 121 ≤ 120) :=
  ⟨serving_reset _, fun _ _ => serving_reset _, by decide, by decide, by decide⟩

/-- RESET-PART from the uplink and from the loop, with the slot empty and full. -/
theorem witness_ResetPartWaitsForItsReply :
    let h (o : Origin) : InHand := { request := { origin := o, payload := [13, 1] }, work := some (.resetPart true) }
    let s (o : Origin) : State := State.reset.setCtl { freshCtl with inHand := some (h o) }
    let full : State := (s (.uplink 1)).setUpl { State.reset.upl with slot := some { seq := 0, payload := [] } }
    Serving (s (.uplink 1)) (.resetPart true) ∧ (s (.uplink 1)).ctl.inHand = some (h (.uplink 1)) ∧
      (s (.uplink 1)).upl.slot = none ∧ Serving full (.resetPart true) ∧ full.upl.slot.isSome = true ∧
      Serving (s (.service 20)) (.resetPart true) ∧ (s (.service 20)).ctl.inHand = some (h (.service 20)) :=
  ⟨⟨rfl, rfl, rfl, rfl⟩, rfl, rfl, ⟨rfl, rfl, rfl, rfl⟩, rfl, ⟨rfl, rfl, rfl, rfl⟩, rfl⟩

/-- A boundary reached; a clock set within the open interval and out of it. -/
theorem witness_IntervalsCloseAtBoundariesAndClockSets :
    let s := opened 36000 36900 36900 emptyAccum State.reset
    s.resetLine = false ∧ s.stg.nextBoundary ≤ s.clk.time ∧
      Serving (serving (.setClock 36899) s) (.setClock 36899) ∧
      36899 / (60 * cfgIntervalLength s.tbl.config) * (60 * cfgIntervalLength s.tbl.config) = s.stg.openStart ∧
      Serving (serving (.setClock 36900) s) (.setClock 36900) ∧
      36900 / (60 * cfgIntervalLength s.tbl.config) * (60 * cfgIntervalLength s.tbl.config) ≠ s.stg.openStart :=
  ⟨rfl, by decide +kernel, ⟨rfl, rfl, rfl, rfl⟩, by decide +kernel, ⟨rfl, rfl, rfl, rfl⟩, by decide +kernel⟩

/-- A station with both sources heard, as the stage unit would hold it. -/
def heard (prim sec : SourceRec) (sel : Selection) : State :=
  let s := twoSources 1900000 prim sec sel 0 12 1240
  (s.setRat { s.rat with latest := some (table19 1240) }).setWrn { s.wrn with stageLost := false }

theorem heard_consistent (prim sec : SourceRec) (sel : Selection) (h1 : sel = .primary → prim.state = .valid)
    (h2 : sel = .secondary → sec.state = .valid) (h3 : sel ≠ .none) (h4 : prim.last = none ↔ prim.state = .noData)
    (h5 : sec.last = none ↔ sec.state = .noData) : StageConsistent (heard prim sec sel) := by
  constructor <;> simp_all [heard, twoSources, timed, State.setClk, State.setStg, State.setRat, State.setWrn]
  cases sel <;> simp_all

/-- Writes to CONFIG that change the stale limit, one source's new expiry past and the other's not; the stand-down time of
the running timer, its new expiry just ahead and past; the stop level, with RUN working and not; and the two rates. -/
theorem witness_WriteTableConfigStoresItsBytes_acts :
    let old := source .valid 1240 1000000
    let new := source .valid 1228 1870000
    let s := heard new old .primary
    let stale := writeBytes deliveredConfig 2 (beNat 2 31)
    let f := flood 2 [.triggered, .armed, .armed] (timed 7200000 7200 State.reset)
    let timing : State := f.setWrn
      { f.wrn with target := 1, standDown := some { start := 0, level := 2, expiry := 7200001 } }
    Serving (serving (.writeTable 0 2 (beNat 2 31)) s) (.writeTable 0 2 (beNat 2 31)) ∧
      2 + (beNat 2 31).length ≤ s.tbl.config.length ∧ cfgStaleLimit stale ≠ cfgStaleLimit s.tbl.config ∧
      1000000 + cfgStaleLimit stale ≤ s.now ∧ s.now < 1870000 + cfgStaleLimit stale ∧
      (s.stg.source .secondary).staleAt = some 1900000 ∧ (s.stg.source .primary).staleAt = some 2770000 ∧
      Serving (serving (.writeTable 0 11 [121]) timing) (.writeTable 0 11 [121]) ∧
      timing.wrn.standDown = some { start := 0, level := 2, expiry := 7200001 } ∧
      cfgStandDown (writeBytes deliveredConfig 11 [121]) 2 ≠ cfgStandDown deliveredConfig 2 ∧
      timing.now < 0 + cfgStandDown (writeBytes deliveredConfig 11 [121]) 2 ∧
      0 + cfgStandDown (writeBytes deliveredConfig 11 [119]) 2 ≤ timing.now ∧
      cfgStandDown (writeBytes deliveredConfig 10 [119]) 2 = cfgStandDown deliveredConfig 2 ∧
      cfgStaleLimit (writeBytes deliveredConfig 11 [119]) = cfgStaleLimit deliveredConfig ∧
      cfgStopLevel (writeBytes deliveredConfig 13 [1]) ≤ 1 ∧ 1 < cfgStopLevel deliveredConfig ∧
      (running .expose none (flood 1 [] State.reset)).run.state.working = true ∧
      (flood 1 [] State.reset).run.state.working = false ∧ (flood 1 [] State.reset).wrn.level = 1 ∧
      State.reset.loop.txn = none ∧ State.reset.loop.grant.held = false ∧ State.reset.loop.tx = none ∧
      State.reset.upl.buffer = none ∧ State.reset.upl.assembling = false ∧
      cfgLoopRate (writeBytes deliveredConfig 14 (beNat 2 1200)) ≠ cfgLoopRate deliveredConfig := by
  refine ⟨⟨rfl, rfl, rfl, rfl⟩, by decide +kernel, by decide +kernel, by decide +kernel, by decide +kernel, rfl, rfl,
    ⟨rfl, rfl, rfl, rfl⟩, rfl, ?_⟩
  decide +kernel

/-- A source that was not selected, one that hands over, and one whose end loses stage, each at its expiry. -/
theorem witness_StaleSourceHandsOverOrLosesStage :
    let old := source .valid 1240 1000000
    let new := source .valid 1228 1870000
    StageConsistent (heard new old .primary) ∧ StageConsistent (heard old new .primary) ∧
      StageConsistent (heard old (source .stale 1228 1) .primary) ∧
      ((heard old new .primary).stg.source .primary).state = .valid ∧
      ((heard old new .primary).stg.source .primary).staleAt = some 1900000 ∧
      (heard old new .primary).now = 1900000 ∧ (heard new old .primary).stg.selection.follows .secondary = false ∧
      ((heard new old .primary).stg.source .secondary).staleAt = some 1900000 ∧
      ((heard old (source .stale 1228 1) .primary).stg.source .secondary).state ≠ .valid := by
  refine ⟨?_, ?_, ?_, rfl, rfl, rfl, rfl, rfl, by decide⟩ <;> apply heard_consistent <;> decide

/-- The loss of stage with a fail-safe rule of target 2, the level below its target, at it, and above it with the stand-down
timer running, starting, held by the reset hold, and with a stand-down time of 0. -/
theorem witness_StaleSourceHandsOverOrLosesStage_loss :
    let s (level : Nat) (d : Option StandDown) (hold : Bool) : State :=
      let h := heard (source .valid 1240 1000000) (source .stale 1228 1) .primary
      (h.setTbl { h.tbl with rules := padTo 168 (rule 0 1500 1350 3 2 1 0) }).setWrn
        { h.wrn with rules := List.replicate 12 .armed, level := level, standDown := d, resetHold := hold }
    let go (s : State) : State := after (.staleTimerExpiry .primary) s
    let zero := (s 3 none false).setTbl
      { (s 3 none false).tbl with config := writeBytes deliveredConfig 10 [0, 0, 0] }
    (∀ l ∈ [0, 1, 2, 3], (go (s l none false)).wrn.target = 2 ∧ (s l none false).wrn.resetHold = false) ∧
      cfgStopLevel State.reset.tbl.config ≤ 2 ∧ cfgStandDown State.reset.tbl.config 3 ≠ 0 ∧
      cfgStandDown zero.tbl.config 3 = 0 ∧ (go zero).wrn.target = 2 ∧ (s 3 (some ⟨0, 3, 9⟩) false).wrn.standDown.isSome = true ∧
      (s 3 none true).wrn.resetHold = true ∧ (go (s 3 none true)).wrn.target = 2 := by decide +kernel

/-- The flood at a history step: the ring newest first with the present selected stage and what the step finds 15 back. -/
def stepping (level : Nat) (rules : List RuleState) (mm : Int) (back : Int) : State :=
  let s := flood level rules (timed 60000 60 State.reset)
  s.setStg
    { s.stg with
      history := List.replicate 64 (some back),
      selected := some { mm := mm, clamped := false, alignLimit := false, secondaryUsed := false } }

/-- A history step at its expiry, for each thing the level may do: a rise to the stop level with RUN working and not, no
change, a running timer, a timer that starts, and a fall with a stand-down time of 0. -/
theorem witness_HistoryStepEvaluatesTheRiseRules :
    let up := stepping 1 [.triggered, .pending 1, .armed] 1720 1480
    let same := stepping 1 [.triggered, .armed, .armed] 1480 1480
    let down := stepping 2 [.triggered, .triggered, .armed] 1480 1480
    let timing := down.setWrn { down.wrn with standDown := some { start := 0, level := 2, expiry := 90000 } }
    let zero := down.setTbl { down.tbl with config := writeBytes deliveredConfig 10 [0, 0, 0] }
    let go (s : State) : State := after .historyStep s
    up.resetLine = false ∧ up.stg.historyAt = up.now ∧ up.wrn.rules.length = 12 ∧
      up.wrn.level < (go up).wrn.target ∧ (go up).wrn.target = cfgStopLevel up.tbl.config ∧
      (up.setRun (running .expose none up).run).run.state.working = true ∧ up.run.state.working = false ∧
      (go same).wrn.target = same.wrn.level ∧ (go down).wrn.target < down.wrn.level ∧ down.wrn.standDown = none ∧
      cfgStandDown down.tbl.config 2 ≠ 0 ∧ timing.wrn.standDown.isSome = true ∧
      (go timing).wrn.target < timing.wrn.level ∧ cfgStandDown zero.tbl.config 2 = 0 ∧
      (go zero).wrn.target < zero.wrn.level := by decide +kernel

theorem witness_StandDownAndTestEndReleaseTheOutputs :
    let s := timed 5000 0 (State.reset.setWrn
      { State.reset.wrn with standDown := some ⟨0, 1, 5000⟩, test := some { level := 1, stopAt := 5000 } })
    s.resetLine = false ∧ s.wrn.standDown = some ⟨0, 1, 5000⟩ ∧ s.wrn.test = some { level := 1, stopAt := 5000 } ∧
      s.now = 5000 := by decide +kernel

/-- A due poll with a command pending that may be sent, a GRANT that may not, no command, and an ON-DEMAND grant. -/
theorem witness_DuePollIsChosenOrClaims :
    let s := station32 0 (dueAtTimes 0 0 10000)
    let c (k : CmdKind) : RunCmd := { kind := k, addr := 9, id := 0 }
    let waits := s.setLoop
      { s.loop with
        pendingCmd := some (c (.grant 40 .hold)), grant := { s.loop.grant with interleaveAt := some 400 } }
    let g := granted .held .onDemand 32 0 s
    s.resetLine = false ∧ s.loop.poll? 0 = some (newPoll 0) ∧ (newPoll 0).due ≤ s.now ∧ (newPoll 0).announced = false ∧
      s.loop.txn = none ∧ s.loop.grant.held = false ∧ s.loop.jam = none ∧ s.loop.lineBreak = none ∧
      s.loop.pendingCmd = none ∧ s.loop.sendable (c (.grant 40 .hold)) = true ∧
      waits.loop.sendable (c (.grant 40 .hold)) = false ∧ waits.loop.sendable (c .poll) = true ∧
      g.loop.grant.mode = .onDemand ∧ g.loop.grant.state = .held ∧ g.loop.poll? 0 = some (newPoll 0) := by decide +kernel

/-- A poll that has waited a period, one count below saturation and at it. -/
theorem witness_LatePollIsSkipped :
    let p (n : Nat) : Poll := { newPoll 0 with skipped := n, announced := true }
    let s (n : Nat) := station32 60000 ([some (p n)] ++ List.replicate 23 none)
    (s 65534).resetLine = false ∧ (s 65534).loop.poll? 0 = some (p 65534) ∧ (s 65535).loop.poll? 0 = some (p 65535) ∧
      (p 0).due + 1000 * (chanEntry (s 0).tbl.channels 0).period = (s 0).now := by decide +kernel

/-- The same under an ON-DEMAND grant HELD and CLAIMING, and under one of another mode. -/
theorem witness_LatePollIsSkipped_granted :
    let s (st : GrantState) (m : ReleaseMode) : State := granted st m 32 0 (station32 60000 (dueAtTimes 0 60000 60000))
    ∀ st ∈ [GrantState.held, .closing, .claiming], ∀ m ∈ [ReleaseMode.onDemand, .hold],
      (s st m).resetLine = false ∧ (s st m).loop.poll? 0 = some (newPoll 0) ∧ (s st m).loop.grant.state = st ∧
        (s st m).loop.grant.mode = m ∧ (s st m).loop.grant.held = true ∧
        (newPoll 0).due + 1000 * (chanEntry (s st m).tbl.channels 0).period = (s st m).now := by decide +kernel

/-- A frame of each kind that has been sent whole at this instant, a CLAIM waiting behind it or none. -/
theorem witness_SentFrameBringsItsSequel :
    let c : RunCmd := { kind := .halt, addr := 9, id := 4 }
    let s (f : CmdFrame) : State :=
      let t := timed 100 0 State.reset
      t.setLoop { t.loop with tx := some { frame := f, doneAt := 9600 }, claimPlace := true }
    let seek : State := running .pointSeek (some { vertical2 (some 3210) with points := [⟨.p06, 3900, false⟩] }) (s (.winch c))
    (s .claim).loop.tx = some { frame := .claim, doneAt := 9600 } ∧ 9600 ≤ (s .claim).fineNow ∧
      CmdFrame.claim.isGrant = false ∧ (CmdFrame.opening 4 .poll).isGrant = false ∧ (CmdFrame.winch c).isGrant = false ∧
      (CmdFrame.service { addr := 20, payload := [], resets := true }).isGrant = false ∧
      (granted .claiming .hold 1 0 (s .claim)).loop.grant.state = .claiming ∧
      (granted .claiming .hold 1 0 (s .claim)).loop.tx = some { frame := .claim, doneAt := 9600 } ∧
      (asked (.poll 0) 4 .sending (s (.opening 4 .poll))).loop.txn =
        some { asker := .poll 0, addr := 4, phase := .sending } ∧
      (seek.setRun { seek.run with haltId := some 4 }).run.haltId = some c.id ∧ seek.run.state = .pointSeek ∧
      (seek.run.vertical.map fun v => v.points.length) = some 1 ∧
      ((running .traverse none (s (.winch c))).setRun
        { (running .traverse none (s (.winch c))).run with moveId := some 4 }).run.moveId = some c.id := by decide +kernel

/-- A RETRIEVE that has been sent whole, RUN in RETRIEVE with it as its last command. -/
theorem witness_SentFrameBringsItsSequel_retrieve :
    let c : RunCmd := { kind := .retrieve, addr := 9, id := 4 }
    let s : State :=
      let t := running .retrieve none (gaugingStation 100)
      (t.setLoop { t.loop with tx := some { frame := .winch c, doneAt := 9600 } }).setRun
        { t.run with lastCmd := some (c, true) }
    s.resetLine = false ∧ s.loop.tx = some { frame := .winch c, doneAt := 9600 } ∧ 9600 ≤ s.fineNow ∧
      (CmdFrame.winch c).isGrant = false ∧ s.run.state = .retrieve ∧ s.run.lastCmd = some (c, true) ∧
      s.run.haltId ≠ some c.id := by decide +kernel

/-- A poll that times out, one with no reply begun, and one whose reply is in progress from its node and from another;
node 1 and node 30. -/
theorem witness_FailedPollIsCountedAndTold :
    let s (a : Nat) (ph : TxnPhase) := asked (.poll 0) a ph (station 5000)
    let r (from_ : Byte) : State :=
      (s 30 .replying).setLoop { (s 30 .replying).loop with rx := some { addr := from_, context := .reply } }
    (s 1 (.waiting 480000)).resetLine = false ∧ (s 1 (.waiting 480000)).loop.nodeFail.length = 30 ∧
      (s 1 (.waiting 480000)).run.held = none ∧ (s 1 (.waiting 480000)).loop.grant.held = false ∧
      480000 ≤ (s 1 (.waiting 480000)).fineNow ∧ (s 1 (.waiting 480000)).loop.rx = none ∧
      (s 1 (.waiting 480000)).loop.txn = some { asker := .poll 0, addr := 1, phase := .waiting 480000 } ∧
      (r 30).loop.txn = some { asker := .poll 0, addr := 30, phase := .replying } ∧
      (r 30).loop.rx = some { addr := 30, context := .reply } ∧
      (r 7).loop.rx = some { addr := 7, context := .reply } ∧ (7 : Byte).toNat ≠ 30 := by decide +kernel

/-- The poll of the winch that RUN holds: its second, third and 255th failure and one at 255, RUN working and not. -/
theorem witness_FailedPollIsCountedAndTold_held :
    let s (st : RunState) (n : Nat) (ph : TxnPhase) : State :=
      let t := asked (.poll 2) 9 ph (running st none (gaugingStation 5000))
      t.setLoop { t.loop.setNodeCount 9 n with rx := if ph = .replying then some { addr := 9, context := .reply } else none }
    ∀ st ∈ [RunState.expose, .retrieve], ∀ n ∈ [0, 1, 2, 254, 255],
      (s st n .replying).resetLine = false ∧ (s st n .replying).run.held = some 9 ∧
        (s st n .replying).loop.nodeFail.length = 30 ∧ (s st n .replying).loop.grant.held = false ∧
        (s st n .replying).loop.nodeCount 9 = n ∧ (s st n .replying).run.state = st ∧
        (s st n .replying).loop.txn = some { asker := .poll 2, addr := 9, phase := .replying } ∧
        (s st n .replying).loop.rx = some { addr := 9, context := .reply } ∧
        (s st n (.waiting 480000)).loop.txn = some { asker := .poll 2, addr := 9, phase := .waiting 480000 } ∧
        480000 ≤ (s st n (.waiting 480000)).fineNow ∧ (s st n (.waiting 480000)).loop.rx = none := by decide +kernel

theorem body_good (kind : Byte) (payload : List Byte) (h : payload.length ≤ 48) : BodyGood (body kind payload) := ⟨h, rfl⟩

theorem body_crc : ¬ BodyGood { body 16 [] with crc := 0 } := fun h => absurd h.2 (by decide +kernel)

theorem body_long : ¬ BodyGood (body 16 (List.replicate 49 0)) := fun h => absurd h.1 (by decide)

/-- A reply that fails at its end by its CRC, by its length, and as that of another node. -/
theorem witness_FailedPollIsCountedAndTold_replies :
    ReplyFails { body 16 [] with crc := 0 } 9 9 .crc ∧ ReplyFails (body 16 (List.replicate 49 0)) 9 9 .length ∧
      ReplyFails (body 17 []) 7 9 .stray :=
  ⟨Or.inl ⟨body_crc, by decide +kernel⟩, Or.inl ⟨body_long, by decide +kernel⟩,
    Or.inr ⟨body_good _ _ (by decide), by decide, rfl⟩⟩

/-- The third failure and the second one, of the winch of a run that works and of one that does not, before a reply has
begun and within one from its node and from another. -/
theorem witness_ThirdFailureOfTheWinchAbortsTheRun :
    let c : RunCmd := { kind := .poll, addr := 9, id := 1 }
    let s (st : RunState) (n : Nat) : State :=
      let t := running st none (asked (.run c) 9 (.waiting 96) (gaugingStation 1))
      t.setLoop (t.loop.setNodeCount 9 n)
    let r (x : Byte) : State :=
      let t := running .verify none (replying (.run c) 9 (gaugingStation 1))
      t.setLoop { t.loop.setNodeCount 9 2 with rx := some { addr := x, context := .reply } }
    (s .verify 2).loop.rx = none ∧ (r 9).loop.txn = some { asker := .run c, addr := 9, phase := .replying } ∧
      (r 9).loop.rx = some { addr := 9, context := .reply } ∧ (r 7).loop.rx = some { addr := 7, context := .reply } ∧
      (r 9).run.held = some 9 ∧ (r 9).loop.nodeCount 9 = 2 ∧
    (s .verify 2).resetLine = false ∧ (s .verify 2).loop.nodeFail.length = 30 ∧
      (s .verify 2).loop.txn = some { asker := .run c, addr := 9, phase := .waiting 96 } ∧
      96 ≤ (s .verify 2).fineNow ∧ (s .verify 2).run.held = some 9 ∧ (s .verify 2).loop.nodeCount 9 = 2 ∧
      (s .verify 2).run.state.working = true ∧ (s .retrieve 254).loop.nodeCount 9 = 254 ∧
      (s .retrieve 254).run.state.working = false ∧ (s .verify 1).loop.nodeCount 9 = 1 ∧
      ((s .verify 1).setRun { (s .verify 1).run with lastCmd := some (c, true) }).run.lastCmd = some (c, true) := by
  decide +kernel

/-- A POSITION payload at the ends of its ranges, in a winch state. -/
def positionBytes (w : Byte) : List Byte := beNat 4 500000 ++ beInt 4 (-1000) ++ [w]

def positionFrom9 (w : WinchState) (at_ : Nat) : Position :=
  { x := 500000, cable := -1000, winch := w, addr := 9, arrived := at_ }

theorem holds_position (w : WinchState) (s : State) :
    HoldsPosition (positionBytes (BitVec.ofNat 8 w.code)) 9 s (positionFrom9 w s.now) := by
  have h : (positionBytes (BitVec.ofNat 8 w.code)).length = 9 ∧ u32 (positionBytes (BitVec.ofNat 8 w.code)) 0 = 500000 ∧
      i32 (positionBytes (BitVec.ofNat 8 w.code)) 4 = -1000 ∧
      WinchState.ofCode (u8 (positionBytes (BitVec.ofNat 8 w.code)) 8) = some w := by cases w <;> decide +kernel
  obtain ⟨h1, h2, h3, h4⟩ := h
  exact ⟨h1, ⟨by omega, h2.symm⟩, ⟨by omega, by omega, h3.symm⟩, h4, rfl, rfl⟩

theorem no_position (s : State) (p : Position) : ¬ HoldsPosition [0] 9 s p := fun h => absurd h.length (by decide)

/-- The answer of a run-engine command: RUN in each of its states, and a POSITION in each winch state. -/
theorem witness_ThirdFailureOfTheWinchAbortsTheRun_answered :
    let c : RunCmd := { kind := .poll, addr := 9, id := 1 }
    let s (st : RunState) : State :=
      running st (some (vertical2 (some 3210))) (replying (.run c) 9 (gaugingStation 5000))
    (∀ st ∈ [RunState.traverse, .verify, .surfaceSeek, .sound, .pointSeek, .settle, .expose, .lift, .retrieve, .close],
      (s st).resetLine = false ∧ (s st).loop.nodeFail.length = 30 ∧
        (s st).loop.txn = some { asker := .run c, addr := 9, phase := .replying } ∧
        (s st).loop.rx = some { addr := BitVec.ofNat 8 9, context := .reply } ∧ (s st).run.held = some 9 ∧
        (s st).run.state = st ∧ (s st).run.record = some (record31 []) ∧ (s st).run.vertical = some (vertical2 (some 3210))) ∧
      ∀ w : WinchState, BodyGood (body 18 (positionBytes (BitVec.ofNat 8 w.code))) ∧
        HoldsPosition (positionBytes (BitVec.ofNat 8 w.code)) 9 (s .traverse) (positionFrom9 w 5000) :=
  ⟨by decide +kernel, fun w => ⟨body_good _ _ (by cases w <;> decide +kernel), holds_position w _⟩⟩

/-- What a POSITION is judged by: at the tolerance and past it, the SPARE of entry 2 and none of entry 1, a next MEASURE
entry and none, and a position that answers, comes after the report, or neither. -/
theorem witness_PositionJudged :
    let s := running .verify (some (vertical2 none)) (gaugingStation 5000)
    let r : Run := { s.run with moveId := some 3, moveSent := false }
    s.header.tolerance = 200 ∧ |((8200 : Nat) : Int) - (8000 : Nat)| ≤ (s.header.tolerance : Int) ∧
      (s.header.tolerance : Int) < |((8201 : Nat) : Int) - (8000 : Nat)| ∧
      SpareTaken s (record31 []) (vertical2 none) 8400 ∧
      (∀ x, ¬ SpareTaken s (record31 []) { vertical2 none with entry := 1 } x) ∧ NextMeasure s.plan 1 2 ∧
      (∀ i, ¬ NextMeasure s.plan 3 i) ∧ CountsForMove r (some 3) ∧ CountsForMove { r with moveSent := true } none ∧
      ¬ CountsForMove r none ∧ ¬ CountsForMove r (some 4) ∧ CountsForHome { r with retrieveSent := true } none ∧
      ¬ CountsForHome { r with retrieveSent := false, lastCmd := none } (some 3) := by
  refine ⟨by decide +kernel, by decide +kernel, by decide +kernel,
    ⟨by decide +kernel, rfl, by decide +kernel, by decide +kernel⟩, fun x h => absurd h.1 (by decide +kernel), ?_, ?_,
    ⟨3, rfl, Or.inr rfl⟩, ⟨3, rfl, Or.inl rfl⟩, ?_, ?_, Or.inl rfl, ?_⟩
  · exact ⟨by decide, by decide +kernel, by decide +kernel, fun j h1 h2 => absurd h2 (by omega)⟩
  · rintro i ⟨h1, h2, h3, -⟩
    have h : i < 6 := by have : u8 (running .verify (some (vertical2 none)) (gaugingStation 5000)).plan 42 = 6 := by decide +kernel
                         omega
    revert h3
    interval_cases i <;> decide +kernel
  · rintro ⟨m, h, h2 | h2⟩ <;> cases h <;> cases h2
  · rintro ⟨m, h, h2 | h2⟩ <;> cases h <;> cases h2
  · rintro (h | ⟨c, w, h, -⟩) <;> cases h

theorem good_reply (ch addr : Nat) (b : FrameBody) (h1 : ch < 24) (h2 : 1 ≤ addr ∧ addr ≤ 30) (hb : BodyGood b) :
    GoodReply (replying (.poll ch) addr (station 5000)) ch addr b :=
  ⟨rfl, h1, h2, (by decide +kernel : State.reset.loop.nodeFail.length = 30), rfl, rfl, hb⟩

/-- An EMPTY reply to the poll of entry 0, of entry 23 by nobody, and where the entry polled no longer names its node. -/
theorem witness_GoodEmptyReplyEndsThePoll :
    let s := replying (.poll 0) 4 (station 5000)
    let t := after .writeTableChannels (serving (.writeTable 1 0 [0]) s)
    GoodReply s 0 4 (body 17 []) ∧ BelongsTo s 0 4 0 ∧ BelongsTo t 0 4 3 ∧
      GoodReply (replying (.poll 23) 30 (station 5000)) 23 30 (body 17 []) ∧
      ∀ i, ¬ Names (replying (.poll 23) 30 (station 5000)) i 30 := by
  refine ⟨good_reply _ _ _ (by decide) (by decide) (body_good _ _ (by decide)),
    ⟨⟨by decide, by decide +kernel, by decide +kernel⟩, Or.inl rfl⟩,
    ⟨⟨by decide, by decide +kernel, by decide +kernel⟩, Or.inr ⟨?_, ?_⟩⟩,
    good_reply _ _ _ (by decide) (by decide) (body_good _ _ (by decide)), ?_⟩
  · rintro ⟨-, h, -⟩
    exact absurd h (by decide +kernel)
  · rintro j hj ⟨-, h, h2⟩
    revert h h2
    interval_cases j <;> decide +kernel
  · rintro i ⟨h1, h2, h3⟩
    revert h2 h3
    interval_cases i <;> decide +kernel

/-- A frame for each role, the kinds it takes and one that it discards, and the faults of a sample; queues one short of full
and full. -/
theorem witness_GoodEmptyReplyEndsThePoll_roles :
    let s (ch addr : Nat) : State := replying (.poll ch) addr (station 5000)
    let full (n : Nat) : State :=
      ((s 5 20).setCtl { freshCtl with queue := List.replicate n { origin := .uplink 0, payload := [9] } }).setLoop
        { (s 5 20).loop with serviceQ := List.replicate n ({ addr := 20, payload := [], resets := false }, 0) }
    let item : FwdItem := { number := 0, channel := 7, addr := 12, time := 0, valid := false, kind := 16, payload := [] }
    (∀ e ∈ [(0, 4), (1, 5), (2, 9), (5, 20), (7, 12)], e.1 < 24 ∧ activeIn (s e.1 e.2).cht.view e.1 = true ∧
      (chanEntry (s e.1 e.2).tbl.channels e.1).addr = e.2) ∧
      (chanEntry (s 7 12).tbl.channels 7).role = 3 ∧ (chanEntry (s 0 4).tbl.channels 0).role ≤ 1 ∧
      (chanEntry (s 1 5).tbl.channels 1).role ≤ 1 ∧ (chanEntry (s 1 5).tbl.channels 1).alsoForward = 1 ∧
      (chanEntry (s 2 9).tbl.channels 2).role = 2 ∧ (chanEntry (s 5 20).tbl.channels 5).role = 4 ∧
      (body 20 [1]).kind = 20 ∧ (body 16 [0, 0, 0]).kind = 16 ∧ sampleFault 1 [0, 0] = some .form ∧
      sampleFault 1 [6, 0, 0] = some .nodeFault ∧ sampleFault 2 [0, 0, 0] = some .shortSample ∧
      sampleFault 1 [0, 0, 0] = none ∧ (s 2 9).run.held ≠ some 9 ∧ (full 3).ctl.queue.length = 3 ∧
      (full 4).ctl.queue.length = 4 ∧ (full 3).loop.serviceQ.length = 3 ∧ (full 4).loop.serviceQ.length = 4 ∧
      ((s 7 12).setUpl { (s 7 12).upl with fwdQ := List.replicate 7 item }).upl.fwdQ.length < 8 ∧
      ¬ ((s 7 12).setUpl { (s 7 12).upl with fwdQ := List.replicate 8 item }).upl.fwdQ.length < 8 := by decide +kernel

/-- The held winch in the reply to a poll of its channel, and the winch of an entry that RUN does not hold: a POSITION at
the ends of its ranges, and a payload that holds none. -/
theorem witness_GoodEmptyReplyEndsThePoll_winch :
    let s := replying (.poll 2) 9 (station 5000)
    let held : State := s.setRun { s.run with held := some 9 }
    GoodReply s 2 9 (body 18 (positionBytes 2)) ∧ GoodReply held 2 9 (body 18 (positionBytes 2)) ∧
      BelongsTo s 2 9 2 ∧ held.run.held = some 9 ∧ InHeldPlace held 9 18 ∧ ¬ InHeldPlace s 9 18 ∧
      HoldsPosition (positionBytes 2) 9 s (positionFrom9 .atTarget 5000) ∧ (∀ p, ¬ HoldsPosition [0] 9 s p) ∧
      GoodReply s 2 9 (body 19 []) ∧ GoodReply s 2 9 (body 18 [0]) ∧ s.run.held = none :=
  ⟨good_reply _ _ _ (by decide) (by decide) (body_good _ _ (by decide +kernel)),
    ⟨rfl, by decide, by decide, by decide +kernel, rfl, rfl, body_good _ _ (by decide +kernel)⟩,
    ⟨⟨by decide, by decide +kernel, by decide +kernel⟩, Or.inl rfl⟩, rfl, ⟨Or.inl rfl, rfl⟩, fun h => absurd h.2 (by decide),
    holds_position .atTarget _, no_position _, good_reply 2 9 (body 19 []) (by decide) (by decide) (body_good _ _ (by decide)),
    good_reply 2 9 (body 18 [0]) (by decide) (by decide) (body_good _ _ (by decide)), rfl⟩

/-- The held winch answering a poll with a BURST-END, empty and with a payload; a full forward queue whose oldest item, or
another, is being sent. -/
theorem witness_GoodEmptyReplyEndsThePoll_held :
    let s := replying (.poll 2) 9 (station 5000)
    let held : State := s.setRun { s.run with held := some 9 }
    let full (n : Nat) : State :=
      let item : FwdItem := { number := 3, channel := 7, addr := 12, time := 0, valid := false, kind := 16, payload := [] }
      let t := replying (.poll 7) 12 (station 5000)
      t.setUpl
        { t.upl with
          fwdQ := List.replicate 8 item, buffer := some { cls := .forward, number := n, frames := [], elapsed := 0 } }
    GoodReply held 2 9 (body 19 []) ∧ GoodReply held 2 9 (body 19 [1]) ∧ held.run.held = some 9 ∧
      (∀ n ∈ [3, 4], (full n).upl.buffer = some { cls := .forward, number := n, frames := [], elapsed := 0 } ∧
        8 ≤ (full n).upl.fwdQ.length ∧ (full n).upl.fwdQ.head?.map FwdItem.number = some 3) :=
  ⟨⟨rfl, by decide, by decide, by decide +kernel, rfl, rfl, body_good _ _ (by decide)⟩,
    ⟨rfl, by decide, by decide, by decide +kernel, rfl, rfl, body_good _ _ (by decide)⟩, rfl, by decide +kernel⟩

/-- The first sample: within range, clamped above it, and with the last value of the longest payload. -/
theorem witness_FirstSampleRestoresStage :
    let s := replying (.poll 0) 4 (station 5000)
    let b := sampleOf 0 [3325, 2139]
    s.resetLine = false ∧ s.loop.txn = some { asker := .poll 0, addr := 4, phase := .replying } ∧
      s.loop.rx = some { addr := 4, context := .reply } ∧ b.kind = 16 ∧ BodyGood b ∧
      activeIn s.cht.view 0 = true ∧ (chanEntry s.tbl.channels 0).addr = 4 ∧ (chanEntry s.tbl.channels 0).role = 0 ∧
      (chanEntry s.tbl.channels 0).alsoForward = 0 ∧ b.payload.length ∈ [3, 5, 7, 9] ∧ u8 b.payload 0 = 0 ∧
      1 ≤ (chanEntry s.tbl.channels 0).index ∧ 2 * (chanEntry s.tbl.channels 0).index + 1 ≤ b.payload.length ∧
      s.stg.prim.last = none ∧ s.stg.selection = .none := by
  refine ⟨rfl, rfl, rfl, rfl, body_good _ _ (by decide), ?_⟩
  decide +kernel

/-- A sample 151 mm and one 150 mm from the last accepted stage, with a suspect near it, far from it, or none. -/
theorem witness_SpikeRuleHoldsOneSampleBack :
    let mm (n : Int) : Sample := { mm := n, clamped := false }
    let s (q : Option Sample) : State :=
      State.reset.setStg (State.reset.stg.setSource .primary { source .valid 1000 0 with suspect := q })
    ((s none).stg.source .primary).last = some (mm 1000) ∧ ((s none).stg.source .primary).suspect = none ∧
      (cfgSpikeLimit (s none).tbl.config : Int) < |(1151 : Int) - 1000| ∧
      ¬ (cfgSpikeLimit (s none).tbl.config : Int) < |(1150 : Int) - 1000| ∧
      ((s (some (mm 1300))).stg.source .primary).suspect = some (mm 1300) ∧
      ¬ (cfgSpikeLimit State.reset.tbl.config : Int) < |(1150 : Int) - 1300| ∧
      (cfgSpikeLimit State.reset.tbl.config : Int) < |(1149 : Int) - 1300| := by decide +kernel

/-- An acceptance under each selection, PRIMARY one short of the recovery count and at it, and PRIMARY VALID or not for that of
SECONDARY; an offset at the alignment limit, past it, and to the ends of the range. -/
theorem witness_SpikeRuleHoldsOneSampleBack_accept :
    let s (sel : Selection) (n : Nat) (st : SourceState) : State :=
      twoSources 1900000 (source st 1240 1000000) (source .valid 1228 1870000) sel n 12 1240
    let v : Sample := { mm := 1230, clamped := false }
    (∀ sel ∈ [Selection.primary, .secondary, .none], (s sel 0 .valid).stg.selection = sel) ∧
      (s .secondary 1 .valid).stg.recovery + 1 < cfgRecovery State.reset.tbl.config ∧
      cfgRecovery State.reset.tbl.config = (s .secondary 2 .valid).stg.recovery + 1 ∧
      (s .secondary 0 .valid).stg.prim.state = .valid ∧ (s .secondary 0 .valid).stg.prim.last = some { v with mm := 1240 } ∧
      (s .secondary 0 .stale).stg.prim.state ≠ .valid ∧ (s .secondary 0 .stale).stg.offset = 12 ∧
      (after (.staleTimerExpiry .primary) (s .primary 0 .valid)).stg.offset = 12 ∧
      (accept .secondary v 1900000 (s .secondary 0 .valid)).stg.offset = 10 ∧
      ((accept .secondary v 1900000 (s .secondary 0 .valid)).stg.selected.map Selected.mm) = some 1240 ∧
      ((accept .primary v 1900000 (s .secondary 2 .valid)).stg.selection = .primary) ∧
      cfgAlignLimit State.reset.tbl.config = 100 ∧ (aligned 100 100 v).mm = 1330 ∧ (aligned 100 (-101) v).mm = 1230 ∧
      (aligned 100 100 { v with mm := 19999 }).clamped = true := by decide +kernel

/-- A frame that begins under a grant, as a reply, and as neither; an unsolicited one of each end. -/
theorem witness_FramesAreReceivedByTheReplyPair :
    let s := station 5000
    let w := asked (.poll 0) 4 (.waiting 480000) s
    let u : State := s.setLoop { s.loop with rx := some { addr := 4, context := .unsolicited } }
    s.resetLine = false ∧ s.loop.lineBreak = none ∧ s.loop.rx = none ∧ s.loop.grant.held = false ∧ s.loop.txn = none ∧
      (granted .claiming .hold 1 0 s).loop.grant.held = true ∧
      w.loop.txn = some { asker := .poll 0, addr := 4, phase := .waiting 480000 } ∧ w.loop.grant.held = false ∧
      u.loop.rx = some { addr := 4, context := .unsolicited } ∧ BodyGood (body 16 (List.replicate 48 0)) ∧
      ¬ BodyGood { body 16 [] with crc := 0 } ∧ ¬ BodyGood (body 16 (List.replicate 49 0)) ∧ FrameFault.crc ≠ .stray :=
  ⟨rfl, rfl, rfl, by decide, rfl, by decide, rfl, by decide, rfl, body_good _ _ (by decide), body_crc, body_long,
    by decide⟩

/-- A character that cuts the reply of a poll; and an unsolicited frame with a grant held and its claim wait running, with a
transaction that waits for its reply, and with neither. -/
theorem witness_FramesAreReceivedByTheReplyPair_cut :
    let s := replying (.poll 0) 4 (station 5000)
    let g := granted .claiming .hold 1 0 (station 5000)
    let held : State := g.setLoop
      { g.loop with
        rx := some { addr := 4, context := .unsolicited },
        grant := { g.loop.grant with wait := some { length := 20, expiry := none } } }
    let w := asked (.poll 0) 4 (.waiting 480001) (station 5000)
    s.resetLine = false ∧ s.loop.lineBreak = none ∧ s.loop.nodeFail.length = 30 ∧ s.loop.grant.held = false ∧
      s.run.held ≠ some 4 ∧ s.loop.txn = some { asker := .poll 0, addr := 4, phase := .replying } ∧
      s.loop.rx = some { addr := 4, context := .reply } ∧ held.loop.grant.held = true ∧ NextContext held = .granted ∧
      held.loop.grant.wait = some { length := 20, expiry := none } ∧ NextContext w = .reply ∧
      NextContext (station 5000) = .unsolicited ∧ g.loop.rx = none ∧ g.loop.txn = none := by decide +kernel

/-- A break on a line that was high, and on one found low by a reset two character times ago; a break that has lasted
1,000 ms, with a grant and without; and a line high for 10 character times. -/
theorem witness_BreaksJamAndClearTheLoop :
    let s := timed 1000 0 State.reset
    let low : State := s.setLoop { s.loop with lowSince := some (96000 - 220) }
    let b : State := s.setLoop { s.loop with lineBreak := some 0 }
    let j : State := s.setLoop { s.loop with jam := some { entered := 900, skipped := 2 }, highSince := 96000 - 1100 }
    s.resetLine = false ∧ s.loop.lineBreak = none ∧ s.loop.lowSince = none ∧
      low.loop.lowSince = some (96000 - 220) ∧ (96000 - 220) + 2 * loopChar low.loop.rate = low.fineNow ∧
      b.loop.jam = none ∧ b.loop.lineBreak = some 0 ∧ 0 + 96000 = b.fineNow ∧ b.loop.grant.held = false ∧
      (granted .held .hold 1 0 b).loop.grant.held = true ∧ j.loop.jam = some { entered := 900, skipped := 2 } ∧
      j.loop.lineBreak = none ∧ j.loop.lowSince = none ∧ j.loop.rx = none ∧ j.lines.replyLow = false ∧
      j.loop.highSince + 10 * loopChar j.loop.rate = j.fineNow := by decide +kernel

/-- A GRANT of node 9 just sent: on a RUNNING loop and a JAMMED one, with a claim recorded, a move to hand, and a winch
command pending. -/
theorem witness_GrantBeginsWhenItsFrameIsSent :
    let c : RunCmd := { kind := .grant 32 .hold, addr := 9, id := 0 }
    let back : RunCmd := { kind := .retrieve, addr := 9, id := 1 }
    let s (st : RunState) : State :=
      let t := running st (some (vertical2 none)) (asked (.run c) 9 .sending (granted .opening .hold 32 0 (gaugingStation 100)))
      t.setLoop { t.loop with tx := some { frame := .opening 9 (.grant 32 .hold), doneAt := 9600 } }
    let t := s .traverse
    t.resetLine = false ∧ t.loop.tx = some { frame := .opening 9 (.grant 32 .hold), doneAt := 9600 } ∧
      9600 ≤ t.fineNow ∧ t.loop.txn = some { asker := .run c, addr := 9, phase := .sending } ∧
      t.loop.grant.state = .opening ∧ t.loop.grant.node = 9 ∧ t.run.held = some 9 ∧ t.run.haltId = none ∧
      t.loop.jam = none ∧ t.loop.grant.recorded = none ∧ t.loop.pendingCmd = none ∧
      t.run.moveCommand = some (.traverseTo 8000) ∧
      (t.setLoop { t.loop with jam := some ⟨0, 0⟩ }).loop.jam = some ⟨0, 0⟩ ∧
      (t.setLoop { t.loop with grant := { t.loop.grant with recorded := some .warning } }).loop.grant.recorded =
        some .warning ∧
      (s .retrieve).run.state = .retrieve ∧ back.kind.isWinch = true ∧ back.addr = 9 := by decide +kernel

/-- Frames of node 9 under its grant: failed ones, a BURST-END, a POSITION that reaches the limit, one below it that is
MOVING and one in AT-TARGET. -/
theorem witness_GrantFramesAreCountedAndEndTheGrant :
    let s (n : Nat) : State := granting (running .sound none (granted .held .whenDone 32 n (gaugingStation 100)))
    let pos (w : Byte) : List Byte := beNat 4 500000 ++ beInt 4 60000 ++ [w]
    (s 31).resetLine = false ∧ (s 31).loop.grant.held = true ∧ (s 31).loop.grant.node = 9 ∧
      (s 31).loop.nodeFail.length = 30 ∧ (s 31).loop.rx = some { addr := 9, context := .granted } ∧
      (s 31).loop.txn = none ∧ (s 31).loop.nodeCount 9 < 2 ∧ (s 31).run.held = some (9 : Byte).toNat ∧
      (s 31).loop.grant.limit ≤ (s 31).loop.grant.count + 1 ∧ (s 30).loop.grant.count + 1 < (s 30).loop.grant.limit ∧
      (positionOf (pos 1) 9 100).map Position.winch = some .moving ∧
      (positionOf (pos 2) 9 100).map Position.winch = some .atTarget ∧ (s 31).run.state = .sound ∧
      BodyGood (body 19 []) ∧ BodyGood (body 18 (pos 2)) := by
  refine ⟨rfl, by decide, rfl, by decide +kernel, rfl, rfl, by decide +kernel, rfl, by decide +kernel, by decide +kernel,
    by decide +kernel, by decide +kernel, rfl, body_good _ _ (by decide), body_good _ _ (by decide +kernel)⟩

/-- The second, third and 255th failure of the granted node and one at 255, RUN in each of its states and holding it or
another; a POSITION in each winch state; and a frame of a node that no entry names. -/
theorem witness_GrantFramesAreCountedAndEndTheGrant_states :
    let s (st : RunState) (n : Nat) (a : Byte) : State :=
      let t := running st (some (vertical2 (some 3210))) (granted .held .hold 32 0 (gaugingStation 100))
      t.setLoop { t.loop.setNodeCount 9 n with rx := some { addr := a, context := .granted } }
    (∀ st ∈ [RunState.traverse, .verify, .surfaceSeek, .sound, .pointSeek, .settle, .expose, .lift, .retrieve, .close],
      ∀ n ∈ [1, 2, 254, 255],
        (s st n 9).resetLine = false ∧ (s st n 9).loop.grant.held = true ∧ (s st n 9).loop.grant.node = 9 ∧
          (s st n 9).loop.nodeFail.length = 30 ∧ (s st n 9).loop.nodeCount 9 = n ∧
          (s st n 9).loop.rx = some { addr := 9, context := .granted } ∧ (s st n 9).loop.txn = none ∧
          (s st n 9).loop.lineBreak = none ∧ (s st n 9).run.held = some (9 : Byte).toNat ∧ (s st n 9).run.state = st) ∧
      (∀ w : WinchState, HoldsPosition (positionBytes (BitVec.ofNat 8 w.code)) (9 : Byte).toNat (s .traverse 0 9)
        (positionFrom9 w 100)) ∧
      ((s .sound 0 9).setRun { (s .sound 0 9).run with held := some 8 }).run.held ≠ some 9 ∧
      (13 : Byte).toNat ≠ (s .sound 0 13).loop.grant.node ∧ ¬ InHeldPlace (s .sound 0 13) 13 18 ∧
      ∀ i, ¬ Names (s .sound 0 13) i 13 := by
  refine ⟨by decide +kernel, fun w => holds_position w _, by decide +kernel, by decide +kernel, ?_, ?_⟩
  · exact fun h => absurd h.2 (by decide)
  · rintro i ⟨h1, h2, h3⟩
    revert h2 h3
    interval_cases i <;> decide +kernel

/-- The granted node's POSITION out of range, which reports AT-TARGET or MOVING, one short of the burst limit and at it; a
frame of the held winch under the grant of another node; and frames of nodes that entries name, RUN holding none. -/
theorem witness_GrantFramesAreCountedAndEndTheGrant_entries :
    let bad (w : Byte) : List Byte := beNat 4 500001 ++ beInt 4 0 ++ [w]
    let s (n : Nat) : State := granting (running .sound none (granted .held .whenDone 32 n (gaugingStation 100)))
    let other : State := (s 0).setLoop { (s 0).loop with grant := { (s 0).loop.grant with node := 12 } }
    let free (a : Byte) : State :=
      let t := granted .held .whenDone 32 0 (gaugingStation 100)
      t.setLoop { t.loop with rx := some { addr := a, context := .granted } }
    (∀ w ∈ [1, 2], (bad w).length = 9 ∧ ∀ p, ¬ HoldsPosition (bad w) 9 (s 30) p) ∧ InHeldPlace (s 30) 9 18 ∧
      WinchState.ofCode (u8 (bad 1) 8) = some .moving ∧ WinchState.ofCode (u8 (bad 2) 8) = some .atTarget ∧
      (s 30).loop.grant.count + 1 < (s 30).loop.grant.limit ∧ (s 31).loop.grant.limit = (s 31).loop.grant.count + 1 ∧
      (s 30).loop.grant.mode ≠ .hold ∧ (9 : Byte).toNat ≠ other.loop.grant.node ∧
      other.run.held = some (9 : Byte).toNat ∧ InHeldPlace other 9 19 ∧
      HoldsPosition (positionBytes 2) (9 : Byte).toNat other (positionFrom9 .atTarget 100) ∧
      (∀ e ∈ [(0, (4 : Byte)), (1, 5), (2, 9), (5, 20), (7, 12)],
        Names (free e.2) e.1 e.2.toNat ∧ (∀ j, j < e.1 → ¬ Names (free e.2) j e.2.toNat) ∧
          (free e.2).loop.rx = some { addr := e.2, context := .granted } ∧ (free e.2).loop.grant.held = true ∧
          (free e.2).loop.txn = none ∧ (free e.2).run.held = none) ∧
      RunHears 2 9 (body 18 (positionBytes 2)) (free 9)
        { (free 9).run with position := some (positionFrom9 .atTarget 100) } ∧
      RunHears 2 9 (body 19 []) (free 9) (free 9).run ∧ RunHears 7 12 (body 18 [0]) (free 12) (free 12).run := by
  refine ⟨?_, ⟨Or.inl rfl, rfl⟩, by decide +kernel, by decide +kernel, by decide +kernel, by decide +kernel, by decide,
    by decide, rfl, ⟨Or.inr rfl, rfl⟩, holds_position .atTarget _, ?_, ⟨?_, ?_⟩, ⟨?_, fun _ => rfl⟩, ⟨?_, fun _ => rfl⟩⟩
  · have out : ∀ w ∈ [(1 : Byte), 2],
        (beNat 4 500001 ++ beInt 4 0 ++ [w]).length = 9 ∧ ¬ u32 (beNat 4 500001 ++ beInt 4 0 ++ [w]) 0 ≤ 500000 := by
      decide +kernel
    exact fun w hw => ⟨(out w hw).1, fun p h => absurd h.x.1 (out w hw).2⟩
  · simp only [Names]
    decide +kernel
  · intro p _ _ _ h
    have h' : p = positionFrom9 .atTarget 100 := by
      obtain ⟨_, ⟨_, h2⟩, ⟨_, _, h3⟩, h4, h5, h6⟩ := h
      have hw : p.winch = .atTarget := (Option.some.inj h4).symm
      cases p
      simp_all [positionFrom9]
      decide +kernel
    rw [h']
  · rintro (h | h | h | h)
    · exact absurd rfl h
    · exact absurd (by decide +kernel) h
    · exact absurd rfl h
    · exact absurd (holds_position .atTarget _) (h _)
  · intro p h
    exact absurd h (by decide)
  · intro p _ h
    exact absurd h (by decide +kernel)

/-- The grant timer, the claim wait and the interleave, each at its expiry. -/
theorem witness_GrantTimersClaimEndAndRelease :
    let held := timed 5100 0 (granted .held .hold 32 0 (gaugingStation 100))
    let c : RunCmd := { kind := .grant 0 .hold, addr := 9, id := 0 }
    let waiting : State :=
      let t := running .traverse none (granted .claiming .hold 32 0 (gaugingStation 100))
      t.setLoop
        { t.loop with grant := { t.loop.grant with wait := some { length := 20, expiry := some 9600 } } }
    let free : State :=
      let t := gaugingStation 100
      t.setLoop
        { t.loop with pendingCmd := some c, grant := { t.loop.grant with interleaveAt := some 100 } }
    held.resetLine = false ∧ held.loop.grant.state = .held ∧ held.loop.grant.timerAt = some held.now ∧
      waiting.loop.grant.state = .claiming ∧ waiting.fineNow = 9600 ∧ waiting.loop.grant.node = 9 ∧
      waiting.loop.grant.wait = some { length := 20, expiry := some 9600 } ∧
      waiting.loop.nodeFail.length = 30 ∧ waiting.loop.nodeCount 9 < 2 ∧ waiting.run.held = some 9 ∧
      waiting.run.state.working = true ∧
      (∀ n ∈ [2, 254, 255], (waiting.setLoop (waiting.loop.setNodeCount 9 n)).loop.nodeCount 9 = n) ∧
      (waiting.setRun { waiting.run with held := some 8 }).run.held ≠ some 9 ∧ free.loop.grant.interleaveAt = some free.now ∧
      free.loop.txn = none ∧ free.loop.grant.held = false ∧ free.loop.jam = none ∧ free.loop.lineBreak = none ∧
      free.loop.pendingCmd = some c := by decide +kernel

/-- A closure at the debounce time after the last one, and a millisecond earlier. -/
theorem witness_ContactsAreDebounced :
    let s (ms : Nat) : State :=
      let t := timed ms 0 State.reset
      t.setPls { t.pls with rotorIn := { t.pls.rotorIn with lastAccepted := some 100 } }
    (s 105).resetLine = false ∧ ((s 105).pls.input .rotor).closed = false ∧ ClosureAccepted (s 105) .rotor ∧
      ¬ ClosureAccepted (s 104) .rotor := by
  refine ⟨rfl, rfl, ?_, ?_⟩
  · intro l h
    cases h
    decide +kernel
  · intro h
    exact absurd (h 100 rfl) (by decide +kernel)

/-- A closure of the rotor accepted in IDLE and in DONE. -/
theorem witness_RotorMeasurementCountsAndEnds_aside :
    let s (st : RotorState) : State := State.reset.setPls
      { State.reset.pls with rotor := { State.reset.pls.rotor with state := st } }
    ∀ st ∈ [RotorState.idle, .done],
      (s st).resetLine = false ∧ (s st).pls.rotorIn.closed = false ∧ ClosureAccepted (s st) .rotor ∧
        (s st).pls.rotor.state = st := by
  intro s st h
  refine ⟨rfl, rfl, nofun, rfl⟩

/-- The rotor before its closure in each state and mode, and its timers at their expiries. -/
theorem witness_RotorMeasurementCountsAndEnds :
    ((gate 559750 142 569330).pls.rotor.state = .counting ∧ (gate 559750 142 569330).pls.rotor.mode = .gate ∧
      (gate 559750 142 569330).pls.rotorIn.closed = false ∧ ClosureAccepted (gate 559750 142 569330) .rotor) ∧
      (period 608710 600310 19).pls.rotor.state = .counting ∧ (period 608710 600310 19).pls.rotor.mode = .period ∧
      (period 608710 600310 19).pls.rotor.count + 1 = (period 608710 600310 19).pls.rotor.revs * 1 ∧
      (armRotor .period 30 20 1 10000 0).state = .armed ∧
      (gate 560000 143 569750).pls.rotor.exposureAt = some 560000 ∧
      (gate 522300 29 522300).pls.rotor.missAt = some 522300 := by
  refine ⟨⟨rfl, rfl, rfl, ?_⟩, ?_⟩
  · intro l h
    cases h
    decide +kernel
  · decide +kernel

/-- The latches armed in SURFACE-SEEK and in SOUND, with a position of the arm's own time, and with one before it. -/
theorem witness_LatchesTakeTheCableCount :
    let p (at_ : Nat) : Position := { x := 8000, cable := 4210, winch := .moving, addr := 9, arrived := at_ }
    let s (st : RunState) (at_ : Nat) : State :=
      let t := running st (some (vertical2 (some 3210))) (gaugingStation 500)
      (t.setPls { t.pls with surface := armedLatch 400, bottom := armedLatch 400 }).setRun
        { (running st (some (vertical2 (some 3210))) (gaugingStation 500)).run with position := some (p at_) }
    (s .surfaceSeek 400).resetLine = false ∧ (s .surfaceSeek 400).pls.surfaceIn.closed = false ∧
      ClosureAccepted (s .surfaceSeek 400) .surface ∧ (s .surfaceSeek 400).pls.surface.state = .armed ∧
      LatchTakes (s .surfaceSeek 400).pls.surface (s .surfaceSeek 400) (some (4210, 100)) ∧
      LatchTakes (s .surfaceSeek 399).pls.surface (s .surfaceSeek 399) none ∧
      LatchTakes (s .sound 400).pls.bottom (s .sound 400) (some (4210, 100)) ∧
      ClosureAccepted (s .sound 400) .bottom ∧ (s .sound 400).pls.bottomIn.closed = false := by
  refine ⟨rfl, rfl, nofun, rfl, ⟨?_, ?_⟩, ⟨?_, ?_⟩, ⟨?_, ?_⟩, nofun, rfl⟩
  · intro p h _
    cases h
    decide +kernel
  · intro h
    exact absurd (h _ rfl) (by decide)
  · intro p h hle
    cases h
    exact absurd hle (by decide)
  · exact fun _ => rfl
  · intro p h _
    cases h
    decide +kernel
  · intro h
    exact absurd (h _ rfl) (by decide)

/-- Chapter 8: the points of a depth of 1,150 mm at the surface count 3,210; with the bottom at 3,900 the 0.8 point is held to it;
and the methods of the three entries of plan 31, its weight offset below that depth. -/
theorem test_points_of_each_method :
    (placedPoints .threePoint 3210 4210 1150).map PointSpec.cable = [3440, 3900, 4130] ∧
      placedPoints .twoPoint 3210 3900 1150 =
        [{ kind := .p02, cable := 3440, shallow := false }, { kind := .p08, cable := 3900, shallow := true }] ∧
      placedPoints .onePoint 3210 3900 1150 = [{ kind := .p06, cable := 3900, shallow := false }] ∧
      placedPoints .surface 3210 3300 1150 = [{ kind := .surface, cable := 3300, shallow := true }] ∧
      (planHeader plan31).weightOffset = 150 := by decide +kernel

/-- A settle time of 20 s and one of 0; the settle timer at its expiry. -/
theorem witness_SettleLastsThePlansTime :
    let s := running .settle (some (vertical2 (some 3210))) (gaugingStation 448100)
    s.header.settle = 20 ∧ State.reset.header.settle = 0 ∧ s.resetLine = false ∧ s.run.state = .settle ∧
      (s.setRun { s.run with settleAt := some 448100 }).run.settleAt = some s.now := by decide +kernel

/-- The traverse, cable and enquiry timers at their expiries, in every state that they run in. -/
theorem witness_RunTimersAbortAndEnquire :
    let s (st : RunState) : State :=
      let t := running st (some (vertical2 (some 3210))) (gaugingStation 5000)
      t.setRun { t.run with traverseAt := some 5000, cableAt := some 5000, enquiryAt := some 5000 }
    ∀ st ∈ [RunState.traverse, .verify, .surfaceSeek, .sound, .pointSeek, .lift, .retrieve],
      (s st).resetLine = false ∧ (s st).run.state = st ∧ (s st).run.traverseAt = some (s st).now ∧
        (s st).run.cableAt = some (s st).now ∧ (s st).run.enquiryAt = some (s st).now ∧ (s st).run.held = some 9 := by
  decide +kernel

/-- An expiry left to be taken second, RUN in every state but IDLE; and one that comes in POINT-SEEK at an AT-TARGET. -/
theorem witness_RunTimersAbortAndEnquire_second :
    let s (st : RunState) : State :=
      let t := running st (some (vertical2 (some 3210))) (gaugingStation 5000)
      t.setRun { t.run with traverseLapsed := true, cableLapsed := true }
    (∀ st ∈ [RunState.traverse, .verify, .surfaceSeek, .sound, .pointSeek, .settle, .expose, .lift, .retrieve, .close],
      (s st).resetLine = false ∧ (s st).run.traverseLapsed = true ∧ (s st).run.cableLapsed = true ∧
        (s st).run.state.working = !(st == .retrieve || st == .close)) ∧
      (let p := running .pointSeek (some (vertical2 (some 3210))) (gaugingStation 5000)
      p.run.state = .pointSeek ∧ (p.setRun { p.run with cableAt := some 5000 }).cableDue = true) := by decide +kernel

/-- The retrieve timer of a complete run, of an aborted one with verticals and without, of one with neither outcome nor
vertical, and of runs begun at a reset, the record of the marker written or not; and CLOSE with its lookup asked, the run
complete and aborted. -/
theorem witness_RetrievalAndCloseEndTheRun :
    let s (r : RunRec) (w : Bool) : State :=
      let t := running .retrieve none (gaugingStation 5000)
      t.setRun { t.run with retrieveAt := some 5000, record := some r, marker := some { marker31 with written := w } }
    let r (o : Option RunOutcome) (vs : List DoneVert) (m : Bool) : RunRec :=
      { record31 vs with outcome := o, fromMarker := m }
    let c := closeFigures plan31 verticals31 none
    let u (o : Option RunOutcome) : State :=
      closing31.setRun { closing31.run with record := some { r o verticals31 false with figures := some c } }
    ∀ o ∈ [some RunOutcome.complete, some .abortedCommand, none],
      (∀ m ∈ [true, false], ∀ w ∈ [true, false], ∀ vs ∈ [[], verticals31],
        (s (r o vs m) w).resetLine = false ∧ (s (r o vs m) w).run.state = .retrieve ∧
          (s (r o vs m) w).run.retrieveAt = some (s (r o vs m) w).now ∧
          (s (r o vs m) w).run.record = some (r o vs m) ∧ (r o vs m).fromMarker = m ∧ (r o vs m).outcome = o ∧
          (r o vs m).verticals = vs ∧ (s (r o vs m) w).run.marker = some { marker31 with written := w }) ∧
        verticals31 ≠ [] ∧ (u o).run.state = .close ∧ (u o).resetLine = false ∧
        (u o).run.record = some { r o verticals31 false with figures := some c } ∧ c.asked = some 5456 := by
  decide +kernel

/-- A complete run without flags, its shift of 300 mm within the adopt limit and 301 mm beyond it. -/
theorem witness_GoodGaugingAdoptsItsShift :
    let c (i : Int) : Calc := { closeFigures plan31 verticals31 (some 1012) with indicated := some i }
    let r (i : Int) : RunRec := { record31 verticals31 with figures := some (c i) }
    let s := gaugingStation 5000
    (r 300).figures = some (c 300) ∧ (r 300).flags = noGaugeFlags ∧
      (∀ v ∈ (r 300).verticals, { v.flags with alternateUsed := false } = noVertFlags) ∧ (c 300).stageGap = false ∧
      (c 300).unsteady = false ∧ (c 300).noRating = false ∧ (c 300).outOfRating = false ∧ ShiftsOrdered s.rat.shifts ∧
      (planHeader (s.tbl.plan (r 300).plan)).adopt = 1 ∧ s.clk.valid = true ∧
      |(300 : Int)| ≤ (cfgAdoptLimit s.tbl.config : Int) ∧ ¬ |(301 : Int)| ≤ (cfgAdoptLimit s.tbl.config : Int) ∧
      (r 301).figures = some (c 301) := by
  refine ⟨rfl, rfl, by decide +kernel, by decide +kernel, by decide +kernel, by decide +kernel, by decide +kernel,
    ordered_season, by decide +kernel, rfl, by decide +kernel, by decide +kernel, rfl⟩

/-- A complete run FAIR by a point that was held to the bottom, and POOR by each flag that a FAIR one may not carry. -/
theorem witness_GoodGaugingAdoptsItsShift_graded :
    let r (f : GaugeFlags) (v : VertFlags) : RunRec :=
      { record31 [{ vert 1 5000 600 420 1016 with flags := v }] with flags := f }
    let c : Calc := { emptyCalc with total := 5456 }
    let still (v : VertFlags) : VertFlags := { v with alternateUsed := true }
    (∀ v ∈ [{ noVertFlags with shallowPoint := true }, { noVertFlags with shallowVertical := true },
        { noVertFlags with noRotation := true }],
      FlaggedFair (r noGaugeFlags (still v)) ∧ ¬ FlaggedPoor (r noGaugeFlags (still v)) c) ∧
      (∀ v ∈ [{ noVertFlags with periodShort := true }, { noVertFlags with countClamped := true },
        { noVertFlags with velocityClamped := true }], FlaggedPoor (r noGaugeFlags v) c) ∧
      FlaggedPoor (r { noGaugeFlags with retrieveTimeout := true } noVertFlags) c ∧
      (∀ d ∈ [{ c with stageGap := true }, { c with unsteady := true }, { c with noRating := true },
        { c with outOfRating := true }], FlaggedPoor (r noGaugeFlags noVertFlags) d) := by
  simp only [FlaggedFair, FlaggedPoor]
  decide +kernel

/-- A rotor result on the breakpoint of the meter rating, one below it, and one without rotation; verticals with latches and
without; a spread of 50 mm, at the unsteady limit of the plan, and of 51 mm past it. -/
theorem witness_GoodGaugingAdoptsItsShift_computation :
    let h := planHeader plan31
    let r (n : Nat) (still : Bool) : RotorResult :=
      { mode := .gate, n := n, t := 60000, countClamped := false, periodShort := false, noRotation := still, p := 1,
        start := none, stop := 0 }
    let vs (a b : Option Int) : List DoneVert :=
      [{ vert 1 5000 600 420 0 with latch := a }, { vert 2 8000 1150 910 0 with latch := b }]
    (r 120 false).noRotation = false ∧ 0 < (r 120 false).p * (r 120 false).t ∧
      h.nBreak * (r 120 false).p * (r 120 false).t = (r 120 false).n * 1000000 ∧
      ¬ h.nBreak * (r 119 false).p * (r 119 false).t ≤ (r 119 false).n * 1000000 ∧ (r 0 true).noRotation = true ∧
      (vs none none).filterMap DoneVert.latch = [] ∧ vs none none ≠ [] ∧
      (vs (some 1000) none).filterMap DoneVert.latch = [1000] ∧ h.unsteadyLimit = 50 ∧
      (closeFigures plan31 (vs (some 1000) (some 1050)) none).unsteady = false ∧
      (closeFigures plan31 (vs (some 1051) (some 1000)) none).unsteady = true ∧
      (closeFigures plan31 (vs (some 1000) (some 1001)) none).gaugeHeight = some 1001 ∧
      (closeFigures plan31 (vs (some (-1000)) (some (-1001))) none).gaugeHeight = some (-1001) := by decide +kernel

/-- An item of each class sent whole; the lines in either state, a frame being assembled or not. -/
theorem witness_UplinkItemsEndAndAreAbandoned :
    ∀ c ∈ [ReportClass.reply, .warning, .forward, .gauging, .interval],
      let it : TxItem := { cls := c, number := 9003, frames := [List.replicate 12 0], elapsed := 1200 }
      let s : State := upStation.setUpl { upStation.upl with buffer := some it, assembling := true }
      s.resetLine = false ∧ s.upl.buffer = some it ∧
        (it.frames.map List.length).sum * uplinkChar s.upl.rate = it.elapsed ∧ s.upl.assembling = true ∧
        0 < uplinkChar s.upl.rate ∧ upStation.upl.assembling = false ∧ upStation.upl.buffer = none := by decide +kernel

/-- LINK high and no candidate in any class; and an item whose forward copy has left the queue. -/
theorem witness_UplinkItemsEndAndAreAbandoned_nothing :
    let s : State := upStation.setStore { records := [], nextSeq := 0, slotsUsed := 0 }
    let it : TxItem := { cls := .forward, number := 3, frames := [], elapsed := 0, dropped := true }
    s.lines.link = true ∧ s.upl.slot = none ∧ s.upl.fwdQ = [] ∧ s.upl.buffer = none ∧
      (∀ c, c = .warning ∨ c = .gauging ∨ c = .interval → oldestUnsent s.store.records c = none) ∧
      (s.setUpl { s.upl with buffer := some it }).itemEnded = true := by
  refine ⟨rfl, rfl, rfl, rfl, fun _ _ => rfl, by decide +kernel⟩

/-- A sync pair while hunting, an end while assembling, the gap of 251 ms after the last character; a frame of 200 characters, and queues of three and of four. -/
theorem witness_UplinkFramesReachTheControlQueue :
    let s := after (.syncPairReceived ⟨0, true⟩) State.reset
    let long := s.setUpl { s.upl with lastChar := some 749 }
    let q (n : Nat) : State := s.setCtl { s.ctl with queue := List.replicate n { origin := .uplink 0, payload := [9] } }
    State.reset.resetLine = false ∧ State.reset.upl.assembling = false ∧ s.upl.assembling = true ∧ s.resetLine = false ∧
      (control 1 7 (List.replicate 200 0)).payload.length = 200 ∧ (q 3).ctl.queue.length = 3 ∧
      (q 4).ctl.queue.length = 4 ∧ (q 4).upl.slot = none ∧ long.upl.assembling = true ∧
      (timed 1000 0 long).upl.lastChar = some 749 ∧ 749 + 250 < (timed 1000 0 long).now := by decide +kernel

/-- An effective stage below the rating, on its first, third and last breakpoint, between two, above the last, exactly at
the extrapolation limit and above it. -/
theorem witness_DischargeFollowsTheRating :
    let eff (h : Int) : Int := (instantDischarge rating12 none h).eff
    RatingGood rating12.points ∧ rating12.points.head? = some (200, 0) ∧ rating12.points.getLast? = some (2400, 52000) ∧
      (table19 120).eff < 200 ∧ (table19 1012).eff < 1100 ∧ 850 ≤ (table19 1012).eff ∧ 2400 < (table19 2690).eff ∧
      eff 200 = 200 ∧ eff 850 = 850 ∧ eff 2400 = 2400 ∧ eff 2401 = 2401 ∧ eff 3000 = 2400 + rating12.limit ∧
      eff 3001 = 2400 + rating12.limit + 1 := by
  refine ⟨⟨by decide, by decide, by decide⟩, rfl, rfl, ?_⟩
  decide +kernel

/-- A discharge below the rating and above it, at its ends and at a breakpoint within, and between two; an empty bank. -/
theorem witness_DischargeFollowsTheRating_inverse :
    let b : Bank := { rating12 with points := [(200, 40), (450, 180), (850, 1200)] }
    RatingGood b.points ∧ b.points.head? = some (200, 40) ∧ b.points.getLast? = some (850, 1200) ∧ 39 < 40 ∧
      1200 < 1201 ∧ (200, 40) ∈ b.points ∧ (450, 180) ∈ b.points ∧ (850, 1200) ∈ b.points ∧
      b.points[1]? = some (450, 180) ∧ b.points[2]? = some (850, 1200) ∧ 180 ≤ 1199 ∧ 1199 < 1200 ∧
      emptyBank.points = [] := by
  refine ⟨⟨by decide, by decide, by decide⟩, rfl, rfl, ?_⟩
  decide

theorem witness_EveryStepKeepsTheInterlock :
    let s := running .expose none (flood 1 [.triggered, .armed, .armed] (gaugingStation 0))
    InterlockKept s ∧ ∃ t, step s = .next t := ⟨⟨by decide +kernel, by decide +kernel⟩, _, rfl⟩

/-- A level held above its target by the stand-down timer. -/
theorem witness_EveryStepKeepsTheWarningConsistent :
    let f := flood 3 [.triggered, .armed, .armed] State.reset
    let s : State := f.setWrn
      { f.wrn with target := 1, standDown := some { start := 0, level := 3, expiry := 7200000 }, outputs := 7 }
    WarningConsistent s ∧ ∃ t, step s = .next t := by
  refine ⟨⟨by decide +kernel, by decide +kernel, by decide +kernel, ?_, by decide +kernel⟩, _, rfl⟩
  intro d h
  cases h
  rfl

/-- Three records whose numbers pass 65,535, and a run whose second vertical is in progress. -/
theorem witness_EveryStepKeepsTheStoreAndShifts :
    let s : State := (running .expose (some (vertical2 none)) (gaugingStation 0)).setStore (storeOf 65533 3 0)
    let u : State := s.setRun { s.run with record := some (record31 [vert 1 5000 600 420 1016]) }
    let t : State := u.setStore { s.store with nextSeq := 0 }
    (StoreConsistent t.store ∧ RunWithinPlan t ∧ ShiftsOrdered t.rat.shifts) ∧ ∃ w, step t = .next w := by
  refine ⟨⟨⟨⟨rfl, rfl, rfl⟩, by decide +kernel, rfl, by decide⟩, ⟨?_, ?_, ?_⟩, ordered_season⟩, _, rfl⟩
  · rintro r ⟨⟩
    decide
  · rintro r v ⟨⟩ ⟨⟩
    decide +kernel
  · rintro q ⟨⟩

theorem witness_EveryStepKeepsTheMarker :
    MarkerConsistent (running .expose none (gaugingStation 0)).run ∧
      ∃ t, step (running .expose none (gaugingStation 0)) = .next t :=
  ⟨⟨by decide +kernel, rfl, by decide +kernel⟩, _, rfl⟩

theorem witness_EveryStepKeepsTheGrantExclusive :
    GrantConsistent (granted .claiming .hold 32 0 (gaugingStation 0)).loop ∧
      GrantConsistent (granted .held .hold 32 0 (gaugingStation 0)).loop ∧
      ∃ t, step (granted .held .hold 32 0 (gaugingStation 0)) = .next t :=
  ⟨⟨by decide +kernel, by decide +kernel, by decide +kernel, by decide +kernel⟩,
    ⟨by decide +kernel, by decide +kernel, by decide +kernel, by decide +kernel⟩, _, rfl⟩

theorem witness_EveryStepKeepsTheStageSelection :
    let s := heard (source .stale 1240 1000000) (source .valid 1228 1870000) .secondary
    StageConsistent s ∧ ∃ t, step s = .next t := by
  refine ⟨?_, _, rfl⟩
  apply heard_consistent <;> decide

/-- Three requests wait, READY low; and a request is in hand. -/
theorem witness_EveryStepKeepsSizesAndView :
    let t := serving (.writeTable 1 359 [0]) (station 5000)
    let s : State :=
      (t.setCtl { t.ctl with queue := List.replicate 3 { origin := .uplink 0, payload := [9] } }).setUpl
        { t.upl with ready := false }
    (ViewConsistent s ∧ QueuesBounded s ∧ TablesSized s) ∧ ∃ u, step s = .next u := by
  refine ⟨⟨⟨rfl, by decide +kernel, by decide +kernel⟩, ⟨by decide +kernel, by decide, by decide, by decide, by decide,
    by decide⟩, ⟨?_, ?_⟩⟩, _, rfl⟩
  · decide +kernel
  · intro q h
    cases h
    decide

end Sys2Proof.Machine.Tests
end

section
/-! Laws of the replies (R189) and of the end of an event (R70): which way a reply goes, and that no frame of a SERVICE
reply is lost on it. -/

namespace Sys2Proof.Machine

/-! ## Frames of the SERVICE replies on their way (R189) -/

/-- The SERVICE-OUT frame that a frame of the command pair is, if it is one. -/
def CmdFrame.serviceFrames : CmdFrame → List SvcFrame
  | .service f => [f]
  | _ => []

/-- The fragments of a pending reply that wait in CTL. -/
def PendingReply.frames : PendingReply → List SvcFrame
  | .fragments fs => fs
  | .slot _ => []

theorem serviceOut_eq (s : State) :
    serviceOut s = (s.loop.tx.elim [] fun x => x.frame.serviceFrames) ++ s.loop.serviceQ.map Prod.fst ++
      s.ctl.pendingReply.elim [] PendingReply.frames := by
  have onPair : (match s.loop.tx with | some { frame := .service f, .. } => [f] | _ => []) =
      s.loop.tx.elim [] fun x => x.frame.serviceFrames := by
    rcases s.loop.tx with _ | ⟨_ | _ | _ | _, _⟩ <;> rfl
  have inCtl : (match s.ctl.pendingReply with | some (.fragments fs) => fs | _ => []) =
      s.ctl.pendingReply.elim [] PendingReply.frames := by
    rcases s.ctl.pendingReply with _ | _ | _ <;> rfl
  rw [← onPair, ← inCtl]
  rfl

/-- A frame taken off the waiting ones leaves the service queue from its head. -/
theorem Loop.takeWaiting_serviceFrames {l l' : Loop} {f : CmdFrame} (h : l.takeWaiting = some (f, l')) :
    f.serviceFrames ++ l'.serviceQ.map Prod.fst = l.serviceQ.map Prod.fst := by
  unfold Loop.takeWaiting at h
  split at h
  case h_1 hq =>
    split at h <;> cases h <;> simp [CmdFrame.serviceFrames, hq]
  case h_2 hq | h_3 hq =>
    cases h
    simp [CmdFrame.serviceFrames, hq]
  case h_4 => cases h

theorem Loop.takeOpening_serviceFrames {l l' : Loop} {f : CmdFrame} (h : l.takeOpening = some (f, l')) :
    f.serviceFrames = [] ∧ l'.serviceQ = l.serviceQ := by
  unfold Loop.takeOpening at h
  (repeat' split at h) <;> cases h
  exact ⟨rfl, rfl⟩

theorem Loop.takeNext_serviceFrames {l l' : Loop} {f : CmdFrame} (h : l.takeNext = some (f, l')) :
    f.serviceFrames ++ l'.serviceQ.map Prod.fst = l.serviceQ.map Prod.fst := by
  unfold Loop.takeNext at h
  split at h
  · cases h
    rfl
  · split at h
    · next hw =>
      cases h
      exact takeWaiting_serviceFrames hw
    · obtain ⟨hf, hq⟩ := takeOpening_serviceFrames h
      simp [hf, hq]

theorem feedService_of_frames {s : State} {fs : List SvcFrame} (h : s.ctl.pendingReply = some (.fragments fs)) :
    ∃ entries : List (SvcFrame × Nat),
      entries.map Prod.fst = fs.take (4 - s.loop.serviceQ.length) ∧
      (feedService s).loop.serviceQ = s.loop.serviceQ ++ entries ∧
      (feedService s).ctl.pendingReply.elim [] PendingReply.frames = fs.drop (4 - s.loop.serviceQ.length) ∧
      ((feedService s).ctl.inHand = s.ctl.inHand ∨ (feedService s).ctl.inHand = none) := by
  refine ⟨(fs.take (4 - s.loop.serviceQ.length)).zipIdx.map fun (f, i) => (f, s.loop.handNo + i), ?_, ?_⟩
  · rw [List.map_map]
    exact List.zipIdx_map_fst 0 _
  · unfold feedService
    simp only [h]
    split
    · next hleft => simp_all
    · simp [PendingReply.frames]

/-- Without fragments in CTL there is nothing to feed. -/
theorem feedService_of_noFrames {s : State} (h : ∀ fs, s.ctl.pendingReply ≠ some (.fragments fs)) :
    feedService s = s := by
  unfold feedService
  split
  · next fs hfs => exact absurd hfs (h fs)
  · rfl

theorem serviceOut_feedService (s : State) : serviceOut (feedService s) = serviceOut s := by
  by_cases h : ∃ fs, s.ctl.pendingReply = some (.fragments fs)
  · obtain ⟨fs, hfs⟩ := h
    obtain ⟨entries, hentries, hq, hleft, -⟩ := feedService_of_frames hfs
    simp [serviceOut_eq, hq, hleft, hentries, hfs, PendingReply.frames]
  · rw [feedService_of_noFrames (not_exists.mp h)]

theorem feedService_inHand (s : State) :
    (feedService s).ctl.inHand = s.ctl.inHand ∨ (feedService s).ctl.inHand = none := by
  by_cases h : ∃ fs, s.ctl.pendingReply = some (.fragments fs)
  · obtain ⟨fs, hfs⟩ := h
    obtain ⟨_, -, -, -, hinHand⟩ := feedService_of_frames hfs
    exact hinHand
  · exact .inl (by rw [feedService_of_noFrames (not_exists.mp h)])

/-! ## The end of an event (R65, R70, R82, R189) -/

/-- R70: either the transmitter takes nothing, or it is idle and takes the next frame, and CTL fills the place freed. -/
theorem kickFrom_cases (t : Nat) (s : State) :
    kickFrom t s = s ∨ ∃ f l doneAt, s.loop.tx = none ∧ s.loop.takeNext = some (f, l) ∧
      kickFrom t s = feedService (s.setLoop { l with tx := some { frame := f, doneAt := doneAt } }) := by
  unfold kickFrom
  split
  · exact .inl rfl
  · next htx =>
    split
    · next f l hnext => exact .inr ⟨f, l, _, htx, hnext, rfl⟩
    · exact .inl rfl

theorem serviceOut_kickFrom (t : Nat) (s : State) : serviceOut (kickFrom t s) = serviceOut s := by
  obtain hidle | ⟨f, l, doneAt, htx, hnext, hkick⟩ := kickFrom_cases t s
  · rw [hidle]
  · rw [hkick, serviceOut_feedService]
    simp [serviceOut_eq, htx, ← Loop.takeNext_serviceFrames hnext]

/-- No frame of a SERVICE reply is lost or passed by another at the end of an event. -/
@[simp] theorem serviceOut_settle (s : State) : serviceOut (settle s) = serviceOut s := by
  rw [settle, settleFrom, serviceOut_kickFrom]
  simp [serviceOut_eq]

theorem kickFrom_inHand (t : Nat) (s : State) :
    (kickFrom t s).ctl.inHand = s.ctl.inHand ∨ (kickFrom t s).ctl.inHand = none := by
  obtain hidle | ⟨_, _, _, -, -, hkick⟩ := kickFrom_cases t s
  · exact .inl (by rw [hidle])
  · rw [hkick]
    exact feedService_inHand _

theorem settle_inHand (s : State) : (settle s).ctl.inHand = s.ctl.inHand ∨ (settle s).ctl.inHand = none := by
  simpa [settle, settleFrom] using kickFrom_inHand s.fineNow (choose (rateEffect s))

theorem State.work_eq_none_of_inHand {s t : State} (h : t.ctl.inHand = s.ctl.inHand ∨ t.ctl.inHand = none)
    (hs : s.work = none) : t.work = none := by
  obtain h | h := h
  · rwa [State.work, h]
  · rw [State.work, h]
    rfl

theorem kickFrom_ctl {t : Nat} {s : State} (h : ∀ fs, s.ctl.pendingReply ≠ some (.fragments fs)) :
    (kickFrom t s).ctl = s.ctl := by
  obtain hidle | ⟨_, _, _, -, -, hkick⟩ := kickFrom_cases t s
  · rw [hidle]
  · rw [hkick, feedService_of_noFrames (by simpa using h)]
    rfl

/-- With no fragments waiting, the end of an event leaves CTL. -/
theorem settle_ctl {s : State} (h : ∀ fs, s.ctl.pendingReply ≠ some (.fragments fs)) : (settle s).ctl = s.ctl := by
  rw [settle, settleFrom, kickFrom_ctl (by simpa using h)]
  simp

/-! ## The way of a reply (R189) -/

theorem sendReply_toSlot {s : State} {h : InHand} {seq : Half} (payload : List Byte) (hin : s.ctl.inHand = some h)
    (horigin : h.request.origin = .uplink seq) (hslot : s.upl.slot = none) :
    sendReply payload s = placeReply { seq := seq, payload := payload } s := by
  simp [sendReply, hin, horigin, hslot]

theorem sendReply_behindSlot {s : State} {h : InHand} {seq : Half} (payload : List Byte) (hin : s.ctl.inHand = some h)
    (horigin : h.request.origin = .uplink seq) (hslot : s.upl.slot ≠ none) :
    sendReply payload s =
      s.setCtl { s.ctl with
        pendingReply := some (.slot { seq := seq, payload := payload }), inHand := some { h with work := none } } := by
  simp [sendReply, hin, horigin, hslot]

theorem sendReply_toNode {s : State} {h : InHand} {addr : Nat} (payload : List Byte) (hin : s.ctl.inHand = some h)
    (horigin : h.request.origin = .service addr) :
    sendReply payload s =
      feedService (s.setCtl { s.ctl with
        pendingReply := some (.fragments (fragmentsOf addr s.ctl.resetWait.isSome payload.length 0 payload)),
        inHand := some { h with work := none } }) := by
  simp [sendReply, hin, horigin]

theorem placeReply_placed (r : Reply) (s : State) :
    (placeReply r s).upl.slot = some r ∧ (placeReply r s).ctl.inHand = none ∧
      (placeReply r s).ctl.pendingReply = none := by
  simp [placeReply, placeInSlot]

/-- R189: what is sent for a request in hand, with no reply pending, goes its way. -/
theorem replied_settle_sendReply {s : State} {h : InHand} (payload : List Byte) (hin : s.ctl.inHand = some h)
    (hfree : s.ctl.pendingReply = none) : Replied s (settle (sendReply payload s)) payload := by
  unfold Replied
  rw [hin]
  cases horigin : h.request.origin with
  | uplink seq =>
    simp only [Option.map_some, horigin]
    split
    case isTrue hslot =>
      rw [sendReply_toSlot payload hin horigin hslot]
      obtain ⟨hplaced, hdone, hnone⟩ := placeReply_placed { seq := seq, payload := payload } s
      rw [settle_ctl (by simp [hnone])]
      exact ⟨by simpa using hplaced, hdone, hnone⟩
    case isFalse hslot =>
      rw [sendReply_behindSlot payload hin horigin hslot]
      refine ⟨by simp, ?_, State.work_eq_none_of_inHand (settle_inHand _) rfl⟩
      rw [settle_ctl (by simp)]
      rfl
  | service addr =>
    simp only [Option.map_some, horigin]
    rw [sendReply_toNode payload hin horigin]
    refine ⟨by simp, ?_, ?_⟩
    · exact State.work_eq_none_of_inHand (settle_inHand _) (State.work_eq_none_of_inHand (feedService_inHand _) rfl)
    · rw [serviceOut_settle, serviceOut_feedService]
      simp [serviceOut_eq, hfree, PendingReply.frames]

theorem Serving.inHand {s : State} {q : Req} (h : Serving s q) : ∃ i, s.ctl.inHand = some i := by
  obtain ⟨i, hin, -⟩ := Option.bind_eq_some_iff.mp h.work
  exact ⟨i, hin⟩

/-- R189: the answer to the request in hand goes its way. -/
theorem Serving.replied {s : State} {q : Req} (h : Serving s q) (code : Byte) (fields : List Byte) :
    Replied s (settle (answer code fields s)) (s.codeInHand :: code :: fields) := by
  obtain ⟨i, hin⟩ := h.inHand
  exact replied_settle_sendReply _ hin h.noReply

/-! ## The frame of a request -/

theorem sendReply_resetWait {s : State} (payload : List Byte) (h : s.ctl.resetWait = none) :
    (sendReply payload s).ctl.resetWait = none := by
  unfold sendReply
  (repeat' split) <;> simp [placeReply, placeInSlot, h]

/-- The answer to a request changes no more than every request may. -/
theorem Serving.requestFrame {s : State} {q : Req} (h : Serving s q) (code : Byte) (fields : List Byte) :
    RequestFrame [] s (settle (answer code fields s)) where
  others b hb := by cases b <;> simp_all [Block.same]
  ctl :=
    { queue := by simp
      resetWait := by
        rw [h.noReset]
        simpa [answer] using sendReply_resetWait (s.codeInHand :: code :: fields) h.noReset
      droppedBusy := by simp
      lastRefusal := by simp }
  loop := by constructor <;> simp
  upl := by constructor <;> simp
  ready := by simp

/-- A request that has changed RAT before its answer has RAT in its frame. -/
theorem RequestFrame.of_setRat {s t : State} {r : Rat} (h : RequestFrame [] (s.setRat r) t) :
    RequestFrame [.rat] s t where
  others b hb := by
    have hsame := h.others b (by simp_all)
    cases b <;> simp_all [Block.same]
  ctl := h.ctl
  loop := h.loop
  upl := h.upl
  ready := h.ready

theorem Serving.setRat {s : State} {q : Req} (h : Serving s q) (r : Rat) : Serving (s.setRat r) q :=
  ⟨h.awake, h.work, h.noReply, h.noReset⟩

theorem Replied.of_setRat {s t : State} {r : Rat} {payload : List Byte} (h : Replied (s.setRat r) t payload) :
    Replied s t payload := h

theorem taken_of_awake {s : State} (h : s.resetLine = false) (f : State → State) : taken s f = .next (f s) := by
  simp [taken, h]

end Sys2Proof.Machine
end

section
/-! The shift table (R26, R29, R31). -/

namespace Sys2Proof.Machine

theorem ShiftsOrdered.filter {rs : List ShiftRec} (h : ShiftsOrdered rs) (p : ShiftRec → Bool) :
    ShiftsOrdered (rs.filter p) :=
  ⟨(List.length_filter_le p rs).trans h.1, h.2.sublist (List.filter_sublist.map _)⟩

/-- In a table in order, the last record is the one with the latest start time. -/
theorem ShiftsOrdered.getLast?_eq_some_iff {rs : List ShiftRec} (h : ShiftsOrdered rs) (x : ShiftRec) :
    rs.getLast? = some x ↔ x ∈ rs ∧ ∀ y ∈ rs, y.start ≤ x.start := by
  obtain rfl | ⟨init, last, rfl⟩ := rs.eq_nil_or_concat'
  · simp
  · have before : ∀ y ∈ init, y.start < last.start := by
      obtain ⟨-, hsorted⟩ := h
      rw [List.map_append, List.pairwise_append] at hsorted
      obtain ⟨-, -, hcross⟩ := hsorted
      simpa using hcross
    constructor
    · intro hlast
      obtain rfl : last = x := by simpa using hlast
      simpa [or_imp, forall_and] using fun y hy => (before y hy).le
    · rintro ⟨hx, hmax⟩
      obtain hx | rfl := by simpa using hx
      · exact absurd (before x hx) (hmax last (by simp)).not_gt
      · simp

/-- R31: the record that applies is the one with the latest start time at or before a VALID clock. -/
theorem ShiftsOrdered.applicable_eq_some_iff {rs : List ShiftRec} (h : ShiftsOrdered rs) (c : Clocks) (x : ShiftRec) :
    applicable rs c = some x ↔
      c.valid = true ∧ x ∈ rs ∧ x.start ≤ c.time ∧ ∀ y ∈ rs, y.start ≤ c.time → y.start ≤ x.start := by
  unfold applicable
  split
  · next hvalid =>
    rw [(h.filter _).getLast?_eq_some_iff]
    simp [hvalid, and_assoc]
  · next hvalid => simp [hvalid]

theorem filter_start_ne_of_absent {start : Nat} {rs : List ShiftRec} (h : ¬ ∃ x ∈ rs, x.start = start) :
    (rs.filter fun x => x.start ≠ start) = rs :=
  List.filter_eq_self.mpr fun x hx => by simpa using fun hstart => h ⟨x, hx, hstart⟩

/-- The reply code and fields of DELETE-SHIFT (Table 68). -/
def deleteShiftAnswer (start : Nat) (rs : List ShiftRec) : Byte × List Byte :=
  if ∃ x ∈ rs, x.start = start then (replyOk, beNat 1 (rs.filter fun x => x.start ≠ start).length)
  else (replyInvalid, faultFields 255 0)

/-- R29: DELETE-SHIFT leaves the table without the records of the start time, whether or not there was one, and answers. -/
theorem exec_deleteShift {s : State} {start : Nat} (h : Serving s (.deleteShift start)) :
    exec .deleteShift s = .next
      (settle (answer (deleteShiftAnswer start s.rat.shifts).1 (deleteShiftAnswer start s.rat.shifts).2
        (s.setRat { s.rat with shifts := s.rat.shifts.filter fun x => x.start ≠ start }))) := by
  have hexec : exec .deleteShift s = execDeleteShift s := rfl
  rw [hexec, execDeleteShift, taken_of_awake h.awake]
  simp only [h.work]
  by_cases hheld : ∃ x ∈ s.rat.shifts, x.start = start
  · have hany : (s.rat.shifts.any fun r => r.start == start) = true := by simpa using hheld
    have hleft : (fun r : ShiftRec => r.start != start) = fun r => decide (r.start ≠ start) := by
      funext r
      rw [Bool.eq_iff_iff]
      simp
    rw [if_pos hany, deleteShiftAnswer, if_pos hheld, hleft]
  · have hany : ¬ (s.rat.shifts.any fun r => r.start == start) = true := by simpa using hheld
    rw [if_neg hany, deleteShiftAnswer, if_neg hheld, filter_start_ne_of_absent hheld]
    rfl

/-- R29: what DELETE-SHIFT does to RAT, with the frame and the way of its answer. -/
theorem exec_deleteShift_effect {s : State} {start : Nat} (h : Serving s (.deleteShift start)) :
    ∃ t, exec .deleteShift s = .next t ∧ RequestFrame [.rat] s t ∧
      t.rat = { s.rat with shifts := s.rat.shifts.filter fun x => x.start ≠ start } ∧
      Replied s t
        (s.codeInHand :: (deleteShiftAnswer start s.rat.shifts).1 :: (deleteShiftAnswer start s.rat.shifts).2) := by
  have hleft := h.setRat { s.rat with shifts := s.rat.shifts.filter fun x => x.start ≠ start }
  exact ⟨_, exec_deleteShift h, (hleft.requestFrame _ _).of_setRat, by simp, (hleft.replied _ _).of_setRat⟩

/-- Settles O20: the table left is the filtered one in either case, and only the answer depends on whether a record of
that start time was held. -/
theorem deleteShiftRemovesTheRecord : Obligations.DeleteShiftRemovesTheRecord := by
  intro s start hserving hordered
  obtain ⟨t, hexec, hframe, hrat, hreplied⟩ := exec_deleteShift_effect hserving
  have hleft : ShiftsOrdered t.rat.shifts := by
    rw [hrat]
    exact hordered.filter _
  refine ⟨t, hexec, hframe, by rw [hrat], by rw [hrat], by rw [hrat], hleft, hleft.applicable_eq_some_iff t.clk, ?_⟩
  rw [hrat]
  split
  case isTrue hheld =>
    rwa [deleteShiftAnswer, if_pos hheld] at hreplied
  case isFalse habsent =>
    rw [deleteShiftAnswer, if_neg habsent] at hreplied
    exact ⟨hreplied, filter_start_ne_of_absent habsent⟩

end Sys2Proof.Machine
end

section
/-! The effective stage (R33). -/

namespace Sys2Proof.Machine

theorem clampInt_eq_max_min {lo hi : Int} (h : lo ≤ hi) (n : Int) : clampInt lo hi n = max lo (min hi n) := by
  unfold clampInt
  split
  · omega
  · split <;> omega

/-- R33: what the result carries of the stage, whichever way the rating is then entered. -/
theorem instantDischarge_stage (b : Bank) (rec : Option ShiftRec) (h : Int) :
    (instantDischarge b rec h).stage = h ∧ (instantDischarge b rec h).shift = shiftAt rec h ∧
      (instantDischarge b rec h).eff = clampInt (-2000) 20000 (h + shiftAt rec h) ∧
      (instantDischarge b rec h).clamped =
        decide (clampInt (-2000) 20000 (h + shiftAt rec h) ≠ h + shiftAt rec h) := by
  unfold instantDischarge
  dsimp only
  (repeat' split) <;> exact ⟨rfl, rfl, rfl, rfl⟩

theorem instantDischarge_of_empty {b : Bank} (hempty : b.points = []) (rec : Option ShiftRec) (h : Int) :
    (instantDischarge b rec h).discharge = none ∧ (instantDischarge b rec h).noRating = true := by
  simp [instantDischarge, hempty]

/-- Settles O51: the clamp is a `max` of a `min`, and it moves a sum exactly when that lies outside the range. -/
theorem effectiveStageIsHeldInRange : Obligations.EffectiveStageIsHeldInRange := by
  intro b rec h
  obtain ⟨hstage, hshift, heff, hclamped⟩ := instantDischarge_stage b rec h
  rw [clampInt_eq_max_min (by omega)] at heff hclamped
  refine ⟨hstage, hshift, by rw [hshift, heff], ?_, ?_, ?_, fun hempty => instantDischarge_of_empty hempty rec h⟩
  · omega
  · omega
  · rw [hclamped, hshift, decide_eq_true_iff]
    omega

end Sys2Proof.Machine
end

section
/-! The frame of an event that ends in LOOP's work (R70, R82). -/

namespace Sys2Proof.Machine

/-- An event that changes only the parts listed has them for its frame. -/
theorem ChangesOnly.eventFrame {bs : List Block} {s t : State} (h : ChangesOnly bs s t) : EventFrame bs s t where
  others b hb := h b (by simp_all)
  ctl hb := by
    have hctl : t.ctl = s.ctl := h .ctl hb
    constructor <;> rw [hctl]
  loop hb := by
    have hloop : t.loop = s.loop := h .loop hb
    constructor <;> rw [hloop]

/-- The end of an event stays within the frame of the event. -/
theorem EventFrame.settle {bs : List Block} {s t : State} (h : EventFrame bs s t) :
    EventFrame bs s (settle t) where
  others b hb := by
    have hsame := h.others b hb
    cases b
    case loop | ctl => simp at hb
    all_goals simpa [Block.same] using hsame
  ctl hb := by
    obtain ⟨hqueue, hreset, hdropped, hrefusal⟩ := h.ctl hb
    constructor <;> simpa
  loop hb := by
    obtain ⟨hrx, hjam, hbreak, hlow, hhigh, hfail, hfaults, hunsolicited, hdropped⟩ := h.loop hb
    constructor <;> simpa

end Sys2Proof.Machine
end

section
/-! SETTLE and the arm of the rotor at the entry to EXPOSE (R117, R143, R144). -/

namespace Sys2Proof.Machine

/-! ## The arm of the rotor (R117) -/

theorem clampNat_eq_max_min {lo hi : Nat} (h : lo ≤ hi) (n : Nat) : clampNat lo hi n = max lo (min hi n) := by
  unfold clampNat
  split
  · omega
  · split <;> omega

theorem RotorMode.ofCode_eq (code : Nat) : RotorMode.ofCode code = if code = 1 then .period else .gate := by
  unfold RotorMode.ofCode
  split
  · rfl
  · next hother => rw [if_neg hother]

/-- R117: what an arm does in either mode. -/
theorem armRotor_values (mode : RotorMode) (exposure revs p missTimeout now : Nat) :
    (armRotor mode exposure revs p missTimeout now).result = none ∧
      (armRotor mode exposure revs p missTimeout now).count = 0 ∧
      (armRotor mode exposure revs p missTimeout now).missAt = some (now + missTimeout) ∧
      (armRotor mode exposure revs p missTimeout now).mode = mode ∧
      (armRotor mode exposure revs p missTimeout now).exposure = max 10 (min 300 exposure) ∧
      (armRotor mode exposure revs p missTimeout now).revs = max 1 (min 1000 revs) ∧
      (armRotor mode exposure revs p missTimeout now).p = max 1 (min 16 p) :=
  ⟨rfl, rfl, rfl, rfl, clampNat_eq_max_min (by decide) _, clampNat_eq_max_min (by decide) _,
    clampNat_eq_max_min (by decide) _⟩

/-- R117, R119: a PERIOD measurement waits for its first closure. -/
theorem armRotor_period (exposure revs p missTimeout now : Nat) :
    (armRotor .period exposure revs p missTimeout now).state = .armed ∧
      (armRotor .period exposure revs p missTimeout now).start = none ∧
      (armRotor .period exposure revs p missTimeout now).exposureAt = none := ⟨rfl, rfl, rfl⟩

/-- R117, R118: a GATE measurement counts from the arm. -/
theorem armRotor_gate (exposure revs p missTimeout now : Nat) :
    (armRotor .gate exposure revs p missTimeout now).state = .counting ∧
      (armRotor .gate exposure revs p missTimeout now).start = some now ∧
      (armRotor .gate exposure revs p missTimeout now).exposureAt =
        some (now + 1000 * max 10 (min 300 exposure)) := by
  refine ⟨rfl, rfl, ?_⟩
  rw [← clampNat_eq_max_min (by decide)]
  rfl

/-! ## The entry to EXPOSE (R144) -/

@[simp] theorem enterExpose_state (s : State) : (enterExpose s).run.state = .expose := rfl

@[simp] theorem enterExpose_settleAt (s : State) : (enterExpose s).run.settleAt = none := rfl

theorem enterExpose_rotor (s : State) :
    (enterExpose s).pls.rotor =
      armRotor (if s.header.exposureMode = 1 then .period else .gate) s.header.exposure s.header.revs s.header.p
        (cfgMissingPulse s.tbl.config) s.now := by
  rw [← RotorMode.ofCode_eq]
  rfl

theorem enterExpose_changesOnly (s : State) : ChangesOnly [.pls, .run] s (enterExpose s) := by
  intro b hb
  cases b
  case pls | run => simp at hb
  all_goals simp [Block.same]

/-! ## The entry to SETTLE and its end (R143) -/

theorem enterSettle_of_settle_ne_zero {s : State} (h : s.header.settle ≠ 0) :
    enterSettle s =
      s.setRun { (s.run.stopCable s.now).enter .settle with settleAt := some (s.now + 1000 * s.header.settle) } := by
  simp [enterSettle, h]

theorem enterSettle_state_of_settle_eq_zero {s : State} (h : s.header.settle = 0) :
    (enterSettle s).run.state = .expose := by
  simp [enterSettle, h]

theorem State.settleDue_of_expired {s : State} {e : Nat} (hstate : s.run.state = .settle)
    (htimer : s.run.settleAt = some e) (hpast : e ≤ s.now) : s.settleDue = true := by
  simp [State.settleDue, dueAt, hstate, htimer, hpast]

theorem exec_settleExpiry_of_due {s : State} (hawake : s.resetLine = false) (hdue : s.settleDue = true) :
    exec .settleExpiry s = .next (settle (enterExpose s)) := by
  have hexec : exec .settleExpiry s = execSettleExpiry s := rfl
  rw [hexec, execSettleExpiry, taken_of_awake hawake, if_pos hdue]

/-- Settles O45: the expiry is the entry to EXPOSE and the end of the event, which leaves RUN and PLS; the clauses of
the rotor are those of its arm, by the mode. -/
theorem settleLastsThePlansTime : Obligations.SettleLastsThePlansTime := by
  refine ⟨fun s hsettle => ?_, fun s => enterSettle_state_of_settle_eq_zero,
    fun s e hawake hstate htimer hpast => ?_⟩
  · rw [enterSettle_of_settle_ne_zero hsettle]
    exact ⟨rfl, rfl, rfl⟩
  · have hdue := State.settleDue_of_expired hstate htimer hpast
    have hpls : (settle (enterExpose s)).pls = (enterExpose s).pls := by simp
    refine ⟨_, exec_settleExpiry_of_due hawake hdue, (enterExpose_changesOnly s).eventFrame.settle, by simp, by simp,
      by simp, by simp, ?_⟩
    rw [hpls, enterExpose_rotor]
    obtain ⟨hresult, hcount, hmiss, hmode, hexposure, hrevs, hp⟩ :=
      armRotor_values (if s.header.exposureMode = 1 then .period else .gate) s.header.exposure s.header.revs s.header.p
        (cfgMissingPulse s.tbl.config) s.now
    refine ⟨hresult, hcount, hmiss, hmode, hexposure, hrevs, hp, fun hperiod => ?_, fun hgate => ?_⟩
    · rw [if_pos hperiod]
      exact armRotor_period _ _ _ _ _
    · rw [if_neg hgate]
      exact armRotor_gate _ _ _ _ _

end Sys2Proof.Machine
end

section
/-! What one event keeps (R48 to R63, R82, R88, R133, R170 to R193): the properties of every step as one relation between
the state before and after, made transitive so that an event is followed from operation to operation. -/

namespace Sys2Proof.Machine

set_option Elab.async false

/-- `InterlockKept`, but for a level below `b`: what stands between a CONFIG write and the abort that R60 makes of it, `b`
being the stop level before the write. -/
def InterlockBelow (b : Nat) (s : State) : Prop :=
  s.wrn.target ≤ s.wrn.level ∧
    (cfgStopLevel s.tbl.config ≤ s.wrn.level → s.wrn.level < b ∨ s.run.state.working = false)

theorem interlockBelow_zero_iff (s : State) : InterlockBelow 0 s ↔ InterlockKept s := by
  simp [InterlockBelow, InterlockKept]

/-- What every step keeps of store, run and shift table together (R161 bounds a record by the run). -/
def StoreAndPlan (s : State) : Prop := StoreConsistent s.store ∧ RunWithinPlan s ∧ ShiftsOrdered s.rat.shifts

/-- From `s` to `t` the properties are kept that say nothing of WRN. -/
structure PartsKept (s t : State) : Prop where
  store : StoreAndPlan s → StoreAndPlan t
  marker : MarkerConsistent s.run → MarkerConsistent t.run
  grant : GrantConsistent s.loop → GrantConsistent t.loop
  view : ViewConsistent s → ViewConsistent t
  queues : QueuesBounded s → QueuesBounded t
  tables : TablesSized s → TablesSized t

/-- From `s` to `t` every property is kept that concerns WRN, RUN, LOOP, REC or the tables. -/
structure Kept (s t : State) : Prop extends PartsKept s t where
  interlock : ∀ b, InterlockBelow b s → InterlockBelow b t
  warning : WarningConsistent s → WarningConsistent t

theorem PartsKept.refl (s : State) : PartsKept s s := ⟨id, id, id, id, id, id⟩

theorem PartsKept.trans {s t u : State} (h : PartsKept s t) (k : PartsKept t u) : PartsKept s u where
  store := k.store ∘ h.store
  marker := k.marker ∘ h.marker
  grant := k.grant ∘ h.grant
  view := k.view ∘ h.view
  queues := k.queues ∘ h.queues
  tables := k.tables ∘ h.tables

theorem Kept.refl (s : State) : Kept s s where
  toPartsKept := .refl s
  interlock _ := id
  warning := id

theorem Kept.trans {s t u : State} (h : Kept s t) (k : Kept t u) : Kept s u where
  toPartsKept := h.toPartsKept.trans k.toPartsKept
  interlock b := k.interlock b ∘ h.interlock b
  warning := k.warning ∘ h.warning

/-! ## The fields that the properties read -/

/-- What the properties read of RUN is the same. -/
structure RunStill (s t : State) : Prop where
  state : t.run.state = s.run.state := by simp
  marker : t.run.marker = s.run.marker := by simp
  held : t.run.held = s.run.held := by simp
  record : t.run.record = s.run.record := by simp
  vertical : t.run.vertical = s.run.vertical := by simp

/-- What the properties read of the grant and the reply pair is the same. -/
structure GrantStill (s t : State) : Prop where
  state : t.loop.grant.state = s.loop.grant.state := by simp
  timerAt : t.loop.grant.timerAt = s.loop.grant.timerAt := by simp
  cause : t.loop.grant.cause = s.loop.grant.cause := by simp
  recorded : t.loop.grant.recorded = s.loop.grant.recorded := by simp
  txn : s.loop.txn = none → t.loop.txn = none := by simp

/-- What the properties read of the tables, the view, the store and the request in hand is the same. -/
structure TablesStill (s t : State) : Prop where
  tbl : t.tbl = s.tbl := by simp
  view : t.cht.view = s.cht.view := by simp
  shifts : t.rat.shifts = s.rat.shifts := by simp
  store : t.store = s.store := by simp
  work : t.work = s.work ∨ t.work = none := by simp [State.work]

/-- R185, R188: the control queue is bounded and READY follows it. -/
def ControlReady (s : State) : Prop :=
  s.ctl.queue.length ≤ 4 ∧ (3 ≤ s.ctl.queue.length → s.upl.ready = false) ∧
    (s.ctl.queue.length ≤ 1 → s.upl.ready = true)

/-- The queues, the ring and the schedule keep their sizes. -/
structure SizesStill (s t : State) : Prop where
  history : s.stg.history.length = 64 → t.stg.history.length = 64 := by simp
  control : ControlReady s → ControlReady t := by simp [ControlReady]
  service : s.loop.serviceQ.length ≤ 4 → t.loop.serviceQ.length ≤ 4 := by simp
  forward : s.upl.fwdQ.length ≤ 8 → t.upl.fwdQ.length ≤ 8 := by simp
  sched : t.loop.sched.map Option.isSome = s.loop.sched.map Option.isSome := by simp

theorem RunStill.marker_kept {s t : State} (h : RunStill s t) (k : MarkerConsistent s.run) : MarkerConsistent t.run := by
  obtain ⟨hpresent, hheld, hrecord⟩ := k
  exact ⟨by rw [h.marker, h.state, hpresent], by rw [h.held, h.marker, hheld], by rw [h.record, h.state, hrecord]⟩

theorem GrantStill.grant_kept {s t : State} (h : GrantStill s t) (k : GrantConsistent s.loop) :
    GrantConsistent t.loop where
  exclusive := by
    simpa only [Grant.held, h.state] using h.txn ∘ k.exclusive
  timer := by simpa only [h.timerAt, h.state] using k.timer
  cause := by simpa only [h.cause, h.state] using k.cause
  recorded := by simpa only [h.recorded, h.state] using k.recorded

theorem RunWithinPlan.congr {s t : State} (run : RunStill s t) (tbl : t.tbl = s.tbl)
    (work : t.work = s.work ∨ t.work = none) (k : RunWithinPlan s) : RunWithinPlan t where
  done := by simpa only [run.record] using k.done
  going := by simpa only [run.record, run.vertical, run.marker, tbl] using k.going
  asked q hq := by
    obtain h | h := work
    · exact k.asked q (h ▸ hq)
    · simp [h] at hq

theorem poll?_isSome_eq (l : Loop) (i : Nat) : (l.poll? i).isSome = (l.sched.map Option.isSome).getD i false := by
  unfold Loop.poll?
  rw [List.getD_eq_getElem?_getD, List.getD_eq_getElem?_getD, List.getElem?_map]
  cases l.sched[i]? <;> rfl

theorem ViewConsistent.congr {s t : State} (tbl : t.tbl = s.tbl) (view : t.cht.view = s.cht.view)
    (sched : t.loop.sched.map Option.isSome = s.loop.sched.map Option.isSome) (k : ViewConsistent s) :
    ViewConsistent t where
  view := by rw [view, tbl, k.view]
  size := by
    have hlength := congrArg List.length sched
    simpa only [List.length_map, k.size] using hlength
  polls i hi := by
    rw [poll?_isSome_eq, sched, ← poll?_isSome_eq, view]
    exact k.polls i hi

theorem QueuesBounded.controlReady {s : State} (h : QueuesBounded s) : ControlReady s := ⟨h.control, h.low, h.high⟩

theorem SizesStill.queues_kept {s t : State} (h : SizesStill s t) (k : QueuesBounded s) : QueuesBounded t := by
  obtain ⟨hcontrol, hlow, hhigh⟩ := h.control k.controlReady
  exact ⟨h.history k.history, hcontrol, h.service k.service, h.forward k.forward, hlow, hhigh⟩

theorem State.tableBytes_congr {s t : State} (h : t.tbl = s.tbl) {n : Nat} (h3 : n ≠ 3) (h4 : n ≠ 4) :
    t.tableBytes n = s.tableBytes n := by
  unfold State.tableBytes
  split <;> simp_all

theorem TablesSized.congr {s t : State} (tbl : t.tbl = s.tbl) (work : t.work = s.work ∨ t.work = none)
    (k : TablesSized s) : TablesSized t where
  size n hn h3 h4 := by rw [State.tableBytes_congr tbl h3 h4]; exact k.size n hn h3 h4
  work q hq := by
    obtain h | h := work
    · exact k.work q (h ▸ hq)
    · simp [h] at hq

theorem StoreAndPlan.congr {s t : State} (run : RunStill s t) (tables : TablesStill s t) (h : StoreAndPlan s) :
    StoreAndPlan t := by
  obtain ⟨hstore, hplan, hshifts⟩ := h
  exact ⟨by rwa [tables.store], hplan.congr run tables.tbl tables.work, by rwa [tables.shifts]⟩

/-- An event that leaves what the properties read of RUN and the tables, and keeps the sizes and the grant. -/
theorem PartsKept.of_grant {s t : State} (grant : GrantConsistent s.loop → GrantConsistent t.loop)
    (run : RunStill s t := by exact {}) (tables : TablesStill s t := by exact {}) (sizes : SizesStill s t := by exact {}) :
    PartsKept s t where
  store := .congr run tables
  marker := run.marker_kept
  grant := grant
  view := .congr tables.tbl tables.view sizes.sched
  queues := sizes.queues_kept
  tables := .congr tables.tbl tables.work

/-- An event that leaves all that the properties read of the parts other than WRN. -/
theorem PartsKept.of_still {s t : State} (run : RunStill s t := by exact {}) (grant : GrantStill s t := by exact {})
    (tables : TablesStill s t := by exact {}) (sizes : SizesStill s t := by exact {}) : PartsKept s t :=
  .of_grant grant.grant_kept run tables sizes

theorem InterlockBelow.congr {b : Nat} {s t : State} (tbl : t.tbl = s.tbl) (wrn : t.wrn = s.wrn)
    (working : t.run.state.working = true → s.run.state.working = true) (h : InterlockBelow b s) :
    InterlockBelow b t := by
  obtain ⟨hlevel, hworks⟩ := h
  rw [InterlockBelow, wrn, tbl]
  refine ⟨hlevel, fun hstop => (hworks hstop).imp id fun hidle => ?_⟩
  rw [Bool.eq_false_iff] at hidle ⊢
  exact hidle ∘ working

theorem WarningConsistent.congr {s t : State} (tbl : t.tbl = s.tbl) (wrn : t.wrn = s.wrn) (h : WarningConsistent s) :
    WarningConsistent t := by
  obtain ⟨htarget, hlevel, hstand, hheld, hout⟩ := h
  constructor <;> simpa only [wrn, tbl]

/-- An event that leaves WRN and the tables and sets no run to work keeps what it keeps of the other parts. -/
theorem PartsKept.kept {s t : State} (h : PartsKept s t) (tbl : t.tbl = s.tbl := by simp) (wrn : t.wrn = s.wrn := by simp)
    (working : t.run.state.working = true → s.run.state.working = true := by simp) : Kept s t where
  toPartsKept := h
  interlock _ := .congr tbl wrn working
  warning := .congr tbl wrn

/-- An event that leaves all that the properties read. -/
theorem Kept.of_still {s t : State} (wrn : t.wrn = s.wrn := by simp) (run : RunStill s t := by exact {})
    (grant : GrantStill s t := by exact {}) (tables : TablesStill s t := by exact {})
    (sizes : SizesStill s t := by exact {}) : Kept s t :=
  (PartsKept.of_still run grant tables sizes).kept tables.tbl wrn (by rw [run.state]; exact id)

theorem handRun_kept (k : CmdKind) (s : State) : Kept s (handRun k s) := .of_still
theorem handMove_kept (s : State) : Kept s (handMove s) := .of_still
theorem obtainMove_kept (s : State) : Kept s (obtainMove s) := .of_still
theorem tellReplaced_kept (c : Option RunCmd) (s : State) : Kept s (tellReplaced c s) := .of_still

end Sys2Proof.Machine
end

section
/-! The entries of a good run plan (R130, R132, R145): the MEASURE entries lie between the first entry and the last. -/

namespace Sys2Proof.Machine

set_option Elab.async false

theorem nextMeasure_eq_some {t : List Byte} {i j : Nat} (h : nextMeasure t i = some j) :
    i ≤ j ∧ j < (planHeader t).count ∧ (planEntry t j).kind = kindMeasure := by
  have hmem := List.mem_of_mem_head? h
  simp only [List.mem_filter, List.mem_range, Bool.and_eq_true, decide_eq_true_eq, beq_iff_eq] at hmem
  obtain ⟨hcount, hle, hkind⟩ := hmem
  exact ⟨hle, hcount, hkind⟩

theorem planFault_eq_none {t : List Byte} (h : planFault t = none) :
    (planHeader t).count ≤ 40 ∧ ∀ i < (planHeader t).count, entryGood t (planHeader t).count i = true := by
  simp only [planFault] at h
  split at h
  · cases h
  · split at h
    · cases h
    · next hcount =>
      split at h
      · cases h
      · next hentries =>
        simp only [List.find?_eq_none, List.mem_range, Bool.not_eq_true', Bool.not_eq_false] at hentries
        exact ⟨by omega, hentries⟩

/-- R130: a MEASURE entry of a good plan is neither the first entry nor the last, so that at most 38 can be. -/
theorem measure_bounds {t : List Byte} (h : planFault t = none) {j : Nat} (hj : j < (planHeader t).count)
    (hkind : (planEntry t j).kind = kindMeasure) : 0 < j ∧ j ≤ 38 := by
  obtain ⟨hcount, hentries⟩ := planFault_eq_none h
  have hgood := hentries j hj
  simp only [entryGood, Bool.and_eq_true, decide_eq_true_eq] at hgood
  obtain ⟨⟨⟨-, -, hfirst, hlast, -⟩, -⟩, -⟩ := hgood
  have hinner : isLastEntry t (planHeader t).count j ≠ true := fun hl => by
    have hright := hlast.mp hl
    rw [hkind] at hright
    exact absurd hright (by decide)
  constructor
  · refine Nat.pos_of_ne_zero fun hzero => ?_
    have hleft := hfirst.mp hzero
    rw [hkind] at hleft
    exact absurd hleft (by decide)
  · by_contra hlate
    refine hinner ?_
    have hnone : (planHeader t).count - (j + 1) = 0 := by omega
    simp [isLastEntry, hnone, hkind, kindMeasure, kindSpare]

theorem nextMeasure_bounds {t : List Byte} (h : planFault t = none) {i j : Nat} (hnext : nextMeasure t i = some j) :
    i ≤ j ∧ 0 < j ∧ j ≤ 38 := by
  obtain ⟨hle, hcount, hkind⟩ := nextMeasure_eq_some hnext
  exact ⟨hle, measure_bounds h hcount hkind⟩

end Sys2Proof.Machine
end

section
/-! What the operations of RUN keep (R132 to R156). -/

namespace Sys2Proof.Machine

set_option Elab.async false

/-- An event that leaves all that the properties read, but for RUN. -/
theorem Kept.of_run {s t : State} (working : t.run.state.working = true → s.run.state.working = true)
    (marker : MarkerConsistent s.run → MarkerConsistent t.run) (plan : RunWithinPlan s → RunWithinPlan t)
    (wrn : t.wrn = s.wrn := by simp) (grant : GrantStill s t := by exact {})
    (tables : TablesStill s t := by exact {}) (sizes : SizesStill s t := by exact {}) : Kept s t where
  store h := by
    obtain ⟨hstore, hplan, hshifts⟩ := h
    exact ⟨by rwa [tables.store], plan hplan, by rwa [tables.shifts]⟩
  marker := marker
  grant := grant.grant_kept
  view := .congr tables.tbl tables.view sizes.sched
  queues := sizes.queues_kept
  tables := .congr tables.tbl tables.work
  interlock _ := .congr tables.tbl wrn working
  warning := .congr tables.tbl wrn

/-- Out of IDLE, RUN may go to another state than IDLE. -/
theorem MarkerConsistent.moved {r r' : Run} (h : MarkerConsistent r) (hs : r.state ≠ .idle) (ht : r'.state ≠ .idle)
    (marker : r'.marker = r.marker) (held : r'.held = r.held) (record : r'.record.isSome = r.record.isSome) :
    MarkerConsistent r' := by
  obtain ⟨hpresent, hheld, hrecord⟩ := h
  exact ⟨by rw [marker, hpresent]; simp [hs, ht], by rw [held, marker, hheld], by rw [record, hrecord]; simp [hs, ht]⟩

theorem RunState.ne_idle_of_working {st : RunState} (h : st.working = true) : st ≠ .idle := by
  rintro rfl
  cases h

/-- A run record may change, and the vertical in progress be given up or go on at its entry, as long as no vertical is
added. -/
theorem RunWithinPlan.moved {s t : State} (h : RunWithinPlan s) (tbl : t.tbl = s.tbl) (marker : t.run.marker = s.run.marker)
    (work : t.work = s.work ∨ t.work = none)
    (record : ∀ r', t.run.record = some r' →
      ∃ r, s.run.record = some r ∧ r'.verticals = r.verticals ∧ r'.plan = r.plan)
    (vertical : ∀ w, t.run.vertical = some w → ∃ v, s.run.vertical = some v ∧ w.entry = v.entry) : RunWithinPlan t where
  done r' hr' := by
    obtain ⟨r, hr, hverts, -⟩ := record r' hr'
    rw [hverts]
    exact h.done r hr
  going r' w hr' hw := by
    obtain ⟨r, hr, hverts, hplan⟩ := record r' hr'
    obtain ⟨v, hv, hentry⟩ := vertical w hw
    rw [hverts, hplan, hentry, tbl, marker]
    exact h.going r v hr hv
  asked q hq := by
    obtain hw | hw := work
    · exact h.asked q (hw ▸ hq)
    · simp [hw] at hq

/-- An event by which a run in progress goes on, by itself or to its end: RUN stays out of IDLE with its marker and its
record, and no vertical is added. -/
theorem Kept.of_runMove {s t : State} (hs : s.run.state ≠ .idle) (ht : t.run.state ≠ .idle)
    (working : t.run.state.working = true → s.run.state.working = true)
    (record : t.run.record.isSome = s.run.record.isSome ∧ ∀ r', t.run.record = some r' →
      ∃ r, s.run.record = some r ∧ r'.verticals = r.verticals ∧ r'.plan = r.plan)
    (vertical : ∀ w, t.run.vertical = some w → ∃ v, s.run.vertical = some v ∧ w.entry = v.entry)
    (marker : t.run.marker = s.run.marker := by simp) (held : t.run.held = s.run.held := by simp)
    (wrn : t.wrn = s.wrn := by simp) (grant : GrantStill s t := by exact {})
    (tables : TablesStill s t := by exact {}) (sizes : SizesStill s t := by exact {}) : Kept s t :=
  .of_run working (fun h => h.moved hs ht marker held record.1)
    (fun h => h.moved tables.tbl marker tables.work record.2 vertical) wrn grant tables sizes

end Sys2Proof.Machine
end

section
namespace Sys2Proof.Machine

set_option Elab.async false

/-! ## The states of a vertical -/

@[simp] theorem enterTraverse_run (entry x : Nat) (alternate : Bool) (s : State) :
    (enterTraverse entry x alternate s).run.state = .traverse ∧
      (enterTraverse entry x alternate s).run.cursor = some entry ∧
      (enterTraverse entry x alternate s).run.vertical = some
        { entry := entry, targetX := x, alternate := alternate, surface := none, bottom := none, depth := none,
          shallow := false, points := [], results := [] } := by
  simp [enterTraverse, Run.enter]

@[simp] theorem enterVerify_run (s : State) :
    (enterVerify s).run.state = .verify ∧ (enterVerify s).run.vertical = s.run.vertical := by
  unfold enterVerify
  dsimp only
  split <;> simp [Run.enter]

@[simp] theorem resumeTraverse_run (s : State) :
    (resumeTraverse s).run.state = .traverse ∧ (resumeTraverse s).run.vertical = s.run.vertical := by
  simp [resumeTraverse, Run.enter]

@[simp] theorem enterSurfaceSeek_run (s : State) :
    (enterSurfaceSeek s).run.state = .surfaceSeek ∧ (enterSurfaceSeek s).run.vertical = s.run.vertical := by
  simp [enterSurfaceSeek, Run.enter]

@[simp] theorem enterSound_run (v : Vertical) (surface : Int) (s : State) :
    (enterSound v surface s).run.state = .sound ∧
      (enterSound v surface s).run.vertical = some { v with surface := some surface } := by
  simp [enterSound]

@[simp] theorem enterFirstPoint_state (v : Vertical) (bottom : Int) (s : State) :
    (enterFirstPoint v bottom s).run.state = .pointSeek ∧
      (enterFirstPoint v bottom s).run.vertical.map Vertical.entry = some v.entry := by
  simp [enterFirstPoint, Run.enter]

@[simp] theorem enterNextPoint_run (s : State) :
    (enterNextPoint s).run.state = .pointSeek ∧ (enterNextPoint s).run.vertical = s.run.vertical := by
  simp [enterNextPoint, Run.enter]

@[simp] theorem enterLift_run (s : State) :
    (enterLift s).run.state = .lift ∧ (enterLift s).run.vertical = s.run.vertical := by
  simp [enterLift, Run.enter]

theorem enterSettle_state (s : State) :
    (enterSettle s).run.state = if s.header.settle = 0 then .expose else .settle := by
  unfold enterSettle
  dsimp only
  split <;> simp [Run.enter]

@[simp] theorem enterRetrieve_run (s : State) :
    (enterRetrieve s).run.state = .retrieve ∧ (enterRetrieve s).run.vertical = none ∧
      (enterRetrieve s).run.cursor = none := by
  simp [enterRetrieve, Run.enter]

/-- A working run goes to another working state, its record the same and its vertical at the entry it was at. -/
theorem Kept.of_working {s t : State} (hs : s.run.state.working = true) (ht : t.run.state.working = true)
    (vertical : t.run.vertical.map Vertical.entry = s.run.vertical.map Vertical.entry)
    (record : t.run.record = s.run.record := by simp)
    (marker : t.run.marker = s.run.marker := by simp) (held : t.run.held = s.run.held := by simp)
    (wrn : t.wrn = s.wrn := by simp) (grant : GrantStill s t := by exact {})
    (tables : TablesStill s t := by exact {}) (sizes : SizesStill s t := by exact {}) : Kept s t :=
  .of_runMove (RunState.ne_idle_of_working hs) (RunState.ne_idle_of_working ht) (fun _ => hs)
    ⟨by rw [record], fun r hr => ⟨r, record ▸ hr, rfl, rfl⟩⟩
    (fun w hw => by
      obtain ⟨v, hv, hentry⟩ := Option.map_eq_some_iff.mp (vertical.symm.trans (congrArg _ hw))
      exact ⟨v, hv, hentry.symm⟩)
    marker held wrn grant tables sizes

theorem enterVerify_kept {s : State} (h : s.run.state.working = true) : Kept s (enterVerify s) :=
  .of_working h (by simp [RunState.working]) (by simp)

theorem resumeTraverse_kept {s : State} (h : s.run.state.working = true) : Kept s (resumeTraverse s) :=
  .of_working h (by simp [RunState.working]) (by simp)

theorem enterSurfaceSeek_kept {s : State} (h : s.run.state.working = true) : Kept s (enterSurfaceSeek s) :=
  .of_working h (by simp [RunState.working]) (by simp)

theorem enterSound_kept {s : State} {v : Vertical} (surface : Int) (h : s.run.state.working = true)
    (hv : s.run.vertical = some v) : Kept s (enterSound v surface s) :=
  .of_working h (by simp [RunState.working]) (by simp [hv])

theorem enterFirstPoint_kept {s : State} {v : Vertical} (bottom : Int) (h : s.run.state.working = true)
    (hv : s.run.vertical = some v) : Kept s (enterFirstPoint v bottom s) :=
  .of_working h (by simp [RunState.working]) (by simp [hv])

theorem enterNextPoint_kept {s : State} (h : s.run.state.working = true) : Kept s (enterNextPoint s) :=
  .of_working h (by simp [RunState.working]) (by simp)

theorem enterLift_kept {s : State} (h : s.run.state.working = true) : Kept s (enterLift s) :=
  .of_working h (by simp [RunState.working]) (by simp)

theorem enterExpose_kept {s : State} (h : s.run.state.working = true) : Kept s (enterExpose s) :=
  .of_working h (by simp [RunState.working]) (by simp)

theorem enterSettle_kept {s : State} (h : s.run.state.working = true) : Kept s (enterSettle s) :=
  .of_working h (by rw [enterSettle_state]; split <;> rfl) (by simp)

/-! ## Retrieval and aborts -/

theorem enterRetrieve_kept {s : State} (h : s.run.state ≠ .idle) : Kept s (enterRetrieve s) :=
  .of_runMove h (by simp) (by simp [RunState.working]) ⟨by simp, fun r hr => ⟨r, by simpa using hr, rfl, rfl⟩⟩ (by simp)

/-- A change of the run record that leaves its plan and its verticals. -/
theorem setRecord_kept {s : State} {f : RunRec → RunRec} (hverts : ∀ r, (f r).verticals = r.verticals)
    (hplan : ∀ r, (f r).plan = r.plan) : Kept s (s.setRun { s.run with record := s.run.record.map f }) :=
  .of_run (by simp) (fun ⟨hp, hh, hr⟩ => ⟨hp, hh, by simpa using hr⟩)
    (fun h => h.moved rfl rfl (.inl rfl)
      (fun r' hr' => by
        obtain ⟨r, hr, rfl⟩ := Option.map_eq_some_iff.mp hr'
        exact ⟨r, hr, hverts r, hplan r⟩)
      (fun w hw => ⟨w, hw, rfl⟩))

theorem addCause_kept (cause : RunOutcome) (s : State) : Kept s (addCause cause s) :=
  setRecord_kept (fun _ => rfl) (fun _ => rfl)

theorem GrantConsistent.claim {l : Loop} (h : GrantConsistent l) (cause : ClaimCause) :
    GrantConsistent (l.claim cause) := by
  obtain ⟨hexclusive, htimer, hcause, hrecorded⟩ := h
  unfold Loop.claim
  cases hstate : l.grant.state <;> cases cause <;> constructor <;> simp_all [Grant.held]

theorem claim_kept (cause : ClaimCause) (s : State) : Kept s (s.setLoop (s.loop.claim cause)) :=
  PartsKept.kept
    { store := fun ⟨hstore, hplan, hshifts⟩ => ⟨hstore, hplan.congr {} (by simp) (by simp [State.work]), hshifts⟩
      marker := id
      grant := fun h => h.claim cause
      view := .congr rfl rfl (by simp)
      queues := SizesStill.queues_kept {}
      tables := .congr rfl (.inl rfl) }

theorem abortRun_kept (cause : RunOutcome) (s : State) : Kept s (abortRun cause s) := by
  unfold abortRun
  split
  · next hworking =>
    refine (setRecord_kept (s := s) (f := fun r => { r with outcome := some cause }) (fun _ => rfl) fun _ => rfl).trans ?_
    refine (claim_kept .runEngine _).trans (enterRetrieve_kept ?_)
    exact RunState.ne_idle_of_working hworking
  · split
    · exact .refl s
    · exact addCause_kept cause s

theorem runCountRise_kept (addr count : Nat) (s : State) : Kept s (runCountRise addr count s) := by
  unfold runCountRise
  split
  · exact abortRun_kept _ s
  · exact .refl s

end Sys2Proof.Machine
end

section
/-! The store under an append (R171, R172). -/

namespace Sys2Proof.Machine

set_option Elab.async false

theorem numbersRun.tail {next n : Nat} {ns : List Nat} (h : numbersRun next (n :: ns)) : numbersRun next ns := by
  cases ns with
  | nil => trivial
  | cons m rest => exact h.2

theorem numbersRun.append {next : Nat} {ns : List Nat} (h : numbersRun next ns) :
    numbersRun ((next + 1) % 65536) (ns ++ [next]) := by
  induction ns with
  | nil => rfl
  | cons n rest ih =>
    cases rest with
    | nil => exact ⟨h, rfl⟩
    | cons m rest => exact ⟨h.1, ih h.2⟩

/-- The slots of a list of records. -/
def slotSum (rs : List StoreRec) : Nat := (rs.map fun r => r.content.slotCount).sum

/-- R172: what removal leaves is the end of the list, its slots with the room asked within 2,048. -/
theorem makeRoom_spec {need next : Nat} (hneed : need ≤ 2048) {rs : List StoreRec}
    (hnumbers : numbersRun next (rs.map StoreRec.seq)) (hbound : slotSum rs ≤ 2048) :
    (makeRoom need rs (slotSum rs)).1 <:+ rs ∧
      numbersRun next ((makeRoom need rs (slotSum rs)).1.map StoreRec.seq) ∧
      (makeRoom need rs (slotSum rs)).2 = slotSum (makeRoom need rs (slotSum rs)).1 ∧
      (makeRoom need rs (slotSum rs)).2 + need ≤ 2048 := by
  induction rs with
  | nil => simpa [makeRoom, slotSum] using ⟨trivial, hneed⟩
  | cons r rest ih =>
    have hsum : slotSum (r :: rest) = r.content.slotCount + slotSum rest := by simp [slotSum]
    unfold makeRoom
    split
    · rw [hsum, Nat.add_sub_cancel_left]
      obtain ⟨hsuffix, hkept⟩ := ih hnumbers.tail (by omega)
      exact ⟨hsuffix.trans (List.suffix_cons r rest), hkept⟩
    · exact ⟨List.suffix_rfl, hnumbers, rfl, by omega⟩

theorem StoreConsistent.append {st : Store} (h : StoreConsistent st) {c : Content} (hc : c.slotCount ≤ 40) :
    StoreConsistent (st.append c) := by
  obtain ⟨hnumbers, hsizes, hslots, hbound⟩ := h
  have hsum : st.slotsUsed = slotSum st.records := hslots
  obtain ⟨hsuffix, hrun, hused, hroom⟩ :=
    makeRoom_spec (need := c.slotCount) (by omega) hnumbers (hsum ▸ hbound)
  unfold Store.append
  rw [hsum]
  exact
    { numbers := by simpa using hrun.append
      sizes := by
        simp only [List.mem_append, List.mem_singleton, or_imp, forall_and, forall_eq]
        exact ⟨fun r hr => hsizes r (hsuffix.subset hr), hc⟩
      slots := by
        simp only [List.map_append, List.sum_append, hused]
        simp [slotSum]
      bound := hroom }

@[simp] theorem append_store (c : Content) (s : State) : (append c s).store = s.store.append c := by
  simp [Sys2Proof.Machine.append]

/-- R171: an append of a record of at most 40 slots. -/
theorem append_kept {c : Content} (s : State) (hc : StoreAndPlan s → c.slotCount ≤ 40) : Kept s (append c s) :=
  PartsKept.kept
    { store := fun h => by
        obtain ⟨hstore, hplan, hshifts⟩ := id h
        exact ⟨by simpa using hstore.append (hc h), hplan.congr {} (by simp) (by simp [State.work]), by simpa using hshifts⟩
      marker := RunStill.marker_kept {}
      grant := GrantStill.grant_kept {}
      view := .congr (by simp) (by simp) (by simp)
      queues := SizesStill.queues_kept {}
      tables := .congr (by simp) (by simp [State.work]) }

theorem appendNotice_kept (body : NoticeBody) (s : State) : Kept s (appendNotice body s) :=
  append_kept s fun _ => by simp [Content.slotCount]

end Sys2Proof.Machine
end

section
/-! The shift table under a placement (R28). -/

namespace Sys2Proof.Machine

set_option Elab.async false

theorem insertShift_spec (r : ShiftRec) (rs : List ShiftRec) :
    (insertShift r rs).length = rs.length + 1 ∧ ∀ x, x ∈ insertShift r rs ↔ x = r ∨ x ∈ rs := by
  induction rs with
  | nil => simp [insertShift]
  | cons y rest ih =>
    obtain ⟨hlength, hmem⟩ := ih
    unfold insertShift
    split
    · simp
    · exact ⟨by simp [hlength], fun x => by simp [hmem]; tauto⟩

theorem insertShift_pairwise {r : ShiftRec} {rs : List ShiftRec} (h : (rs.map ShiftRec.start).Pairwise (· < ·))
    (hnew : ∀ x ∈ rs, x.start ≠ r.start) : ((insertShift r rs).map ShiftRec.start).Pairwise (· < ·) := by
  induction rs with
  | nil => simp [insertShift]
  | cons y rest ih =>
    simp only [List.map_cons, List.pairwise_cons, List.mem_map, forall_exists_index, and_imp,
      forall_apply_eq_imp_iff₂] at h
    obtain ⟨hfirst, hrest⟩ := h
    unfold insertShift
    split
    · next hbefore =>
      simp only [List.map_cons, List.pairwise_cons, List.mem_cons, List.mem_map, forall_eq_or_imp,
        forall_exists_index, and_imp, forall_apply_eq_imp_iff₂]
      exact ⟨⟨hbefore, fun x hx => hbefore.trans (hfirst x hx)⟩, hfirst, hrest⟩
    · next hafter =>
      have hlt : y.start < r.start := by
        have hne := hnew y (by simp)
        omega
      simp only [List.map_cons, List.pairwise_cons, List.mem_map, forall_exists_index, and_imp,
        forall_apply_eq_imp_iff₂]
      refine ⟨fun x hx => ?_, ih hrest fun x hx => hnew x (by simp [hx])⟩
      obtain rfl | hx := ((insertShift_spec r rest).2 x).mp hx
      · exact hlt
      · exact hfirst x hx

theorem ShiftsOrdered.placeShift {rs : List ShiftRec} (h : ShiftsOrdered rs) (r : ShiftRec) :
    ShiftsOrdered (placeShift r rs).1 := by
  obtain ⟨hlength, hsorted⟩ := h
  unfold Sys2Proof.Machine.placeShift
  split
  · have hstarts : (rs.map fun x => if x.start = r.start then r else x).map ShiftRec.start = rs.map ShiftRec.start := by
      rw [List.map_map]
      refine List.map_congr_left fun x _ => ?_
      by_cases hx : x.start = r.start <;> simp [hx]
    exact ⟨by simpa using hlength, by rw [hstarts]; exact hsorted⟩
  · next habsent =>
    have hnew : ∀ x ∈ rs, x.start ≠ r.start := by simpa using habsent
    split
    · next hroom => exact ⟨by rw [(insertShift_spec r rs).1]; omega, insertShift_pairwise hsorted hnew⟩
    · refine ⟨by rw [(insertShift_spec r rs.tail).1, List.length_tail]; omega, insertShift_pairwise ?_ ?_⟩
      · exact hsorted.sublist ((List.tail_sublist rs).map _)
      · exact fun x hx => hnew x (List.mem_of_mem_tail hx)

/-- RAT takes another shift table in order. -/
theorem setShifts_kept {s : State} {rs : List ShiftRec} (h : ShiftsOrdered s.rat.shifts → ShiftsOrdered rs) :
    Kept s (s.setRat { s.rat with shifts := rs }) :=
  PartsKept.kept
    { store := fun ⟨hstore, hplan, hshifts⟩ => ⟨hstore, hplan.congr {} (by simp) (by simp [State.work]), h hshifts⟩
      marker := id
      grant := id
      view := .congr rfl rfl rfl
      queues := SizesStill.queues_kept {}
      tables := .congr rfl (.inl rfl) }

theorem adopt_kept (start : Nat) (shift : Int) (s : State) : Kept s (adopt start shift s).1 := by
  unfold adopt
  split
  · exact .refl s
  · exact setShifts_kept fun h => h.placeShift _

end Sys2Proof.Machine
end

section
/-! What the end of a run, a POSITION and the reports of LOOP and PLS keep (R134 to R156). -/

namespace Sys2Proof.Machine

set_option Elab.async false

/-! ## The end of a run (R146 to R149, R156) -/

theorem toIdle_kept (s : State) : Kept s (s.setRun s.run.toIdle) :=
  .of_run (by simp [Run.toIdle, idleRun, RunState.working])
    (fun _ => ⟨by simp [Run.toIdle, idleRun], by simp [Run.toIdle, idleRun], by simp [Run.toIdle, idleRun]⟩)
    (fun h => ⟨by simp [Run.toIdle, idleRun], by simp [Run.toIdle, idleRun], h.asked⟩)

theorem gaugeRecord_slotCount (r : RunRec) (o : RunOutcome) (c : Calc) (f : GaugeFlags) (g : Grade)
    (p : Option Placement) (clk : Clocks) :
    (Content.gauging (gaugeRecord r o c f g p clk)).slotCount ≤ 2 + r.verticals.length := by
  simp [Content.slotCount, gaugeRecord, vertRecords]

/-- The run record of `s` has the verticals and the plan of `r`. -/
def RecordLike (s : State) (r : RunRec) : Prop :=
  ∃ r₀, s.run.record = some r₀ ∧ r.verticals = r₀.verticals ∧ r.plan = r₀.plan

theorem RecordLike.of_eq {s : State} {r : RunRec} (h : s.run.record = some r) : RecordLike s r := ⟨r, h, rfl, rfl⟩

theorem RecordLike.verticals_le {s : State} {r : RunRec} (h : RecordLike s r) (k : RunWithinPlan s) :
    r.verticals.length ≤ 38 := by
  obtain ⟨r₀, hr₀, hverts, -⟩ := h
  rw [hverts]
  exact k.done r₀ hr₀

theorem finishRun_kept {s : State} {r : RunRec} (o : RunOutcome) (h : RecordLike s r) : Kept s (finishRun r o s) := by
  unfold finishRun
  dsimp only
  refine Kept.trans ?_ (toIdle_kept _)
  have append_of_same (t : State) (k : Kept s t) (hrun : t.run = s.run) {g : GaugeRec}
      (hg : (Content.gauging g).slotCount ≤ 2 + r.verticals.length) : Kept s (append (.gauging g) t) := by
    refine k.trans (append_kept t fun ⟨_, hplan, _⟩ => hg.trans ?_)
    have hverts := RecordLike.verticals_le (s := t) (by simpa [RecordLike, hrun] using h) hplan
    omega
  split
  · exact append_of_same _ (adopt_kept _ _ s) (by simp) (gaugeRecord_slotCount ..)
  · exact append_of_same _ (.refl s) rfl (gaugeRecord_slotCount ..)

/-- The record of a run in progress is replaced by one with the same verticals and plan. -/
theorem setRecordLike_kept {s : State} {r : RunRec} (h : RecordLike s r) :
    Kept s (s.setRun { s.run with record := some r }) := by
  obtain ⟨r₀, hr₀, hverts, hplan⟩ := h
  exact .of_run (by simp) (fun ⟨hp, hh, hr⟩ => ⟨hp, hh, by simpa [hr₀] using hr⟩)
    (fun k => k.moved rfl rfl (.inl rfl) (fun r' hr' => ⟨r₀, hr₀, by cases hr'; exact ⟨hverts, hplan⟩⟩)
      fun w hw => ⟨w, hw, rfl⟩)

theorem endClose_kept {s : State} {r : RunRec} (c : Calc) (hs : s.run.state ≠ .idle) (h : RecordLike s r) :
    Kept s (endClose r c s) := by
  unfold endClose
  split
  · exact (setRecordLike_kept (r := { r with figures := some c, outcome := some .complete }) h).trans
      (enterRetrieve_kept hs)
  · exact finishRun_kept _ h

/-- CLOSE is entered with a run record that may have a vertical more than the one before. -/
theorem enterClose_kept {s : State} {r : RunRec} (hs : s.run.state ≠ .idle) (hrec : s.run.record.isSome = true)
    (hverts : RunWithinPlan s → r.verticals.length ≤ 38) (ro : Option RunRec) :
    Kept s (enterClose r (s.setRun { s.run with record := ro })) := by
  unfold enterClose
  dsimp only
  have hclosing (c : Calc) : Kept s
      ((s.setRun { s.run with record := ro }).setRun
        { ((s.setRun { s.run with record := ro }).run.stopTimers s.now).enter .close with
          cursor := none, vertical := none, settleAt := none, retrieveAt := none, enquiryAt := none,
          record := some { r with figures := some c } }) :=
    .of_run (by simp [Run.enter, RunState.working])
      (fun hm => hm.moved hs (by simp [Run.enter]) (by simp) (by simp) (by simp [hrec]))
      (fun hp => ⟨by simpa using hverts hp, by simp, hp.asked⟩)
  split
  · exact hclosing _
  · exact (hclosing _).trans (endClose_kept _ (by simp [Run.enter]) ⟨_, rfl, rfl, rfl⟩)

theorem enterClose_of_record_kept {s : State} {r : RunRec} (hs : s.run.state ≠ .idle) (hr : s.run.record = some r) :
    Kept s (enterClose r s) :=
  enterClose_kept (s := s) hs (by simp [hr]) (fun hp => hp.done r hr) s.run.record

theorem endMarkedRetrieval_kept {s : State} {r : RunRec} (m : Marker) (home : Bool) (h : RecordLike s r) :
    Kept s (endMarkedRetrieval m r home s) := by
  unfold endMarkedRetrieval
  split
  · exact (appendNotice_kept _ s).trans (toIdle_kept _)
  · exact finishRun_kept _ h

theorem endRetrieval_kept (home : Bool) {s : State} (hs : s.run.state ≠ .idle) : Kept s (endRetrieval home s) := by
  unfold endRetrieval
  split
  · exact .refl s
  · next r hr =>
    dsimp only
    have hlike : RecordLike s (if home = true then r else { r with flags := { r.flags with retrieveTimeout := true } }) :=
      ⟨r, hr, by split <;> rfl, by split <;> rfl⟩
    generalize (if home = true then r else { r with flags := { r.flags with retrieveTimeout := true } }) = r' at hlike
    have hnoted : Kept s (s.setRun { s.run with record := some r', retrieveAt := none, enquiryAt := none }) :=
      (setRecordLike_kept hlike).trans
        (.of_still (run := { state := rfl, marker := rfl, held := rfl, record := rfl, vertical := rfl }))
    refine hnoted.trans ?_
    split
    · exact endMarkedRetrieval_kept _ home ⟨r', rfl, rfl, rfl⟩
    · split
      · exact finishRun_kept _ ⟨r', rfl, rfl, rfl⟩
      · exact enterClose_of_record_kept hs rfl

/-! ## A POSITION (R134 to R148) -/

theorem failTraverse_kept {s : State} {r : RunRec} {v : Vertical} (hs : s.run.state.working = true)
    (hv : s.run.vertical = some v) : Kept s (failTraverse r v s) := by
  unfold failTraverse
  split
  · exact .of_working hs (by simp [RunState.working]) (by simp [hv])
  · exact abortRun_kept _ s

theorem judgeConfirm_kept {s : State} {r : RunRec} {v : Vertical} (p : Position) (hs : s.run.state.working = true)
    (hv : s.run.vertical = some v) : Kept s (judgeConfirm r v p s) := by
  unfold judgeConfirm
  split
  · exact resumeTraverse_kept hs
  · split
    · exact enterSurfaceSeek_kept hs
    · exact failTraverse_kept hs hv

theorem State.plan_eq {s : State} {r : RunRec} (hr : s.run.record = some r) : s.plan = s.tbl.plan r.plan := by
  simp [State.plan, hr]

/-- R145: the vertical added is that of the entry left, so that the run stays within its plan. -/
theorem completeVertical_kept {s : State} {r : RunRec} {v : Vertical} (hs : s.run.state.working = true)
    (hr : s.run.record = some r) (hv : s.run.vertical = some v) : Kept s (completeVertical r v s) := by
  unfold completeVertical
  dsimp only
  have hidle := RunState.ne_idle_of_working hs
  split
  · next i hi =>
    refine .of_run (fun _ => hs) (fun hm => hm.moved hidle (by simp) (by simp) (by simp) (by simp [hr])) fun hp => ?_
    obtain ⟨hdone, hentry, hplan, hfault, hmarker⟩ := hp.going r v hr hv
    rw [State.plan_eq hr] at hi
    obtain ⟨hnext, -, hlast⟩ := nextMeasure_bounds hfault hi
    refine ⟨fun r' hr' => ?_, fun r' w hr' hw => ?_, by simpa [State.work] using hp.asked⟩
    · obtain rfl : { r with verticals := r.verticals ++ [completed s v] } = r' := by simpa using hr'
      simp only [List.length_append, List.length_singleton]
      omega
    · obtain rfl : { r with verticals := r.verticals ++ [completed s v] } = r' := by simpa using hr'
      simp only [enterTraverse_run, Option.some.injEq] at hw
      subst hw
      simp only [List.length_append, List.length_singleton]
      exact ⟨by omega, hlast, hplan, by simpa using hfault, by simpa using hmarker⟩
  · refine enterClose_kept hidle (by simp [hr]) (fun hp => ?_) _
    obtain ⟨hdone, hentry, -⟩ := hp.going r v hr hv
    simp only [List.length_append, List.length_singleton]
    omega

theorem whenever_kept {s : State} {p : Bool} {f : State → State} (h : Kept s (f s)) : Kept s (whenever p f s) := by
  unfold whenever
  split
  · exact h
  · exact .refl s

theorem judgePosition_kept (p : Position) (answering : Option Nat) (s : State) :
    Kept s (judgePosition p answering s) := by
  unfold judgePosition
  split
  · exact abortRun_kept _ s
  · split
    case h_1 hstate => exact whenever_kept (enterVerify_kept (by rw [hstate]; rfl))
    case h_2 hstate hr hv => exact judgeConfirm_kept p (by rw [hstate]; rfl) hv
    case h_3 hstate => exact whenever_kept (enterSettle_kept (by rw [hstate]; rfl))
    case h_4 hstate hr hv => exact whenever_kept (completeVertical_kept (by rw [hstate]; rfl) hr hv)
    case h_5 hstate =>
      split
      · exact addCause_kept _ s
      · exact whenever_kept (endRetrieval_kept true (by simp [hstate]))
    case h_6 => exact whenever_kept (addCause_kept _ s)
    case h_7 => exact .refl s

/-- RUN changes in what no property reads. -/
theorem setRun_kept {s : State} {r : Run} (state : r.state = s.run.state := by simp)
    (marker : r.marker = s.run.marker := by simp) (held : r.held = s.run.held := by simp)
    (record : r.record = s.run.record := by simp) (vertical : r.vertical = s.run.vertical := by simp) :
    Kept s (s.setRun r) :=
  Kept.of_still (run := ⟨state, marker, held, record, vertical⟩)

theorem runPosition_kept (p : Position) (answering : Option Nat) (s : State) : Kept s (runPosition p answering s) := by
  unfold runPosition
  split
  · exact setRun_kept
  · split
    · exact (setRun_kept (r := { s.run with position := some p })).trans (judgePosition_kept p answering _)
    · exact .refl s

/-! ## What LOOP and PLS tell RUN -/

theorem runOutcome_kept (id : Nat) (o : CmdOutcome) (s : State) : Kept s (runOutcome id o s) := .of_still

theorem runGrantBegun_kept (s : State) : Kept s (runGrantBegun s) := .of_still

theorem runGrantEnded_kept (s : State) : Kept s (runGrantEnded s) := .of_still

theorem runRotorResult_kept (r : RotorResult) (s : State) : Kept s (runRotorResult r s) := by
  unfold runRotorResult
  split
  · next v hstate hv =>
    have hworking : s.run.state.working = true := by rw [hstate]; rfl
    split
    · next p rest _ =>
      dsimp only
      have hresult := Kept.of_working
        (t := s.setRun { s.run with
          vertical := some { v with points := rest, results := v.results ++ [pointResult s.header p r] } })
        hworking hworking (by simp [hv])
      split
      · exact hresult.trans (enterLift_kept hworking)
      · exact hresult.trans (enterNextPoint_kept hworking)
    · exact .refl s
  · exact .refl s

theorem runSurfaceLatch_kept (l : LatchVal) (s : State) : Kept s (runSurfaceLatch l s) := by
  unfold runSurfaceLatch
  split
  · next v hstate hv =>
    split
    · exact enterSound_kept _ (by rw [hstate]; rfl) hv
    · exact abortRun_kept _ s
  · exact .refl s

theorem runBottomLatch_kept (l : LatchVal) (s : State) : Kept s (runBottomLatch l s) := by
  unfold runBottomLatch
  split
  · next v hstate hv =>
    split
    · exact enterFirstPoint_kept _ (by rw [hstate]; rfl) hv
    · exact abortRun_kept _ s
  · exact .refl s

end Sys2Proof.Machine
end

section
/-! The level (R48 to R51, R53, R55): what a rise, a fall and the target leave in WRN and in the store. -/

namespace Sys2Proof.Machine

set_option Elab.async false

theorem Wrn.outputsOf_of_noTest {w : Wrn} {patterns : List Byte} (htest : w.test = none) :
    w.outputsOf patterns =
      if w.silenced then patternOn patterns w.level &&& ~~~patternSilence patterns w.level
      else patternOn patterns w.level := by
  simp [Wrn.outputsOf, htest]

/-- R49: WRN after a rise to `target`. -/
@[simp] theorem rise_wrn (target : Nat) (s : State) :
    (rise target s).wrn =
      { s.wrn with
        level := target, standDown := none, silenced := false, test := none,
        outputs := patternOn s.tbl.patterns target } := by
  unfold rise
  dsimp only
  split <;> simp [imposeInterlock, drive, warnRecord, Wrn.outputsOf]

/-- R53: the record of a change of level. -/
def levelRecord (old new : Nat) (cause : WarnCause) (s : State) : Content :=
  .warning
    { time := s.clk.time, valid := s.clk.valid, old := old, new := new, cause := cause,
      stage := s.stg.selected.map Selected.mm, discharge := s.rat.latest.bind RatResult.discharge }

@[simp] theorem warnRecord_store (old new : Nat) (cause : WarnCause) (s : State) :
    (warnRecord old new cause s).store = s.store.append (levelRecord old new cause s) := by
  simp [warnRecord, levelRecord, State.stageNow, State.dischargeNow]

@[simp] theorem rise_store (target : Nat) (s : State) :
    (rise target s).store =
      s.store.append (levelRecord s.wrn.level target (s.wrn.riseCause s.tbl.rules target) s) := by
  unfold rise
  dsimp only
  split <;> simp [imposeInterlock, drive, levelRecord]

/-- R51: WRN after the stand-down timer's expiry. -/
@[simp] theorem standDownFall_wrn (s : State) :
    (standDownFall s).wrn =
      { s.wrn with
        level := s.wrn.target, standDown := none, test := none,
        outputs := { s.wrn with level := s.wrn.target, standDown := none, test := none }.outputsOf s.tbl.patterns } := by
  simp [standDownFall, drive, Wrn.outputsOf]

@[simp] theorem standDownFall_store (s : State) :
    (standDownFall s).store = s.store.append (levelRecord s.wrn.level s.wrn.target .standDown s) := by
  simp [standDownFall, drive, levelRecord]

/-- R48: the state with the target that the rules give, before the level moves by it. -/
def withTarget (s : State) : State := s.setWrn { s.wrn with target := s.wrn.targetOf s.tbl.rules }

/-- R48: the level rises to the target, goes on to stand down to it, or stands at it. -/
theorem applyTarget_cases (s : State) :
    (s.wrn.level < s.wrn.targetOf s.tbl.rules ∧
      applyTarget s = rise (s.wrn.targetOf s.tbl.rules) (withTarget s)) ∨
    (s.wrn.targetOf s.tbl.rules < s.wrn.level ∧ applyTarget s = startStandDown (withTarget s)) ∨
    (s.wrn.targetOf s.tbl.rules = s.wrn.level ∧
      applyTarget s = s.setWrn { s.wrn with target := s.wrn.targetOf s.tbl.rules, standDown := none }) := by
  unfold applyTarget
  dsimp only [withTarget]
  split
  · next h => exact .inl ⟨h, rfl⟩
  · next hrise =>
    split
    · next h => exact .inr (.inl ⟨h, rfl⟩)
    · next hfall =>
      have hlevel : (s.setWrn { s.wrn with target := s.wrn.targetOf s.tbl.rules }).wrn.level = s.wrn.level := rfl
      rw [hlevel] at hrise hfall
      exact .inr (.inr ⟨by omega, rfl⟩)

/-- R50, R51: the stand-down timer runs already or may not start, or the level falls at once, or the timer starts. -/
theorem startStandDown_cases (s : State) :
    ((s.wrn.standDown.isSome = true ∨ s.wrn.resetHold = true) ∧ startStandDown s = s) ∨
    (s.wrn.standDown = none ∧ s.wrn.resetHold = false ∧ cfgStandDown s.tbl.config s.wrn.level = 0 ∧
      startStandDown s = standDownFall s) ∨
    (s.wrn.standDown = none ∧ s.wrn.resetHold = false ∧ cfgStandDown s.tbl.config s.wrn.level ≠ 0 ∧
      startStandDown s = s.setWrn
        { s.wrn with
          standDown := some
            { start := s.now, level := s.wrn.level,
              expiry := s.now + cfgStandDown s.tbl.config s.wrn.level } }) := by
  unfold startStandDown
  split
  · next h => exact .inl ⟨by simpa using h, rfl⟩
  · next h =>
    obtain ⟨hstand, hhold⟩ : s.wrn.standDown = none ∧ s.wrn.resetHold = false := by simpa using h
    dsimp only
    split
    · next hzero => exact .inr (.inl ⟨hstand, hhold, hzero, rfl⟩)
    · next hzero => exact .inr (.inr ⟨hstand, hhold, hzero, rfl⟩)

end Sys2Proof.Machine
end

section
/-! What the warning unit keeps (R48 to R63). -/

namespace Sys2Proof.Machine

set_option Elab.async false

theorem setWrn_partsKept (s : State) (w : Wrn) : PartsKept s (s.setWrn w) := .of_still

/-- R55: the outputs are set by level, silence and test. -/
theorem drive_outputs (s : State) : (drive s).wrn.outputs = (drive s).wrn.outputsOf (drive s).tbl.patterns := rfl

theorem drive_partsKept (s : State) : PartsKept s (drive s) := setWrn_partsKept s _

theorem warnRecord_kept (old new : Nat) (cause : WarnCause) (s : State) : Kept s (warnRecord old new cause s) :=
  append_kept s fun _ => by simp [Content.slotCount]

theorem imposeInterlock_kept (s : State) : Kept s (imposeInterlock s) :=
  (claim_kept .warning s).trans (abortRun_kept _ _)

theorem rise_partsKept (target : Nat) (s : State) : PartsKept s (rise target s) := by
  unfold rise
  dsimp only
  have hrecorded (w : Wrn) (cause : WarnCause) :
      PartsKept s (drive (warnRecord s.wrn.level target cause (s.setWrn w))) :=
    (setWrn_partsKept s w).trans ((warnRecord_kept ..).toPartsKept.trans (drive_partsKept _))
  split
  · exact (hrecorded _ _).trans (imposeInterlock_kept _).toPartsKept
  · exact hrecorded _ _

theorem standDownFall_partsKept (s : State) : PartsKept s (standDownFall s) :=
  (setWrn_partsKept s _).trans ((warnRecord_kept ..).toPartsKept.trans (drive_partsKept _))

theorem startStandDown_partsKept (s : State) : PartsKept s (startStandDown s) := by
  obtain ⟨-, h⟩ | ⟨-, -, -, h⟩ | ⟨-, -, -, h⟩ := startStandDown_cases s <;> rw [h]
  · exact .refl s
  · exact standDownFall_partsKept s
  · exact setWrn_partsKept s _

theorem applyTarget_partsKept (s : State) : PartsKept s (applyTarget s) := by
  obtain ⟨-, h⟩ | ⟨-, h⟩ | ⟨-, h⟩ := applyTarget_cases s <;> rw [h]
  · exact (setWrn_partsKept s _).trans (rise_partsKept _ _)
  · exact (setWrn_partsKept s _).trans (startStandDown_partsKept _)
  · exact setWrn_partsKept s _

theorem abortRun_not_working (cause : RunOutcome) (s : State) : (abortRun cause s).run.state.working = false := by
  unfold abortRun
  split
  · simp [RunState.working]
  · next h =>
    rw [Bool.not_eq_true] at h
    split
    · exact h
    · simpa [addCause] using h

/-- R49, R59: a rise to the stop level leaves no run working. -/
theorem rise_not_working {target : Nat} {s : State} (h : cfgStopLevel s.tbl.config ≤ target) :
    (rise target s).run.state.working = false := by
  unfold rise
  dsimp only
  rw [if_pos (by simpa using h)]
  exact abortRun_not_working _ _

theorem applyTarget_interlock {b : Nat} {s : State}
    (h : cfgStopLevel s.tbl.config ≤ s.wrn.level → s.wrn.level < b ∨ s.run.state.working = false) :
    InterlockBelow b (applyTarget s) := by
  obtain ⟨-, heq⟩ | ⟨hfall, heq⟩ | ⟨hstill, heq⟩ := applyTarget_cases s <;> rw [heq]
  · refine ⟨by simp [withTarget], fun hstop => .inr (rise_not_working ?_)⟩
    simpa [withTarget] using hstop
  · have hlower (n : Nat) (hn : n ≤ s.wrn.level) (hstop : cfgStopLevel s.tbl.config ≤ n) :
        n < b ∨ s.run.state.working = false :=
      (h (hstop.trans hn)).imp (lt_of_le_of_lt hn) id
    obtain ⟨-, heq⟩ | ⟨-, -, -, heq⟩ | ⟨-, -, -, heq⟩ := startStandDown_cases (withTarget s) <;> rw [heq]
    · exact ⟨by simpa [withTarget] using hfall.le, by simpa [withTarget] using hlower _ le_rfl⟩
    · exact ⟨by simp [withTarget], by simpa [withTarget] using hlower _ hfall.le⟩
    · exact ⟨by simpa [withTarget] using hfall.le, by simpa [withTarget] using hlower _ le_rfl⟩
  · exact ⟨by simp [hstill], by simpa using h⟩

/-- What must hold of WRN before the target is computed for the warning to be consistent after it. -/
structure WarningReady (s : State) : Prop where
  hold : s.wrn.standDown.isSome = true → s.wrn.resetHold = false
  held : ∀ d, s.wrn.standDown = some d → d.level = s.wrn.level
  outputs : s.wrn.outputs = s.wrn.outputsOf s.tbl.patterns

theorem WarningConsistent.ready {s : State} (h : WarningConsistent s) : WarningReady s :=
  ⟨fun hs => (h.standDown.mp hs).2, h.held, h.outputs⟩

theorem Wrn.targetOf_congr {w w' : Wrn} (rules : w'.rules = w.rules) (lost : w'.stageLost = w.stageLost)
    (table : List Byte) : w'.targetOf table = w.targetOf table := by
  have hcounts : w'.counts table = w.counts table := by
    funext i
    simp only [Wrn.counts, Wrn.ruleState, rules, lost]
  simp only [Wrn.targetOf, hcounts]

/-- The target is the one that the rules give, where rules and loss of stage are as when it was computed. -/
theorem Wrn.target_eq_targetOf {w w' : Wrn} {table table' : List Byte} (target : w'.target = w.targetOf table)
    (rules : w'.rules = w.rules := by simp [withTarget]) (lost : w'.stageLost = w.stageLost := by simp [withTarget])
    (tbl : table' = table := by simp [withTarget]) : w'.target = w'.targetOf table' := by
  rw [tbl, Wrn.targetOf_congr rules lost, target]

theorem Wrn.outputsOf_congr {w w' : Wrn} (level : w'.level = w.level) (silenced : w'.silenced = w.silenced)
    (test : w'.test = w.test) (patterns : List Byte) : w'.outputsOf patterns = w.outputsOf patterns := by
  simp only [Wrn.outputsOf, level, silenced, test]

theorem applyTarget_warning {s : State} (h : WarningReady s) : WarningConsistent (applyTarget s) := by
  obtain ⟨hhold, hheld, hout⟩ := h
  obtain ⟨hrise, heq⟩ | ⟨hfall, heq⟩ | ⟨hstill, heq⟩ := applyTarget_cases s <;> rw [heq]
  · refine ⟨Wrn.target_eq_targetOf (w := s.wrn) (table := s.tbl.rules) (by simp [withTarget]), ?_, ?_, ?_, ?_⟩
    all_goals simp [withTarget, Wrn.outputsOf]
  · obtain ⟨hruns, heq⟩ | ⟨hstand, hopen, -, heq⟩ | ⟨hstand, hopen, -, heq⟩ := startStandDown_cases (withTarget s) <;>
      rw [heq]
    · refine ⟨Wrn.target_eq_targetOf (w := s.wrn) rfl, hfall.le, ?_, hheld, hout.trans (Wrn.outputsOf_congr rfl rfl rfl _)⟩
      simp only [withTarget, State.setWrn_wrn, hfall, true_and] at hruns ⊢
      exact ⟨hhold, fun hopen => hruns.resolve_right (by simp [hopen])⟩
    · refine ⟨Wrn.target_eq_targetOf (w := s.wrn) (table := s.tbl.rules) (by simp [withTarget]), by simp, by simp, by simp,
        drive_outputs _⟩
    · refine ⟨Wrn.target_eq_targetOf (w := s.wrn) rfl, hfall.le, ?_, by simp [withTarget],
        hout.trans (Wrn.outputsOf_congr rfl rfl rfl _)⟩
      simpa [withTarget, hfall] using hopen
  · exact ⟨Wrn.target_eq_targetOf (w := s.wrn) rfl, hstill.le, by simp [hstill], by simp,
      hout.trans (Wrn.outputsOf_congr rfl rfl rfl _)⟩

/-- The rules, the loss of stage and the end of the reset hold come before the target; the rest of WRN is as it was. -/
theorem applyTarget_kept {s : State} {w : Wrn} (level : w.level = s.wrn.level)
    (standDown : w.standDown = s.wrn.standDown) (hold : s.wrn.resetHold = false → w.resetHold = false)
    (silenced : w.silenced = s.wrn.silenced) (test : w.test = s.wrn.test) (outputs : w.outputs = s.wrn.outputs) :
    Kept s (applyTarget (s.setWrn w)) where
  toPartsKept := (setWrn_partsKept s w).trans (applyTarget_partsKept _)
  interlock b h := applyTarget_interlock (by simpa [level] using h.2)
  warning h := by
    obtain ⟨hhold, hheld, hout⟩ := h.ready
    refine applyTarget_warning ⟨?_, ?_, ?_⟩
    · simpa [standDown] using hold ∘ hhold
    · simpa [standDown, level] using hheld
    · simpa [outputs] using hout.trans (Wrn.outputsOf_congr level silenced test _).symm

theorem endEvaluation_setWrn (s : State) (w : Wrn) :
    endEvaluation (s.setWrn w) = applyTarget (s.setWrn { w with resetHold := false }) := rfl

theorem wrnStage_kept (stage : Int) (discharge : Option Nat) (s : State) : Kept s (wrnStage stage discharge s) := by
  rw [wrnStage, endEvaluation_setWrn]
  exact applyTarget_kept rfl rfl (fun _ => rfl) rfl rfl rfl

theorem wrnHistory_kept (s : State) : Kept s (wrnHistory s) := by
  rw [wrnHistory, endEvaluation_setWrn]
  exact applyTarget_kept rfl rfl (fun _ => rfl) rfl rfl rfl

theorem wrnStageLost_kept (s : State) : Kept s (wrnStageLost s) :=
  applyTarget_kept rfl rfl id rfl rfl rfl

/-- R51: at the fall the target, which the level has stood above, is the level. -/
theorem standDownFall_kept (s : State) : Kept s (standDownFall s) where
  toPartsKept := standDownFall_partsKept s
  interlock b h := by
    obtain ⟨hlevel, hworks⟩ := h
    refine ⟨by simp, fun hstop => ?_⟩
    simp only [standDownFall_wrn, standDownFall_frame] at hstop ⊢
    exact (hworks (hstop.trans hlevel)).imp (lt_of_le_of_lt hlevel) id
  warning h :=
    { target := Wrn.target_eq_targetOf (w := s.wrn) (table := s.tbl.rules) (by simpa using h.target)
      level := by simp
      standDown := by simp
      held := by simp
      outputs := drive_outputs _ }

theorem standDownChanged_kept (old : List Byte) (s : State) : Kept s (standDownChanged old s) := by
  unfold standDownChanged
  split
  · next d hd =>
    dsimp only
    split
    · exact .refl s
    · split
      · exact standDownFall_kept s
      · exact
          { toPartsKept := setWrn_partsKept s _
            interlock := fun b h => h
            warning := fun h => ⟨h.target.trans (Wrn.targetOf_congr rfl rfl _), h.level,
              by simpa [hd] using h.standDown, by simpa using h.held d hd,
              h.outputs.trans (Wrn.outputsOf_congr rfl rfl rfl _)⟩ }
  · exact .refl s

/-- R55: the silence and the test may change when the outputs are set again. -/
theorem drive_kept {s : State} {w : Wrn} (rules : w.rules = s.wrn.rules) (lost : w.stageLost = s.wrn.stageLost)
    (target : w.target = s.wrn.target) (level : w.level = s.wrn.level) (standDown : w.standDown = s.wrn.standDown)
    (hold : w.resetHold = s.wrn.resetHold) : Kept s (drive (s.setWrn w)) where
  toPartsKept := (setWrn_partsKept s w).trans (drive_partsKept _)
  interlock b h := by simpa [InterlockBelow, drive, target, level] using h
  warning h :=
    { target :=
        Wrn.target_eq_targetOf (w := s.wrn) (table := s.tbl.rules) (by simpa [drive, target] using h.target)
          (by simp [drive, rules]) (by simp [drive, lost]) rfl
      level := by simpa [drive, target, level] using h.level
      standDown := by simpa [drive, standDown, target, level, hold] using h.standDown
      held := by simpa [drive, standDown, level] using h.held
      outputs := rfl }

end Sys2Proof.Machine
end

section
/-! What the stage unit keeps (R2 to R21): it touches WRN only through its entries, and of its own fields the properties
read the length of the ring alone. -/

namespace Sys2Proof.Machine

set_option Elab.async false

theorem setStg_kept {s : State} {g : Stg} (history : s.stg.history.length = 64 → g.history.length = 64 := by simp) :
    Kept s (s.setStg g) :=
  .of_still (sizes := { history := by simpa using history })

/-- An effect that comes on a condition. -/
theorem Kept.when {p : Prop} [Decidable p] {s t : State} (h : Kept s t) : Kept s (if p then t else s) := by
  split
  · exact h
  · exact .refl s

/-- An effect that takes one of two forms. -/
theorem Kept.either {p : Prop} [Decidable p] {s t u : State} (h : Kept s t) (k : Kept s u) :
    Kept s (if p then t else u) := by
  split
  · exact h
  · exact k

theorem markInterval_kept (f : IntervalFlags) (s : State) : Kept s (markInterval f s) := setStg_kept

theorem setSource_kept (src : Source) (r : SourceRec) (s : State) : Kept s (s.setStg (s.stg.setSource src r)) :=
  setStg_kept

theorem closeInterval_kept (s : State) : Kept s (closeInterval s) :=
  append_kept s fun _ => by simp [Content.slotCount]

theorem openInterval_kept (start after : Nat) (s : State) : Kept s (openInterval start after s) := setStg_kept

theorem latest_kept (r : Option RatResult) (s : State) : Kept s (s.setRat { s.rat with latest := r }) := .of_still

theorem publish_kept (s : State) : Kept s (publish s) := by
  unfold publish
  split
  · exact .refl s
  · exact (setStg_kept).trans ((latest_kept _ _).trans ((wrnStage_kept _ _ _).trans setStg_kept))

theorem loseStage_kept (s : State) : Kept s (loseStage s) :=
  (setStg_kept).trans ((latest_kept _ _).trans ((wrnStageLost_kept _).trans ((markInterval_kept _ _).trans
    (appendNotice_kept _ _))))

theorem restoreStage_kept (src : Source) (s : State) : Kept s (restoreStage src s) :=
  (setStg_kept).trans (appendNotice_kept _ _)

theorem selectAfter_kept (src : Source) (s : State) : Kept s (selectAfter src s) := by
  unfold selectAfter
  split
  · exact restoreStage_kept _ s
  · split <;> exact setStg_kept
  · exact .refl s

theorem align_kept (v : Sample) (s : State) : Kept s (s.setStg (s.stg.align v)) :=
  setStg_kept

theorem accept_kept (src : Source) (v : Sample) (t : Nat) (s : State) : Kept s (accept src v t s) := by
  unfold accept
  dsimp only
  refine .trans ?_ (.when (publish_kept _))
  refine .trans ?_ (.when (align_kept v _))
  exact (setSource_kept src _ s).trans (selectAfter_kept src _)

theorem becomeSuspect_kept (src : Source) (v : Sample) (s : State) : Kept s (becomeSuspect src v s) := by
  unfold becomeSuspect
  dsimp only
  split
  · exact setStg_kept
  · exact setSource_kept src _ s

theorem dropSuspect_kept (src : Source) (s : State) : Kept s (dropSuspect src s) := setSource_kept src _ s

theorem judgeSample_kept (src : Source) (v : Sample) (t : Nat) (s : State) : Kept s (judgeSample src v t s) := by
  unfold judgeSample
  dsimp only
  split
  · exact accept_kept src v t s
  · split
    · exact accept_kept src v t s
    · exact becomeSuspect_kept src v s
  · split
    · exact (dropSuspect_kept src s).trans ((accept_kept ..).trans (accept_kept ..))
    · split
      · exact (dropSuspect_kept src s).trans (accept_kept ..)
      · exact becomeSuspect_kept src v s

theorem stageSample_kept (src : Source) (raw : Nat) (gain offset : Int) (t : Nat) (s : State) :
    Kept s (stageSample src raw gain offset t s) :=
  judgeSample_kept src _ t s

theorem selectAfterStale_kept (src : Source) (s : State) : Kept s (selectAfterStale src s) := by
  unfold selectAfterStale
  split
  · split
    · exact (setStg_kept).trans (publish_kept _)
    · exact loseStage_kept s
  · split
    · exact (setStg_kept).trans (publish_kept _)
    · exact loseStage_kept s
  · exact setStg_kept
  · exact .refl s

theorem becomeStale_kept (src : Source) (s : State) : Kept s (becomeStale src s) :=
  (setSource_kept src _ s).trans (selectAfterStale_kept src _)

theorem missingSample_kept (src : Source) (s : State) : Kept s (missingSample src s) := by
  unfold missingSample
  dsimp only
  split
  · exact (markInterval_kept _ s).trans setStg_kept
  · exact markInterval_kept _ s

theorem staleLimitChanged_kept (old : List Byte) (s : State) : Kept s (staleLimitChanged old s) := by
  unfold staleLimitChanged
  split
  · exact .refl s
  · exact (setStg_kept).trans ((Kept.when (becomeStale_kept ..)).trans (.when (becomeStale_kept ..)))

/-- R17: a cleared ring has its 64 entries. -/
theorem historyStepChanged_kept (old : List Byte) (s : State) : Kept s (historyStepChanged old s) := by
  unfold historyStepChanged
  split
  · exact .refl s
  · exact setStg_kept

/-- R17: an entry goes in front of the ring and the last one out of it. -/
theorem enterHistory_kept (s : State) : Kept s (enterHistory s) := setStg_kept (by simp +contextual)

theorem standDownExpiry_kept (s : State) : Kept s (if s.standDownDue then standDownFall s else s) :=
  .when (standDownFall_kept s)

end Sys2Proof.Machine
end

section
/-! The choice of a due poll (R79, R82). -/

namespace Sys2Proof.Machine

set_option Elab.async false

theorem Loop.poll?_eq_some (l : Loop) (i : Nat) (p : Poll) : l.poll? i = some p ↔ l.sched[i]? = some (some p) := by
  rw [Loop.poll?, List.getD_eq_getElem?_getD]
  cases l.sched[i]? <;> simp

/-- R79, R82: the choice among the polls of `sched`: with no due poll none, and otherwise one with the earliest due time,
of the lowest channel. -/
def EarliestIn (sched : List (Option Poll)) (now : Nat) : Option (Nat × Poll) → Prop
  | none => ∀ (j : Nat) (r : Poll), sched[j]? = some (some r) → now < r.due
  | some (k, q) =>
    sched[k]? = some (some q) ∧ q.due ≤ now ∧
      ∀ (j : Nat) (r : Poll), sched[j]? = some (some r) → r.due ≤ now → q.due < r.due ∨ (q.due = r.due ∧ k ≤ j)

theorem getElem?_concat_some {α : Type} {l : List α} {a b : α} {j : Nat} (h : (l ++ [a])[j]? = some b) :
    l[j]? = some b ∨ (j = l.length ∧ a = b) := by
  obtain hlt | heq | hgt := Nat.lt_trichotomy j l.length
  · exact .inl (by rwa [List.getElem?_append_left hlt] at h)
  · subst heq
    exact .inr ⟨rfl, by simpa using h⟩
  · rw [List.getElem?_eq_none (by simp; omega)] at h
    cases h

theorem EarliestIn.lt_length {sched : List (Option Poll)} {now k : Nat} {q : Poll}
    (h : EarliestIn sched now (some (k, q))) : k < sched.length :=
  have ⟨hat, _, _⟩ := h
  (List.getElem?_eq_some_iff.mp hat).1

/-- A poll that is not due, or due no earlier than the one chosen, leaves the choice. -/
theorem EarliestIn.concat_of_later {sched : List (Option Poll)} {now k : Nat} {q : Poll} {e : Option Poll}
    (h : EarliestIn sched now (some (k, q))) (he : ∀ p, e = some p → p.due ≤ now → q.due ≤ p.due) :
    EarliestIn (sched ++ [e]) now (some (k, q)) := by
  have hk := h.lt_length
  obtain ⟨hat, hdue, hleast⟩ := h
  refine ⟨by rwa [List.getElem?_append_left hk], hdue, fun j r hj hr => ?_⟩
  obtain hj | ⟨rfl, rfl⟩ := getElem?_concat_some hj
  · exact hleast j r hj hr
  · have := he r rfl hr
    omega

theorem EarliestIn.concat_of_none {sched : List (Option Poll)} {now : Nat} {e : Option Poll}
    (h : EarliestIn sched now none) (he : ∀ p, e = some p → now < p.due) : EarliestIn (sched ++ [e]) now none := by
  intro j r hj
  obtain hj | ⟨rfl, rfl⟩ := getElem?_concat_some hj
  · exact h j r hj
  · exact he r rfl

/-- A due poll, earlier than the one chosen if there is one, is the choice. -/
theorem EarliestIn.concat_of_earlier {sched : List (Option Poll)} {now : Nat} {best : Option (Nat × Poll)} {p : Poll}
    (h : EarliestIn sched now best) (hp : p.due ≤ now) (hbest : ∀ b, best = some b → p.due < b.2.due) :
    EarliestIn (sched ++ [some p]) now (some (sched.length, p)) := by
  refine ⟨by simp, hp, fun j r hj hr => ?_⟩
  obtain hj | ⟨rfl, hpr⟩ := getElem?_concat_some hj
  · match best, h with
    | none, h =>
      have := h j r hj
      omega
    | some (k, q), ⟨_, _, hleast⟩ =>
      have : p.due < q.due := hbest _ rfl
      have := hleast j r hj hr
      omega
  · cases hpr
    exact .inr ⟨rfl, le_rfl⟩

theorem earliestDue_spec (sched : List (Option Poll)) (now : Nat) : EarliestIn sched now (earliestDue sched now) := by
  induction sched using List.reverseRecOn with
  | nil => intro j r h; simp at h
  | append_singleton sched e ih =>
    rw [earliestDue, List.zipIdx_append, List.foldl_append, ← earliestDue]
    simp only [List.zipIdx_cons, List.zipIdx_nil, List.foldl_cons, List.foldl_nil, Nat.zero_add]
    cases e with
    | none =>
      cases hbest : earliestDue sched now with
      | none => exact (hbest ▸ ih).concat_of_none (by simp)
      | some b => exact (hbest ▸ ih).concat_of_later (by simp)
    | some p =>
      dsimp only
      split
      · next hp =>
        split
        · next b hbest =>
          split
          · next hlt => exact ih.concat_of_earlier hp (by simp [hbest, hlt])
          · next hlt =>
            rw [hbest]
            exact .concat_of_later (e := some p) (hbest ▸ ih) (by rintro _ ⟨⟩ -; exact Nat.le_of_not_lt hlt)
        · next hbest => exact ih.concat_of_earlier hp (by simp [hbest])
      · next hp =>
        cases hbest : earliestDue sched now with
        | none => exact (hbest ▸ ih).concat_of_none (by simpa using hp)
        | some b =>
          exact (hbest ▸ ih).concat_of_later (by rintro _ ⟨⟩ hdue; exact absurd hdue hp)

theorem poll?_of_earliestDue {l : Loop} {now k : Nat} {q : Poll} (h : earliestDue l.sched now = some (k, q)) :
    l.poll? k = some q := by
  have hspec := earliestDue_spec l.sched now
  rw [h] at hspec
  exact (l.poll?_eq_some k q).mpr hspec.1

/-- A poll put in the place of another leaves the schedule with the entries it has. -/
theorem Loop.setPoll_sched {l : Loop} {ch : Nat} {p : Poll} (q : Poll) (h : l.poll? ch = some p) :
    (l.setPoll ch q).sched.map Option.isSome = l.sched.map Option.isSome := by
  rw [Loop.poll?_eq_some] at h
  apply List.ext_getElem?
  intro i
  simp only [Loop.setPoll, List.getElem?_map, List.getElem?_set]
  split
  · next hi =>
    subst hi
    split
    · simp [h]
    · next hlen => simp [List.getElem?_eq_none (Nat.le_of_not_lt hlen)]
  · rfl

end Sys2Proof.Machine
end

section
/-! What the uplink, the control decoder and the arbiter keep (R70 to R83, R174 to R193). -/

namespace Sys2Proof.Machine

set_option Elab.async false

theorem setLoop_kept {s : State} {l : Loop} (grant : GrantConsistent s.loop → GrantConsistent l)
    (service : s.loop.serviceQ.length ≤ 4 → l.serviceQ.length ≤ 4 := by simp)
    (sched : l.sched.map Option.isSome = s.loop.sched.map Option.isSome := by simp) : Kept s (s.setLoop l) :=
  (PartsKept.of_grant (by simpa using grant)
    (sizes := { service := by simpa using service, sched := by simpa using sched })).kept

/-- A change of LOOP that leaves what the properties read of it. -/
theorem setLoop_kept_of_still {s : State} {l : Loop} (grant : GrantStill s (s.setLoop l) := by exact {})
    (service : s.loop.serviceQ.length ≤ 4 → l.serviceQ.length ≤ 4 := by simp)
    (sched : l.sched.map Option.isSome = s.loop.sched.map Option.isSome := by simp) : Kept s (s.setLoop l) :=
  setLoop_kept grant.grant_kept service sched

theorem setUpl_kept {s : State} {u : Upl} (forward : s.upl.fwdQ.length ≤ 8 → u.fwdQ.length ≤ 8 := by simp)
    (ready : u.ready = s.upl.ready := by simp) : Kept s (s.setUpl u) :=
  .of_still (sizes := { forward := by simpa using forward, control := by simp [ControlReady, ready] })

theorem setCtl_kept {s : State} {c : Ctl} (queue : c.queue = s.ctl.queue := by simp)
    (work : c.inHand.bind InHand.work = s.ctl.inHand.bind InHand.work ∨ c.inHand.bind InHand.work = none := by simp) :
    Kept s (s.setCtl c) :=
  .of_still (tables := { work := by simpa [State.work] using work }) (sizes := { control := by simp [ControlReady, queue] })

theorem setCht_kept {s : State} {c : Cht} (view : c.view = s.cht.view := by simp) : Kept s (s.setCht c) :=
  .of_still (tables := { view := by simpa using view })

/-! ## UPL -/

theorem uplinkSelect_kept (s : State) : Kept s (uplinkSelect s) := .of_still

theorem uplinkRateEffect_kept (s : State) : Kept s (uplinkRateEffect s) := .of_still

theorem placeInSlot_kept (r : Reply) (s : State) : Kept s (placeInSlot r s) :=
  (setUpl_kept).trans (uplinkSelect_kept _)

/-- R175: a full forward queue loses its oldest item before the next comes in. -/
theorem forwardAdd_kept (channel : Nat) (addr kind : Byte) (payload : List Byte) (s : State) :
    Kept s (forwardAdd channel addr kind payload s) := by
  unfold forwardAdd
  dsimp only
  refine .trans (setUpl_kept (fun hqueue => ?_) ?_) (uplinkSelect_kept _)
  · split
    · next h => simpa using h
    · simp only [List.length_append, List.length_singleton, Upl.dropOldest_frame, List.length_tail]
      omega
  · split <;> simp

/-! ## CTL -/

theorem setQueue_kept {q : List Request} {s : State} (h : s.ctl.queue.length ≤ 4 → q.length ≤ 4) :
    Kept s (setQueue q s) :=
  .of_still
    (sizes :=
      { control := fun ⟨hlen, hlow, hhigh⟩ =>
          ⟨h hlen, fun h3 => by simp [setQueue, readyAfter] at h3 ⊢; omega,
            fun h1 => by simp [setQueue, readyAfter] at h1 ⊢; omega⟩ })

theorem feedService_kept (s : State) : Kept s (feedService s) := by
  by_cases h : ∃ fs, s.ctl.pendingReply = some (.fragments fs)
  · obtain ⟨fs, hfs⟩ := h
    obtain ⟨entries, hentries, hqueue, -, hin⟩ := feedService_of_frames hfs
    have hlength : entries.length ≤ 4 - s.loop.serviceQ.length := by
      have := congrArg List.length hentries
      simp at this
      omega
    refine .of_still (tables := { work := ?_ }) (sizes := { service := ?_ })
    · obtain hin | hin := hin <;> simp [State.work, hin]
    · rw [hqueue, List.length_append]
      omega
  · rw [feedService_of_noFrames fun fs hfs => h ⟨fs, hfs⟩]
    exact .refl s

theorem placeReply_kept (r : Reply) (s : State) : Kept s (placeReply r s) :=
  (setCtl_kept).trans (placeInSlot_kept r _)

theorem sendReply_kept (payload : List Byte) (s : State) : Kept s (sendReply payload s) := by
  unfold sendReply
  split
  · exact .refl s
  · split
    · exact .either (placeReply_kept _ s) setCtl_kept
    · exact (setCtl_kept).trans (feedService_kept _)

theorem answer_kept (code : Byte) (fields : List Byte) (s : State) : Kept s (answer code fields s) :=
  sendReply_kept _ s

theorem offerPending_kept (s : State) : Kept s (offerPending s) := by
  unfold offerPending
  split
  · exact .when (placeReply_kept _ s)
  · exact .refl s

theorem refuseBusy_kept (r : Request) (s : State) : Kept s (refuseBusy r s) := by
  unfold refuseBusy
  dsimp only
  split
  · exact .either (placeInSlot_kept _ s) setCtl_kept
  · split
    · next h => exact setLoop_kept_of_still (service := fun _ => by simpa using h)
    · exact setLoop_kept_of_still

theorem enqueue_kept (r : Request) (s : State) : Kept s (enqueue r s) := by
  unfold enqueue
  split
  · next h => exact setQueue_kept fun _ => by simpa using h
  · exact refuseBusy_kept r s

theorem refuseTaken_kept (r : Request) (code : Byte) (s : State) : Kept s (refuseTaken r code s) :=
  (setCtl_kept).trans (answer_kept code [] _)

/-! ## LOOP: the arbiter and the command pair -/

/-- R102: of the commands only a GRANT touches the grant. -/
theorem Loop.openCommand_grant (l : Loop) (c : RunCmd) :
    (l.openCommand c).grant = l.grant ∨
      ∃ limit mode, (l.openCommand c).grant =
        { l.grant with
          state := .opening, node := c.addr, limit := clampNat 1 32 limit, mode := mode, count := 0, timerAt := none,
          wait := none, cause := none, recorded := none } := by
  unfold Loop.openCommand
  dsimp only
  split
  · exact .inr ⟨_, _, rfl⟩
  · exact .inl rfl

theorem Loop.openCommand_sched (l : Loop) (c : RunCmd) : (l.openCommand c).sched = l.sched := by simp

/-- R82: a choice is made with no grant held, and a GRANT chosen makes the grant OPENING. -/
theorem GrantConsistent.openCommand {l : Loop} (c : RunCmd) (hopen : l.grant.held = false) (h : GrantConsistent l) :
    GrantConsistent (l.openCommand c) := by
  obtain ⟨hexclusive, htimer, hcause, hrecorded⟩ := h
  obtain hsame | ⟨limit, mode, hgrant⟩ := l.openCommand_grant c
  · constructor <;> rw [hsame]
    · simp [hopen]
    · exact htimer
    · exact hcause
    · exact hrecorded
  · constructor <;> simp [hgrant, Grant.held]

theorem GrantConsistent.of_notHeld {l l' : Loop} (grant : l'.grant = l.grant) (hopen : l.grant.held = false)
    (h : GrantConsistent l) : GrantConsistent l' := by
  obtain ⟨-, htimer, hcause, hrecorded⟩ := h
  constructor <;> rw [grant]
  · simp [hopen]
  · exact htimer
  · exact hcause
  · exact hrecorded

theorem Loop.held_of_mayChoose {l : Loop} (h : l.mayChoose = true) : l.grant.held = false := by
  simp only [Loop.mayChoose, Loop.pairFree, Bool.and_eq_true, Bool.not_eq_true'] at h
  exact h.1.1.2

theorem Loop.openPoll_sched {l : Loop} {ch : Nat} {p : Poll} (addr period : Nat) (h : l.poll? ch = some p) :
    (l.openPoll ch addr period p).sched.map Option.isSome = l.sched.map Option.isSome :=
  Loop.setPoll_sched _ h

theorem choose_kept (s : State) : Kept s (choose s) := by
  unfold choose
  split
  · exact .refl s
  · next hmay =>
    have hopen := Loop.held_of_mayChoose (by simpa using hmay)
    split
    · exact setLoop_kept (.openCommand _ hopen)
    · split
      · next ch p hdue =>
        exact setLoop_kept (.of_notHeld (by simp) hopen) (by simp) (Loop.openPoll_sched _ _ (poll?_of_earliestDue hdue))
      · exact .refl s

theorem Loop.takeOpening_txn {l l' : Loop} {f : CmdFrame} (h : l.takeOpening = some (f, l')) :
    ∃ t, l.txn = some t ∧ t.phase = .queued ∧ f = .opening t.addr t.asker.kind ∧
      l'.txn = some { t with phase := .sending } := by
  unfold Loop.takeOpening at h
  split at h
  · next t ht =>
    split at h
    · next hphase =>
      cases h
      exact ⟨t, ht, hphase, rfl, rfl⟩
    · cases h
  · cases h

/-- R70: the transmitter leaves the transaction, but for the one whose opening frame it takes. -/
theorem Loop.takeNext_txn {l l' : Loop} {f : CmdFrame} (h : l.takeNext = some (f, l')) :
    l'.txn = l.txn ∨
      ∃ t, l.txn = some t ∧ t.phase = .queued ∧ f = .opening t.addr t.asker.kind ∧
        l'.txn = some { t with phase := .sending } := by
  unfold Loop.takeNext at h
  split at h
  · cases h
    exact .inl rfl
  · split at h
    · next r hwaiting =>
      cases h
      rw [Loop.takeWaiting_frame hwaiting]
      exact .inl rfl
    · exact .inr (Loop.takeOpening_txn h)

theorem Loop.takeNext_serviceQ_length {l l' : Loop} {f : CmdFrame} (h : l.takeNext = some (f, l')) :
    l'.serviceQ.length ≤ l.serviceQ.length := by
  have hlength := congrArg List.length (Loop.takeNext_serviceFrames h)
  simp only [List.length_append, List.length_map] at hlength
  omega

theorem rateEffect_kept (s : State) : Kept s (rateEffect s) := .when setLoop_kept_of_still

theorem kickFrom_kept (t : Nat) (s : State) : Kept s (kickFrom t s) := by
  obtain h | ⟨f, l, doneAt, -, hnext, h⟩ := kickFrom_cases t s <;> rw [h]
  · exact .refl s
  · have htxn : s.loop.txn = none → l.txn = none := fun hnone => by
      obtain hsame | ⟨t, ht, -⟩ := Loop.takeNext_txn hnext
      · rw [hsame, hnone]
      · rw [hnone] at ht
        cases ht
    refine .trans ?_ (feedService_kept _)
    rw [Loop.takeNext_frame hnext]
    exact setLoop_kept_of_still (grant := { txn := by simpa using htxn })
      (service := (Loop.takeNext_serviceQ_length hnext).trans)

theorem settleFrom_kept (t : Nat) (s : State) : Kept s (settleFrom t s) :=
  (rateEffect_kept s).trans ((choose_kept _).trans (kickFrom_kept t _))

theorem settle_kept (s : State) : Kept s (settle s) := settleFrom_kept _ s

end Sys2Proof.Machine
end

section
/-! What the channel table and the reception of frames keep (R71 to R75, R89 to R98). -/

namespace Sys2Proof.Machine

set_option Elab.async false

/-! ## CHT -/

theorem onStats_kept (i : Nat) (f : EntryStats → EntryStats) (s : State) : Kept s (s.onStats i f) := setCht_kept

theorem discard_kept (p : Placing) (r : DiscardReason) (s : State) : Kept s (discard p r s) := by
  cases p
  · exact setCht_kept
  · exact onStats_kept _ _ s
  · exact .refl s

theorem countDelivered_kept (p : Placing) (s : State) : Kept s (countDelivered p s) := by
  cases p
  · exact .refl s
  · exact onStats_kept _ _ s
  · exact .refl s

theorem unknownFrame_kept (f : GoodFrame) (s : State) : Kept s (unknownFrame f s) := setCht_kept

theorem deliverStage_kept (i : Nat) (src : Source) (f : GoodFrame) (s : State) : Kept s (deliverStage i src f s) := by
  unfold deliverStage
  dsimp only
  refine .either (discard_kept ..) (.either (onStats_kept ..) (.either (discard_kept ..) ?_))
  exact (onStats_kept ..).trans (stageSample_kept ..)

theorem forwardFrom_kept (i : Nat) (f : GoodFrame) (s : State) : Kept s (forwardFrom i f s) :=
  (onStats_kept ..).trans (forwardAdd_kept ..)

theorem handleStage_kept (i : Nat) (src : Source) (f : GoodFrame) (s : State) : Kept s (handleStage i src f s) := by
  unfold handleStage
  dsimp only
  refine .either (.trans (deliverStage_kept ..) (.when (forwardFrom_kept ..))) (.either (.refl s) (discard_kept ..))

theorem handleWinch_kept (p : Placing) (f : GoodFrame) (s : State) : Kept s (handleWinch p f s) := by
  unfold handleWinch
  refine .either ?_ (.either (.either (.refl s) (discard_kept ..)) (.either (.refl s) (discard_kept ..)))
  split
  · exact (countDelivered_kept p s).trans (runPosition_kept ..)
  · exact discard_kept ..

theorem handleForward_kept (i : Nat) (f : GoodFrame) (s : State) : Kept s (handleForward i f s) :=
  .either (.refl s) (forwardFrom_kept i f s)

theorem handleService_kept (i : Nat) (f : GoodFrame) (s : State) : Kept s (handleService i f s) :=
  .either (.either (discard_kept ..) ((countDelivered_kept ..).trans (enqueue_kept ..)))
    (.either (.refl s) (discard_kept ..))

theorem handleEntry_kept (i : Nat) (f : GoodFrame) (s : State) : Kept s (handleEntry i f s) := by
  unfold handleEntry
  dsimp only
  split
  · exact (onStats_kept ..).trans (handleStage_kept ..)
  · exact (onStats_kept ..).trans (handleStage_kept ..)
  · exact (onStats_kept ..).trans (handleWinch_kept ..)
  · exact (onStats_kept ..).trans (handleForward_kept ..)
  · exact (onStats_kept ..).trans (handleService_kept ..)
  · exact onStats_kept ..

theorem classify_kept (f : GoodFrame) (s : State) : Kept s (classify f s) := by
  unfold classify
  split
  · exact (setCht_kept).trans (handleWinch_kept ..)
  · exact handleEntry_kept ..
  · exact unknownFrame_kept f s

theorem notifyMissing_kept (ch : Nat) (s : State) : Kept s (notifyMissing ch s) := by
  unfold notifyMissing
  split
  · exact missingSample_kept ..
  · exact .refl s

/-! ## LOOP: frames and transactions -/

theorem beginFrame_kept (addr : Byte) (s : State) : Kept s (beginFrame addr s) := by
  unfold beginFrame
  dsimp only
  split
  · exact setLoop_kept_of_still (grant := { })
  · split
    · next t ht =>
      split <;> exact setLoop_kept_of_still (grant := { txn := by simp [ht] })
    · exact setLoop_kept_of_still

theorem afterFault_kept (f : FrameFault) (s : State) : Kept s (afterFault f s) := by
  unfold afterFault
  split
  · exact beginFrame_kept ..
  · exact .refl s

theorem nodeFailure_kept (addr : Nat) (s : State) : Kept s (nodeFailure addr s) :=
  (setLoop_kept_of_still).trans (.when (runCountRise_kept ..))

/-- A loop with the grant and the schedule of another, and no transaction where the other has none. -/
theorem setLoop_kept_of_frame {s : State} {l : Loop} (grant : l.grant = s.loop.grant := by simp)
    (txn : s.loop.txn = none → l.txn = none := by simp) (service : l.serviceQ = s.loop.serviceQ := by simp)
    (sched : l.sched.map Option.isSome = s.loop.sched.map Option.isSome := by simp) : Kept s (s.setLoop l) :=
  setLoop_kept_of_still
    (grant :=
      { state := by simp [grant], timerAt := by simp [grant], cause := by simp [grant], recorded := by simp [grant],
        txn := by simpa using txn })
    (by simp [service]) sched

theorem Loop.pollOutcome_sched (l : Loop) (ch : Nat) (o : PollOutcome) :
    (l.pollOutcome ch o).sched.map Option.isSome = l.sched.map Option.isSome := by
  unfold Loop.pollOutcome
  split
  · next p hp => exact Loop.setPoll_sched _ hp
  · rfl

theorem Loop.clearMissed_sched (l : Loop) (ch : Nat) :
    (l.clearMissed ch).sched.map Option.isSome = l.sched.map Option.isSome := by
  unfold Loop.clearMissed
  split
  · next p hp => exact Loop.setPoll_sched _ hp
  · rfl

@[simp] theorem Loop.dropTxn_txn (l : Loop) : l.dropTxn.txn = none := rfl

theorem failTxn_kept (k : RxFault) (s : State) : Kept s (failTxn k s) := by
  unfold failTxn
  split
  · exact .refl s
  · dsimp only
    split
    · refine .trans ?_ (notifyMissing_kept _ _)
      exact .trans (.trans setLoop_kept_of_frame (nodeFailure_kept ..))
        (setLoop_kept_of_frame (sched := Loop.pollOutcome_sched ..))
    · exact .trans (.trans setLoop_kept_of_frame (nodeFailure_kept ..)) (runOutcome_kept ..)

theorem endTxnGood_kept (b : FrameBody) (s : State) : Kept s (endTxnGood b s) := by
  unfold endTxnGood
  split
  · exact .refl s
  · dsimp only
    split
    · refine .trans ?_ (classify_kept _ _)
      split
      · exact setLoop_kept_of_frame (sched := by simp [Loop.clearMissed_sched, Loop.pollOutcome_sched])
      · exact setLoop_kept_of_frame (sched := by simp [Loop.pollOutcome_sched])
    · exact .trans (.trans setLoop_kept_of_frame (classify_kept _ _)) (runOutcome_kept ..)

theorem endReply_kept (b : FrameBody) (s : State) : Kept s (endReply b s) := by
  unfold endReply
  split
  · split
    · exact failTxn_kept ..
    · exact .either (endTxnGood_kept ..) (failTxn_kept ..)
  · exact .refl s

/-! ## LOOP: the grant -/

theorem startClaimWait_kept (t : Nat) (s : State) : Kept s (startClaimWait t s) := setLoop_kept_of_still

theorem restartClaimWait_kept (s : State) : Kept s (restartClaimWait s) := setLoop_kept_of_still

theorem Loop.endGrant_consistent (cause : GrantEnd) (interleave now : Nat) (l : Loop) (rx : Option RxFrame) :
    GrantConsistent { l.endGrant cause interleave now with rx := rx } := by
  constructor <;> simp [Loop.endGrant, Grant.held]

theorem closeGrant_kept (cause : GrantEnd) (s : State) : Kept s (closeGrant cause s) :=
  (setLoop_kept fun _ => Loop.endGrant_consistent ..).trans (runGrantEnded_kept _)

theorem endGrantRx_kept (s : State) : Kept s (endGrantRx s) :=
  (setLoop_kept_of_still).trans (restartClaimWait_kept _)

theorem failGrantFrame_kept (k : RxFault) (s : State) : Kept s (failGrantFrame k s) :=
  (setLoop_kept_of_still).trans ((endGrantRx_kept _).trans (nodeFailure_kept _ _))

/-- R106: a grant in HELD that becomes CLOSING keeps its timer. -/
theorem GrantConsistent.closing {l : Loop} (hheld : l.grant.state = .held) (h : GrantConsistent l) :
    GrantConsistent { l with grant := { l.grant with state := .closing } } := by
  obtain ⟨hexclusive, htimer, hcause, hrecorded⟩ := h
  constructor <;> simp_all [Grant.held]

theorem grantDone_kept (s : State) : Kept s (grantDone s) := by
  unfold grantDone
  split
  · next h => exact (setLoop_kept (.closing h.1)).trans (startClaimWait_kept _ _)
  · exact .refl s

theorem countPosition_kept (payload : List Byte) (s : State) : Kept s (countPosition payload s) := by
  unfold countPosition
  dsimp only
  refine .trans (.trans ?_ (.when (grantDone_kept _))) (.when (closeGrant_kept _ _))
  exact setLoop_kept_of_still

theorem burstEnd_kept (s : State) : Kept s (burstEnd s) := closeGrant_kept _ s

theorem goodGrantFrame_kept (addr : Byte) (b : FrameBody) (s : State) : Kept s (goodGrantFrame addr b s) := by
  unfold goodGrantFrame
  dsimp only
  have hclassified (n : Nat) (p : Bool) (f : GoodFrame) :
      Kept s (classify f (if p then (endGrantRx s).setLoop ((endGrantRx s).loop.setNodeCount n 0) else endGrantRx s)) :=
    (endGrantRx_kept s).trans ((Kept.when setLoop_kept_of_frame).trans (classify_kept f _))
  exact .either (hclassified ..) (.either ((hclassified ..).trans (countPosition_kept _ _))
    (.either ((hclassified ..).trans (burstEnd_kept _)) (hclassified ..)))

theorem endGrantFrame_kept (fin : FrameEnd) (s : State) : Kept s (endGrantFrame fin s) := by
  unfold endGrantFrame
  split
  · split
    · exact failGrantFrame_kept ..
    · exact goodGrantFrame_kept ..
  · exact .refl s
  · exact (failGrantFrame_kept ..).trans (afterFault_kept ..)
  · exact .refl s

theorem endUnsolicitedRx_kept (s : State) : Kept s (endUnsolicitedRx s) :=
  .when ((setLoop_kept_of_still).trans (restartClaimWait_kept _))

theorem endUnsolicited_kept (fin : FrameEnd) (s : State) : Kept s (endUnsolicited fin s) := by
  unfold endUnsolicited
  dsimp only
  split
  · split <;> exact (endUnsolicitedRx_kept s).trans setLoop_kept_of_still
  · exact .refl s
  · exact (endUnsolicitedRx_kept s).trans ((setLoop_kept_of_still).trans (afterFault_kept _ _))

/-! ## LOOP: what a sent frame brings -/

theorem startReplyTimeout_kept (sent : Nat) (s : State) : Kept s (startReplyTimeout sent s) :=
  setLoop_kept_of_still (grant := { txn := by simp +contextual })

theorem afterSent_kept (f : CmdFrame) (sent : Nat) (s : State) : Kept s (afterSent f sent s) := by
  cases f
  · exact .when (startClaimWait_kept ..)
  · exact runOutcome_kept ..
  · exact .when setCtl_kept
  · exact startReplyTimeout_kept ..

theorem movePending_kept (s : State) : Kept s (movePending s) :=
  (setLoop_kept_of_frame).trans (tellReplaced_kept _ _)

/-- The grant as R103 leaves it: no transaction, the timer running in HELD, a recorded claim still to be made. -/
structure GrantBegun (l : Loop) : Prop where
  txn : l.txn = none := by simp [holdGrant]
  state : l.grant.state = .held := by simp [holdGrant]
  timer : l.grant.timerAt.isSome = true := by simp [holdGrant]
  cause : l.grant.cause = none := by simp [holdGrant]

/-- R103 step 5: a claim recorded in OPENING is made, and none is recorded then. -/
theorem makeRecorded_consistent {s : State} (h : GrantBegun s.loop) : GrantConsistent (makeRecorded s).loop := by
  obtain ⟨htxn, hstate, htimer, hcause⟩ := h
  unfold makeRecorded
  split
  · constructor <;> simp [Loop.claim, hstate, htxn]
  · next hrecorded => constructor <;> simp [hstate, htxn, htimer, hcause, hrecorded]

/-- Where a later event leaves the grant consistent whatever it was, what the properties read of the grant may change
before it. -/
theorem Kept.after_grant {s t u : State} (h : Kept t u) (grant : GrantConsistent u.loop) (wrn : t.wrn = s.wrn := by simp)
    (run : RunStill s t := by exact {}) (tables : TablesStill s t := by exact {}) (sizes : SizesStill s t := by exact {}) :
    Kept s u where
  store := h.store ∘ .congr run tables
  marker := h.marker ∘ run.marker_kept
  grant _ := grant
  view := h.view ∘ .congr tables.tbl tables.view sizes.sched
  queues := h.queues ∘ sizes.queues_kept
  tables := h.tables ∘ .congr tables.tbl tables.work
  interlock b := h.interlock b ∘ .congr tables.tbl wrn (by rw [run.state]; exact id)
  warning := h.warning ∘ .congr tables.tbl wrn

/-- R103 steps 4 and 5, from the state that the beginning of the grant leaves. -/
theorem begunGrant_kept {s t : State} (h : Kept (holdGrant s) t) (grant : t.loop.grant = (holdGrant s).loop.grant)
    (txn : t.loop.txn = none) : Kept s (makeRecorded (movePending t)) := by
  have hbegun : GrantBegun (movePending t).loop :=
    { txn := by simp [txn], state := by simp [grant, holdGrant], timer := by simp [grant, holdGrant],
      cause := by simp [grant, holdGrant] }
  have hconsistent := makeRecorded_consistent hbegun
  refine Kept.after_grant (t := holdGrant s) ?_ hconsistent
  exact h.trans ((movePending_kept t).trans (.after_grant (.refl _) hconsistent))

theorem beginGrant_kept (s : State) : Kept s (beginGrant s) := by
  have hopened : Kept s (makeRecorded (movePending (runGrantBegun (holdGrant s)))) :=
    begunGrant_kept (runGrantBegun_kept _) (by simp) (by simp [holdGrant])
  have hanswered (i : Nat) :
      Kept s (makeRecorded (movePending (runGrantBegun (runOutcome i .answered (holdGrant s))))) :=
    begunGrant_kept ((runOutcome_kept ..).trans (runGrantBegun_kept _)) (by simp) (by simp [holdGrant])
  unfold beginGrant
  rcases s.loop.txn with _ | ⟨ch | c, addr, phase⟩
  · exact hopened.trans (.when (closeGrant_kept _ _))
  · exact hopened.trans (.when (closeGrant_kept _ _))
  · exact (hanswered c.id).trans (.when (closeGrant_kept _ _))

end Sys2Proof.Machine
end

section
/-! Laws of the tables (R193): what a write stores, and what every write keeps. -/

namespace Sys2Proof.Machine

set_option Elab.async false

theorem getElem?_writeBytes {t : List Byte} {off : Nat} {data : List Byte} (h : off ≤ t.length) (i : Nat) :
    (writeBytes t off data)[i]? = if off ≤ i ∧ i < off + data.length then data[i - off]? else t[i]? := by
  have hoff : (t.take off).length = off := by simpa using h
  unfold writeBytes
  obtain hlow | hmid | hhigh : i < off ∨ (off ≤ i ∧ i < off + data.length) ∨ off + data.length ≤ i := by omega
  · rw [if_neg (by omega), List.append_assoc, List.getElem?_append_left (by omega), List.getElem?_take, if_pos hlow]
  · rw [if_pos hmid, List.append_assoc, List.getElem?_append_right (by omega), hoff,
      List.getElem?_append_left (by omega)]
  · rw [if_neg (by omega), List.getElem?_append_right (by simp; omega), List.getElem?_drop]
    congr 1
    simp
    omega

theorem length_writeBytes {t : List Byte} {off : Nat} {data : List Byte} (h : off + data.length ≤ t.length) :
    (writeBytes t off data).length = t.length := by
  simp only [writeBytes, List.length_append, List.length_take, List.length_drop]
  omega

/-- Table `n` with new bytes, for each table that is written (R193). -/
def Tables.setBytes (t : Tables) (n : Nat) (bs : List Byte) : Tables :=
  match n with
  | 0 => { t with config := bs }
  | 1 => { t with channels := bs }
  | 2 => { t with staged := bs }
  | 5 => { t with rules := bs }
  | 6 => { t with patterns := bs }
  | n => t.setPlan (n - 7) bs

theorem Tables.setPlan_frame (t : Tables) (n : Nat) (bs : List Byte) :
    (t.setPlan n bs).config = t.config ∧ (t.setPlan n bs).channels = t.channels ∧ (t.setPlan n bs).rules = t.rules ∧
      (t.setPlan n bs).patterns = t.patterns := by
  unfold Tables.setPlan
  split <;> simp

theorem Tables.setBytes_config (t : Tables) {n : Nat} (hn : n ≠ 0) (bs : List Byte) :
    (t.setBytes n bs).config = t.config := by
  unfold Tables.setBytes
  split <;> simp_all [Tables.setPlan_frame]

theorem Tables.setBytes_channels (t : Tables) {n : Nat} (hn : n ≠ 1) (bs : List Byte) :
    (t.setBytes n bs).channels = t.channels := by
  unfold Tables.setBytes
  split <;> simp_all [Tables.setPlan_frame]

theorem Tables.setBytes_rules (t : Tables) {n : Nat} (hn : n ≠ 5) (bs : List Byte) :
    (t.setBytes n bs).rules = t.rules := by
  unfold Tables.setBytes
  split <;> simp_all [Tables.setPlan_frame]

theorem Tables.setBytes_patterns (t : Tables) {n : Nat} (hn : n ≠ 6) (bs : List Byte) :
    (t.setBytes n bs).patterns = t.patterns := by
  unfold Tables.setBytes
  split <;> simp_all [Tables.setPlan_frame]

/-- The numbers of the tables that are written: all but RATING-LIVE and SHIFTS (Table 62). -/
def writtenTable (n : Nat) : Prop := n ≤ 10 ∧ n ≠ 3 ∧ n ≠ 4

theorem Tables.plan_setPlan (t : Tables) {n m : Nat} (hn : n < 4) (hm : m < 4) (bs : List Byte) :
    (t.setPlan n bs).plan m = if m = n then bs else t.plan m := by
  interval_cases n <;> interval_cases m <;> rfl

theorem tableBytes_setBytes (s : State) {n m : Nat} (hn : writtenTable n) (hm : m ≤ 10) (bs : List Byte) :
    (s.setTbl (s.tbl.setBytes n bs)).tableBytes m = if m = n then bs else s.tableBytes m := by
  obtain ⟨hlast, hlive, hshifts⟩ := hn
  have hnumber : n = 0 ∨ n = 1 ∨ n = 2 ∨ n = 5 ∨ n = 6 ∨ n = 7 ∨ n = 8 ∨ n = 9 ∨ n = 10 := by omega
  rcases hnumber with rfl | rfl | rfl | rfl | rfl | rfl | rfl | rfl | rfl <;> interval_cases m <;> rfl

theorem Stored.of_setBytes {s t : State} {n off : Nat} {data : List Byte} (hn : writtenTable n)
    (hfits : off + data.length ≤ (s.tableBytes n).length)
    (tbl : t.tbl = s.tbl.setBytes n (writeBytes (s.tableBytes n) off data)) (live : t.rat.live = s.rat.live)
    (shifts : t.rat.shifts = s.rat.shifts) : Stored n off data s t := by
  have hsame (m : Nat) : t.tableBytes m = (s.setTbl t.tbl).tableBytes m := by
    unfold State.tableBytes
    simp only [State.setTbl_tbl, State.setTbl_rat, live, shifts]
  refine ⟨fun i => ?_, fun m hm hne => ?_⟩
  · rw [hsame, tbl, tableBytes_setBytes s hn hn.1, if_pos rfl, getElem?_writeBytes (by omega)]
  · rw [hsame, tbl, tableBytes_setBytes s hn hm, if_neg hne]

/-! ## What a write keeps -/

/-- R192, R193: the write in hand lies within a written table. -/
theorem writtenTable_of_tableGood {n off : Nat} {data : List Byte} (h : tableGood (.writeTable n off data) = true) :
    writtenTable n ∧ off + data.length ≤ tableSize n := by
  obtain ⟨hlast, hlive, hshifts, hfits, -⟩ := by simpa [tableGood] using h
  exact ⟨⟨hlast, hlive, hshifts⟩, hfits⟩

/-- A write in hand leaves the tables their sizes. -/
theorem TablesSized.setBytes {s : State} {n off : Nat} {data : List Byte} (hwork : s.work = some (.writeTable n off data))
    (h : TablesSized s) :
    TablesSized (s.setTbl (s.tbl.setBytes n (writeBytes (s.tableBytes n) off data))) where
  size m hm h3 h4 := by
    obtain ⟨hn, hfits⟩ := writtenTable_of_tableGood (h.work _ hwork)
    rw [tableBytes_setBytes s hn hm]
    split
    · next heq =>
      subst heq
      rw [length_writeBytes (by rw [h.size m hm h3 h4]; exact hfits), h.size m hm h3 h4]
    · exact h.size m hm h3 h4
  work := h.work

theorem RunWithinPlan.setTbl {s : State} {tbl : Tables}
    (plans : ∀ m, s.run.marker.map Marker.plan = some m → m < 4 → tbl.plan m = s.tbl.plan m) (h : RunWithinPlan s) :
    RunWithinPlan (s.setTbl tbl) where
  done := h.done
  going r v hr hv := by
    obtain ⟨hdone, hlast, hplan, hgood, hmarker⟩ := h.going r v hr hv
    exact ⟨hdone, hlast, hplan, by rw [State.setTbl_tbl, plans _ hmarker hplan, hgood], hmarker⟩
  asked := h.asked

/-- A write in hand to a table other than CHANNELS and the plan of the run keeps what is said of the parts but WRN. -/
theorem setBytes_partsKept {s : State} {n off : Nat} {data : List Byte}
    (hwork : s.work = some (.writeTable n off data)) (channels : n ≠ 1)
    (plan : 7 ≤ n → s.run.marker.map Marker.plan ≠ some (n - 7)) :
    PartsKept s (s.setTbl (s.tbl.setBytes n (writeBytes (s.tableBytes n) off data))) where
  store h := by
    obtain ⟨hstore, hplan, hshifts⟩ := h
    obtain ⟨hn, -⟩ := writtenTable_of_tableGood (hplan.asked _ hwork).1
    refine ⟨hstore, hplan.setTbl fun m hmarker hm => ?_, hshifts⟩
    have hother : 7 + m ≠ n := fun heq => plan (by omega) (by rw [hmarker]; congr 1; omega)
    have hbytes := tableBytes_setBytes s hn (m := 7 + m) (by omega) (writeBytes (s.tableBytes n) off data)
    rw [if_neg hother] at hbytes
    interval_cases m <;> exact hbytes
  marker := id
  grant := id
  view h := ⟨by rw [State.setTbl_tbl, Tables.setBytes_channels _ channels]; exact h.view, h.size, h.polls⟩
  queues := (SizesStill.queues_kept {})
  tables := .setBytes hwork

/-- A write in hand to RATING-STAGED or to a plan that no run guards. -/
theorem setBytes_kept {s : State} {n off : Nat} {data : List Byte} (hwork : s.work = some (.writeTable n off data))
    (other : n ≠ 0 ∧ n ≠ 1 ∧ n ≠ 5 ∧ n ≠ 6) (plan : 7 ≤ n → s.run.marker.map Marker.plan ≠ some (n - 7)) :
    Kept s (s.setTbl (s.tbl.setBytes n (writeBytes (s.tableBytes n) off data))) := by
  obtain ⟨hconfig, hchannels, hrules, hpatterns⟩ := other
  exact
    { toPartsKept := setBytes_partsKept hwork hchannels plan
      interlock := fun b h => by simpa [InterlockBelow, Tables.setBytes_config _ hconfig] using h
      warning := fun h =>
        { target := by simpa [Tables.setBytes_rules _ hrules] using h.target
          level := h.level, standDown := h.standDown, held := h.held
          outputs := by simpa [Tables.setBytes_patterns _ hpatterns] using h.outputs } }

/-- R60: the abort that a new stop level brings restores the interlock for the levels from the old one on. -/
theorem stopLevelChanged_interlock {b : Nat} {old : List Byte} {s : State}
    (h : InterlockBelow (max b (cfgStopLevel old)) s) : InterlockBelow b (stopLevelChanged old s) := by
  obtain ⟨hlevel, hworks⟩ := h
  unfold stopLevelChanged
  split
  · exact ⟨by simpa using hlevel, fun _ => .inr (abortRun_not_working _ _)⟩
  · next hstands =>
    refine ⟨hlevel, fun hstop => (hworks hstop).imp (fun hbelow => ?_) id⟩
    have hold : cfgStopLevel old ≤ s.wrn.level := by simpa [State.interlock, hstop] using hstands
    omega

theorem configWritten_kept {s : State} {off : Nat} {data : List Byte} (hwork : s.work = some (.writeTable 0 off data)) :
    Kept s (configWritten s.tbl.config (s.setTbl { s.tbl with config := writeBytes s.tbl.config off data })) := by
  have hchain := (staleLimitChanged_kept s.tbl.config
      (s.setTbl { s.tbl with config := writeBytes s.tbl.config off data })).trans
    ((historyStepChanged_kept s.tbl.config _).trans (standDownChanged_kept s.tbl.config _))
  have habort (u : State) : Kept u (stopLevelChanged s.tbl.config u) := .when (abortRun_kept _ u)
  have hparts := setBytes_partsKept hwork (by decide) (by omega)
  exact
    { toPartsKept := hparts.trans
        (hchain.trans ((habort _).trans (uplinkRateEffect_kept _))).toPartsKept
      interlock := fun b h => (uplinkRateEffect_kept _).interlock b (stopLevelChanged_interlock (hchain.interlock _ (by
        obtain ⟨hlevel, hworks⟩ := h
        refine ⟨hlevel, fun _ => ?_⟩
        obtain hold | hold := Nat.lt_or_ge s.wrn.level (cfgStopLevel s.tbl.config)
        · exact .inl (lt_max_of_lt_right hold)
        · exact (hworks hold).imp lt_max_of_lt_left id)))
      warning := fun h => (hchain.trans ((habort _).trans (uplinkRateEffect_kept _))).warning
        ⟨h.target, h.level, h.standDown, h.held, h.outputs⟩ }

theorem rulesWritten_kept {s : State} {off : Nat} {data : List Byte} (hwork : s.work = some (.writeTable 5 off data)) :
    Kept s (rulesWritten off data.length (s.setTbl { s.tbl with rules := writeBytes s.tbl.rules off data })) where
  toPartsKept := (setBytes_partsKept hwork (by decide) (by omega)).trans
    ((setWrn_partsKept _ _).trans (applyTarget_partsKept _))
  interlock b h := applyTarget_interlock h.2
  warning h := by
    obtain ⟨hhold, hheld, hout⟩ := h.ready
    exact applyTarget_warning ⟨hhold, hheld, hout.trans (Wrn.outputsOf_congr rfl rfl rfl _).symm⟩

theorem patternsWritten_kept {s : State} {off : Nat} {data : List Byte}
    (hwork : s.work = some (.writeTable 6 off data)) :
    Kept s (drive (s.setTbl { s.tbl with patterns := writeBytes s.tbl.patterns off data })) where
  toPartsKept := (setBytes_partsKept hwork (by decide) (by omega)).trans (drive_partsKept _)
  interlock b h := h
  warning h := ⟨h.target.trans (Wrn.targetOf_congr rfl rfl _).symm, h.level, h.standDown, h.held, drive_outputs _⟩

/-! ## CHANNELS (R81, R88) -/

theorem pollAfterWrite_isSome (now : Nat) (before after : Bool) (old new : ChanEntry) (p : Option Poll) :
    (pollAfterWrite now before after old new p).isSome = after := by
  unfold pollAfterWrite
  split
  · rfl
  · split <;> rfl
  · rfl

theorem channelsWritten_view (old : List Byte) (s : State) : ViewConsistent (channelsWritten old s) where
  view := rfl
  size := by simp [channelsWritten, scheduleAfter]
  polls i hi := by
    simp [channelsWritten, scheduleAfter, Loop.poll?, List.getD_eq_getElem?_getD, hi, pollAfterWrite_isSome]

theorem channelsWritten_kept {s : State} {off : Nat} {data : List Byte}
    (hwork : s.work = some (.writeTable 1 off data)) :
    Kept s
      (channelsWritten s.tbl.channels (s.setTbl { s.tbl with channels := writeBytes s.tbl.channels off data })) where
  store h := by
    obtain ⟨hstore, hplan, hshifts⟩ := h
    have := hplan.setTbl (tbl := { s.tbl with channels := writeBytes s.tbl.channels off data }) fun _ _ _ => rfl
    exact ⟨hstore, ⟨this.done, this.going, this.asked⟩, hshifts⟩
  marker := id
  grant h := ⟨h.exclusive, h.timer, h.cause, h.recorded⟩
  view _ := channelsWritten_view _ _
  queues h := ⟨h.history, h.control, h.service, h.forward, h.low, h.high⟩
  tables h := by
    obtain ⟨hsize, hgood⟩ := h.setBytes hwork
    exact ⟨hsize, hgood⟩
  interlock b h := h
  warning h := ⟨h.target, h.level, h.standDown, h.held, h.outputs⟩

end Sys2Proof.Machine
end

section
/-! The resets (R62, R64, R155, R156, R187, R196): what each part of one leaves. -/

namespace Sys2Proof.Machine

set_option Elab.async false

/-! ## UPL with LINK low -/

theorem uplinkSelect_of_linkLow {s : State} (h : s.lines.link = false) : uplinkSelect s = s := by
  simp [uplinkSelect, h]

theorem append_of_linkLow {s : State} (c : Content) (h : s.lines.link = false) :
    append c s = s.setStore (s.store.append c) :=
  uplinkSelect_of_linkLow h

/-- The part with LINK taken as low, as it stands in a reset. -/
def unlinked (s : State) : State := s.setLines { s.lines with link := false }

theorem resetAll_eq (kind : ResetKind) (s : State) :
    resetAll kind s = settle (uplinkSelect ((resetBlocks kind (unlinked s)).setLines s.lines)) := rfl

/-! ## What a reset closes -/

/-- The state that the blocks take over: UPL and REC afresh, the open interval and the run closed. -/
def resetClosed (kind : ResetKind) (s : State) : State :=
  closeRun kind (closeOpenInterval kind (uplinkReset kind (s.setClk { s.clk with timebase := 0 })))

/-- RUN, STG, RAT, CHT, LOOP, PLS and CTL afresh, WRN still as it was. -/
def resetBase (kind : ResetKind) (s : State) : State :=
  resetRun (resetClosed kind s).run.marker
    (blocksReset (stgFresh { resetClosed kind s with resetLine := false, lastReset := kind }))

theorem resetBlocks_eq (kind : ResetKind) (s : State) : resetBlocks kind s = warningReset kind (resetBase kind s) := rfl

/-- R155: the record-written mark. -/
theorem closeRun_marker (kind : ResetKind) (s : State) (h : kind ≠ .powerOn) :
    (closeRun kind s).run.marker =
      if s.runToClose.isSome then s.run.marker.map fun m => { m with written := true } else s.run.marker := by
  cases hrun : s.runToClose with
  | none => cases kind <;> simp [closeRun, hrun]
  | some r => cases kind <;> simp_all [closeRun]

theorem closeRun_powerOn (s : State) : closeRun .powerOn s = s := rfl

/-- The record that a WARM reset writes of a run to be closed. -/
theorem closeRun_warm_store (s : State) :
    (closeRun .warm s).store =
      s.runToClose.elim s.store fun r => s.store.append (.gauging (resetRecord s r)) := by
  cases hrun : s.runToClose <;> simp [closeRun, hrun]

theorem closeRun_cold_store (s : State) : (closeRun .cold s).store = s.store := by
  cases hrun : s.runToClose <;> simp [closeRun, hrun]

theorem closeOpenInterval_of_notWarm {kind : ResetKind} (h : kind ≠ .warm) (s : State) :
    closeOpenInterval kind s = s := by
  simp [closeOpenInterval, h]

theorem closeOpenInterval_warm_store (s : State) :
    (closeOpenInterval .warm s).store =
      s.store.append
        (.interval (intervalRecord s.stg.openStart
          { s.stg.acc with flags := { s.stg.acc.flags with resetClosed := true } })) := by
  simp [closeOpenInterval, closeInterval, markInterval, IntervalFlags.union, noIntervalFlags]

theorem runToClose_congr {s t : State} (h : t.run = s.run) : t.runToClose = s.runToClose := by
  simp only [State.runToClose, h]

theorem resetClosed_run_marker (kind : ResetKind) (s : State) :
    (resetClosed kind s).run.marker =
      if kind ≠ .powerOn ∧ s.runToClose.isSome then s.run.marker.map fun m => { m with written := true }
      else s.run.marker := by
  unfold resetClosed
  by_cases h : kind = .powerOn
  · subst h
    simp [closeRun_powerOn]
  · rw [closeRun_marker _ _ h, runToClose_congr (t := closeOpenInterval _ _) (s := s) (by simp)]
    simp [h]

@[simp] theorem resetClosed_frame (kind : ResetKind) (s : State) :
    (resetClosed kind s).clk = { s.clk with timebase := 0 } ∧ (resetClosed kind s).tbl = s.tbl ∧
      (resetClosed kind s).rat = s.rat ∧ (resetClosed kind s).wrn = s.wrn ∧
      (resetClosed kind s).lines = s.lines ∧ (resetClosed kind s).pending = s.pending := by
  simp [resetClosed]

@[simp] theorem resetBase_frame (kind : ResetKind) (s : State) :
    (resetBase kind s).clk = { s.clk with timebase := 0 } ∧ (resetBase kind s).tbl = s.tbl ∧
      (resetBase kind s).rat = { s.rat with latest := none } ∧ (resetBase kind s).wrn = s.wrn ∧
      (resetBase kind s).lines = s.lines ∧ (resetBase kind s).pending = s.pending ∧
      (resetBase kind s).resetLine = false ∧ (resetBase kind s).lastReset = kind ∧
      (resetBase kind s).cht = freshCht (viewOf s.tbl.channels) ∧ (resetBase kind s).ctl = freshCtl ∧
      (resetBase kind s).store = (resetClosed kind s).store ∧ (resetBase kind s).upl = (resetClosed kind s).upl := by
  simp [resetBase, blocksReset]

theorem closeRun_upl {s : State} (kind : ResetKind) (h : s.lines.link = false) : (closeRun kind s).upl = s.upl := by
  cases hrun : s.runToClose <;> cases kind <;> simp [closeRun, hrun, append_of_linkLow _ h]

theorem closeOpenInterval_upl {s : State} (kind : ResetKind) (h : s.lines.link = false) :
    (closeOpenInterval kind s).upl = s.upl := by
  unfold closeOpenInterval closeInterval
  split
  · rw [append_of_linkLow _ (by simpa using h)]
    simp
  · rfl

/-- R187: with LINK low nothing is selected in the reset itself. -/
theorem resetClosed_upl {s : State} (kind : ResetKind) (h : s.lines.link = false) :
    (resetClosed kind s).upl = freshUpl (cfgUplinkRate s.tbl.config) := by
  rw [resetClosed, closeRun_upl _ (by simpa using h), closeOpenInterval_upl _ (by simpa using h), uplinkReset]
  dsimp only
  split <;> simp

/-! ## RUN after a reset (R156) -/

theorem resetRun_none (s : State) : resetRun none s = s.setRun (idleRun none) := rfl

/-- The run record that a reset makes of the marker. -/
def markerRecord (m : Marker) : RunRec :=
  { plan := m.plan, planId := m.planId, start := m.start, startValid := m.startValid, startStage := none,
    verticals := [], outcome := none, flags := noGaugeFlags, figures := none, fromMarker := true }

/-- The RETRIEVE that a reset hands with a marker present. -/
def resetRetrieve (m : Marker) : RunCmd := { kind := .retrieve, addr := m.addr, id := 0 }

theorem resetRun_some {s : State} {rate : Nat} {low : Bool} {sched : List (Option Poll)} (m : Marker)
    (h : s.loop = freshLoop rate low sched) :
    resetRun (some m) s =
      ((s.setPls s.pls.release).setRun
        { idleRun (some m) with
          held := some m.addr, record := some (markerRecord m), state := .retrieve, nextId := 1,
          lastCmd := some (resetRetrieve m, true),
          retrieveAt := some (s.now + 1000 * (planHeader (s.tbl.plan m.plan)).traverseTimeout) }).setLoop
        { s.loop with pendingCmd := some (resetRetrieve m) } := by
  cases s
  subst h
  rfl

/-- The state before RUN takes up its own. -/
def resetStill (kind : ResetKind) (s : State) : State :=
  blocksReset (stgFresh { resetClosed kind s with resetLine := false, lastReset := kind })

/-- LOOP after a reset, before its first choice. -/
def resetLoop (s : State) : Loop :=
  freshLoop (cfgLoopRate s.tbl.config) s.lines.replyLow (freshSchedule (viewOf s.tbl.channels) s.tbl.channels)

theorem resetStill_loop (kind : ResetKind) (s : State) : (resetStill kind s).loop = resetLoop s := by
  simp [resetStill, blocksReset, resetLoop]

theorem resetStill_pls (kind : ResetKind) (s : State) : (resetStill kind s).pls = freshPls s.lines := by
  simp [resetStill, blocksReset]

theorem resetBase_noMarker {kind : ResetKind} {s : State} (h : (resetClosed kind s).run.marker = none) :
    (resetBase kind s).run = idleRun none ∧ (resetBase kind s).loop = resetLoop s ∧
      (resetBase kind s).pls = freshPls s.lines := by
  have hbase : resetBase kind s = (resetStill kind s).setRun (idleRun none) := by
    rw [resetBase, h, resetRun_none, resetStill]
  simp [hbase, resetStill_loop, resetStill_pls]

theorem resetBase_marker {kind : ResetKind} {s : State} {m : Marker} (h : (resetClosed kind s).run.marker = some m) :
    (resetBase kind s).run =
        { idleRun (some m) with
          held := some m.addr, record := some (markerRecord m), state := .retrieve, nextId := 1,
          lastCmd := some (resetRetrieve m, true),
          retrieveAt := some (1000 * (planHeader (s.tbl.plan m.plan)).traverseTimeout) } ∧
      (resetBase kind s).loop = { resetLoop s with pendingCmd := some (resetRetrieve m) } ∧
      (resetBase kind s).pls = (freshPls s.lines).release := by
  have hbase := resetRun_some (s := resetStill kind s) m (resetStill_loop kind s)
  have htimebase : (resetStill kind s).now = 0 := by simp [State.now, resetStill]
  have htbl : (resetStill kind s).tbl = s.tbl := by simp [resetStill]
  rw [htimebase, htbl, Nat.zero_add, resetStill_loop, resetStill_pls] at hbase
  rw [resetBase, h, ← resetStill, hbase]
  exact ⟨rfl, rfl, rfl⟩

theorem resetBase_stg (kind : ResetKind) (s : State) :
    (resetBase kind s).stg =
      { prim := freshSource, sec := freshSource, selection := .none, recovery := 0, offset := 0, selected := none,
        history := List.replicate 64 none, historyAt := 1000 * cfgHistoryStep s.tbl.config,
        openStart := boundaryBefore (cfgIntervalLength s.tbl.config) s.clk.time,
        nextBoundary := boundaryAfter (cfgIntervalLength s.tbl.config) s.clk.time,
        acc :=
          { emptyAccum with
            flags := { noIntervalFlags with stageLost := true, clockInvalid := !s.clk.valid } } } := by
  simp [resetBase, stgFresh, openInterval]

/-! ## WRN after a reset (R62, R64) -/

/-- Under the reset hold the level rises to the target or stands. -/
theorem applyTarget_of_hold {s : State} (hold : s.wrn.resetHold = true) (stand : s.wrn.standDown = none) :
    applyTarget s =
      if s.wrn.level < s.wrn.targetOf s.tbl.rules then rise (s.wrn.targetOf s.tbl.rules) (withTarget s)
      else withTarget s := by
  obtain ⟨hrise, heq⟩ | ⟨hfall, heq⟩ | ⟨hstill, heq⟩ := applyTarget_cases s
  · rw [heq, if_pos hrise]
  · rw [heq, if_neg (by omega), startStandDown, if_pos (by simp [withTarget, hold])]
  · rw [heq, if_neg (by omega)]
    simp [withTarget, stand]

/-- WRN as a reset takes it up at `level`, before the target. -/
structure WrnTakenUp (n : Nat) (w : Wrn) (tbl : Tables) : Prop where
  rules : w.rules = (List.range 12).map fun i => examined (ruleEntry tbl.rules i)
  stageLost : w.stageLost = true
  level : w.level = n
  standDown : w.standDown = none
  resetHold : w.resetHold = true
  silenced : w.silenced = false
  test : w.test = none
  outputs : w.outputs = patternOn tbl.patterns n

theorem wrnFresh_takenUp (level : Nat) (s : State) : WrnTakenUp level (wrnFresh level s).wrn s.tbl := by
  constructor <;> simp [wrnFresh, drive, Wrn.outputsOf]

theorem WrnTakenUp.ruleState {level : Nat} {w : Wrn} {tbl : Tables} (h : WrnTakenUp level w tbl) {i : Nat} (hi : i < 12) :
    w.ruleState i = if (ruleEntry tbl.rules i).valid then .armed else .off := by
  simp [Wrn.ruleState, h.rules, List.getD_eq_getElem?_getD, hi, examined]

/-- R62: the fail-safe rules count. -/
theorem WrnTakenUp.targetOf {level : Nat} {w : Wrn} {tbl : Tables} (h : WrnTakenUp level w tbl) :
    w.targetOf tbl.rules = failSafeTarget tbl.rules := by
  unfold Wrn.targetOf failSafeTarget
  congr 2
  refine List.filter_congr fun i hi => ?_
  unfold Wrn.counts
  rw [h.ruleState (List.mem_range.mp hi), h.stageLost]
  cases (ruleEntry tbl.rules i).valid <;> simp

theorem WrnTakenUp.riseCause {level : Nat} {w : Wrn} {tbl : Tables} (h : WrnTakenUp level w tbl) (target : Nat) :
    w.riseCause tbl.rules target = .stageLost := by
  unfold Wrn.riseCause
  have hnone : ((List.range 12).find? fun i => w.ruleState i == .triggered && (ruleEntry tbl.rules i).target == target) =
      none := by
    refine List.find?_eq_none.mpr fun i hi => ?_
    rw [h.ruleState (List.mem_range.mp hi)]
    cases (ruleEntry tbl.rules i).valid <;> simp
  rw [hnone]

/-- R60: with no run working and no grant an interlock is at most a flag of the run. -/
theorem imposeInterlock_of_notWorking {s : State} (hrun : s.run.state.working = false)
    (hgrant : s.loop.grant.state = .idle) :
    imposeInterlock s = s ∨ imposeInterlock s = addCause .abortedWarning s := by
  have hclaim : s.loop.claim .warning = s.loop := by simp [Loop.claim, hgrant]
  rw [imposeInterlock, hclaim, State.setLoop_self, abortRun, hrun]
  simp only [Bool.false_eq_true, if_false]
  split
  · exact .inl rfl
  · exact .inr rfl

/-- R49: a rise that finds no run working and no grant touches RUN at most by a flag, and leaves PLS and LOOP. -/
theorem rise_of_notWorking {s : State} (target : Nat) (hrun : s.run.state.working = false)
    (hgrant : s.loop.grant.state = .idle) :
    (rise target s).loop = s.loop ∧ (rise target s).pls = s.pls ∧
      ((rise target s).run = s.run ∨ (rise target s).run =
        { s.run with
          record := s.run.record.map fun r => { r with flags := r.flags.withCause .abortedWarning } }) := by
  unfold rise
  dsimp only
  split
  · obtain h | h :=
      imposeInterlock_of_notWorking (s := drive (warnRecord s.wrn.level target (s.wrn.riseCause s.tbl.rules target)
        (s.setWrn { s.wrn with level := target, standDown := none, silenced := false, test := none })))
        (by simpa using hrun) (by simpa using hgrant)
    · rw [h]
      simp
    · rw [h]
      simp [addCause]
  · simp

/-- R62: WRN and the store after the target of a reset. -/
theorem applyTarget_takenUp {s : State} {n : Nat} (h : WrnTakenUp n s.wrn s.tbl) :
    (applyTarget s).wrn =
        { s.wrn with
          target := failSafeTarget s.tbl.rules, level := max n (failSafeTarget s.tbl.rules),
          outputs := patternOn s.tbl.patterns (max n (failSafeTarget s.tbl.rules)) } ∧
      (applyTarget s).store =
        if failSafeTarget s.tbl.rules ≤ n then s.store
        else s.store.append (levelRecord n (failSafeTarget s.tbl.rules) .stageLost s) := by
  have hcause := h.riseCause (failSafeTarget s.tbl.rules)
  have htarget := h.targetOf
  obtain ⟨hrules, hlost, hlevel, hstand, hhold, hsil, htest, hout⟩ := h
  rw [applyTarget_of_hold hhold hstand, htarget, hlevel]
  split
  · next hrise =>
    rw [if_neg (by omega), max_eq_right hrise.le]
    have hcause' : (withTarget s).wrn.riseCause s.tbl.rules (failSafeTarget s.tbl.rules) = .stageLost := hcause
    constructor
    · rw [rise_wrn]
      simp [withTarget, htarget, hstand, hsil, htest]
    · rw [rise_store]
      simp only [withTarget, State.setWrn_tbl, State.setWrn_store] at hcause' ⊢
      rw [hcause']
      simp [levelRecord, hlevel]
  · next hrise =>
    rw [if_pos (by omega), max_eq_left (by omega)]
    constructor
    · subst hlevel
      simp [withTarget, htarget, ← hout]
    · rfl

theorem applyTarget_of_notWorking {s : State} (hrun : s.run.state.working = false) (hgrant : s.loop.grant.state = .idle) :
    (applyTarget s).loop = s.loop ∧ (applyTarget s).pls = s.pls ∧
      ((applyTarget s).run = s.run ∨ (applyTarget s).run =
        { s.run with
          record := s.run.record.map fun r => { r with flags := r.flags.withCause .abortedWarning } }) := by
  obtain ⟨-, heq⟩ | ⟨-, heq⟩ | ⟨-, heq⟩ := applyTarget_cases s <;> rw [heq]
  · exact rise_of_notWorking (s := withTarget s) _ hrun hgrant
  · obtain ⟨-, heq⟩ | ⟨-, -, -, heq⟩ | ⟨-, -, -, heq⟩ := startStandDown_cases (withTarget s) <;> rw [heq] <;>
      simp [withTarget]
  · simp

/-- The level that a reset starts from, and the state that its target then finds (R62, R64). -/
def resetLevel (kind : ResetKind) (s : State) : Nat := if kind = .cold then 0 else s.wrn.level

def warningTakenUp (kind : ResetKind) (s : State) : State :=
  if kind = .cold then warnRecord s.wrn.level 0 .resetCold (wrnFresh 0 s) else wrnFresh s.wrn.level s

theorem warningReset_eq (kind : ResetKind) (s : State) : warningReset kind s = applyTarget (warningTakenUp kind s) := by
  unfold warningReset warningTakenUp
  split <;> rfl

theorem warningTakenUp_takenUp (kind : ResetKind) (s : State) :
    WrnTakenUp (resetLevel kind s) (warningTakenUp kind s).wrn s.tbl := by
  unfold warningTakenUp resetLevel
  split
  · obtain ⟨hrules, hlost, hlevel, hstand, hhold, hsil, htest, hout⟩ := wrnFresh_takenUp 0 s
    constructor <;> simpa using ‹_›
  · exact wrnFresh_takenUp _ s

@[simp] theorem warningTakenUp_frame (kind : ResetKind) (s : State) :
    (warningTakenUp kind s).clk = s.clk ∧ (warningTakenUp kind s).tbl = s.tbl ∧ (warningTakenUp kind s).stg = s.stg ∧
      (warningTakenUp kind s).rat = s.rat ∧ (warningTakenUp kind s).pls = s.pls ∧
      (warningTakenUp kind s).run = s.run ∧ (warningTakenUp kind s).loop = s.loop := by
  unfold warningTakenUp
  split <;> simp

theorem warningTakenUp_store (kind : ResetKind) (s : State) :
    (warningTakenUp kind s).store =
      if kind = .cold then s.store.append (levelRecord s.wrn.level 0 .resetCold s) else s.store := by
  unfold warningTakenUp
  split <;> simp [levelRecord]

end Sys2Proof.Machine
end

section
/-! What a reset keeps: the state it takes up has every property, but that tables, shift records, marker and store are those
it finds. -/

namespace Sys2Proof.Machine

set_option Elab.async false

theorem resetRecord_slotCount (s : State) (r : RunRec) :
    (Content.gauging (resetRecord s r)).slotCount ≤ 2 + r.verticals.length :=
  gaugeRecord_slotCount ..

theorem runToClose_eq_some {s : State} {r : RunRec} (h : s.runToClose = some r) : s.run.record = some r := by
  unfold State.runToClose at h
  split at h
  · split at h
    · exact h
    · cases h
  · cases h

theorem closeRun_store_consistent {kind : ResetKind} {s : State} (hstore : StoreConsistent s.store)
    (hplan : RunWithinPlan s) : StoreConsistent (closeRun kind s).store := by
  cases kind with
  | powerOn => exact hstore
  | cold => rwa [closeRun_cold_store]
  | warm =>
    rw [closeRun_warm_store]
    cases hrun : s.runToClose with
    | none => exact hstore
    | some r =>
      have hdone := hplan.done r (runToClose_eq_some hrun)
      have hslots := resetRecord_slotCount s r
      exact hstore.append (by omega)

theorem uplinkReset_store_consistent {kind : ResetKind} {s : State} (h : StoreConsistent s.store) :
    StoreConsistent (uplinkReset kind s).store := by
  unfold uplinkReset
  dsimp only
  split
  · exact ⟨trivial, by simp, by simp, by simp⟩
  · exact h

theorem closeOpenInterval_store_consistent {kind : ResetKind} {s : State} (h : StoreConsistent s.store) :
    StoreConsistent (closeOpenInterval kind s).store := by
  cases kind with
  | powerOn => exact h
  | cold => exact h
  | warm =>
    rw [closeOpenInterval_warm_store]
    exact h.append (by simp [Content.slotCount])

theorem resetClosed_store_consistent {kind : ResetKind} {s : State} (h : StoreAndPlan s) :
    StoreConsistent (resetClosed kind s).store := by
  obtain ⟨hstore, hplan, -⟩ := h
  refine closeRun_store_consistent (closeOpenInterval_store_consistent (uplinkReset_store_consistent hstore)) ?_
  exact hplan.congr {} (by simp) (by simp [State.work])

/-- R156: RUN after a reset holds what the marker says. -/
theorem resetBase_run_consistent (kind : ResetKind) (s : State) :
    MarkerConsistent (resetBase kind s).run ∧ (resetBase kind s).run.state.working = false ∧
      (resetBase kind s).run.vertical = none ∧ ∀ r, (resetBase kind s).run.record = some r → r.verticals = [] := by
  cases h : (resetClosed kind s).run.marker with
  | none =>
    obtain ⟨hrun, -, -⟩ := resetBase_noMarker h
    rw [hrun]
    exact ⟨⟨by simp [idleRun], by simp [idleRun], by simp [idleRun]⟩, rfl, rfl, by simp [idleRun]⟩
  | some m =>
    obtain ⟨hrun, -, -⟩ := resetBase_marker h
    rw [hrun]
    exact ⟨⟨by simp [idleRun], by simp [idleRun], by simp⟩, rfl, rfl, by simp [markerRecord]⟩

theorem resetBase_work (kind : ResetKind) (s : State) : (resetBase kind s).work = none := by
  simp [State.work, freshCtl]

/-- But for the command that RUN hands, LOOP is fresh. -/
theorem resetBase_loop (kind : ResetKind) (s : State) :
    ∃ c, (resetBase kind s).loop = { resetLoop s with pendingCmd := c } := by
  cases h : (resetClosed kind s).run.marker with
  | none => exact ⟨none, (resetBase_noMarker h).2.1⟩
  | some m => exact ⟨_, (resetBase_marker h).2.1⟩

theorem freshSchedule_isSome (view : List Treatment) (channels : List Byte) {i : Nat} (hi : i < 24) :
    ((freshSchedule view channels).getD i none).isSome = activeIn view i := by
  simp only [freshSchedule, List.getD_eq_getElem?_getD, List.getElem?_map, List.getElem?_range hi, Option.map_some,
    Option.getD_some]
  split <;> simp_all

theorem resetBase_partsKept {kind : ResetKind} {s : State} (hlink : s.lines.link = false) :
    PartsKept s (resetBase kind s) := by
  obtain ⟨hmarker, -, hvertical, hrecord⟩ := resetBase_run_consistent kind s
  obtain ⟨c, hloop⟩ := resetBase_loop kind s
  have hwork := resetBase_work kind s
  exact
    { store := fun h => by
        have ⟨_, _, hshifts⟩ := h
        exact ⟨by simpa using resetClosed_store_consistent h,
          ⟨fun r hr => by simp [hrecord r hr], by simp [hvertical], by simp [hwork]⟩, by simpa using hshifts⟩
      marker := fun _ => hmarker
      grant := fun _ => by
        rw [hloop]
        constructor <;> simp [resetLoop, freshLoop, freshGrant, Grant.held]
      view := fun _ =>
        { view := by simp [freshCht]
          size := by simp [hloop, resetLoop, freshLoop, freshSchedule]
          polls := fun i hi => by
            have hcht : (resetBase kind s).cht = freshCht (viewOf s.tbl.channels) := by simp
            rw [hloop, hcht]
            exact freshSchedule_isSome _ _ hi }
      queues := fun _ => by
        have hupl := resetClosed_upl kind hlink
        constructor <;> simp [hloop, hupl, freshUpl, freshCtl, resetLoop, freshLoop, resetBase_stg]
      tables := fun h => ⟨fun n hn h3 h4 => by
        rw [State.tableBytes_congr (s := s) (by simp) h3 h4]; exact h.size n hn h3 h4, by simp [hwork]⟩ }

theorem warningTakenUp_partsKept (kind : ResetKind) (s : State) : PartsKept s (warningTakenUp kind s) := by
  have hfresh (n : Nat) : PartsKept s (wrnFresh n s) := (setWrn_partsKept s _).trans (drive_partsKept _)
  unfold warningTakenUp
  split
  · exact (hfresh 0).trans (warnRecord_kept ..).toPartsKept
  · exact hfresh _

theorem WrnTakenUp.ready {s : State} {n : Nat} (h : WrnTakenUp n s.wrn s.tbl) : WarningReady s where
  hold := by simp [h.standDown]
  held := by simp [h.standDown]
  outputs := by simp [Wrn.outputsOf, h.test, h.silenced, h.outputs, h.level]

/-- A reset keeps what a step keeps, and sets WRN right whatever it was. -/
theorem resetBlocks_kept {kind : ResetKind} {s : State} (hlink : s.lines.link = false) : Kept s (resetBlocks kind s) := by
  have htbl : (warningTakenUp kind (resetBase kind s)).tbl = (resetBase kind s).tbl := by simp
  have htaken := warningTakenUp_takenUp kind (resetBase kind s)
  rw [← htbl] at htaken
  obtain ⟨-, hidle, -, -⟩ := resetBase_run_consistent kind s
  rw [resetBlocks_eq, warningReset_eq]
  exact
    { toPartsKept := (resetBase_partsKept hlink).trans
        ((warningTakenUp_partsKept kind _).trans (applyTarget_partsKept _))
      interlock := fun b _ => applyTarget_interlock fun _ => .inr (by simpa using hidle)
      warning := fun _ => applyTarget_warning htaken.ready }

theorem setLines_kept (s : State) (l : Lines) : Kept s (s.setLines l) := .of_still

theorem resetAll_kept (kind : ResetKind) (s : State) : Kept s (resetAll kind s) :=
  (setLines_kept s _).trans ((resetBlocks_kept rfl).trans
    ((setLines_kept _ _).trans ((uplinkSelect_kept _).trans (settle_kept _))))

end Sys2Proof.Machine
end

section
/-! What each command keeps. -/

namespace Sys2Proof.Machine

set_option Elab.async false

/-- Every state that a command answers keeps what it found. -/
def OutcomeKept (s : State) (o : Host.Outcome State Fault Refusal) : Prop := ∀ t, o = .next t → Kept s t

theorem OutcomeKept.next {s t : State} (h : Kept s t) : OutcomeKept s (.next t) := by
  rintro _ ⟨⟩
  exact h

/-- R196: an event that is not taken leaves the state. -/
theorem OutcomeKept.taken {s : State} {f : State → State} (h : Kept s (f s)) : OutcomeKept s (taken s f) := by
  unfold Sys2Proof.Machine.taken
  split
  · exact .next (.refl s)
  · exact .next h

theorem Kept.settled {s t : State} (h : Kept s t) : Kept s (settle t) := h.trans (settle_kept t)

theorem Kept.answered {s t : State} (h : Kept s t) (code : Byte) (fields : List Byte) :
    Kept s (settle (answer code fields t)) :=
  (h.trans (answer_kept code fields t)).settled

/-! ## Resets and requests -/

theorem resetLine_kept (s : State) (b : Bool) : Kept s { s with resetLine := b } := .of_still (tables := {work := .inl rfl})

theorem parseRequest_startRun {p : List Byte} {n : Nat} (h : parseRequest p = some (.startRun n)) : n < 4 := by
  unfold parseRequest at h
  dsimp only at h
  split at h
  case h_8 =>
    split at h
    · next hplan =>
      split at h <;> cases h
      omega
    · cases h
  all_goals (repeat' split at h) <;> cases h

theorem judgeRequest_ok {config : List Byte} {r : Request} {q : Req} (h : judgeRequest config r = .ok q) :
    parseRequest r.payload = some q ∧ tableGood q = true ∧ originGood config r.origin q = true := by
  unfold judgeRequest at h
  split at h
  · cases h
  · next hparse =>
    split at h
    · cases h
    · next htable =>
      split at h
      · cases h
      · next horigin =>
        cases h
        exact ⟨hparse, by simpa using htable, by simpa using horigin⟩

/-- R190: a request judged good is in hand. -/
theorem inHand_kept {s : State} {r : Request} {q : Req} (h : judgeRequest s.tbl.config r = .ok q) :
    Kept s (s.setCtl { s.ctl with inHand := some { request := r, work := some q } }) := by
  obtain ⟨hparse, htable, -⟩ := judgeRequest_ok h
  exact PartsKept.kept
    { store := fun ⟨hstore, hplan, hshifts⟩ =>
        ⟨hstore, ⟨hplan.done, hplan.going, by
          rintro _ ⟨⟩
          exact ⟨htable, by rintro n rfl; exact parseRequest_startRun hparse⟩⟩, hshifts⟩
      marker := id
      grant := id
      view := .congr rfl rfl rfl
      queues := SizesStill.queues_kept {}
      tables := fun h => ⟨h.size, by rintro _ ⟨⟩; exact htable⟩ }

theorem takeRequest_kept (s : State) : Kept s (takeRequest s) := by
  unfold takeRequest
  split
  · exact .refl s
  · next r rest hqueue =>
    have hset : Kept s (setQueue rest s) := setQueue_kept fun h => by
      rw [hqueue, List.length_cons] at h
      omega
    dsimp only
    split
    · exact hset.trans ((setCtl_kept).trans (refuseTaken_kept _ _ _))
    · next hjudge => exact hset.trans (inHand_kept (by simpa using hjudge))

theorem shifts_kept {s : State} {rs : List ShiftRec} (h : ShiftsOrdered s.rat.shifts → ShiftsOrdered rs) :
    Kept s (s.setRat { s.rat with shifts := rs }) := setShifts_kept h

theorem live_kept (s : State) (b : Bank) : Kept s (s.setRat { s.rat with live := b }) := .of_still

theorem setClockTo_kept (t : Nat) (s : State) : Kept s (setClockTo t s) := by
  unfold setClockTo
  dsimp only
  have hclk (c : Clocks) : Kept s (s.setClk c) := .of_still
  refine (hclk _).trans (.either (.refl _) ?_)
  exact (markInterval_kept ..).trans ((closeInterval_kept _).trans ((openInterval_kept ..).trans (markInterval_kept ..)))

theorem beginTest_kept (level duration : Nat) (s : State) : Kept s (beginTest level duration s) :=
  (drive_kept (w := { s.wrn with test := some { level := level, stopAt := s.now + 1000 * duration } })
    rfl rfl rfl rfl rfl rfl).trans (appendNotice_kept _ _)

/-! ## START-RUN -/

/-- R130, R132: a good plan has a MEASURE entry to begin with. -/
theorem nextMeasure_isSome {t : List Byte} (h : planFault t = none) : ∃ i, nextMeasure t 0 = some i := by
  have hany : (List.range (planHeader t).count).any (fun i => (planEntry t i).kind == kindMeasure) = true := by
    simp only [planFault] at h
    split at h
    · cases h
    · split at h
      · cases h
      · split at h
        · cases h
        · split at h
          · next hany => exact hany
          · cases h
  rw [← Option.isSome_iff_exists, nextMeasure]
  simpa using hany

/-- R131: what holds where START-RUN is accepted. -/
theorem startRefusal_eq_none {plan : Nat} {s : State} (h : startRefusal plan s = none) :
    s.run.state = .idle ∧ s.interlock = false ∧ (holderOf s.cht.view s.tbl.channels .winch).isSome = true ∧
      planFault (s.tbl.plan plan) = none := by
  unfold startRefusal at h
  split at h
  · cases h
  · next hidle =>
    split at h
    · cases h
    · next hopen =>
      split at h
      · cases h
      · next hwinch =>
        exact ⟨by simpa using hidle, by simpa using hopen, by simpa [Option.isSome_iff_ne_none] using hwinch, by simpa using h⟩

theorem beginRun_kept {plan addr : Nat} {s : State} (hwork : s.work = some (.startRun plan))
    (h : startRefusal plan s = none) : Kept s (beginRun plan addr s) := by
  obtain ⟨hidle, hopen, -, hplan⟩ := startRefusal_eq_none h
  obtain ⟨i, hi⟩ := nextMeasure_isSome hplan
  obtain ⟨-, hfirst, hlast⟩ := nextMeasure_bounds hplan hi
  simp only [beginRun, hi]
  exact
    { store := fun ⟨hstore, hwithin, hshifts⟩ => by
        obtain ⟨-, hnumber⟩ := hwithin.asked _ hwork
        refine ⟨by simpa using hstore, ⟨?_, ?_, ?_⟩, by simpa using hshifts⟩
        · simp
        · simp [hfirst, hlast, hplan, hnumber plan rfl]
        · simpa [State.work] using hwithin.asked
      marker := fun _ => ⟨by simp, by simp, by simp⟩
      grant := GrantStill.grant_kept {}
      view := .congr (by simp) (by simp) (by simp)
      queues := SizesStill.queues_kept {}
      tables := .congr (by simp) (by simp [State.work])
      interlock := fun b ⟨hlevel, hworks⟩ =>
        ⟨by simpa using hlevel, fun hstop => by simp [State.interlock] at hopen hstop; omega⟩
      warning := .congr (by simp) (by simp) }

/-! ## LOOP -/

theorem duePollClaim_kept (s : State) : Kept s (duePollClaim s) := .when (claim_kept .duePoll s)

theorem setPoll_kept {s : State} {ch : Nat} {p : Poll} (q : Poll) (h : s.loop.poll? ch = some p) :
    Kept s (s.setLoop (s.loop.setPoll ch q)) :=
  setLoop_kept_of_frame (sched := Loop.setPoll_sched q h)

theorem skipPoll_kept {s : State} {ch : Nat} {p : Poll} (h : s.loop.poll? ch = some p) : Kept s (skipPoll ch p s) := by
  unfold skipPoll
  refine .trans (.trans ?_ (notifyMissing_kept ch _)) (duePollClaim_kept _)
  exact setLoop_kept_of_frame (sched := Loop.setPoll_sched _ h)

theorem seenHigh_kept (s : State) : Kept s (seenHigh s) := setLoop_kept_of_frame

theorem setReplyLow_kept (low : Bool) (s : State) : Kept s (setReplyLow low s) := setLines_kept s _

theorem gapIn_kept (c : RxContext) (s : State) : Kept s (gapIn c s) := by
  cases c
  · exact failTxn_kept ..
  · exact failGrantFrame_kept ..
  · exact (endUnsolicitedRx_kept s).trans setLoop_kept_of_frame

theorem beginBreak_kept (s : State) : Kept s (beginBreak s) := by
  unfold beginBreak
  dsimp only
  split <;> exact setLoop_kept_of_frame

theorem enterJam_kept (s : State) : Kept s (enterJam s) := by
  unfold enterJam
  dsimp only
  refine .trans (.trans ?_ (.when (closeGrant_kept _ _))) (appendNotice_kept _ _)
  exact setLoop_kept_of_frame

theorem leaveJam_kept (j : Jam) (s : State) : Kept s (leaveJam j s) :=
  (setLoop_kept_of_frame).trans (appendNotice_kept _ _)

theorem cutFrame_kept (addr : Byte) (r : RxFrame) (s : State) : Kept s (cutFrame addr r s) := by
  unfold cutFrame
  split
  · exact (failTxn_kept ..).trans (afterFault_kept ..)
  · exact endGrantFrame_kept ..
  · exact endUnsolicited_kept ..

theorem markedCharacter_kept (addr : Byte) (s : State) : Kept s (markedCharacter addr s) := by
  have hheard : Kept s (setReplyLow false (seenHigh (s.setLoop { s.loop with lowSince := none }))) :=
    (setLoop_kept_of_frame).trans ((seenHigh_kept _).trans (setReplyLow_kept _ _))
  unfold markedCharacter
  dsimp only
  refine .either (.refl s) ?_
  split
  · exact hheard.trans (beginFrame_kept ..)
  · exact (hheard.trans (cutFrame_kept ..)).settled

theorem endUnanswered_kept (s : State) : Kept s (endUnanswered s) :=
  (closeGrant_kept _ s).trans (nodeFailure_kept _ _)

/-! ## PLS and RUN -/

theorem setPls_kept (s : State) (p : Pls) : Kept s (s.setPls p) := .of_still

theorem handRotor_kept (before : Rotor) (s : State) : Kept s (handRotor before s) := by
  unfold handRotor
  split
  · exact runRotorResult_kept ..
  · exact .refl s

theorem acceptedClosure_kept (c : Contact) (s : State) : Kept s (acceptedClosure c s) := by
  unfold acceptedClosure
  dsimp only
  split
  · exact (setPls_kept ..).trans (handRotor_kept ..)
  · split
    · exact (setPls_kept ..).trans (runSurfaceLatch_kept ..)
    · exact setPls_kept ..
  · split
    · exact (setPls_kept ..).trans (runBottomLatch_kept ..)
    · exact setPls_kept ..

theorem closeContact_kept (c : Contact) (s : State) : Kept s (closeContact c s) := by
  unfold closeContact
  dsimp only
  refine .trans (.trans (setLines_kept s _) (setPls_kept _ _)) (.when (acceptedClosure_kept _ _))

theorem enquire_kept (s : State) : Kept s (enquire s) := by
  unfold enquire
  dsimp only
  split <;> exact (setRun_kept).trans (handRun_kept ..)

/-! ## UPL -/

theorem markSent_kept (n : Nat) (s : State) : Kept s (s.setStore (s.store.markSent n)) :=
  PartsKept.kept
    { store := fun ⟨⟨hnumbers, hsizes, hslots, hbound⟩, hplan, hshifts⟩ => by
        have hseq : (s.store.markSent n).records.map StoreRec.seq = s.store.records.map StoreRec.seq := by
          simp only [Store.markSent, List.map_map]
          refine List.map_congr_left fun r _ => ?_
          dsimp only [Function.comp]
          split <;> rfl
        have hcount : ((s.store.markSent n).records.map fun r => r.content.slotCount) =
            s.store.records.map fun r => r.content.slotCount := by
          simp only [Store.markSent, List.map_map]
          refine List.map_congr_left fun r _ => ?_
          dsimp only [Function.comp]
          split <;> rfl
        refine ⟨⟨?_, ?_, ?_, hbound⟩, hplan.congr {} (by simp) (by simp [State.work]), hshifts⟩
        · exact hseq ▸ hnumbers
        · intro r hr
          have hmem : r.content.slotCount ∈ (s.store.markSent n).records.map fun r => r.content.slotCount :=
            List.mem_map_of_mem hr
          rw [hcount, List.mem_map] at hmem
          obtain ⟨r₀, hr₀, hcount₀⟩ := hmem
          exact hcount₀ ▸ hsizes r₀ hr₀
        · exact hslots.trans (by rw [← hcount]; rfl)
      marker := id
      grant := id
      view := .congr rfl rfl rfl
      queues := SizesStill.queues_kept {}
      tables := .congr rfl (.inl rfl) }

theorem itemGone_kept (it : TxItem) (s : State) : Kept s (itemGone it s) := by
  unfold itemGone
  split
  · exact (setUpl_kept).trans ((setCtl_kept).trans (offerPending_kept _))
  · refine setUpl_kept fun h => ?_
    split
    · exact h
    · exact (List.length_filter_le _ _).trans h
  · exact markSent_kept _ s

theorem endItem_kept (it : TxItem) (s : State) : Kept s (endItem it s) :=
  (setUpl_kept).trans ((uplinkRateEffect_kept _).trans ((itemGone_kept it _).trans (uplinkSelect_kept _)))

theorem abandon_kept (it : TxItem) (s : State) : Kept s (abandon it s) := by
  unfold abandon
  dsimp only
  exact (setUpl_kept).trans (.when setCtl_kept)

theorem dropAssembly_kept (s : State) : Kept s (s.setUpl (dropAssembly s.upl)) := by
  unfold dropAssembly
  split <;> exact setUpl_kept

theorem linkLow_kept (s : State) : Kept s (linkLow s) := by
  unfold linkLow
  dsimp only
  refine .trans ?_ (.trans (dropAssembly_kept _) (uplinkRateEffect_kept _))
  split
  · exact (setLines_kept ..).trans (abandon_kept ..)
  · exact setLines_kept ..

theorem countUplinkFault_kept (k : UplinkFault) (s : State) (u : Upl) (h : Kept s (s.setUpl u)) :
    Kept s (s.setUpl (u.countFault k)) := by
  cases k <;> exact h.trans setUpl_kept

theorem judgeUplink_kept (f : UplinkFrame) (s : State) : Kept s (judgeUplink f s) :=
  .either setUpl_kept (.either setUpl_kept (enqueue_kept ..))

theorem endUplinkFrame_kept (f : UplinkFrame) (s : State) : Kept s (endUplinkFrame f s) := by
  unfold endUplinkFrame
  dsimp only
  refine .trans ?_ (uplinkRateEffect_kept _)
  split
  · exact (setUpl_kept).trans (countUplinkFault_kept _ _ _ (.refl _))
  · exact (setUpl_kept).trans (judgeUplink_kept ..)

/-! ## The commands -/

theorem Tables.setBytes_eq_setPlan (t : Tables) {n : Nat} (hn : 7 ≤ n) (bs : List Byte) :
    t.setBytes n bs = t.setPlan (n - 7) bs := by
  obtain ⟨k, rfl⟩ := Nat.exists_eq_add_of_le' hn
  rfl

theorem State.tableBytes_plan (s : State) {n : Nat} (hn : 7 ≤ n) : s.tableBytes n = s.tbl.plan (n - 7) := by
  obtain ⟨k, rfl⟩ := Nat.exists_eq_add_of_le' hn
  rfl

theorem planWritten_kept {s : State} {n off : Nat} {data : List Byte} (hwork : s.work = some (.writeTable n off data))
    (hn : 7 ≤ n) (hfree : s.markerNames (n - 7) = false) :
    Kept s (s.setTbl (s.tbl.setPlan (n - 7) (writeBytes (s.tbl.plan (n - 7)) off data))) := by
  rw [← State.tableBytes_plan s hn, ← Tables.setBytes_eq_setPlan s.tbl hn]
  exact setBytes_kept hwork (by omega) fun _ => by simpa [State.markerNames] using hfree

/-- A row acts on the request in hand alone. -/
theorem execWriteTableConfig_kept (s : State) : OutcomeKept s (execWriteTableConfig s) := by
  refine .taken ?_
  split
  · next hwork => exact (configWritten_kept hwork).answered ..
  · exact .refl s

theorem execWriteTableChannels_kept (s : State) : OutcomeKept s (execWriteTableChannels s) := by
  refine .taken ?_
  split
  · next hwork => exact (channelsWritten_kept hwork).answered ..
  · exact .refl s

theorem execWriteTableRatingStaged_kept (s : State) : OutcomeKept s (execWriteTableRatingStaged s) := by
  refine .taken ?_
  split
  · next hwork => exact (setBytes_kept hwork (by decide) (by omega)).answered ..
  · exact .refl s

theorem execWriteTableRules_kept (s : State) : OutcomeKept s (execWriteTableRules s) := by
  refine .taken ?_
  split
  · next hwork => exact (rulesWritten_kept hwork).answered ..
  · exact .refl s

theorem execWriteTablePatterns_kept (s : State) : OutcomeKept s (execWriteTablePatterns s) := by
  refine .taken ?_
  split
  · next hwork => exact (patternsWritten_kept hwork).answered ..
  · exact .refl s

theorem execWriteTablePlan_kept (s : State) : OutcomeKept s (execWriteTablePlan s) := by
  refine .taken ?_
  split
  · next n off data hwork =>
    split
    · exact .refl s
    · next hn =>
      split
      · exact (Kept.refl s).answered ..
      · next hfree => exact (planWritten_kept hwork (by omega) (by simpa using hfree)).answered ..
  · exact .refl s

theorem execReadRecords_kept (s : State) : OutcomeKept s (execReadRecords s) := by
  refine .taken ?_
  split
  · split <;> exact (Kept.refl s).answered ..
  · exact .refl s

theorem execActivateRating_kept (s : State) : OutcomeKept s (execActivateRating s) := by
  refine .taken ?_
  split
  · split
    · exact (Kept.refl s).answered ..
    · exact (live_kept s _).answered ..
  · exact .refl s

theorem execAddShift_kept (s : State) : OutcomeKept s (execAddShift s) := by
  refine .taken ?_
  split
  · split
    · exact (Kept.refl s).answered ..
    · exact (setShifts_kept fun h => h.placeShift _).answered ..
  · exact .refl s

theorem execDeleteShift_kept (s : State) : OutcomeKept s (execDeleteShift s) := by
  refine .taken ?_
  split
  · split
    · exact (setShifts_kept fun h => h.filter _).answered ..
    · exact (Kept.refl s).answered ..
  · exact .refl s

theorem execStartRun_kept (s : State) : OutcomeKept s (execStartRun s) := by
  refine .taken ?_
  split
  · next plan hwork =>
    split
    · exact (Kept.refl s).answered ..
    · next hgood => exact (beginRun_kept hwork hgood).answered ..
  · exact .refl s

theorem execWarningTest_kept (s : State) : OutcomeKept s (execWarningTest s) := by
  refine .taken ?_
  split
  · exact .either ((beginTest_kept ..).answered ..) ((Kept.refl s).answered ..)
  · exact .refl s

theorem silenced_kept (s : State) : Kept s (drive (s.setWrn { s.wrn with silenced := true })) :=
  drive_kept rfl rfl rfl rfl rfl rfl

theorem execPollDue_kept (ch : Fin 24) (s : State) : OutcomeKept s (execPollDue ch s) := by
  refine .taken ?_
  split
  · next hpoll => exact .when ((setPoll_kept _ hpoll).trans (duePollClaim_kept _)).settled
  · exact .refl s

theorem execPollSkip_kept (ch : Fin 24) (s : State) : OutcomeKept s (execPollSkip ch s) := by
  refine .taken ?_
  split
  · next hpoll => exact .when (skipPoll_kept hpoll).settled
  · exact .refl s

theorem execCommandFrameSent_kept (s : State) : OutcomeKept s (execCommandFrameSent s) := by
  refine .taken ?_
  split
  · exact .either (.refl s) ((setLoop_kept_of_frame).trans ((afterSent_kept ..).trans (settleFrom_kept ..)))
  · exact .refl s

theorem execBreakDetected_kept (s : State) : OutcomeKept s (execBreakDetected s) :=
  .next (.either (setReplyLow_kept _ s) (.when ((beginBreak_kept s).trans (setReplyLow_kept ..))))

theorem execBreakEnd_kept (s : State) : OutcomeKept s (execBreakEnd s) :=
  .next (.either (setReplyLow_kept _ s) ((setLoop_kept_of_frame).trans (setReplyLow_kept ..)).settled)

theorem execContactClosure_kept (c : Contact) (s : State) : OutcomeKept s (execContactClosure c s) :=
  .next (.either (setLines_kept s _) (.either (.refl s) (closeContact_kept c s).settled))

theorem lookupAsked_eq_some {s : State} {r : RunRec} {c : Calc} {q : Nat} (h : s.lookupAsked = some (r, c, q)) :
    s.run.state = .close ∧ s.run.record = some r ∧ r.figures = some c ∧ c.asked = some q := by
  unfold State.lookupAsked at h
  split at h
  · next hstate =>
    simp only [Option.bind_eq_some_iff, Option.map_eq_some_iff, Prod.mk.injEq] at h
    obtain ⟨r, hr, c, hc, q, hq, rfl, rfl, rfl⟩ := h
    exact ⟨hstate, hr, hc, hq⟩
  · cases h

theorem execInverseLookup_kept (s : State) : OutcomeKept s (execInverseLookup s) := by
  refine .taken ?_
  split
  · next r c q hask =>
    obtain ⟨hstate, hrecord, -, -⟩ := lookupAsked_eq_some hask
    exact (endClose_kept _ (by simp [hstate]) (.of_eq hrecord)).settled
  · exact .refl s

theorem execReadStatus_kept (s : State) : OutcomeKept s (execReadStatus s) := by
  refine .taken ?_
  split
  · exact (Kept.refl s).answered ..
  · exact .refl s

theorem execReadTable_kept (s : State) : OutcomeKept s (execReadTable s) := by
  refine .taken ?_
  split
  · exact (Kept.refl s).answered ..
  · exact .refl s

theorem execAbortRun_kept (s : State) : OutcomeKept s (execAbortRun s) := by
  refine .taken ?_
  split
  · exact (abortRun_kept ..).answered ..
  · exact .refl s

theorem execSilence_kept (s : State) : OutcomeKept s (execSilence s) := by
  refine .taken ?_
  split
  · exact (silenced_kept s).answered ..
  · exact .refl s

theorem execSetClock_kept (s : State) : OutcomeKept s (execSetClock s) := by
  refine .taken ?_
  split
  · exact (setClockTo_kept ..).answered ..
  · exact .refl s

theorem execResetPart_kept (s : State) : OutcomeKept s (execResetPart s) := by
  refine .taken ?_
  split
  · exact Kept.answered setCtl_kept ..
  · exact .refl s

theorem execReceptionGap_kept (s : State) : OutcomeKept s (execReceptionGap s) := by
  refine .taken ?_
  split
  · exact ((setLoop_kept_of_frame).trans (gapIn_kept ..)).settled
  · exact .refl s

theorem execLoopCleared_kept (s : State) : OutcomeKept s (execLoopCleared s) := by
  refine .taken ?_
  split
  · exact .when (leaveJam_kept ..).settled
  · exact .refl s

theorem execGrantBegin_kept (s : State) : OutcomeKept s (execGrantBegin s) := by
  refine .taken ?_
  split
  · exact .when ((beginGrant_kept s).trans (settleFrom_kept ..))
  · exact .refl s

theorem execUplinkItemEnd_kept (s : State) : OutcomeKept s (execUplinkItemEnd s) := by
  refine .taken ?_
  split
  · exact .when (endItem_kept ..)
  · exact .refl s

theorem execSyncPairReceived_kept (heard : UplinkHeard) (s : State) : OutcomeKept s (execSyncPairReceived heard s) := by
  refine .taken ?_
  refine setUpl_kept ?_ ?_ <;> split <;> simp [Upl.hunted]

theorem execSettleExpiry_kept (s : State) : OutcomeKept s (execSettleExpiry s) := by
  refine .taken ?_
  split
  · next hdue =>
    have hstate : s.run.state = .settle := by
      simp only [State.settleDue, Bool.and_eq_true, beq_iff_eq] at hdue
      exact hdue.1
    exact (enterExpose_kept (by rw [hstate]; rfl)).settled
  · exact .refl s

theorem execRetrieveTimeout_kept (s : State) : OutcomeKept s (execRetrieveTimeout s) := by
  refine .taken ?_
  split
  · next hdue =>
    have hstate : s.run.state = .retrieve := by
      simp only [State.retrieveDue, Bool.and_eq_true, beq_iff_eq] at hdue
      exact hdue.1
    exact (endRetrieval_kept false (by simp [hstate])).settled
  · exact .refl s

theorem exec_kept (c : Instr) (s : State) : OutcomeKept s (exec c s) := by
  cases c with
  | powerOnReset held elapsed lines =>
    have hclk : Kept s (s.setClk (clockAfterPower held elapsed s.clk)) := .of_still
    exact .next (hclk.trans ((setLines_kept _ _).trans (resetAll_kept ..)))
  | resetLineAssert => exact .next (resetLine_kept s true)
  | warmReset => exact .next (.when (resetAll_kept ..))
  | coldReset => exact .taken (.when (resetAll_kept ..))
  | requestTaken => exact .taken (.when (takeRequest_kept s).settled)
  | readStatus => exact execReadStatus_kept s
  | readRecords => exact execReadRecords_kept s
  | readTable => exact execReadTable_kept s
  | writeTableConfig => exact execWriteTableConfig_kept s
  | writeTableChannels => exact execWriteTableChannels_kept s
  | writeTableRatingStaged => exact execWriteTableRatingStaged_kept s
  | writeTableRules => exact execWriteTableRules_kept s
  | writeTablePatterns => exact execWriteTablePatterns_kept s
  | writeTablePlan => exact execWriteTablePlan_kept s
  | activateRating => exact execActivateRating_kept s
  | addShift => exact execAddShift_kept s
  | deleteShift => exact execDeleteShift_kept s
  | startRun => exact execStartRun_kept s
  | abortRun => exact execAbortRun_kept s
  | silence => exact execSilence_kept s
  | warningTest => exact execWarningTest_kept s
  | setClock => exact execSetClock_kept s
  | resetPart => exact execResetPart_kept s
  | intervalBoundary => exact .taken (.when ((closeInterval_kept s).trans (openInterval_kept ..)))
  | staleTimerExpiry src => exact .taken (.when (becomeStale_kept src s).settled)
  | historyStep => exact .taken (.when ((enterHistory_kept s).trans (wrnHistory_kept _)).settled)
  | standDownExpiry => exact .taken (.when (standDownFall_kept s))
  | warningTestEnd => exact .taken (.when (drive_kept rfl rfl rfl rfl rfl rfl))
  | pollDue ch => exact execPollDue_kept ch s
  | pollSkip ch => exact execPollSkip_kept ch s
  | commandFrameSent => exact execCommandFrameSent_kept s
  | replyTimeout => exact .taken (.when (failTxn_kept ..).settled)
  | replyReceived body => exact .taken (.when ((seenHigh_kept s).trans (endReply_kept ..)).settled)
  | receptionFailure fault =>
    exact .taken (.when ((seenHigh_kept s).trans ((failTxn_kept ..).trans (afterFault_kept ..))).settled)
  | receptionGap => exact execReceptionGap_kept s
  | unsolicitedFrame fin => exact .taken (.when ((seenHigh_kept s).trans (endUnsolicited_kept ..)).settled)
  | breakDetected => exact execBreakDetected_kept s
  | breakEnd => exact execBreakEnd_kept s
  | loopJammed => exact .taken (.when (enterJam_kept s).settled)
  | loopCleared => exact execLoopCleared_kept s
  | grantBegin => exact execGrantBegin_kept s
  | grantFrameReceived fin => exact .taken (.when ((seenHigh_kept s).trans (endGrantFrame_kept ..)).settled)
  | grantTimeout => exact .taken (.when (claim_kept .timeout s).settled)
  | claimWaitExpiry => exact .taken (.when (endUnanswered_kept s).settled)
  | interleaveEnd => exact .taken (.when (Kept.settled setLoop_kept_of_still))
  | contactClosure c => exact execContactClosure_kept c s
  | contactOpening c => exact .next (.either (setLines_kept s _) ((setLines_kept s _).trans (setPls_kept ..)))
  | exposureExpiry => exact .taken (.when ((setPls_kept s _).trans (handRotor_kept ..)).settled)
  | timeLimitExpiry => exact .taken (.when ((setPls_kept s _).trans (handRotor_kept ..)).settled)
  | missingPulseExpiry => exact .taken (.when ((setPls_kept s _).trans (handRotor_kept ..)).settled)
  | settleExpiry => exact execSettleExpiry_kept s
  | traverseTimeout => exact .taken (.when ((setRun_kept).trans (abortRun_kept ..)).settled)
  | cableTimeout => exact .taken (.when ((setRun_kept).trans (abortRun_kept ..)).settled)
  | enquiryInterval => exact .taken (.when (enquire_kept s).settled)
  | retrieveTimeout => exact execRetrieveTimeout_kept s
  | inverseLookup => exact execInverseLookup_kept s
  | uplinkItemEnd => exact execUplinkItemEnd_kept s
  | ctsFall => exact .next (setLines_kept s _)
  | ctsRise => exact .next (setLines_kept s _)
  | linkFall => exact .next (.either (setLines_kept s _) (linkLow_kept s))
  | linkRise => exact .next (.either (setLines_kept s _) ((setLines_kept s _).trans (uplinkSelect_kept _)))
  | uplinkFrameReceived f => exact .taken (.when (endUplinkFrame_kept f s).settled)
  | uplinkFrameError fault =>
    exact .taken (.when ((countUplinkFault_kept fault s _ setUpl_kept).trans (uplinkRateEffect_kept _)))
  | uplinkReceiveGap => exact .taken (.when ((setUpl_kept).trans (uplinkRateEffect_kept _)))
  | frameBegins start =>
    cases start with
    | marked addr => exact .taken (markedCharacter_kept addr s)
    | unmarked => exact .next (setReplyLow_kept true s)
  | syncPairReceived heard => exact execSyncPairReceived_kept heard s

/-! ## A step -/

theorem pending_kept (s : State) (is : List Instr) : Kept s { s with pending := is } :=
  .of_still (tables := { work := .inl rfl }) (sizes := { control := id })

/-- R15: a millisecond that passes touches the clocks and the item in UPL's buffer alone. -/
theorem passMs_kept (s : State) : Kept s (passMs s) := by
  have hclk (c : Clocks) (t : State) : Kept t (t.setClk c) := .of_still
  unfold passMs
  dsimp only
  exact (hclk _ s).trans (.either (.refl _) ((hclk _ _).trans (setUpl_kept (by simp [Upl.sendMs]) (by simp [Upl.sendMs]))))

theorem idle_kept (s : State) : Kept s (idle s) := by
  unfold idle
  split
  · exact passMs_kept s
  · exact pending_kept s _

theorem step_kept {s t : State} (h : step s = .next t) : Kept s t := by
  unfold step at h
  split at h
  · exact (pending_kept s _).trans (exec_kept _ _ t h)
  · cases h
    exact idle_kept s

end Sys2Proof.Machine
end

section
/-! The statements about every step that concern WRN, RUN, LOOP, the store and the tables. -/

namespace Sys2Proof.Machine

set_option Elab.async false

/-- Settles O53: of all events only those that lower the level, or end a run's work, or the start of a run, concern it, and
the write of a lower stop level aborts the run that it finds. -/
theorem everyStepKeepsTheInterlock : Obligations.EveryStepKeepsTheInterlock := by
  intro s t hs hstep
  rw [← interlockBelow_zero_iff] at hs ⊢
  exact (step_kept hstep).interlock 0 hs

/-- Settles O54, by what each event keeps. -/
theorem everyStepKeepsTheWarningConsistent : Obligations.EveryStepKeepsTheWarningConsistent :=
  fun _ _ hs hstep => (step_kept hstep).warning hs

/-- Settles O55, by what each event keeps. -/
theorem everyStepKeepsTheStoreAndShifts : Obligations.EveryStepKeepsTheStoreAndShifts :=
  fun _ _ hs hstep => (step_kept hstep).store hs

/-- Settles O56, by what each event keeps. -/
theorem everyStepKeepsTheMarker : Obligations.EveryStepKeepsTheMarker :=
  fun _ _ hs hstep => (step_kept hstep).marker hs

/-- Settles O57, by what each event keeps. -/
theorem everyStepKeepsTheGrantExclusive : Obligations.EveryStepKeepsTheGrantExclusive :=
  fun _ _ hs hstep => (step_kept hstep).grant hs

/-- Settles O59, by what each event keeps. -/
theorem everyStepKeepsSizesAndView : Obligations.EveryStepKeepsSizesAndView :=
  fun _ _ hs hstep => ⟨(step_kept hstep).view hs.1, (step_kept hstep).queues hs.2.1, (step_kept hstep).tables hs.2.2⟩

/-- Settles O3: every row answers a next state, whatever it finds. -/
theorem noCommandStops : Obligations.NoCommandStops := by
  intro c s
  cases c with
  | frameBegins start => cases start <;> exact ⟨_, rfl⟩
  | _ => exact ⟨_, rfl⟩

/-- Settles O1: the front command acts on the state with the rest of the queue. -/
theorem stepRunsFrontCommand : Obligations.StepRunsFrontCommand := by
  intro c rest s h
  rw [step, h]

end Sys2Proof.Machine
end

section
/-! The selection of a stage source (R7 to R13): what an acceptance and a stale source leave, and that every other event leaves
it. -/

namespace Sys2Proof.Machine

set_option Elab.async false

/-- The sources and the selection agree, before the selected stage follows them. -/
structure SelectionConsistent (g : Stg) : Prop where
  primary : g.selection = .primary → g.prim.state = .valid
  secondary : g.selection = .secondary → g.sec.state = .valid
  neither : g.selection = .none ↔ g.prim.state ≠ .valid ∧ g.sec.state ≠ .valid
  primLast : g.prim.last = none ↔ g.prim.state = .noData
  secLast : g.sec.last = none ↔ g.sec.state = .noData

theorem StageConsistent.selection {s : State} (h : StageConsistent s) : SelectionConsistent s.stg :=
  ⟨h.primary, h.secondary, h.neither, h.primLast, h.secLast⟩

/-- R12: a source that is selected has a value to publish. -/
theorem SelectionConsistent.selectedValue_isSome {g : Stg} (h : SelectionConsistent g) (hsel : g.selection ≠ .none)
    (limit : Nat) : ∃ v, g.selectedValue limit = some v := by
  obtain ⟨hprim, hsec, -, hprimLast, hsecLast⟩ := h
  rw [← Option.isSome_iff_exists, Option.isSome_iff_ne_none, Stg.selectedValue]
  cases hs : g.selection with
  | none => exact absurd hs hsel
  | primary => simp [hprimLast, hprim hs]
  | secondary => simp [hsecLast, hsec hs]

/-- R12: what is published follows the selection. -/
theorem publish_consistent {s : State} (h : SelectionConsistent s.stg) (hsel : s.stg.selection ≠ .none) :
    StageConsistent (publish s) := by
  obtain ⟨v, hv⟩ := h.selectedValue_isSome hsel (cfgAlignLimit s.tbl.config)
  obtain ⟨hprim, hsec, hneither, hprimLast, hsecLast⟩ := h
  constructor
  case selected | discharge | lost => simp [publish, hv, hsel, wrnStage]
  all_goals simpa using ‹_›

/-- R13: with neither source VALID stage is lost. -/
theorem loseStage_consistent {s : State} (hprim : s.stg.prim.state ≠ .valid) (hsec : s.stg.sec.state ≠ .valid)
    (hprimLast : s.stg.prim.last = none ↔ s.stg.prim.state = .noData)
    (hsecLast : s.stg.sec.last = none ↔ s.stg.sec.state = .noData) : StageConsistent (loseStage s) := by
  constructor
  case primLast | secLast => simpa using ‹_›
  all_goals simp [loseStage, wrnStageLost, hprim, hsec, markInterval]

/-! ## Acceptances (R4) -/

/-- R4 step 4: after an acceptance the selection is the source, or it is the other source, as it was before. -/
theorem selectAfter_cases (src : Source) (s : State) :
    (selectAfter src s).stg.selection.follows src = true ∨
      ((selectAfter src s).stg.selection = s.stg.selection ∧ s.stg.selection ≠ .none) := by
  cases hsel : s.stg.selection with
  | none => cases src <;> exact .inl (by simp [selectAfter, hsel, restoreStage, Selection.follows])
  | primary => cases src <;> simp [selectAfter, hsel]
  | secondary =>
    cases src with
    | primary =>
      simp only [selectAfter, hsel]
      split
      · exact .inl rfl
      · exact .inr ⟨by simp, by simp⟩
    | secondary => simp [selectAfter, hsel]

/-- The source that has just been accepted is VALID with a last value. -/
structure SourceValid (r : SourceRec) : Prop where
  state : r.state = .valid
  last : r.last ≠ none

theorem SelectionConsistent.of_selected {g : Stg} (hne : g.selection ≠ .none)
    (primary : g.selection = .primary → g.prim.state = .valid) (secondary : g.selection = .secondary → g.sec.state = .valid)
    (primLast : g.prim.last = none ↔ g.prim.state = .noData) (secLast : g.sec.last = none ↔ g.sec.state = .noData) :
    SelectionConsistent g := by
  refine ⟨primary, secondary, ⟨fun h => absurd h hne, fun ⟨hprim, hsec⟩ => ?_⟩, primLast, secLast⟩
  cases hsel : g.selection with
  | none => rfl
  | primary => exact absurd (primary hsel) hprim
  | secondary => exact absurd (secondary hsel) hsec

theorem SelectionConsistent.accepted {g g' : Stg} (h : SelectionConsistent g) {src : Source} {r : SourceRec}
    (hr : SourceValid r) (hprim : g'.prim = (g.setSource src r).prim) (hsec : g'.sec = (g.setSource src r).sec)
    (hsel : g'.selection.follows src = true ∨ (g'.selection = g.selection ∧ g.selection ≠ .none)) :
    SelectionConsistent g' ∧ g'.selection ≠ .none := by
  obtain ⟨hstate, hlast⟩ := hr
  obtain ⟨hp, hs, -, hpl, hsl⟩ := h
  have hne : g'.selection ≠ .none := by
    obtain hfollows | ⟨hsame, hother⟩ := hsel
    · intro hnone
      rw [hnone] at hfollows
      cases hfollows
    · rwa [hsame]
  refine ⟨.of_selected hne ?_ ?_ ?_ ?_, hne⟩ <;> cases src <;>
    simp only [hprim, hsec, Stg.setSource, hstate, hlast, hpl, hsl, implies_true, reduceCtorEq] <;> intro hsel' <;>
    simp_all [Selection.follows]

/-- An event keeps stage, discharge and the loss of stage following the selection. -/
structure StageKept (s t : State) : Prop where
  kept : StageConsistent s → StageConsistent t

/-- What `StageConsistent` reads is the same. -/
structure StageStill (s t : State) : Prop where
  prim : t.stg.prim = s.stg.prim := by simp
  sec : t.stg.sec = s.stg.sec := by simp
  selection : t.stg.selection = s.stg.selection := by simp
  selected : t.stg.selected = s.stg.selected := by simp
  latest : t.rat.latest = s.rat.latest := by simp
  lost : t.wrn.stageLost = s.wrn.stageLost := by simp

theorem StageKept.refl (s : State) : StageKept s s := ⟨id⟩

theorem StageKept.trans {s t u : State} (h : StageKept s t) (k : StageKept t u) : StageKept s u := ⟨k.kept ∘ h.kept⟩

theorem StageKept.of_still {s t : State} (h : StageStill s t := by exact {}) : StageKept s t := by
  refine ⟨fun ⟨hprim, hsec, hneither, hprimLast, hsecLast, hselected, hdischarge, hlost⟩ => ?_⟩
  constructor
  all_goals simpa only [h.prim, h.sec, h.selection, h.selected, h.latest, h.lost]

theorem StageKept.when {p : Prop} [Decidable p] {s t : State} (h : p → StageKept s t) :
    StageKept s (if p then t else s) := by
  split
  · next hp => exact h hp
  · exact .refl s

theorem StageKept.either {p : Prop} [Decidable p] {s t u : State} (h : StageKept s t) (k : StageKept s u) :
    StageKept s (if p then t else u) := by
  split
  · exact h
  · exact k

/-- The record of a source at an acceptance. -/
def acceptedSource (src : Source) (v : Sample) (t : Nat) (s : State) : SourceRec :=
  { s.stg.source src with
    state := .valid, last := some v, lastTime := some t, staleAt := some (t + cfgStaleLimit s.tbl.config) }

/-- R4: an acceptance up to the new selected stage. -/
def acceptedState (src : Source) (v : Sample) (t : Nat) (s : State) : State :=
  let u := selectAfter src (s.setStg (s.stg.setSource src (acceptedSource src v t s)))
  if src = .secondary then u.setStg (u.stg.align v) else u

theorem accept_eq (src : Source) (v : Sample) (t : Nat) (s : State) :
    accept src v t s =
      if (acceptedState src v t s).stg.selection.follows src then publish (acceptedState src v t s)
      else acceptedState src v t s := rfl

@[simp] theorem acceptedState_frame (src : Source) (v : Sample) (t : Nat) (s : State) :
    (acceptedState src v t s).stg.prim = (s.stg.setSource src (acceptedSource src v t s)).prim ∧
      (acceptedState src v t s).stg.sec = (s.stg.setSource src (acceptedSource src v t s)).sec ∧
      (acceptedState src v t s).stg.selected = s.stg.selected ∧ (acceptedState src v t s).rat = s.rat ∧
      (acceptedState src v t s).wrn = s.wrn ∧ (acceptedState src v t s).tbl = s.tbl ∧
      (acceptedState src v t s).stg.selection =
        (selectAfter src (s.setStg (s.stg.setSource src (acceptedSource src v t s)))).stg.selection := by
  unfold acceptedState
  dsimp only
  split <;> simp

theorem accept_stageKept (src : Source) (v : Sample) (t : Nat) (s : State) : StageKept s (accept src v t s) := by
  refine ⟨fun h => ?_⟩
  have hcases := selectAfter_cases src (s.setStg (s.stg.setSource src (acceptedSource src v t s)))
  obtain ⟨hselection, hne⟩ := h.selection.accepted (src := src) (g' := (acceptedState src v t s).stg)
    (r := acceptedSource src v t s) ⟨rfl, by simp [acceptedSource]⟩ (by simp) (by simp) (by simpa using hcases)
  rw [accept_eq]
  split
  · exact publish_consistent hselection hne
  · next hother =>
    obtain ⟨hsame, hsome⟩ := hcases.resolve_left (by simpa using hother)
    have hsel : (acceptedState src v t s).stg.selection = s.stg.selection := by simpa using hsame
    obtain ⟨hp, hs, hn, hpl, hsl⟩ := hselection
    exact ⟨hp, hs, hn, hpl, hsl, by rw [hsel]; simpa using h.selected, by rw [hsel]; simpa using h.discharge,
      by rw [hsel]; simpa using h.lost⟩

/-! ## Suspects, stale sources and missing samples (R3, R5 to R8) -/

theorem setSource_stageKept {s : State} {src : Source} {r : SourceRec} (state : r.state = (s.stg.source src).state)
    (last : r.last = (s.stg.source src).last) {g : Stg} (hprim : g.prim = (s.stg.setSource src r).prim)
    (hsec : g.sec = (s.stg.setSource src r).sec) (hsel : g.selection = s.stg.selection)
    (hselected : g.selected = s.stg.selected) : StageKept s (s.setStg g) := by
  refine ⟨fun ⟨h1, h2, h3, h4, h5, h6, h7, h8⟩ => ?_⟩
  cases src <;> simp only [Stg.source, Stg.setSource] at state last hprim hsec <;> constructor <;>
    simpa only [State.setStg_stg, State.setStg_rat, State.setStg_wrn, hprim, hsec, hsel, hselected, state, last]

theorem becomeSuspect_stageKept (src : Source) (v : Sample) (s : State) : StageKept s (becomeSuspect src v s) := by
  unfold becomeSuspect
  dsimp only
  split <;> exact setSource_stageKept (r := { s.stg.source src with suspect := some v }) rfl rfl rfl rfl (by simp) (by simp)

theorem dropSuspect_stageKept (src : Source) (s : State) : StageKept s (dropSuspect src s) :=
  setSource_stageKept (r := { s.stg.source src with suspect := none }) rfl rfl rfl rfl (by simp) (by simp)

theorem judgeSample_stageKept (src : Source) (v : Sample) (t : Nat) (s : State) : StageKept s (judgeSample src v t s) := by
  unfold judgeSample
  dsimp only
  split
  · exact accept_stageKept ..
  · exact .either (accept_stageKept ..) (becomeSuspect_stageKept ..)
  · exact .either ((dropSuspect_stageKept ..).trans ((accept_stageKept ..).trans (accept_stageKept ..)))
      (.either ((dropSuspect_stageKept ..).trans (accept_stageKept ..)) (becomeSuspect_stageKept ..))

theorem becomeStale_stageKept {src : Source} {s : State} (hvalid : (s.stg.source src).state = .valid) :
    StageKept s (becomeStale src s) := by
  refine ⟨fun ⟨hprim, hsec, hneither, hprimLast, hsecLast, hselected, hdischarge, hlost⟩ => ?_⟩
  unfold becomeStale
  cases src with
  | primary =>
    simp only [Stg.source] at hvalid
    have hheard : s.stg.prim.last ≠ none := by simp [hprimLast, hvalid]
    cases hsel : s.stg.selection with
    | none => simp [hneither, hvalid] at hsel
    | primary =>
      simp only [selectAfterStale, State.setStg_stg, Stg.setSource, hsel, Stg.source]
      split
      · exact publish_consistent (.of_selected (by simp) (by simp_all) (by simp_all) (by simp_all) (by simp_all)) (by simp)
      · apply loseStage_consistent <;> simp_all
    | secondary =>
      simp only [selectAfterStale, State.setStg_stg, Stg.setSource, hsel, Stg.source]
      constructor <;> simp_all
  | secondary =>
    simp only [Stg.source] at hvalid
    have hheard : s.stg.sec.last ≠ none := by simp [hsecLast, hvalid]
    cases hsel : s.stg.selection with
    | none => simp [hneither, hvalid] at hsel
    | secondary =>
      simp only [selectAfterStale, State.setStg_stg, Stg.setSource, hsel, Stg.source]
      split
      · exact publish_consistent (.of_selected (by simp) (by simp_all) (by simp_all) (by simp_all) (by simp_all)) (by simp)
      · apply loseStage_consistent <;> simp_all
    | primary =>
      simp only [selectAfterStale, State.setStg_stg, Stg.setSource, hsel, Stg.source]
      constructor <;> simp_all

theorem becomeStale_due_stageKept (src : Source) (s : State) :
    StageKept s (if s.staleDue src then becomeStale src s else s) :=
  .when fun hdue => becomeStale_stageKept (by
    simp only [State.staleDue, Bool.and_eq_true, beq_iff_eq] at hdue
    exact hdue.1)

theorem SourceRec.restale_state (limit : Nat) (r : SourceRec) :
    (r.restale limit).state = r.state ∧ (r.restale limit).last = r.last := by
  unfold SourceRec.restale
  split <;> simp

theorem staleLimitChanged_stageKept (old : List Byte) (s : State) : StageKept s (staleLimitChanged old s) := by
  have hrestale (limit : Nat) :
      StageKept s (s.setStg { s.stg with prim := s.stg.prim.restale limit, sec := s.stg.sec.restale limit }) :=
    ⟨fun ⟨h1, h2, h3, h4, h5, h6, h7, h8⟩ => by
      constructor <;> simpa [SourceRec.restale_state]⟩
  unfold staleLimitChanged
  refine .either (.refl s) ?_
  exact (hrestale _).trans ((becomeStale_due_stageKept .primary _).trans (becomeStale_due_stageKept .secondary _))

theorem missingSample_stageKept (src : Source) (s : State) : StageKept s (missingSample src s) := .of_still

/-! ## Frames -/

theorem setLoop_stageKept (s : State) (l : Loop) : StageKept s (s.setLoop l) := .of_still

theorem runOutcome_stageKept (id : Nat) (o : CmdOutcome) (s : State) : StageKept s (runOutcome id o s) := .of_still

theorem settle_stageKept (s : State) : StageKept s (settle s) := .of_still

theorem StageKept.settled {s t : State} (h : StageKept s t) : StageKept s (settle t) := h.trans (settle_stageKept t)

theorem deliverStage_stageKept (i : Nat) (src : Source) (f : GoodFrame) (s : State) :
    StageKept s (deliverStage i src f s) := by
  unfold deliverStage
  dsimp only
  refine .either .of_still (.either .of_still (.either .of_still ?_))
  exact .trans (.of_still) (judgeSample_stageKept ..)

theorem handleStage_stageKept (i : Nat) (src : Source) (f : GoodFrame) (s : State) :
    StageKept s (handleStage i src f s) := by
  unfold handleStage
  dsimp only
  exact .either (.trans (deliverStage_stageKept ..) (.when fun _ => .of_still)) (.either (.refl s) .of_still)

theorem handleEntry_stageKept (i : Nat) (f : GoodFrame) (s : State) : StageKept s (handleEntry i f s) := by
  have hcounted : StageKept s (s.onStats i fun st => { st with classified := inc16 st.classified }) := .of_still
  unfold handleEntry
  dsimp only
  split
  · exact hcounted.trans (handleStage_stageKept ..)
  · exact hcounted.trans (handleStage_stageKept ..)
  · exact .of_still
  · exact .of_still
  · exact .of_still
  · exact hcounted

theorem classify_stageKept (f : GoodFrame) (s : State) : StageKept s (classify f s) := by
  unfold classify
  split
  · exact .of_still
  · exact handleEntry_stageKept ..
  · exact .of_still

theorem endTxnGood_stageKept (b : FrameBody) (s : State) : StageKept s (endTxnGood b s) := by
  unfold endTxnGood
  split
  · exact .refl s
  · dsimp only
    split
    · exact .trans .of_still (classify_stageKept ..)
    · exact (setLoop_stageKept ..).trans ((classify_stageKept ..).trans (runOutcome_stageKept ..))

theorem endReply_stageKept (b : FrameBody) (s : State) : StageKept s (endReply b s) := by
  unfold endReply
  split
  · split
    · exact .of_still
    · exact .either (endTxnGood_stageKept ..) .of_still
  · exact .refl s

theorem countPosition_stageKept (payload : List Byte) (s : State) : StageKept s (countPosition payload s) := .of_still

theorem burstEnd_stageKept (s : State) : StageKept s (burstEnd s) := .of_still

theorem goodGrantFrame_stageKept (addr : Byte) (b : FrameBody) (s : State) :
    StageKept s (goodGrantFrame addr b s) := by
  have hclassified (n : Nat) (p : Bool) (f : GoodFrame) :
      StageKept s
        (classify f (if p then (endGrantRx s).setLoop ((endGrantRx s).loop.setNodeCount n 0) else endGrantRx s)) := by
    refine .trans ?_ (classify_stageKept f _)
    split <;> exact .of_still
  unfold goodGrantFrame
  dsimp only
  exact .either (hclassified ..) (.either ((hclassified ..).trans (countPosition_stageKept ..))
    (.either ((hclassified ..).trans (burstEnd_stageKept _)) (hclassified ..)))

theorem endGrantFrame_stageKept (fin : FrameEnd) (s : State) : StageKept s (endGrantFrame fin s) := by
  unfold endGrantFrame
  split
  · split
    · exact .of_still
    · exact goodGrantFrame_stageKept ..
  · exact .refl s
  · exact .of_still
  · exact .refl s

theorem cutFrame_stageKept (addr : Byte) (r : RxFrame) (s : State) : StageKept s (cutFrame addr r s) := by
  unfold cutFrame
  split
  · exact .of_still
  · exact endGrantFrame_stageKept ..
  · exact .of_still

theorem markedCharacter_stageKept (addr : Byte) (s : State) : StageKept s (markedCharacter addr s) := by
  unfold markedCharacter
  dsimp only
  refine .either (.refl s) ?_
  split
  · exact .of_still
  · exact .trans (.trans .of_still (cutFrame_stageKept ..)) (settle_stageKept _)

/-! ## Resets -/

theorem resetBlocks_frame_stage (kind : ResetKind) (s : State) :
    (resetBlocks kind s).stg = (resetBase kind s).stg ∧ (resetBlocks kind s).rat = (resetBase kind s).rat ∧
      (resetBlocks kind s).wrn.stageLost = true := by
  rw [resetBlocks_eq, warningReset_eq]
  have htaken := warningTakenUp_takenUp kind (resetBase kind s)
  simp [htaken.stageLost]

/-- R21: after a reset no source has been heard, none is selected, and stage is lost. -/
theorem resetAll_stageConsistent (kind : ResetKind) (s : State) : StageConsistent (resetAll kind s) := by
  obtain ⟨hstg, hrat, hlost⟩ := resetBlocks_frame_stage kind (unlinked s)
  have hblocks : StageConsistent (resetBlocks kind (unlinked s)) := by
    constructor <;> simp [hstg, hrat, hlost, resetBase_stg, freshSource]
  have hafter : StageKept (resetBlocks kind (unlinked s))
      (settle (uplinkSelect ((resetBlocks kind (unlinked s)).setLines s.lines))) := .of_still
  rw [resetAll_eq]
  exact hafter.kept hblocks

/-! ## The commands -/

/-- Every state that a command answers has stage following the selection. -/
structure OutcomeStageKept (s : State) (o : Host.Outcome State Fault Refusal) : Prop where
  kept : ∀ t, o = .next t → StageKept s t

theorem OutcomeStageKept.next {s t : State} (h : StageKept s t) : OutcomeStageKept s (.next t) :=
  ⟨by rintro _ ⟨⟩; exact h⟩

theorem OutcomeStageKept.taken {s : State} {f : State → State} (h : StageKept s (f s)) :
    OutcomeStageKept s (taken s f) := by
  unfold Sys2Proof.Machine.taken
  split
  · exact .next (.refl s)
  · exact .next h

theorem staleDue_valid {src : Source} {s : State} (h : s.staleDue src = true) :
    (s.stg.source src).state = .valid := by
  simp only [State.staleDue, Bool.and_eq_true, beq_iff_eq] at h
  exact h.1

theorem configRest_stageKept (old : List Byte) (s : State) :
    StageKept s (uplinkRateEffect (stopLevelChanged old (standDownChanged old (historyStepChanged old s)))) := .of_still

theorem configWritten_stageKept (old : List Byte) (s : State) : StageKept s (configWritten old s) :=
  (staleLimitChanged_stageKept old s).trans (configRest_stageKept old _)

theorem answered_stageKept (code : Byte) (fields : List Byte) (s : State) :
    StageKept s (settle (answer code fields s)) := .of_still

theorem StageKept.answered {s t : State} (h : StageKept s t) (code : Byte) (fields : List Byte) :
    StageKept s (settle (answer code fields t)) := h.trans (answered_stageKept code fields t)

theorem execWriteTableConfig_stageKept (s : State) : OutcomeStageKept s (execWriteTableConfig s) := by
  have htbl (tbl : Tables) : StageKept s (s.setTbl tbl) := .of_still
  refine .taken ?_
  split
  · exact ((htbl _).trans (configWritten_stageKept ..)).answered ..
  · exact .refl s

@[simp] theorem beginBreak_frame (s : State) :
    (beginBreak s).clk = s.clk ∧ (beginBreak s).tbl = s.tbl ∧ (beginBreak s).stg = s.stg ∧ (beginBreak s).rat = s.rat ∧
      (beginBreak s).wrn = s.wrn ∧ (beginBreak s).pls = s.pls ∧ (beginBreak s).run = s.run ∧
      (beginBreak s).cht = s.cht ∧ (beginBreak s).store = s.store ∧ (beginBreak s).upl = s.upl ∧
      (beginBreak s).ctl = s.ctl ∧ (beginBreak s).lines = s.lines ∧ (beginBreak s).resetLine = s.resetLine ∧
      (beginBreak s).lastReset = s.lastReset ∧ (beginBreak s).pending = s.pending := by
  simp [beginBreak]

/-- No command but those of a source reaches the selection. -/
theorem exec_stageKept (c : Instr) (s : State) : OutcomeStageKept s (exec c s) := by
  cases c with
  | powerOnReset held elapsed lines => exact .next ⟨fun _ => resetAll_stageConsistent ..⟩
  | warmReset => exact .next (.when fun _ => ⟨fun _ => resetAll_stageConsistent ..⟩)
  | coldReset => exact .taken (.when fun _ => ⟨fun _ => resetAll_stageConsistent ..⟩)
  | resetLineAssert => exact .next .of_still
  | writeTableConfig => exact execWriteTableConfig_stageKept s
  | staleTimerExpiry src =>
    exact .taken (.when fun hdue => (becomeStale_stageKept (staleDue_valid hdue)).settled)
  | replyReceived body => exact .taken (.when fun _ => (StageKept.trans .of_still (endReply_stageKept ..)).settled)
  | grantFrameReceived fin =>
    exact .taken (.when fun _ => (StageKept.trans .of_still (endGrantFrame_stageKept ..)).settled)
  | frameBegins start =>
    cases start with
    | marked addr => exact .taken (markedCharacter_stageKept addr s)
    | unmarked => exact .next .of_still
  | breakDetected => exact .next (.either .of_still (.either .of_still .of_still))
  | breakEnd => exact .next (.either .of_still .of_still)
  | contactClosure c => exact .next (.either .of_still (.either .of_still .of_still))
  | contactOpening c => exact .next (.either .of_still .of_still)
  | ctsFall => exact .next .of_still
  | ctsRise => exact .next .of_still
  | linkFall => exact .next (.either .of_still .of_still)
  | linkRise => exact .next (.either .of_still .of_still)
  | _ =>
    dsimp only [exec]
    refine .taken ?_
    (repeat' split) <;> exact .of_still

theorem step_stageKept {s t : State} (h : step s = .next t) : StageKept s t := by
  unfold step at h
  split at h
  · have hpending (is : List Instr) : StageKept s { s with pending := is } := .of_still ⟨rfl, rfl, rfl, rfl, rfl, rfl⟩
    exact (hpending _).trans ((exec_stageKept _ _).kept t h)
  · cases h
    exact .of_still

/-- Settles O58: only an acceptance, a stale source and a reset touch the selection, and each leaves it consistent. -/
theorem everyStepKeepsTheStageSelection : Obligations.EveryStepKeepsTheStageSelection :=
  fun _ _ hs hstep => (step_stageKept hstep).kept hs

end Sys2Proof.Machine
end

section
/-! The state right after reset (R196), and what a step without a command does. -/

namespace Sys2Proof.Machine

set_option Elab.async false

/-! ## The delivered state -/

theorem delivered_rules_off {i : Nat} (hi : i < 12) : (ruleEntry deliveredTables.rules i).valid = false := by
  interval_cases i <;> rfl

theorem delivered_failSafe : failSafeTarget deliveredTables.rules = 0 := by
  have hnone : (List.range 12).filter (fun i =>
      (ruleEntry deliveredTables.rules i).valid && (ruleEntry deliveredTables.rules i).failSafe) = [] :=
    List.filter_eq_nil_iff.mpr fun i hi => by simp [delivered_rules_off (List.mem_range.mp hi)]
  rw [failSafeTarget, hnone]
  rfl

theorem delivered_view : viewOf deliveredTables.channels = List.replicate 24 .disabled := by
  decide

theorem reset_after : AfterReset .powerOn State.reset where
  kind := rfl
  line := rfl
  timebase := rfl
  stg := by constructor <;> decide
  rat := rfl
  wrn :=
    { rules := fun i hi => by
        rw [show State.reset.tbl = deliveredTables from rfl, delivered_rules_off hi]
        interval_cases i <;> rfl
      stageLost := rfl, target := delivered_failSafe.symm, standDown := rfl, resetHold := rfl, silenced := rfl
      test := rfl, outputs := by decide }
  pls := ⟨⟨rfl, rfl, rfl, rfl⟩, rfl, rfl, rfl, rfl, rfl⟩
  loop := ⟨⟨rfl, rfl⟩, ⟨rfl, rfl, rfl, rfl⟩, ⟨rfl, rfl, rfl⟩, rfl, rfl, ⟨rfl, rfl⟩, by decide⟩
  ports :=
    { view := delivered_view.symm, stats := rfl, unknown := ⟨rfl, rfl, rfl⟩, winch := ⟨rfl, rfl, rfl⟩, slot := rfl
      forward := ⟨rfl, rfl⟩, reception := ⟨rfl, rfl, rfl, rfl, rfl, rfl, rfl, rfl, rfl, rfl⟩, ready := rfl
      uplinkRate := by decide, ctl := rfl }
  run := ⟨rfl, rfl, rfl, rfl⟩

theorem delivered_disabled {i : Nat} (hi : i < 24) : treatmentOf deliveredTables.channels i = .disabled := by
  interval_cases i <;> rfl

theorem delivered_planFault {n : Nat} (hn : n < 4) : planFault (deliveredTables.plan n) = some (240, 0) := by
  interval_cases n <;> decide

/-- Settles O4: the delivered values, by evaluation. -/
theorem resetStateHoldsItsValues : Obligations.ResetStateHoldsItsValues :=
  ⟨reset_after, rfl, rfl, rfl, rfl, rfl, rfl, rfl, by decide, by decide, by decide, by decide, by decide,
    by decide, fun _ => delivered_disabled,
    fun _ => delivered_planFault⟩

theorem delivered_sized : TablesSized State.reset where
  size n hn h3 h4 := by
    have hnumber : n = 0 ∨ n = 1 ∨ n = 2 ∨ n = 5 ∨ n = 6 ∨ n = 7 ∨ n = 8 ∨ n = 9 ∨ n = 10 := by omega
    rcases hnumber with rfl | rfl | rfl | rfl | rfl | rfl | rfl | rfl | rfl
    · rfl
    · exact List.length_replicate
    · exact List.length_replicate
    · exact List.length_replicate
    · rfl
    all_goals exact List.length_replicate
  work := by simp [State.work, State.reset, freshCtl]

theorem delivered_viewConsistent : ViewConsistent State.reset where
  view := delivered_view.symm
  size := rfl
  polls := by decide

theorem delivered_withinPlan : RunWithinPlan State.reset where
  done _ h := Option.some_ne_none _ (show some _ = none from h.symm) |>.elim
  going _ _ h := Option.some_ne_none _ (show some _ = none from h.symm) |>.elim
  asked _ h := Option.some_ne_none _ (show some _ = none from h.symm) |>.elim

theorem delivered_target : State.reset.wrn.target = State.reset.wrn.targetOf State.reset.tbl.rules := by
  decide

/-- Settles O60: nothing is written, running, waiting or selected yet. -/
theorem resetStateHasWhatStepsKeep : Obligations.ResetStateHasWhatStepsKeep := by
  refine ⟨⟨by decide, fun _ => rfl⟩, ⟨delivered_target, by decide, by decide, by decide, by decide⟩,
    ⟨trivial, by decide, rfl, by decide⟩, delivered_withinPlan, ⟨by decide, by decide⟩,
    ⟨by decide, rfl, by decide⟩, ⟨by decide, by decide, by decide, by decide⟩, ?_,
    delivered_viewConsistent, ?_, delivered_sized⟩
  · constructor <;> decide
  · constructor <;> decide

/-- Each part is one of those listed or is as it was. -/
theorem ChangesOnly.of_blocks {bs : List Block} {s t : State}
    (clk : Block.clk ∈ bs ∨ t.clk = s.clk := by simp)
    (tbl : Block.tbl ∈ bs ∨ t.tbl = s.tbl := by simp)
    (stg : Block.stg ∈ bs ∨ t.stg = s.stg := by simp)
    (rat : Block.rat ∈ bs ∨ t.rat = s.rat := by simp)
    (wrn : Block.wrn ∈ bs ∨ t.wrn = s.wrn := by simp)
    (pls : Block.pls ∈ bs ∨ t.pls = s.pls := by simp)
    (run : Block.run ∈ bs ∨ t.run = s.run := by simp)
    (loop : Block.loop ∈ bs ∨ t.loop = s.loop := by simp)
    (cht : Block.cht ∈ bs ∨ t.cht = s.cht := by simp)
    (store : Block.store ∈ bs ∨ t.store = s.store := by simp)
    (upl : Block.upl ∈ bs ∨ t.upl = s.upl := by simp)
    (ctl : Block.ctl ∈ bs ∨ t.ctl = s.ctl := by simp)
    (lines : Block.lines ∈ bs ∨ t.lines = s.lines := by simp)
    (resetLine : Block.resetLine ∈ bs ∨ t.resetLine = s.resetLine := by simp)
    (lastReset : Block.lastReset ∈ bs ∨ t.lastReset = s.lastReset := by simp)
    (pending : Block.pending ∈ bs ∨ t.pending = s.pending := by simp) : ChangesOnly bs s t := by
  intro b hb
  cases b with
  | clk => exact clk.resolve_left hb
  | tbl => exact tbl.resolve_left hb
  | stg => exact stg.resolve_left hb
  | rat => exact rat.resolve_left hb
  | wrn => exact wrn.resolve_left hb
  | pls => exact pls.resolve_left hb
  | run => exact run.resolve_left hb
  | loop => exact loop.resolve_left hb
  | cht => exact cht.resolve_left hb
  | store => exact store.resolve_left hb
  | upl => exact upl.resolve_left hb
  | ctl => exact ctl.resolve_left hb
  | lines => exact lines.resolve_left hb
  | resetLine => exact resetLine.resolve_left hb
  | lastReset => exact lastReset.resolve_left hb
  | pending => exact pending.resolve_left hb

/-! ## A step without a command -/

theorem idle_of_due {s : State} (h : dueEvents s ≠ []) : idle s = { s with pending := dueEvents s } := by
  unfold idle
  split
  · next hnone => exact absurd hnone h
  · rfl

theorem idle_of_quiet {s : State} (h : dueEvents s = []) : idle s = passMs s := by
  simp [idle, h]

/-- R14: a millisecond of the station clock. -/
theorem Clocks.advance_eq (c : Clocks) :
    c.advance =
      { c with
        subMs := if c.subMs + 1 < 1000 then c.subMs + 1 else 0,
        time := if c.subMs + 1 < 1000 then c.time else min (c.time + 1) 4294967295 } := by
  unfold Clocks.advance
  split <;> rfl

theorem passMs_of_asserted {s : State} (h : s.resetLine = true) : passMs s = s.setClk s.clk.advance := by
  simp [passMs, h]

theorem passMs_of_awake {s : State} (h : s.resetLine = false) :
    passMs s =
      (s.setClk { s.clk.advance with timebase := s.clk.timebase + 1 }).setUpl (s.upl.sendMs s.lines.cts) := by
  simp only [passMs, State.setClk_resetLine, h, Bool.false_eq_true, if_false, State.setClk_clk]
  rw [Clocks.advance_eq]
  rfl

/-! ## The course of an item (R178, R180) -/

theorem TxItem.advance_eq (it : TxItem) (cts : Bool) (cu span : Nat) :
    it.advance cts cu span =
      { it with
        elapsed := max it.elapsed (min (it.elapsed + span)
          (min (if cts then it.whole cu else (it.elapsed + cu - 1) / cu * cu) (it.whole cu))) } := rfl

theorem TxItem.advance_zero (it : TxItem) (cts : Bool) (cu : Nat) : it.advance cts cu 0 = it := by
  rw [TxItem.advance_eq]
  obtain ⟨cls, number, frames, elapsed, dropped⟩ := it
  simp only [TxItem.mk.injEq, true_and, and_true]
  omega

theorem TxItem.advance_of_cts {it : TxItem} {cu : Nat} (span : Nat) (h : it.elapsed ≤ it.whole cu) :
    it.advance true cu span = { it with elapsed := min (it.elapsed + span) (it.whole cu) } := by
  rw [TxItem.advance_eq]
  congr 1
  simp only [if_true]
  omega

/-- The end of the character in progress. -/
theorem ceil_mul_of_mod_eq_zero {e cu : Nat} (h : e % cu = 0) : (e + cu - 1) / cu * cu ≤ e := by
  obtain ⟨q, rfl⟩ := Nat.dvd_of_mod_eq_zero h
  obtain rfl | hcu := Nat.eq_zero_or_pos cu
  · simp
  · have hdiv : (cu * q + cu - 1) / cu = q := by
      rw [Nat.add_sub_assoc hcu, Nat.mul_add_div hcu, Nat.div_eq_of_lt (by omega), Nat.add_zero]
    rw [hdiv, Nat.mul_comm]

theorem ceil_mul_of_mod_ne_zero {e cu : Nat} (hcu : 0 < cu) (h : e % cu ≠ 0) :
    (e + cu - 1) / cu * cu = (e / cu + 1) * cu := by
  have hmod := Nat.div_add_mod e cu
  have hlt := Nat.mod_lt e hcu
  congr 1
  have hone : (e / cu + 1) * cu = cu * (e / cu) + cu := by ring
  have htwo : (e / cu + 1 + 1) * cu = cu * (e / cu) + cu + cu := by ring
  exact Nat.div_eq_of_lt_le (by omega) (by omega)

/-- R178: between two characters none begins with CTS low. -/
theorem TxItem.advance_between {it : TxItem} {cu : Nat} (span : Nat) (h : it.elapsed % cu = 0) :
    it.advance false cu span = it := by
  have hceil := ceil_mul_of_mod_eq_zero h
  rw [TxItem.advance_eq]
  obtain ⟨cls, number, frames, elapsed, dropped⟩ := it
  simp only [TxItem.mk.injEq, true_and, and_true, Bool.false_eq_true, if_false] at hceil ⊢
  omega

theorem lt_mul_of_mod_ne_zero {e n cu : Nat} (h : e ≤ n * cu) (hmod : e % cu ≠ 0) : e < n * cu := by
  refine Nat.lt_of_le_of_ne h fun heq => hmod ?_
  rw [heq, Nat.mul_mod_left]

/-- R178: with CTS low a character begun goes on, to its end at most. -/
theorem TxItem.advance_within {it : TxItem} {cu span : Nat} (hspan : 0 < span) (hmod : it.elapsed % cu ≠ 0)
    (h : it.elapsed ≤ it.whole cu) :
    ∃ e, it.advance false cu span = { it with elapsed := e } ∧ it.elapsed < e ∧ e ≤ it.elapsed + span ∧
      e ≤ (it.elapsed / cu + 1) * cu := by
  have hwhole : it.elapsed < it.whole cu := lt_mul_of_mod_ne_zero h hmod
  have hcu : 0 < cu := Nat.pos_of_ne_zero fun hzero => by
    subst hzero
    simp [TxItem.whole] at hwhole
  have hlast : it.elapsed < (it.elapsed / cu + 1) * cu := by
    rw [Nat.mul_comm]
    exact Nat.lt_mul_div_succ it.elapsed hcu
  refine ⟨_, rfl, ?_⟩
  simp only [Bool.false_eq_true, if_false, ceil_mul_of_mod_ne_zero hcu hmod]
  omega

/-- Settles O2: with nothing due `passMs` runs, on the clocks and, outside an asserted RESET line, on the item in the
buffer. -/
theorem idleStepLetsTimePass : Obligations.IdleStepLetsTimePass := by
  intro s hpending
  have hstep : step s = .next (idle s) := by rw [step, hpending]
  refine ⟨fun hdue => by rw [hstep, idle_of_due hdue], fun hquiet => ⟨passMs s, by rw [hstep, idle_of_quiet hquiet], ?_⟩⟩
  cases hline : s.resetLine with
  | true =>
    rw [passMs_of_asserted hline, Clocks.advance_eq]
    exact ⟨rfl, rfl, rfl, rfl, .of_blocks, rfl, nofun⟩
  | false =>
    rw [passMs_of_awake hline, Clocks.advance_eq]
    refine ⟨rfl, rfl, rfl, rfl, .of_blocks, rfl, fun it _ hbuffer hcourse => ?_⟩
    have hsent : (s.upl.sendMs s.lines.cts).buffer =
        some (it.advance s.lines.cts (uplinkChar s.upl.rate) (fineMs - s.upl.tail)) := by
      simp [Upl.sendMs, hbuffer]
    simp only [State.setUpl_upl, hsent]
    refine ⟨fun htail => ?_, fun hcts => ?_, fun hcts hbetween => ?_, fun hcts hwithin htail => ?_⟩
    · rw [Nat.sub_eq_zero_of_le htail, TxItem.advance_zero]
    · rw [hcts, TxItem.advance_of_cts _ hcourse]
    · rw [hcts, TxItem.advance_between _ hbetween]
    · obtain ⟨e, he, hlower, hupper, hchar⟩ := TxItem.advance_within (Nat.sub_pos_of_lt htail) hwithin hcourse
      exact ⟨e, by rw [hcts, he], hlower, hupper, hchar⟩

/-! ## The origin check (R191) -/

/-- Settles O10: by the request, the mask bit of its table. -/
theorem uplinkOriginIsMasked : Obligations.UplinkOriginIsMasked := by
  intro c seq addr q
  refine ⟨rfl, ?_⟩
  cases q with
  | writeTable n off data =>
    simp only [originGood, cfgWriteMask, Bool.and_eq_false_iff, bne_eq_false_iff_eq]
  | _ => simp [originGood, cfgWriteMask]

end Sys2Proof.Machine
end

section
/-! The RESET line and what a reset takes up (R14, R21, R62, R64, R155, R187, R196). -/

namespace Sys2Proof.Machine

set_option Elab.async false

theorem taken_of_asserted {s : State} (h : s.resetLine = true) (f : State → State) : taken s f = .next s := by
  simp [taken, h]

/-- Settles O5: a row that is taken leaves the state, and a row of an input line sets the level of the line alone. -/
theorem assertedResetLineHoldsThePart : Obligations.AssertedResetLineHoldsThePart := by
  refine ⟨fun _ => rfl, fun c s hline hwarm hpower => ?_⟩
  have hfollow (l : Lines) (u : State) : ∃ t, (.next (if s.resetLine then s.setLines l else u) :
      Host.Outcome State Fault Refusal) = .next t ∧ ChangesOnly [.lines] s t ∧ t.lines = l :=
    ⟨s.setLines l, by rw [if_pos hline], .of_blocks, rfl⟩
  cases c with
  | warmReset => exact absurd rfl hwarm
  | powerOnReset held elapsed lines => exact absurd rfl (hpower held elapsed lines)
  | resetLineAssert => exact ⟨_, rfl, .of_blocks (resetLine := .inr hline.symm), rfl⟩
  | contactClosure k => exact hfollow _ _
  | contactOpening k => exact hfollow _ _
  | breakDetected => exact hfollow _ _
  | breakEnd => exact hfollow _ _
  | linkFall => exact hfollow _ _
  | linkRise => exact hfollow _ _
  | ctsFall => exact ⟨_, rfl, .of_blocks, rfl⟩
  | ctsRise => exact ⟨_, rfl, .of_blocks, rfl⟩
  | frameBegins start =>
    cases start with
    | marked addr => exact ⟨s, taken_of_asserted hline _, .of_blocks, rfl⟩
    | unmarked => exact ⟨_, rfl, .of_blocks, rfl⟩
  | _ =>
    dsimp only [exec]
    exact ⟨s, taken_of_asserted hline _, .of_blocks, rfl⟩

end Sys2Proof.Machine
end

section
/-! The choice of a transaction and the opening frame (R70, R82), with nothing else waiting for the command pair. -/

namespace Sys2Proof.Machine

set_option Elab.async false

/-- R82: no choice may be made, or the pending command is chosen, or the earliest due poll, or nothing waits. -/
theorem choose_cases (s : State) :
    (s.loop.mayChoose = false ∧ choose s = s) ∨
    (∃ c, s.loop.mayChoose = true ∧ s.loop.pendingCmd = some c ∧ s.loop.sendable c = true ∧
      choose s = s.setLoop (s.loop.openCommand c)) ∨
    (s.loop.mayChoose = true ∧ (∀ c, s.loop.pendingCmd = some c → s.loop.sendable c = false) ∧
      ((earliestDue s.loop.sched s.now = none ∧ choose s = s) ∨
        ∃ ch p, earliestDue s.loop.sched s.now = some (ch, p) ∧
          choose s = s.setLoop (s.loop.openPoll ch (chanEntry s.tbl.channels ch).addr (s.pollPeriod ch) p))) := by
  unfold choose
  cases hmay : s.loop.mayChoose with
  | false => exact .inl ⟨rfl, by simp⟩
  | true =>
    right
    simp only [Bool.not_true, Bool.false_eq_true, if_false, true_and]
    cases hfilter : s.loop.pendingCmd.filter s.loop.sendable with
    | some c =>
      rw [Option.filter_eq_some_iff] at hfilter
      exact .inl ⟨c, hfilter.1, hfilter.2, rfl⟩
    | none =>
      right
      refine ⟨fun c hc => ?_, ?_⟩
      · rw [hc] at hfilter
        simpa using hfilter
      · cases hdue : earliestDue s.loop.sched s.now with
        | none => exact .inl ⟨rfl, rfl⟩
        | some best => exact .inr ⟨best.1, best.2, rfl, rfl⟩

/-- Nothing but a transaction waits for the command pair. -/
structure PlacesEmpty (l : Loop) : Prop where
  tx : l.tx = none := by simp
  claim : l.claimPlace = false := by simp
  winch : l.winchPlace = none := by simp
  service : l.serviceQ = [] := by simp

theorem PlacesEmpty.takeNext {l : Loop} (h : PlacesEmpty l) : l.takeNext = l.takeOpening := by
  obtain ⟨-, hclaim, hwinch, hservice⟩ := h
  simp [Loop.takeNext, Loop.takeWaiting, hclaim, hwinch, hservice]

theorem kickFrom_of_placesEmpty {t : Nat} {s : State} (h : PlacesEmpty s.loop) (hctl : s.ctl.pendingReply = none) :
    (∀ x, s.loop.txn = some x → x.phase = .queued →
      kickFrom t s =
        s.setLoop
          { s.loop with
            txn := some { x with phase := .sending },
            tx := some
              { frame := .opening x.addr x.asker.kind,
                doneAt := s.charsFrom t (CmdFrame.opening x.addr x.asker.kind).chars.length } }) ∧
      ((∀ x, s.loop.txn = some x → x.phase ≠ .queued) → kickFrom t s = s) := by
  have hfeed (u : State) (hu : u.ctl.pendingReply = none) : feedService u = u :=
    feedService_of_noFrames (by simp [hu])
  refine ⟨fun x hx hphase => ?_, fun hnone => ?_⟩
  · simp only [kickFrom, h.tx, h.takeNext, Loop.takeOpening, hx, hphase, if_true]
    exact hfeed _ hctl
  · have hopening : s.loop.takeOpening = none := by
      unfold Loop.takeOpening
      split
      · next x hx => rw [if_neg (hnone x hx)]
      · rfl
    simp only [kickFrom, h.tx, h.takeNext, hopening]

end Sys2Proof.Machine
end

section
/-! What the three resets take up (R14, R21, R62, R64, R85, R100, R128, R155, R156, R187, R196, R197). -/

namespace Sys2Proof.Machine

set_option Elab.async false

/-! ## The end of a reset -/

/-- Only a GRANT touches the grant as it is chosen. -/
theorem Loop.openCommand_retrieve {l : Loop} {c : RunCmd} (h : c.kind = .retrieve) :
    l.openCommand c = { l with txn := some { asker := .run c, addr := c.addr, phase := .queued }, pendingCmd := none } := by
  simp [Loop.openCommand, h]

/-- With the places empty and no GRANT pending, the choice and the transmitter leave grant and places. -/
theorem settle_of_placesEmpty {s : State} (h : PlacesEmpty s.loop) (hctl : s.ctl.pendingReply = none)
    (hcmd : ∀ c, s.loop.pendingCmd = some c → c.kind = .retrieve) :
    (settle s).loop.grant = s.loop.grant ∧ (settle s).loop.claimPlace = false ∧ (settle s).loop.winchPlace = none ∧
      (settle s).loop.serviceQ = [] := by
  have hplaces : PlacesEmpty (choose (rateEffect s)).loop := by
    constructor <;> simp [h.tx, h.claim, h.winch, h.service]
  have hgrant : (choose (rateEffect s)).loop.grant = s.loop.grant := by
    obtain ⟨-, heq⟩ | ⟨c, -, hc, -, heq⟩ | ⟨-, -, ⟨-, heq⟩ | ⟨ch, p, -, heq⟩⟩ := choose_cases (rateEffect s)
    · rw [heq]
      simp
    · rw [heq, Loop.openCommand_retrieve (hcmd c (by simpa using hc))]
      simp
    · rw [heq]
      simp
    · rw [heq]
      simp [Loop.openPoll, Loop.setPoll]
  obtain ⟨hqueued, hnone⟩ := kickFrom_of_placesEmpty (t := s.fineNow) hplaces (by simpa using hctl)
  unfold settle settleFrom
  by_cases hx : ∃ x, (choose (rateEffect s)).loop.txn = some x ∧ x.phase = .queued
  · obtain ⟨x, htxn, hphase⟩ := hx
    rw [hqueued x htxn hphase]
    exact ⟨hgrant, hplaces.claim, hplaces.winch, hplaces.service⟩
  · rw [hnone fun x htxn hphase => hx ⟨x, htxn, hphase⟩]
    exact ⟨hgrant, hplaces.claim, hplaces.winch, hplaces.service⟩

/-- R82, R85: a pending RETRIEVE is the first transaction. -/
theorem settle_retrieve {s : State} {c : RunCmd} (h : PlacesEmpty s.loop) (hctl : s.ctl.pendingReply = none)
    (hmay : s.loop.mayChoose = true) (hcmd : s.loop.pendingCmd = some c) (hkind : c.kind = .retrieve) :
    (settle s).loop.txn = some { asker := .run c, addr := c.addr, phase := .sending } := by
  have hplaces : PlacesEmpty (choose (rateEffect s)).loop := by
    constructor <;> simp [h.tx, h.claim, h.winch, h.service]
  have hmay' : (rateEffect s).loop.mayChoose = true := by
    rw [← hmay]
    simp [Loop.mayChoose, Loop.pairFree, Loop.jammed]
  have hsend : (rateEffect s).loop.sendable c = true := by simp [Loop.sendable, hkind]
  have hchoose : (choose (rateEffect s)).loop.txn = some { asker := .run c, addr := c.addr, phase := .queued } := by
    obtain ⟨hno, -⟩ | ⟨d, -, hd, -, heq⟩ | ⟨-, hno, -⟩ := choose_cases (rateEffect s)
    · simp [hmay'] at hno
    · obtain rfl : c = d := by simpa [hcmd] using hd
      rw [heq, Loop.openCommand_retrieve hkind]
      rfl
    · simp [hno c (by simpa using hcmd)] at hsend
  obtain ⟨hqueued, -⟩ := kickFrom_of_placesEmpty (t := s.fineNow) hplaces (by simpa using hctl)
  unfold settle settleFrom
  rw [hqueued _ hchoose rfl]
  rfl

/-! ## The blocks after a reset -/

theorem closeRun_resetClosed_record (kind : ResetKind) (s : State) :
    (resetBase kind s).run.position = none ∧ (resetBase kind s).run.marker = (resetClosed kind s).run.marker := by
  cases h : (resetClosed kind s).run.marker with
  | none => simp [(resetBase_noMarker h).1, idleRun]
  | some m => simp [(resetBase_marker h).1, idleRun]

theorem resetBase_pls (kind : ResetKind) (s : State) :
    (resetBase kind s).pls = freshPls s.lines ∨ (resetBase kind s).pls = (freshPls s.lines).release := by
  cases h : (resetClosed kind s).run.marker with
  | none => exact .inl (resetBase_noMarker h).2.2
  | some m => exact .inr (resetBase_marker h).2.2

/-- The blocks of a reset, its level taken up, against RUN, LOOP and PLS before the target. -/
theorem resetBlocks_notWorking (kind : ResetKind) (s : State) :
    (resetBlocks kind s).loop = (resetBase kind s).loop ∧ (resetBlocks kind s).pls = (resetBase kind s).pls ∧
      ((resetBlocks kind s).run = (resetBase kind s).run ∨ (resetBlocks kind s).run =
        { (resetBase kind s).run with
          record := (resetBase kind s).run.record.map fun r =>
            { r with flags := r.flags.withCause .abortedWarning } }) := by
  obtain ⟨-, hidle, -⟩ := resetBase_run_consistent kind s
  obtain ⟨c, hloop⟩ := resetBase_loop kind s
  rw [resetBlocks_eq, warningReset_eq]
  have h := applyTarget_of_notWorking (s := warningTakenUp kind (resetBase kind s)) (by simpa using hidle)
    (by simp [hloop, resetLoop, freshLoop, freshGrant])
  simpa using h

/-- The state before the first choices after a reset. -/
def resetTaken (kind : ResetKind) (s : State) : State :=
  uplinkSelect ((resetBlocks kind (unlinked s)).setLines s.lines)

theorem resetAll_eq_settle (kind : ResetKind) (s : State) : resetAll kind s = settle (resetTaken kind s) := rfl

@[simp] theorem warningTakenUp_frame_rest (kind : ResetKind) (s : State) :
    (warningTakenUp kind s).cht = s.cht ∧ (warningTakenUp kind s).ctl = s.ctl ∧
      (warningTakenUp kind s).lines = s.lines ∧ (warningTakenUp kind s).resetLine = s.resetLine ∧
      (warningTakenUp kind s).lastReset = s.lastReset ∧ (warningTakenUp kind s).pending = s.pending := by
  unfold warningTakenUp
  split <;> simp

theorem warningTakenUp_port (kind : ResetKind) (s : State) :
    s.upl.PortKept (warningTakenUp kind s).upl ∧ (warningTakenUp kind s).upl.slot = s.upl.slot ∧
      (warningTakenUp kind s).upl.ready = s.upl.ready ∧ (warningTakenUp kind s).upl.rate = s.upl.rate := by
  unfold warningTakenUp
  split <;> exact ⟨by constructor <;> simp, by simp⟩

@[simp] theorem unlinked_frame (s : State) :
    (unlinked s).clk = s.clk ∧ (unlinked s).tbl = s.tbl ∧ (unlinked s).rat = s.rat ∧ (unlinked s).wrn = s.wrn ∧
      (unlinked s).store = s.store ∧ (unlinked s).run = s.run ∧ (unlinked s).pending = s.pending ∧
      (unlinked s).stg = s.stg := by
  simp [unlinked]

/-- What the choices after a reset find: every part but LOOP, RUN, PLS, WRN and the store as the reset gives it. -/
theorem resetTaken_frame (kind : ResetKind) (s : State) :
    (resetTaken kind s).clk = { s.clk with timebase := 0 } ∧ (resetTaken kind s).tbl = s.tbl ∧
      (resetTaken kind s).stg = (resetBase kind (unlinked s)).stg ∧
      (resetTaken kind s).rat = { s.rat with latest := none } ∧
      (resetTaken kind s).cht = freshCht (viewOf s.tbl.channels) ∧ (resetTaken kind s).ctl = freshCtl ∧
      (resetTaken kind s).lines = s.lines ∧ (resetTaken kind s).resetLine = false ∧
      (resetTaken kind s).lastReset = kind ∧ (resetTaken kind s).pending = s.pending := by
  unfold resetTaken
  rw [resetBlocks_eq, warningReset_eq]
  simp [unlinked]

theorem resetTaken_parts (kind : ResetKind) (s : State) :
    (resetTaken kind s).loop = (resetBlocks kind (unlinked s)).loop ∧
      (resetTaken kind s).pls = (resetBlocks kind (unlinked s)).pls ∧
      (resetTaken kind s).run = (resetBlocks kind (unlinked s)).run ∧
      (resetTaken kind s).wrn = (resetBlocks kind (unlinked s)).wrn ∧
      (resetTaken kind s).store = (resetBlocks kind (unlinked s)).store := by
  simp [resetTaken]

theorem Upl.PortKept.trans {a b c : Upl} (h : a.PortKept b) (k : b.PortKept c) : a.PortKept c := by
  constructor
  · exact k.fwdQ.trans h.fwdQ
  · exact k.nextFwd.trans h.nextFwd
  · exact k.assembling.trans h.assembling
  · exact k.framing.trans h.framing
  · exact k.gap.trans h.gap
  · exact k.length.trans h.length
  · exact k.crc.trans h.crc
  · exact k.linkLost.trans h.linkLost
  · exact k.foreign.trans h.foreign
  · exact k.kindDiscards.trans h.kindDiscards
  · exact k.huntDiscards.trans h.huntDiscards
  · exact k.lastChar.trans h.lastChar
  · exact k.tail.trans h.tail

/-- R187. -/
theorem resetTaken_upl (kind : ResetKind) (s : State) :
    (freshUpl (cfgUplinkRate s.tbl.config)).PortKept (resetTaken kind s).upl ∧ (resetTaken kind s).upl.slot = none ∧
      (resetTaken kind s).upl.ready = true ∧ (resetTaken kind s).upl.rate = cfgUplinkRate s.tbl.config := by
  have hbase : (resetBase kind (unlinked s)).upl = freshUpl (cfgUplinkRate s.tbl.config) := by
    simpa using resetClosed_upl kind (s := unlinked s) rfl
  obtain ⟨hport, hslot, hready, hrate⟩ := warningTakenUp_port kind (resetBase kind (unlinked s))
  rw [hbase] at hport hslot hready hrate
  unfold resetTaken
  rw [resetBlocks_eq, warningReset_eq]
  exact ⟨hport.trans (by constructor <;> simp), by simp [hslot, freshUpl], by simp [hready, freshUpl],
    by simp [hrate, freshUpl]⟩

theorem resetTaken_loop (kind : ResetKind) (s : State) :
    ∃ c, (resetTaken kind s).loop = { resetLoop s with pendingCmd := c } ∧ ∀ x, c = some x → x.kind = .retrieve := by
  obtain ⟨hloop, -⟩ := resetBlocks_notWorking kind (unlinked s)
  rw [(resetTaken_parts kind s).1, hloop]
  cases h : (resetClosed kind (unlinked s)).run.marker with
  | none => exact ⟨none, (resetBase_noMarker h).2.1, by simp⟩
  | some m => exact ⟨_, (resetBase_marker h).2.1, fun x hx => by cases hx; rfl⟩

theorem resetLoop_placesEmpty {s t : State} {c : Option RunCmd} (h : t.loop = { resetLoop s with pendingCmd := c }) :
    PlacesEmpty t.loop := by
  constructor <;> simp [h, resetLoop, freshLoop]

/-- R62, R64: WRN and the store at the first choices after a reset. -/
theorem resetTaken_warning (kind : ResetKind) (s : State) :
    ∃ w, WrnTakenUp (resetLevel kind s) w s.tbl ∧
      (resetTaken kind s).wrn =
        { w with
          target := failSafeTarget s.tbl.rules, level := max (resetLevel kind s) (failSafeTarget s.tbl.rules),
          outputs := patternOn s.tbl.patterns (max (resetLevel kind s) (failSafeTarget s.tbl.rules)) } ∧
      (resetTaken kind s).store =
        if failSafeTarget s.tbl.rules ≤ resetLevel kind s then (warningTakenUp kind (resetBase kind (unlinked s))).store
        else (warningTakenUp kind (resetBase kind (unlinked s))).store.append
          (.warning
            { time := s.clk.time, valid := s.clk.valid, old := resetLevel kind s,
              new := failSafeTarget s.tbl.rules, cause := .stageLost, stage := none, discharge := none }) := by
  have htaken := warningTakenUp_takenUp kind (resetBase kind (unlinked s))
  have htbl : (resetBase kind (unlinked s)).tbl = s.tbl := by simp [unlinked]
  have hlevel : resetLevel kind (resetBase kind (unlinked s)) = resetLevel kind s := by simp [resetLevel, unlinked]
  rw [htbl, hlevel] at htaken
  have hw := applyTarget_takenUp (s := warningTakenUp kind (resetBase kind (unlinked s))) (n := resetLevel kind s)
    (by simpa using htaken)
  obtain ⟨-, -, -, hwrn, hstore⟩ := resetTaken_parts kind s
  rw [hwrn, hstore, resetBlocks_eq, warningReset_eq, hw.1, hw.2]
  refine ⟨_, htaken, by simp, ?_⟩
  simp [levelRecord, resetBase_stg]

/-! ## The state after a reset -/

theorem resetAll_stg (kind : ResetKind) (s : State) : StgAfterReset (resetAll kind s) := by
  obtain ⟨hclk, htbl, hstg, -⟩ := resetTaken_frame kind s
  have hstg' : (resetAll kind s).stg = (resetBase kind (unlinked s)).stg := by simpa [resetAll_eq_settle] using hstg
  have hclk' : (resetAll kind s).clk = { s.clk with timebase := 0 } := by simpa [resetAll_eq_settle] using hclk
  have htbl' : (resetAll kind s).tbl = s.tbl := by simpa [resetAll_eq_settle] using htbl
  constructor <;> simp [hstg', hclk', resetBase_stg, freshSource, emptyAccum, unlinked]

theorem resetAll_wrn (kind : ResetKind) (s : State) : WrnAfterReset (resetAll kind s) := by
  obtain ⟨-, htbl, -⟩ := resetTaken_frame kind s
  obtain ⟨w, hw, hwrn, -⟩ := resetTaken_warning kind s
  have hwrn' : (resetAll kind s).wrn = (resetTaken kind s).wrn := by simp [resetAll_eq_settle]
  rw [hwrn] at hwrn'
  have htbl' : (resetAll kind s).tbl = s.tbl := by simpa [resetAll_eq_settle] using htbl
  have hrules (i : Nat) (hi : i < 12) := hw.ruleState hi
  obtain ⟨-, hlost, -, hstand, hhold, hsil, htest, -⟩ := hw
  have hstates : (resetAll kind s).wrn.ruleState = w.ruleState := by
    funext i
    simp [hwrn', Wrn.ruleState]
  exact
    { rules := fun i hi => by rw [hstates, htbl', hrules i hi]
      stageLost := by simp [hwrn', hlost]
      target := by simp [hwrn']
      standDown := by simp [hwrn', hstand]
      resetHold := by simp [hwrn', hhold]
      silenced := by simp [hwrn', hsil]
      test := by simp [hwrn', htest]
      outputs := by simp [hwrn'] }

theorem resetAll_pls (kind : ResetKind) (s : State) : PlsAfterReset (resetAll kind s) := by
  have hpls : (resetAll kind s).pls = freshPls s.lines ∨ (resetAll kind s).pls = (freshPls s.lines).release := by
    obtain ⟨-, hpls, -⟩ := resetBlocks_notWorking kind (unlinked s)
    have h := resetBase_pls kind (unlinked s)
    rw [← hpls, ← (resetTaken_parts kind s).2.1] at h
    have hlines : freshPls (unlinked s).lines = freshPls s.lines := rfl
    simpa [resetAll_eq_settle, hlines] using h
  obtain h | h := hpls <;>
    constructor <;> simp [h, freshPls, freshInput, idleRotor, idleLatch, Pls.release, Rotor.cancel]

theorem resetAll_loop (kind : ResetKind) (s : State) : LoopAfterReset (resetAll kind s) := by
  obtain ⟨c, hloop, hkind⟩ := resetTaken_loop kind s
  obtain ⟨-, htbl, -, -, -, hctl, -⟩ := resetTaken_frame kind s
  obtain ⟨hgrant, hclaim, hwinch, hservice⟩ := settle_of_placesEmpty (resetLoop_placesEmpty hloop)
    (by simp [hctl, freshCtl]) fun x hx => hkind x (by simpa [hloop] using hx)
  have hrate : (rateEffect (resetTaken kind s)).loop.rate = cfgLoopRate s.tbl.config := by
    unfold rateEffect
    split
    · simp [htbl]
    · simp [hloop, resetLoop, freshLoop]
  have hfresh : (resetTaken kind s).loop.jam = none ∧ (resetTaken kind s).loop.lineBreak = none ∧
      (resetTaken kind s).loop.nodeFail = List.replicate 30 0 ∧ (resetTaken kind s).loop.faults = ⟨0, 0, 0, 0, 0, 0, 0⟩ ∧
      (resetTaken kind s).loop.unsolicited = 0 ∧ (resetTaken kind s).loop.droppedService = 0 ∧
      (resetTaken kind s).loop.grant = freshGrant := by
    simp [hloop, resetLoop, freshLoop]
  obtain ⟨hjam, hbreak, hfail, hfaults, huns, hdropped, hfreshGrant⟩ := hfresh
  rw [hfreshGrant] at hgrant
  rw [resetAll_eq_settle]
  exact
    { running := by simp [hjam, hbreak]
      noGrant := by simp [hgrant, freshGrant]
      places := ⟨hclaim, hwinch, hservice⟩
      nodeFail := by simp [hfail]
      faults := by simp [hfaults]
      counts := by simp [huns, hdropped]
      rate := by simpa [settle, settleFrom, htbl] using hrate }

theorem resetAll_ports (kind : ResetKind) (s : State) : PortsAfterReset (resetAll kind s) := by
  obtain ⟨-, htbl, -, -, hcht, hctl, -⟩ := resetTaken_frame kind s
  obtain ⟨⟨h1, h2, h3, h4, h5, h6, h7, h8, h9, h10, h11, h12, h13⟩, hslot, hready, hrate⟩ := resetTaken_upl kind s
  have hctl' : (settle (resetTaken kind s)).ctl = freshCtl := by rw [settle_ctl (by simp [hctl, freshCtl]), hctl]
  rw [resetAll_eq_settle]
  constructor <;> simp [freshCht, freshCtl, freshUpl, *]

/-- R85, R156: the marker decides what RUN takes up. -/
theorem resetAll_run (kind : ResetKind) (s : State) :
    RunAfterReset (resetAll kind s) ∧ (resetAll kind s).run.marker = (resetClosed kind (unlinked s)).run.marker := by
  obtain ⟨hloop, -, hrun⟩ := resetBlocks_notWorking kind (unlinked s)
  obtain ⟨-, htbl, -, -, -, hctl, -⟩ := resetTaken_frame kind s
  obtain ⟨hposition, hmarker⟩ := closeRun_resetClosed_record kind (unlinked s)
  have hrun' : (resetAll kind s).run = (resetBlocks kind (unlinked s)).run := by
    simpa [resetAll_eq_settle] using (resetTaken_parts kind s).2.2.1
  have htbl' : (resetAll kind s).tbl = s.tbl := by simpa [resetAll_eq_settle] using htbl
  have hmarker' : (resetAll kind s).run.marker = (resetClosed kind (unlinked s)).run.marker := by
    obtain h | h := hrun <;> simp [hrun', h, hmarker]
  refine ⟨⟨by obtain h | h := hrun <;> simp [hrun', h, hposition], ?_⟩, hmarker'⟩
  rw [hmarker']
  cases hm : (resetClosed kind (unlinked s)).run.marker with
  | none =>
    obtain ⟨hbase, -⟩ := resetBase_noMarker hm
    obtain h | h := hrun <;> simp [hrun', h, hbase, idleRun]
  | some m =>
    obtain ⟨hbase, hbaseLoop, -⟩ := resetBase_marker hm
    have hstart : (resetTaken kind s).loop = { resetLoop s with pendingCmd := some (resetRetrieve m) } := by
      rw [(resetTaken_parts kind s).1, hloop, hbaseLoop]
      rfl
    have htxn := settle_retrieve (resetLoop_placesEmpty hstart) (by simp [hctl, freshCtl])
      (by simp [hstart, resetLoop, freshLoop, freshGrant, Loop.mayChoose, Loop.pairFree, Loop.jammed, Grant.held])
      (c := resetRetrieve m) (by simp [hstart]) rfl
    rw [← resetAll_eq_settle] at htxn
    have hplan : (unlinked s).tbl.plan m.plan = s.tbl.plan m.plan := rfl
    obtain h | h := hrun <;>
    · rw [hrun', h, hbase, htbl', hplan]
      exact ⟨rfl, rfl, rfl, rfl, ⟨_, rfl, rfl, rfl, rfl, rfl, rfl⟩, resetRetrieve m, rfl, rfl, htxn⟩

theorem resetAll_after (kind : ResetKind) (s : State) : AfterReset kind (resetAll kind s) := by
  obtain ⟨hclk, -, -, hrat, -, -, -, hline, hkind, -⟩ := resetTaken_frame kind s
  exact
    { kind := by simpa [resetAll_eq_settle] using hkind
      line := by simpa [resetAll_eq_settle] using hline
      timebase := by simp [resetAll_eq_settle, hclk]
      stg := resetAll_stg kind s
      rat := by simp [resetAll_eq_settle, hrat]
      wrn := resetAll_wrn kind s
      pls := resetAll_pls kind s
      loop := resetAll_loop kind s
      ports := resetAll_ports kind s
      run := (resetAll_run kind s).1 }

/-- What a reset leaves as it is. -/
theorem resetAll_keeps (kind : ResetKind) (s : State) :
    (resetAll kind s).clk = { s.clk with timebase := 0 } ∧ (resetAll kind s).lines = s.lines ∧
      (resetAll kind s).tbl = s.tbl ∧ (resetAll kind s).rat.live = s.rat.live ∧
      (resetAll kind s).rat.shifts = s.rat.shifts ∧ (resetAll kind s).pending = s.pending := by
  obtain ⟨hclk, htbl, -, hrat, -, -, hlines, -, -, hpending⟩ := resetTaken_frame kind s
  simp [resetAll_eq_settle, hclk, htbl, hrat, hlines, hpending]

theorem resetAll_marker (kind : ResetKind) (s : State) :
    (resetAll kind s).run.marker =
      if kind ≠ .powerOn ∧ s.runToClose.isSome then s.run.marker.map fun m => { m with written := true }
      else s.run.marker := by
  rw [(resetAll_run kind s).2, resetClosed_run_marker]
  rfl

/-- R62: the level, and the store on top of what the reset has closed. -/
theorem resetAll_level_store (kind : ResetKind) (s : State) :
    (resetAll kind s).wrn.level = max (resetLevel kind s) (failSafeTarget s.tbl.rules) ∧
      (resetAll kind s).store =
        if failSafeTarget s.tbl.rules ≤ resetLevel kind s then (warningTakenUp kind (resetBase kind (unlinked s))).store
        else (warningTakenUp kind (resetBase kind (unlinked s))).store.append
          (.warning
            { time := s.clk.time, valid := s.clk.valid, old := resetLevel kind s,
              new := failSafeTarget s.tbl.rules, cause := .stageLost, stage := none, discharge := none }) := by
  obtain ⟨w, -, hwrn, hstore⟩ := resetTaken_warning kind s
  exact ⟨by simp [resetAll_eq_settle, hwrn], by simpa [resetAll_eq_settle] using hstore⟩

/-! ## The run that a WARM reset closes (R155) -/

theorem panelsOf_length (prev right : Nat) (vs : List DoneVert) : (panelsOf prev right vs).length = vs.length := by
  induction vs generalizing prev with
  | nil => rfl
  | cons v rest ih => simp [panelsOf, ih]

theorem Calc.answer_panels (c : Calc) (a : LookupAnswer) : (c.answer a).panels = c.panels := by
  cases a with
  | stage he i =>
    dsimp only [Calc.answer]
    split <;> rfl
  | _ => rfl

theorem gaugeFlags_abortedReset (f : GaugeFlags) (vs : List DoneVert) (c : Calc) :
    (gaugeFlags f vs c).abortedReset = f.abortedReset := rfl

/-- R170: one entry for each completed vertical. -/
theorem gaugeRecord_verticals_length {r : RunRec} {o : RunOutcome} {c : Calc} {f : GaugeFlags} {g : Grade}
    {p : Option Placement} {clk : Clocks} (h : c.panels.length = r.verticals.length) :
    (gaugeRecord r o c f g p clk).verticals.length = r.verticals.length := by
  simp [gaugeRecord, vertRecords, h]

/-- R155: the record of a run that a WARM reset closes. -/
theorem resetRecord_spec (s : State) (r : RunRec) :
    (resetRecord s r).plan = r.plan ∧ (resetRecord s r).start = r.start ∧ (resetRecord s r).stop = s.clk.time ∧
      (resetRecord s r).grade = .poor ∧ (resetRecord s r).placement = none ∧
      (resetRecord s r).verticals.length = r.verticals.length ∧
      (s.run.state.working = true → (resetRecord s r).outcome = .abortedReset) ∧
      (s.run.state.working = false → (resetRecord s r).flags.abortedReset = true ∧
        ∀ o, r.outcome = some o → (resetRecord s r).outcome = o) := by
  refine ⟨rfl, rfl, rfl, rfl, rfl, gaugeRecord_verticals_length ?_, fun h => ?_, fun h => ⟨?_, fun o ho => ?_⟩⟩
  · split
    · rw [Calc.answer_panels]
      exact panelsOf_length ..
    · exact panelsOf_length ..
  · simp [resetRecord, gaugeRecord, resetOutcome, h]
  · simp only [resetRecord, gaugeRecord, gaugeFlags_abortedReset, resetOutcome, h]
    cases r.outcome <;> rfl
  · simp [resetRecord, gaugeRecord, resetOutcome, h, ho]

theorem resetRecord_congr {s t : State} {r : RunRec} (hstate : t.run.state = s.run.state) (htbl : t.tbl = s.tbl)
    (hlive : t.rat.live = s.rat.live) (hclk : t.clk.time = s.clk.time ∧ t.clk.valid = s.clk.valid) :
    resetRecord t r = resetRecord s r := by
  simp only [resetRecord, State.planOf, htbl, hlive, hstate, gaugeRecord, hclk]

/-- What stands in the store when the target of a WARM reset is computed. -/
theorem warm_closed_store (s : State) :
    (warningTakenUp .warm (resetBase .warm (unlinked s))).store =
      s.runToClose.elim
        (s.store.append (.interval (intervalRecord s.stg.openStart
          { s.stg.acc with flags := { s.stg.acc.flags with resetClosed := true } })))
        fun r => (s.store.append (.interval (intervalRecord s.stg.openStart
          { s.stg.acc with flags := { s.stg.acc.flags with resetClosed := true } }))).append
            (.gauging (resetRecord s r)) := by
  have hbase : (resetBase .warm (unlinked s)).store = (resetClosed .warm (unlinked s)).store := by simp
  rw [warningTakenUp_store, if_neg (by decide), hbase, resetClosed, closeRun_warm_store, closeOpenInterval_warm_store,
    runToClose_congr (s := s) (by simp)]
  have hrec (r : RunRec) : resetRecord (closeOpenInterval .warm (uplinkReset .warm
      ((unlinked s).setClk { (unlinked s).clk with timebase := 0 }))) r = resetRecord s r :=
    resetRecord_congr (by simp) (by simp) (by simp) (by simp)
  simp only [hrec]
  simp [uplinkReset]

/-! ## The commands -/

/-- Settles O6. -/
theorem powerOnResetTakesUpItsState : Obligations.PowerOnResetTakesUpItsState := by
  intro held elapsed lines s
  refine ⟨_, rfl, resetAll_after .powerOn _, ?_⟩
  obtain ⟨hclk, hlines, htbl, hlive, hshifts, hpending⟩ :=
    resetAll_keeps .powerOn ((s.setClk (clockAfterPower held elapsed s.clk)).setLines lines)
  obtain ⟨hlevel, hstore⟩ :=
    resetAll_level_store .powerOn ((s.setClk (clockAfterPower held elapsed s.clk)).setLines lines)
  have hclosed : (warningTakenUp .powerOn (resetBase .powerOn
      (unlinked ((s.setClk (clockAfterPower held elapsed s.clk)).setLines lines)))).store = s.store := by
    simp [warningTakenUp_store, resetClosed, closeRun_powerOn, closeOpenInterval, uplinkReset, unlinked]
  rw [hclosed] at hstore
  rw [hclk, hlines, htbl, hlive, hshifts, hpending, hlevel, hstore, resetAll_marker]
  cases held <;> simp [clockAfterPower, resetLevel, clockMax]

/-- Settles O7: interval record, run record and fail-safe record in their order. -/
theorem warmResetClosesIntervalAndRun : Obligations.WarmResetClosesIntervalAndRun := by
  intro s hdue
  have hexec : exec .warmReset s = .next (resetAll .warm s) := by
    have hcond : (s.resetLine || s.resetDue false) = true := by simpa using hdue
    exact congrArg Host.Outcome.next (if_pos hcond)
  obtain ⟨hclk, hlines, htbl, hlive, hshifts, hpending⟩ := resetAll_keeps .warm s
  obtain ⟨hlevel, hstore⟩ := resetAll_level_store .warm s
  have hmarker := resetAll_marker .warm s
  refine ⟨_, hexec, resetAll_after .warm s, hclk, hlines, htbl, hlive, hshifts, hpending, by simpa using hmarker,
    by simpa [resetLevel] using hlevel, _, (warningTakenUp .warm (resetBase .warm (unlinked s))).store, rfl, ?_,
    by simpa [resetLevel] using hstore⟩
  rw [warm_closed_store]
  cases hrun : s.runToClose with
  | none => rfl
  | some r => exact ⟨_, rfl, resetRecord_spec s r⟩

/-- Settles O8. -/
theorem coldResetEmptiesTheStore : Obligations.ColdResetEmptiesTheStore := by
  intro s hline hdue
  have hexec : exec .coldReset s = .next (resetAll .cold s) := by
    have h : exec .coldReset s = execColdReset s := rfl
    rw [h, execColdReset, taken_of_awake hline, if_pos hdue]
  obtain ⟨hclk, hlines, htbl, hlive, hshifts, hpending⟩ := resetAll_keeps .cold s
  obtain ⟨hlevel, hstore⟩ := resetAll_level_store .cold s
  have hmarker := resetAll_marker .cold s
  have hclosed : (warningTakenUp .cold (resetBase .cold (unlinked s))).store =
      Store.append { records := [], nextSeq := 0, slotsUsed := 0 }
        (.warning
          { time := s.clk.time, valid := s.clk.valid, old := s.wrn.level, new := 0, cause := .resetCold, stage := none,
            discharge := none }) := by
    simp [warningTakenUp_store, resetClosed, closeRun_cold_store, closeOpenInterval, uplinkReset, unlinked, levelRecord,
      resetBase_stg]
  refine ⟨_, hexec, resetAll_after .cold s, hclk, hlines, htbl, hlive, hshifts, hpending, by simpa using hmarker,
    by simpa [resetLevel] using hlevel, _, rfl, ?_⟩
  rw [← hclosed]
  simpa [resetLevel] using hstore

end Sys2Proof.Machine
end

section
/-! Requests carried out and answered: what stands between the work on a request and the state in which it was taken. -/

namespace Sys2Proof.Machine

set_option Elab.async false

/-! ## Work before an answer -/

theorem Upl.PortKept.refl (u : Upl) : u.PortKept u := ⟨rfl, rfl, rfl, rfl, rfl, rfl, rfl, rfl, rfl, rfl, rfl, rfl, rfl⟩

theorem Loop.LineKept.trans {a b c : Loop} (h : a.LineKept b) (k : b.LineKept c) : a.LineKept c where
  rx := k.rx.trans h.rx
  jam := k.jam.trans h.jam
  lineBreak := k.lineBreak.trans h.lineBreak
  lowSince := k.lowSince.trans h.lowSince
  highSince := k.highSince.trans h.highSince
  nodeFail := k.nodeFail.trans h.nodeFail
  faults := k.faults.trans h.faults
  unsolicited := k.unsolicited.trans h.unsolicited
  droppedService := k.droppedService.trans h.droppedService

theorem Ctl.QueueKept.trans {a b c : Ctl} (h : a.QueueKept b) (k : b.QueueKept c) : a.QueueKept c where
  queue := k.queue.trans h.queue
  resetWait := k.resetWait.trans h.resetWait
  droppedBusy := k.droppedBusy.trans h.droppedBusy
  lastRefusal := k.lastRefusal.trans h.lastRefusal

/-- Up to the answer, the work on a request has changed the parts listed, CTL and the way of a reply being as they were. -/
structure WorkedOn (bs : List Block) (s u : State) : Prop where
  others : ChangesOnly (.loop :: .ctl :: .upl :: bs) s u
  ctl : u.ctl = s.ctl := by simp
  loop : s.loop.LineKept u.loop := by constructor <;> simp
  tx : u.loop.tx = s.loop.tx := by simp
  serviceQ : u.loop.serviceQ = s.loop.serviceQ := by simp
  upl : s.upl.PortKept u.upl := by constructor <;> simp
  slot : u.upl.slot = s.upl.slot := by simp
  ready : u.upl.ready = s.upl.ready := by simp
  resetLine : u.resetLine = s.resetLine := by simp

section
variable {bs : List Block} {s u t : State} {q : Req}

theorem WorkedOn.refl (s : State) : WorkedOn bs s s := { others := fun b _ => by cases b <;> rfl }

theorem WorkedOn.serving (w : WorkedOn bs s u) (h : Serving s q) : Serving u q where
  awake := w.resetLine.trans h.awake
  work := by rw [State.work, w.ctl]; exact h.work
  noReply := by rw [w.ctl]; exact h.noReply
  noReset := by rw [w.ctl]; exact h.noReset

theorem WorkedOn.codeInHand (w : WorkedOn bs s u) : u.codeInHand = s.codeInHand := by
  rw [State.codeInHand, w.ctl, State.codeInHand]

theorem WorkedOn.serviceOut (w : WorkedOn bs s u) : serviceOut u = serviceOut s := by
  rw [serviceOut_eq, serviceOut_eq, w.ctl, w.tx, w.serviceQ]

theorem WorkedOn.replied (w : WorkedOn bs s u) {payload : List Byte} (h : Replied u t payload) : Replied s t payload := by
  unfold Replied at h ⊢
  rw [w.ctl, w.slot, w.serviceOut] at h
  exact h

theorem WorkedOn.frame (w : WorkedOn bs s u) (h : RequestFrame [] u t) : RequestFrame bs s t where
  others b hb := by
    have hafter := h.others b (by simp_all)
    have hbefore := w.others b hb
    cases b <;> exact Eq.trans hafter hbefore
  ctl := by
    have h' := h.ctl
    rwa [w.ctl] at h'
  loop := w.loop.trans h.loop
  upl := w.upl.trans h.upl
  ready := h.ready.trans w.ready

/-- R189: the answer after the work goes its way, and the frame of the request is that of the work. -/
theorem WorkedOn.answered (w : WorkedOn bs s u) (h : Serving s q) (code : Byte) (fields : List Byte) :
    RequestFrame bs s (settle (answer code fields u)) ∧
      Replied s (settle (answer code fields u)) (s.codeInHand :: code :: fields) := by
  refine ⟨w.frame ((w.serving h).requestFrame code fields), w.replied ?_⟩
  rw [← w.codeInHand]
  exact (w.serving h).replied code fields

end

end Sys2Proof.Machine
end

section
/-! The requests that read, judge or place (R22 to R28, R188 to R195). -/

namespace Sys2Proof.Machine

set_option Elab.async false

/-! ## REQUEST_TAKEN (R185, R188, R190) -/

theorem readyAfter_eq (n : Nat) (ready : Bool) :
    readyAfter n ready = if 3 ≤ n then false else if n ≤ 1 then true else ready := rfl

/-- R190: a request taken and refused is answered by its own path, whatever its payload. -/
theorem refuses_of_inHand {s u : State} {r : Request} {code : Byte}
    (hin : u.ctl.inHand = some { request := r, work := none }) (hfree : u.ctl.pendingReply = none)
    (hreset : u.ctl.resetWait = none)
    (hlast : u.ctl.lastRefusal =
      some { code := r.code, byUplink := (match r.origin with | .uplink _ => true | .service _ => false), reply := code })
    (hslot : u.upl.slot = s.upl.slot) (hout : serviceOut u = serviceOut s) :
    Refuses r code s (settle (answer code [] u)) := by
  have hcode : u.codeInHand = r.code := by simp [State.codeInHand, hin]
  have hreplied := replied_settle_sendReply (u.codeInHand :: code :: []) hin hfree
  have hkept : (settle (answer code [] u)).ctl.lastRefusal = u.ctl.lastRefusal := by simp
  refine ⟨hkept.trans hlast, ?_⟩
  unfold answer
  unfold Replied at hreplied
  rw [hin, hcode, hslot, hout, hreset] at hreplied
  rw [hcode]
  cases horigin : r.origin with
  | uplink seq => simpa only [Option.map_some, horigin] using hreplied
  | service addr =>
    simp only [Option.map_some, horigin] at hreplied
    simpa [fragmentsOf] using hreplied

section
variable {s : State} {r : Request} {rest : List Request}

/-- R190: the oldest request is out of the queue and refused. -/
theorem takeRequest_of_error {code : Byte} (h : s.ctl.queue = r :: rest)
    (hjudge : judgeRequest s.tbl.config r = .error code) :
    takeRequest s =
      refuseTaken r code
        ((setQueue rest s).setCtl { (setQueue rest s).ctl with inHand := some { request := r, work := none } }) := by
  simp only [takeRequest, h, hjudge]

/-- R190: the oldest request is out of the queue and in hand. -/
theorem takeRequest_of_ok {q : Req} (h : s.ctl.queue = r :: rest) (hjudge : judgeRequest s.tbl.config r = .ok q) :
    takeRequest s =
      (setQueue rest s).setCtl { (setQueue rest s).ctl with inHand := some { request := r, work := some q } } := by
  simp only [takeRequest, h, hjudge]

theorem takeRequest_queue (h : s.ctl.queue = r :: rest) :
    (takeRequest s).ctl.queue = rest ∧
      (takeRequest s).upl.ready = if 3 ≤ rest.length then false else if rest.length ≤ 1 then true else s.upl.ready := by
  cases hjudge : judgeRequest s.tbl.config r with
  | error code => simp [takeRequest_of_error h hjudge, setQueue, readyAfter]
  | ok q => simp [takeRequest_of_ok h hjudge, setQueue, readyAfter]

theorem takeRequest_refused {code : Byte} (h : s.ctl.queue = r :: rest) (hreply : s.ctl.pendingReply = none)
    (hreset : s.ctl.resetWait = none) (hjudge : judgeRequest s.tbl.config r = .error code) :
    Refuses r code s (settle (takeRequest s)) := by
  rw [takeRequest_of_error h hjudge]
  exact refuses_of_inHand (by simp) (by simpa using hreply) (by simpa using hreset) rfl (by simp)
    (by simp [serviceOut_eq, hreply])

theorem takeRequest_inHand {q : Req} (h : s.ctl.queue = r :: rest) (hreply : s.ctl.pendingReply = none)
    (hjudge : judgeRequest s.tbl.config r = .ok q) :
    (settle (takeRequest s)).ctl.inHand = some { request := r, work := some q } ∧
      (settle (takeRequest s)).ctl.pendingReply = none ∧ (settle (takeRequest s)).upl.slot = s.upl.slot ∧
      (settle (takeRequest s)).ctl.lastRefusal = s.ctl.lastRefusal := by
  rw [takeRequest_of_ok h hjudge]
  rw [settle_ctl (by simp [hreply])]
  simp [hreply]

end

/-- Settles O9: the checks in their order are those of `judgeRequest`. -/
theorem requestTakenIsJudged : Obligations.RequestTakenIsJudged := by
  intro s r rest hawake hqueue hhand hreply hreset
  have hdue : s.takeDue = true := by simp [State.takeDue, Ctl.mayTake, hqueue, hhand, hreply, hreset]
  have hexec : exec .requestTaken s = .next (settle (takeRequest s)) := by
    have h : exec .requestTaken s = execRequestTaken s := rfl
    rw [h, execRequestTaken, taken_of_awake hawake, if_pos hdue]
  obtain ⟨hrest, hready⟩ := takeRequest_queue hqueue
  refine ⟨_, hexec, by simpa using hrest, .of_blocks, by constructor <;> simp, by constructor <;> simp, by simp,
    by simpa using hready, ?_⟩
  have hrefused {code : Byte} := takeRequest_refused (code := code) hqueue hreply hreset
  cases hparse : parseRequest r.payload with
  | none => exact hrefused (by simp [judgeRequest, hparse])
  | some q =>
    dsimp only
    split
    · next htable => exact hrefused (by simp [judgeRequest, hparse, htable])
    · next htable =>
      split
      · next horigin => exact hrefused (by simp [judgeRequest, hparse, htable, horigin])
      · next horigin => exact takeRequest_inHand hqueue hreply (by simp [judgeRequest, hparse, htable, horigin])

/-! ## Reading (R192, R194) -/

/-- R194: a page of a section. -/
theorem statusReply_eq (s : State) (sec page : Nat) :
    statusReply s sec page =
      beNat 1 sec ++ beNat 1 (min page (max 1 (((statusSection s sec).length + 191) / 192) - 1)) ++
        beNat 1 (max 1 (((statusSection s sec).length + 191) / 192)) ++
        ((statusSection s sec).drop (192 * min page (max 1 (((statusSection s sec).length + 191) / 192) - 1))).take 192 := by
  rfl

/-- Settles O11. -/
theorem readStatusAnswersOnePage : Obligations.ReadStatusAnswersOnePage := by
  intro s sec page h
  have hexec : exec .readStatus s = .next (settle (answer replyOk (statusReply s sec page) s)) := by
    have hrow : exec .readStatus s = execReadStatus s := rfl
    rw [hrow, execReadStatus, taken_of_awake h.awake]
    simp only [h.work]
  refine ⟨_, hexec, h.requestFrame _ _, _, _, _, rfl, rfl, rfl, by simp, ?_⟩
  rw [← statusReply_eq]
  exact h.replied _ _

theorem length_padTo (n : Nat) (bs : List Byte) : (padTo n bs).length = n := by
  simp only [padTo, List.length_take, List.length_append, List.length_replicate]
  omega

/-- Settles O13. -/
theorem readTableCopiesTheBytes : Obligations.ReadTableCopiesTheBytes := by
  intro s n off len h
  have hexec : exec .readTable s = .next
      (settle (answer replyOk (beNat 1 n ++ beNat 2 off ++ ((s.tableBytes n).drop off).take len) s)) := by
    have hrow : exec .readTable s = execReadTable s := rfl
    rw [hrow, execReadTable, taken_of_awake h.awake]
    simp only [h.work]
  refine ⟨_, hexec, h.requestFrame _ _, h.replied _ _, fun _ hsize hfit => ?_, length_padTo 293 _, length_padTo 337 _⟩
  simp only [List.length_take, List.length_drop, hsize]
  omega

/-! ## Writing RATING-STAGED and the plan tables (R22, R129, R193) -/

theorem workedOn_setTbl (s : State) (tbl : Tables) : WorkedOn [.tbl] s (s.setTbl tbl) := { others := .of_blocks }

/-- R193: a write that only stores its bytes. -/
theorem write_answered {s : State} {n off : Nat} {data : List Byte} (h : Serving s (.writeTable n off data))
    (hn : writtenTable n) (hfits : off + data.length ≤ (s.tableBytes n).length) {u : State}
    (hu : u = s.setTbl (s.tbl.setBytes n (writeBytes (s.tableBytes n) off data))) :
    Stored n off data s (settle (answerWrite n off data u)) ∧
      RequestFrame [.tbl] s (settle (answerWrite n off data u)) ∧
      Replied s (settle (answerWrite n off data u))
        (s.codeInHand :: 0 :: (beNat 1 n ++ beNat 2 off ++ beNat 1 data.length)) := by
  subst hu
  exact ⟨.of_setBytes hn hfits (by simp) (by simp) (by simp), (workedOn_setTbl s _).answered h _ _⟩

/-- Settles O16. -/
theorem writeTablePlanAndStagedStoreTheirBytes : Obligations.WriteTablePlanAndStagedStoreTheirBytes := by
  refine ⟨fun s off data h hfits => ?_, fun s n off data hn h hfits => ?_⟩
  · have hexec : exec .writeTableRatingStaged s = .next
        (settle (answerWrite 2 off data (s.setTbl { s.tbl with staged := writeBytes s.tbl.staged off data }))) := by
      have hrow : exec .writeTableRatingStaged s = execWriteTableRatingStaged s := rfl
      rw [hrow, execWriteTableRatingStaged, taken_of_awake h.awake]
      simp only [h.work]
    exact ⟨_, hexec, write_answered h ⟨by decide, by decide, by decide⟩ hfits rfl⟩
  · have hplan : s.tableBytes (7 + n) = s.tbl.plan n := by interval_cases n <;> rfl
    have hset (bs : List Byte) : s.tbl.setBytes (7 + n) bs = s.tbl.setPlan n bs := by interval_cases n <;> rfl
    have hexec : exec .writeTablePlan s = .next
        (if s.markerNames n then settle (answer replyNotIdle [] s)
        else settle (answerWrite (7 + n) off data (s.setTbl (s.tbl.setPlan n (writeBytes (s.tbl.plan n) off data))))) := by
      have hrow : exec .writeTablePlan s = execWriteTablePlan s := rfl
      rw [hrow, execWriteTablePlan, taken_of_awake h.awake]
      simp only [h.work, Nat.add_sub_cancel_left]
      rw [if_neg (by omega)]
    have hnames : s.markerNames n = true ↔ s.run.marker.map Marker.plan = some n := by simp [State.markerNames]
    refine ⟨_, hexec, ?_⟩
    by_cases hmarker : s.run.marker.map Marker.plan = some n
    · rw [if_pos hmarker, if_pos (hnames.mpr hmarker)]
      exact ⟨h.replied _ _, h.requestFrame _ _⟩
    · rw [if_neg hmarker, if_neg (mt hnames.mp hmarker)]
      exact write_answered h ⟨by omega, by omega, by omega⟩ (by rwa [hplan]) (by rw [hset, hplan])

/-! ## ACTIVATE-RATING (R23, R24) -/

theorem stagedPointGood_eq_true (staged : List Byte) (i : Nat) :
    stagedPointGood staged i = true ↔ ¬ BreakpointBad staged i := by
  simp only [stagedPointGood, BreakpointBad, not_not, decide_eq_true_iff, Nat.pos_iff_ne_zero, imp_iff_not_or]

/-- R190: where the first fault of a STAGED bank lies. -/
theorem stagedFault_eq_some {staged : List Byte} {pos : Nat} (h : stagedFault staged = some pos) :
    ¬ StagedGood staged ∧
      if u16 staged 0 < 1 then pos = 240
      else if 2000 < u16 staged 2 then pos = 241
      else if u8 staged 4 < 2 ∨ 48 < u8 staged 4 then pos = 242
      else pos < u8 staged 4 ∧ BreakpointBad staged pos ∧ ∀ j, j < pos → ¬ BreakpointBad staged j := by
  unfold stagedFault stagedId stagedLimit stagedCount at h
  unfold StagedGood
  split at h
  · next hid => exact ⟨by omega, by rw [if_pos hid]; simpa using h.symm⟩
  · next hid =>
    rw [if_neg hid]
    split at h
    · next hlimit => exact ⟨by omega, by rw [if_pos hlimit]; simpa using h.symm⟩
    · next hlimit =>
      rw [if_neg hlimit]
      split at h
      · next hcount => exact ⟨by omega, by rw [if_pos hcount]; simpa using h.symm⟩
      · next hcount =>
        rw [if_neg hcount]
        simp only [List.find?_range_eq_some, Bool.not_eq_true', List.mem_range, Bool.not_not,
          ← Bool.not_eq_true, stagedPointGood_eq_true, not_not] at h
        obtain ⟨hbad, hpos, hbefore⟩ := h
        exact ⟨fun ⟨_, _, _, _, hgood⟩ => hgood pos hpos hbad, hpos, hbad, hbefore⟩

theorem stagedGood_of_noFault {staged : List Byte} (h : stagedFault staged = none) : StagedGood staged := by
  unfold stagedFault stagedId stagedLimit stagedCount at h
  split at h
  · cases h
  · split at h
    · cases h
    · split at h
      · cases h
      · simp only [List.find?_range_eq_none, Bool.not_not, stagedPointGood_eq_true] at h
        exact ⟨by omega, by omega, by omega, by omega, h⟩

theorem workedOn_setRat (s : State) (rat : Rat) : WorkedOn [.rat] s (s.setRat rat) := { others := .of_blocks }

/-- Settles O18. -/
theorem activateRatingChecksTheStagedBank : Obligations.ActivateRatingChecksTheStagedBank := by
  intro s h
  have hrow : exec .activateRating s = execActivateRating s := rfl
  rw [hrow, execActivateRating, taken_of_awake h.awake]
  simp only [h.work]
  cases hfault : stagedFault s.tbl.staged with
  | some pos =>
    obtain ⟨hbad, hpos⟩ := stagedFault_eq_some hfault
    obtain ⟨hframe, hreplied⟩ := (WorkedOn.refl (bs := [.rat]) s).answered h replyInvalid (faultFields pos 0)
    exact ⟨_, rfl, hframe, by simp, by simp, fun hgood => absurd hgood hbad, fun _ => ⟨by simp, pos, hreplied, hpos⟩⟩
  | none =>
    have hgood := stagedGood_of_noFault hfault
    obtain ⟨hframe, hreplied⟩ := (workedOn_setRat s { s.rat with live := stagedBank s.tbl.staged }).answered h replyOk
      (beNat 2 (stagedBank s.tbl.staged).ratingId ++ beNat 1 (stagedBank s.tbl.staged).points.length)
    have hcount : (stagedBank s.tbl.staged).points.length = u8 s.tbl.staged 4 := by simp [stagedBank, stagedCount]
    rw [hcount] at hframe hreplied
    dsimp only
    rw [hcount]
    refine ⟨_, rfl, hframe, by simp, by simp, fun _ => ⟨by simp [stagedBank, stagedId], by simp [stagedBank, stagedLimit],
      by simp [stagedBank, stagedCount], ?_⟩, fun hbad => absurd hgood hbad⟩
    exact hreplied

/-! ## ADD-SHIFT (R26 to R28) -/

theorem shiftPointGood_eq_true (points : List (Int × Int)) (j : Nat) :
    shiftPointGood points j = true ↔ ShiftPointGood points j := by
  simp only [shiftPointGood, ShiftPointGood, decide_eq_true_iff, Nat.pos_iff_ne_zero, imp_iff_not_or, not_not]

/-- R27: where the first fault of an offered record lies. -/
theorem shiftFault_eq_some {count pos : Nat} {points : List (Int × Int)} (h : shiftFault count points = some pos) :
    ¬ ShiftGood count points ∧
      if count < 1 ∨ 4 < count then pos = 240
      else pos < count ∧ ¬ ShiftPointGood points pos ∧ ∀ j, j < pos → ShiftPointGood points j := by
  unfold shiftFault at h
  unfold ShiftGood
  split at h
  · next hcount => exact ⟨by omega, by rw [if_pos hcount]; simpa using h.symm⟩
  · next hcount =>
    rw [if_neg hcount]
    simp only [List.find?_range_eq_some, Bool.not_eq_true', List.mem_range, Bool.not_not, ← Bool.not_eq_true,
      shiftPointGood_eq_true] at h
    obtain ⟨hbad, hpos, hbefore⟩ := h
    exact ⟨fun ⟨_, _, hgood⟩ => hbad (hgood pos hpos), hpos, hbad, hbefore⟩

theorem shiftGood_of_noFault {count : Nat} {points : List (Int × Int)} (h : shiftFault count points = none) :
    ShiftGood count points := by
  unfold shiftFault at h
  split at h
  · cases h
  · simp only [List.find?_range_eq_none, Bool.not_not, shiftPointGood_eq_true] at h
    exact ⟨by omega, by omega, h⟩

/-- In a table in order the earliest record is the first, and no other. -/
theorem ShiftsOrdered.mem_tail_iff {rs : List ShiftRec} (h : ShiftsOrdered rs) (x : ShiftRec) :
    x ∈ rs.tail ↔ x ∈ rs ∧ rs.head? ≠ some x := by
  cases rs with
  | nil => simp
  | cons y rest =>
    obtain ⟨-, hsorted⟩ := h
    have hafter : ∀ z ∈ rest, y.start < z.start := by simpa using (List.pairwise_cons.mp hsorted).1
    have hne : x ∈ rest → y ≠ x := fun hx hyx => absurd (hafter x hx) (by simp [hyx])
    simp only [List.tail_cons, List.mem_cons, List.head?_cons, ne_eq, Option.some.injEq]
    tauto

/-- R28: the records of the table afterwards, with the code and the time removed of the reply. -/
theorem placeShift_spec {rs : List ShiftRec} (h : ShiftsOrdered rs) (r : ShiftRec) :
    (∀ x, x ∈ (placeShift r rs).1 ↔ x = r ∨ (x ∈ rs ∧ x.start ≠ r.start ∧
      ((∃ y ∈ rs, y.start = r.start) ∨ rs.length < 16 ∨ rs.head? ≠ some x))) ∧
    (placeShift r rs).2.code = (if (∃ y ∈ rs, y.start = r.start) then 0 else if rs.length < 16 then 1 else 2) ∧
    ((placeShift r rs).2.code = 2 → rs.head?.map ShiftRec.start = some (placeShift r rs).2.removed) ∧
    ((placeShift r rs).2.code ≠ 2 → (placeShift r rs).2.removed = 0) := by
  unfold placeShift
  have hany : (rs.any fun x => x.start == r.start) = true ↔ ∃ y ∈ rs, y.start = r.start := by simp
  by_cases hheld : ∃ y ∈ rs, y.start = r.start
  · rw [if_pos (hany.mpr hheld), if_pos hheld]
    refine ⟨fun x => ?_, rfl, by simp [Placement.code], fun _ => rfl⟩
    simp only [hheld, true_or, and_true, List.mem_map]
    constructor
    · rintro ⟨y, hy, rfl⟩
      split
      · exact .inl rfl
      · next hother => exact .inr ⟨hy, hother⟩
    · rintro (rfl | ⟨hx, hother⟩)
      · obtain ⟨y, hy, hstart⟩ := hheld
        exact ⟨y, hy, if_pos hstart⟩
      · exact ⟨x, hx, if_neg hother⟩
  · have hnew : ∀ x ∈ rs, x.start ≠ r.start := fun x hx hstart => hheld ⟨x, hx, hstart⟩
    rw [if_neg (mt hany.mp hheld), if_neg hheld]
    by_cases hroom : rs.length < 16
    · rw [if_pos hroom, if_pos hroom]
      refine ⟨fun x => ?_, rfl, by simp [Placement.code], fun _ => rfl⟩
      obtain ⟨-, hmem⟩ := insertShift_spec r rs
      rw [hmem]
      simp only [hroom, true_or, or_true, and_true]
      exact or_congr_right ⟨fun hx => ⟨hx, hnew x hx⟩, And.left⟩
    · rw [if_neg hroom, if_neg hroom]
      refine ⟨fun x => ?_, rfl, fun _ => ?_, by simp [Placement.code]⟩
      · obtain ⟨-, hmem⟩ := insertShift_spec r rs.tail
        rw [hmem, h.mem_tail_iff]
        simp only [hheld, hroom, false_or]
        exact or_congr_right ⟨fun ⟨hx, hfirst⟩ => ⟨hx, hnew x hx, hfirst⟩, fun ⟨hx, _, hfirst⟩ => ⟨hx, hfirst⟩⟩
      · cases rs with
        | nil => simp at hroom
        | cons y rest => simp [Placement.removed]

/-- Settles O19. -/
theorem addShiftPlacesTheRecord : Obligations.AddShiftPlacesTheRecord := by
  intro s start count points h hordered
  have hrow : exec .addShift s = execAddShift s := rfl
  rw [hrow, execAddShift, taken_of_awake h.awake]
  simp only [h.work]
  cases hfault : shiftFault count points with
  | some pos =>
    obtain ⟨hbad, hpos⟩ := shiftFault_eq_some hfault
    obtain ⟨hframe, hreplied⟩ := (WorkedOn.refl (bs := [.rat]) s).answered h replyInvalid (faultFields pos 0)
    exact ⟨_, rfl, hframe, by simp, by simp, by simpa using hordered, fun hgood => absurd hgood hbad,
      fun _ => ⟨by simp, pos, hreplied, hpos⟩⟩
  | none =>
    have hgood := shiftGood_of_noFault hfault
    obtain ⟨hmem, hcode, hremoved, hkept⟩ := placeShift_spec hordered ⟨start, points⟩
    obtain ⟨hframe, hreplied⟩ :=
      (workedOn_setRat s { s.rat with shifts := (placeShift ⟨start, points⟩ s.rat.shifts).1 }).answered h replyOk
        (beNat 1 (placeShift ⟨start, points⟩ s.rat.shifts).2.code ++
          beNat 4 (placeShift ⟨start, points⟩ s.rat.shifts).2.removed ++
          beNat 1 (placeShift ⟨start, points⟩ s.rat.shifts).1.length)
    refine ⟨_, rfl, hframe, by simp, by simp, by simpa using hordered.placeShift _, fun _ => ⟨by simpa using hmem,
      _, _, ?_, hcode, hremoved, hkept⟩, fun hbad => absurd hgood hbad⟩
    have hshifts (code : Byte) (fields : List Byte) (rat : Rat) :
        (settle (answer code fields (s.setRat rat))).rat.shifts = rat.shifts := by simp
    rw [hshifts]
    exact hreplied

end Sys2Proof.Machine
end

section
/-! SILENCE and WARNING-TEST (R55 to R57), RESET-PART (R195), and the intervals (R18 to R20). -/

namespace Sys2Proof.Machine

set_option Elab.async false

/-! ## SILENCE and WARNING-TEST -/

theorem drive_wrn (s : State) : (drive s).wrn = { s.wrn with outputs := s.wrn.outputsOf s.tbl.patterns } := rfl

/-- R55: the outputs, silenced or not. -/
theorem Wrn.outputsOf_eq (w : Wrn) (patterns : List Byte) :
    w.outputsOf patterns =
      match w.test with
      | some x => patternOn patterns x.level
      | none =>
        if w.silenced then patternOn patterns w.level &&& ~~~patternSilence patterns w.level
        else patternOn patterns w.level := by
  cases h : w.test <;> simp [Wrn.outputsOf, h]

theorem beginTest_wrn (level duration : Nat) (s : State) :
    (beginTest level duration s).wrn =
      { s.wrn with
        test := some { level := level, stopAt := s.now + 1000 * duration }, outputs := patternOn s.tbl.patterns level } := by
  simp [beginTest, drive_wrn, Wrn.outputsOf]

theorem beginTest_store (level duration : Nat) (s : State) :
    (beginTest level duration s).store =
      s.store.append
        (.notice { time := s.clk.time, valid := s.clk.valid, body := .test level duration s.wrn.level }) := by
  simp [beginTest, appendNotice]

/-- Settles O23. -/
theorem silenceAndTestDriveTheOutputs : Obligations.SilenceAndTestDriveTheOutputs := by
  refine ⟨fun s h => ?_, fun s level duration h => ?_⟩
  · have hrow : exec .silence s = execSilence s := rfl
    rw [hrow, execSilence, taken_of_awake h.awake]
    simp only [h.work]
    have hwork : WorkedOn [.wrn] s (drive (s.setWrn { s.wrn with silenced := true })) := { others := .of_blocks }
    obtain ⟨hframe, hreplied⟩ := hwork.answered h replyOk (beNat 1 s.wrn.level)
    refine ⟨_, rfl, hframe, hreplied, by simp [drive_wrn], ?_⟩
    simp only [settle_frame, answer_frame, drive_wrn, State.setWrn_wrn, State.setWrn_tbl]
    rw [Wrn.outputsOf_eq]
    cases s.wrn.test <;> rfl
  · have hrow : exec .warningTest s = execWarningTest s := rfl
    rw [hrow, execWarningTest, taken_of_awake h.awake]
    simp only [h.work]
    by_cases hranges : 1 ≤ level ∧ level ≤ 3 ∧ 5 ≤ duration ∧ duration ≤ 120
    · simp only [if_pos hranges]
      have hwork : WorkedOn [.wrn, .store] s (beginTest level duration s) := { others := .of_blocks }
      obtain ⟨hframe, hreplied⟩ := hwork.answered h replyOk []
      exact ⟨_, rfl, hframe, hreplied, by simp [beginTest_wrn], by simp [beginTest_wrn], by simp [beginTest_wrn],
        by simp [beginTest_store]⟩
    · simp only [if_neg hranges]
      exact ⟨_, rfl, h.requestFrame _ _, h.replied _ _⟩

/-! ## RESET-PART -/

/-- CTL with a reset that waits for its reply. -/
def awaitReset (cold : Bool) (s : State) : State :=
  s.setCtl { s.ctl with resetWait := some { cold := cold, placed := false, gone := false } }

@[simp] theorem awaitReset_frame (cold : Bool) (s : State) :
    (awaitReset cold s).clk = s.clk ∧ (awaitReset cold s).tbl = s.tbl ∧ (awaitReset cold s).stg = s.stg ∧
      (awaitReset cold s).rat = s.rat ∧ (awaitReset cold s).wrn = s.wrn ∧ (awaitReset cold s).pls = s.pls ∧
      (awaitReset cold s).run = s.run ∧ (awaitReset cold s).loop = s.loop ∧ (awaitReset cold s).cht = s.cht ∧
      (awaitReset cold s).store = s.store ∧ (awaitReset cold s).upl = s.upl ∧
      (awaitReset cold s).lines = s.lines ∧ (awaitReset cold s).resetLine = s.resetLine ∧
      (awaitReset cold s).lastReset = s.lastReset ∧ (awaitReset cold s).pending = s.pending ∧
      (awaitReset cold s).ctl.queue = s.ctl.queue ∧ (awaitReset cold s).ctl.inHand = s.ctl.inHand ∧
      (awaitReset cold s).ctl.pendingReply = s.ctl.pendingReply ∧
      (awaitReset cold s).ctl.droppedBusy = s.ctl.droppedBusy ∧
      (awaitReset cold s).ctl.lastRefusal = s.ctl.lastRefusal := by
  simp [awaitReset]

/-- R195: a reset that waits may begin at once where its reply is in the slot and LINK is low. -/
theorem sendReply_awaitReset {s : State} {cold : Bool} {h : InHand} (payload : List Byte) (hin : s.ctl.inHand = some h) :
    (sendReply payload (awaitReset cold s)).ctl.resetWait =
      match h.request.origin with
      | .uplink _ =>
        if s.upl.slot = none then some { cold := cold, placed := true, gone := !s.lines.link }
        else some { cold := cold, placed := false, gone := false }
      | .service _ => some { cold := cold, placed := false, gone := false } := by
  have hin' : (awaitReset cold s).ctl.inHand = some h := hin
  cases horigin : h.request.origin with
  | uplink seq =>
    by_cases hslot : s.upl.slot = none
    · rw [sendReply_toSlot payload hin' horigin hslot]
      simp [hslot, awaitReset, placeReply, placeInSlot]
    · rw [sendReply_behindSlot payload hin' horigin hslot]
      simp [hslot, awaitReset]
  | service addr =>
    rw [sendReply_toNode payload hin' horigin]
    simp [awaitReset]

/-- Settles O24: the reply goes its way with the reset waiting for it. -/
theorem resetPartWaitsForItsReply : Obligations.ResetPartWaitsForItsReply := by
  intro s cold r h hin
  have hrow : exec .resetPart s = execResetPart s := rfl
  rw [hrow, execResetPart, taken_of_awake h.awake]
  simp only [h.work]
  have hcode : s.codeInHand = r.code := by simp [State.codeInHand, hin]
  have hanswer : answer replyOk [] (awaitReset cold s) = sendReply [r.code, 0] (awaitReset cold s) := by
    rw [← hcode]
    rfl
  have hwait : (settle (sendReply [r.code, 0] (awaitReset cold s))).ctl.resetWait =
      (sendReply [r.code, 0] (awaitReset cold s)).ctl.resetWait := by simp
  rw [sendReply_awaitReset _ hin] at hwait
  have hreplied := replied_settle_sendReply [r.code, 0] (s := awaitReset cold s) (by simpa using hin)
    (by simpa using h.noReply)
  have hout : serviceOut (awaitReset cold s) = serviceOut s := by simp [serviceOut_eq]
  have hreset : (awaitReset cold s).ctl.resetWait.isSome = true := rfl
  unfold Replied at hreplied
  simp only [awaitReset_frame, hin, hout, hreset, Option.map_some] at hreplied
  rw [← awaitReset, hanswer]
  refine ⟨_, rfl, .of_blocks, by constructor <;> simp, by constructor <;> simp, by simp, by simp, by simp, by simp,
    ?_, ?_⟩
  · cases horigin : r.origin with
    | uplink seq =>
      simp only [horigin] at hreplied
      split at hreplied
      · exact State.work_eq_none_of_inHand (s := s.setCtl { s.ctl with inHand := none }) (.inr hreplied.2.1) rfl
      · exact hreplied.2.2
    | service addr =>
      simp only [horigin] at hreplied
      exact hreplied.2.1
  · cases horigin : r.origin with
    | uplink seq =>
      simp only [horigin] at hreplied hwait ⊢
      split at hreplied
      · next hslot =>
        rw [if_pos hslot] at hwait ⊢
        exact ⟨hreplied.1, hwait⟩
      · next hslot =>
        rw [if_neg hslot] at hwait ⊢
        exact ⟨hreplied.1, hreplied.2.1, hwait⟩
    | service addr =>
      simp only [horigin] at hreplied hwait ⊢
      exact ⟨hwait, hreplied.2.2⟩

/-! ## The intervals -/

/-- R20: the record of an open interval with these flags, in the store as it was. -/
theorem intervalWritten_of_closed {s u : State} {f : IntervalFlags} (hstart : u.stg.openStart = s.stg.openStart)
    (hacc : u.stg.acc = { s.stg.acc with flags := f }) (hstore : u.store = s.store) :
    IntervalWritten s f (closeInterval u).store := by
  refine ⟨intervalRecord u.stg.openStart u.stg.acc, by simp [closeInterval, hstore], ?_⟩
  rw [hstart, hacc]
  exact ⟨rfl, rfl, rfl, rfl, rfl, rfl, rfl, rfl, rfl, rfl, rfl, rfl, rfl⟩

theorem openInterval_opened (start after : Nat) (s : State) :
    IntervalOpened start after false (openInterval start after s) := by
  constructor <;> simp [openInterval, emptyAccum, boundaryAfter, boundaryBefore, noIntervalFlags]

theorem IntervalOpened.congr {start after : Nat} {set : Bool} {u t : State} (h : IntervalOpened start after set u)
    (hstg : t.stg = u.stg) (htbl : t.tbl = u.tbl) (hclk : t.clk = u.clk) : IntervalOpened start after set t where
  start := by rw [hstg, h.start]
  closes := by rw [hstg, htbl, h.closes]
  counts := by rw [hstg]; exact h.counts
  extremes := by rw [hstg]; exact h.extremes
  sources := by rw [hstg]; exact h.sources
  rating := by rw [hstg]; exact h.rating
  flags := by rw [hstg, hclk, h.flags]

@[simp] theorem setClockTo_clk (time : Nat) (s : State) :
    (setClockTo time s).clk = { s.clk with time := time, valid := true, subMs := 0 } := by
  unfold setClockTo
  dsimp only
  split <;> simp

theorem setClockTo_of_same {time : Nat} {s : State}
    (h : boundaryBefore (cfgIntervalLength s.tbl.config) time = s.stg.openStart) :
    setClockTo time s = s.setClk { s.clk with time := time, valid := true, subMs := 0 } := by
  simp [setClockTo, h]

/-- R16: SET-CLOCK to another interval: the flags with which the open one is closed. -/
def clockSetFlags (s : State) : IntervalFlags :=
  { s.stg.acc.flags with clockSet := true, clockInvalid := s.stg.acc.flags.clockInvalid || !s.clk.valid }

theorem setClockTo_of_other {time : Nat} {s : State}
    (h : boundaryBefore (cfgIntervalLength s.tbl.config) time ≠ s.stg.openStart) :
    IntervalWritten s (clockSetFlags s) (setClockTo time s).store ∧
      IntervalOpened (boundaryBefore (cfgIntervalLength s.tbl.config) time) time true (setClockTo time s) ∧
      s.stg.MeasureKept (setClockTo time s).stg := by
  have hset : setClockTo time s =
      markInterval { noIntervalFlags with clockSet := true }
        (openInterval (boundaryBefore (cfgIntervalLength s.tbl.config) time) time
          (closeInterval (markInterval { noIntervalFlags with clockSet := true, clockInvalid := !s.clk.valid }
            (s.setClk { s.clk with time := time, valid := true, subMs := 0 })))) := by
    simp [setClockTo, h]
  rw [hset]
  refine ⟨?_, ?_, ?_⟩
  · simp only [markInterval, State.setStg_store, openInterval]
    exact intervalWritten_of_closed rfl (by simp [clockSetFlags, IntervalFlags.union, noIntervalFlags]) rfl
  · constructor <;>
      simp [markInterval, openInterval, emptyAccum, boundaryAfter, boundaryBefore, noIntervalFlags, IntervalFlags.union]
  · constructor <;> simp [markInterval, openInterval]

/-- Settles O25. -/
theorem intervalsCloseAtBoundariesAndClockSets : Obligations.IntervalsCloseAtBoundariesAndClockSets := by
  refine ⟨fun s hawake hdue => ?_, fun s time h => ?_⟩
  · have hexec : exec .intervalBoundary s =
        .next (openInterval s.stg.nextBoundary s.stg.nextBoundary (closeInterval s)) := by
      have hrow : exec .intervalBoundary s = execIntervalBoundary s := rfl
      rw [hrow, execIntervalBoundary, taken_of_awake hawake, if_pos (by simpa [State.boundaryDue] using hdue)]
    exact ⟨_, hexec, .of_blocks, by constructor <;> simp, by simp, by simp, by constructor <;> simp [openInterval],
      by simpa [openInterval] using intervalWritten_of_closed (s := s) rfl rfl rfl, openInterval_opened _ _ _⟩
  · have hrow : exec .setClock s = execSetClock s := rfl
    rw [hrow, execSetClock, taken_of_awake h.awake]
    simp only [h.work]
    by_cases hsame : boundaryBefore (cfgIntervalLength s.tbl.config) time = s.stg.openStart
    · rw [setClockTo_of_same hsame]
      have hwork : WorkedOn [.clk] s (s.setClk { s.clk with time := time, valid := true, subMs := 0 }) :=
        { others := .of_blocks }
      obtain ⟨hframe, hreplied⟩ := hwork.answered h replyOk []
      exact ⟨_, rfl, hreplied, by simp, by simp, by simp, by constructor <;> simp, fun _ => ⟨by simp, hframe⟩,
        fun hother => absurd hsame hother⟩
    · obtain ⟨hwritten, hopened, hkept⟩ := setClockTo_of_other hsame
      have hwork : WorkedOn [.clk, .stg, .store] s (setClockTo time s) := { others := .of_blocks }
      obtain ⟨hframe, hreplied⟩ := hwork.answered h replyOk []
      have hstg : (settle (answer replyOk [] (setClockTo time s))).stg = (setClockTo time s).stg := by simp
      exact ⟨_, rfl, hreplied, by simp, by simp, by simp, hstg ▸ hkept, fun hother => absurd hother hsame,
        fun _ => ⟨hframe, hopened.congr hstg (by simp) (by simp), clockSetFlags s, by simpa using hwritten, rfl, rfl,
          rfl⟩⟩

end Sys2Proof.Machine
end

section
/-! READ-RECORDS (R182, R183). -/

namespace Sys2Proof.Machine

set_option Elab.async false

@[simp] theorem length_beNat (w n : Nat) : (beNat w n).length = w := by
  induction w generalizing n with
  | zero => rfl
  | succ w ih => simp [beNat, ih]

/-! ## What a record takes in a reply -/

theorem Content.length_of_mem_slots {c : Content} {slot : List Byte} (h : slot ∈ c.slots) : slot.length = 44 := by
  cases c with
  | gauging r =>
    simp only [Content.slots, List.mem_cons, List.mem_map] at h
    obtain h | h | ⟨v, -, h⟩ := h
    · rw [h, length_padTo]
    · rw [h, length_padTo]
    · rw [← h, length_padTo]
  | _ =>
    simp only [Content.slots, List.mem_singleton] at h
    rw [h, length_padTo]

/-- R183, Table 70: a record carried takes 7 bytes and 44 for each slot at most. -/
theorem length_carriedBytes_le (r : StoreRec) (first n : Nat) : (carriedBytes r first n).length ≤ 7 + 44 * n := by
  have hslots : (((r.content.slots.drop first).take n).flatten).length ≤ 44 * n := by
    rw [List.length_flatten]
    have hsum : ((((r.content.slots.drop first).take n).map List.length).sum) ≤
        (((r.content.slots.drop first).take n).map List.length).length • 44 :=
      List.sum_le_card_nsmul _ 44 fun x hx => by
        obtain ⟨slot, hslot, rfl⟩ := List.mem_map.mp hx
        exact (Content.length_of_mem_slots (List.mem_of_mem_drop (List.mem_of_mem_take hslot))).le
    have hcount : ((r.content.slots.drop first).take n).length ≤ n := by simp
    simp only [List.length_map, smul_eq_mul] at hsum
    omega
  simp only [carriedBytes, List.length_append, length_beNat, List.length_cons, List.length_nil]
  omega

theorem length_carriedWhole_le (whole : List StoreRec) :
    (whole.map fun x => carriedBytes x 0 x.content.slotCount).flatten.length ≤
      (whole.map fun r => 7 + 44 * r.content.slotCount).sum := by
  induction whole with
  | nil => simp
  | cons r rest ih =>
    have hr := length_carriedBytes_le r 0 r.content.slotCount
    simp only [List.map_cons, List.flatten_cons, List.length_append, List.sum_cons]
    omega

theorem carried_eq (r : StoreRec) (first n : Nat) : carried r first n = carriedBytes r first n := rfl

/-! ## The whole records that follow -/

/-- The records `whole` keep to a limit of records, of slots and of bytes. -/
def WithinRoom (limit slots bytes : Nat) (whole : List StoreRec) : Prop :=
  whole.length ≤ limit ∧ (whole.map fun r => r.content.slotCount).sum ≤ slots ∧
    (whole.map fun r => 7 + 44 * r.content.slotCount).sum ≤ bytes

/-- `carryWhole` takes records from the front as long as the next one keeps to the limits. -/
theorem carryWhole_spec (records : List StoreRec) (limit slots bytes : Nat) :
    ∃ after, records = carryWhole records limit slots bytes ++ after ∧
      WithinRoom limit slots bytes (carryWhole records limit slots bytes) ∧
      ∀ x, after.head? = some x → ¬ WithinRoom limit slots bytes (carryWhole records limit slots bytes ++ [x]) := by
  induction records generalizing limit slots bytes with
  | nil => exact ⟨[], rfl, by simp [carryWhole, WithinRoom], by simp⟩
  | cons r rest ih =>
    simp only [carryWhole]
    split
    · next hfull =>
      refine ⟨r :: rest, rfl, by simp [WithinRoom], fun x hx => ?_⟩
      obtain rfl : r = x := by simpa using hx
      simp only [WithinRoom, List.nil_append, List.length_singleton, List.map_cons, List.map_nil, List.sum_cons,
        List.sum_nil]
      omega
    · next hroom =>
      obtain ⟨after, hrest, hwithin, hnext⟩ := ih (limit - 1) (slots - r.content.slotCount)
        (bytes - (7 + 44 * r.content.slotCount))
      refine ⟨after, congrArg (r :: ·) hrest, ?_, fun x hx => ?_⟩
      · simp only [WithinRoom, List.length_cons, List.map_cons, List.sum_cons] at hwithin ⊢
        omega
      · have hx' := hnext x hx
        simp only [WithinRoom, List.cons_append, List.length_cons, List.map_cons, List.sum_cons] at hx' ⊢
        omega

theorem recordsFit_iff {limit left : Nat} (hlimit : 1 ≤ limit) (hleft : left ≤ 4) (whole : List StoreRec) :
    RecordsFit limit left whole ↔ WithinRoom (limit - 1) (4 - left) (200 - 9 - (7 + 44 * left)) whole := by
  unfold RecordsFit WithinRoom
  omega

/-! ## The reply -/

/-- R183: what a reply carries that starts at `r`, and that it keeps to 200 bytes with its heading of 5. -/
theorem readFrom_spec (r : StoreRec) (more : List StoreRec) (nextSeq mark oldest part : Nat) {limit : Nat}
    (hlimit : 1 ≤ limit) :
    ∃ rest, RecordsCarried r more nextSeq limit part rest ∧ rest.length ≤ 195 ∧
      readFrom (r :: more) nextSeq mark oldest limit part = beNat 1 mark ++ (beNat 2 oldest ++ rest) := by
  simp only [readFrom]
  unfold RecordsCarried
  split
  · refine ⟨_, rfl, ?_, by simp [recordsReply, carried_eq]⟩
    have hr := length_carriedBytes_le r part 4
    simp only [List.length_append, length_beNat]
    omega
  · next hleft =>
    obtain ⟨after, hmore, hwithin, hnext⟩ := carryWhole_spec more (limit - 1) (4 - (r.content.slotCount - part))
      (200 - 9 - (7 + 44 * (r.content.slotCount - part)))
    generalize hwhole : carryWhole more (limit - 1) (4 - (r.content.slotCount - part))
      (200 - 9 - (7 + 44 * (r.content.slotCount - part))) = whole at *
    have hfit := (recordsFit_iff hlimit (by omega) whole).mpr hwithin
    have hafter : more.drop whole.length = after := by rw [hmore, List.drop_left]
    refine ⟨_, ⟨whole, after, hmore, hfit, fun x hx => ?_, rfl⟩, ?_, ?_⟩
    · rw [recordsFit_iff hlimit (by omega)]
      exact hnext x hx
    · obtain ⟨-, -, hbytes⟩ := hfit
      have hr := length_carriedBytes_le r part (r.content.slotCount - part)
      have hrest := length_carriedWhole_le whole
      simp only [List.length_append, length_beNat]
      omega
    · simp [recordsReply, carried_eq, hafter]

/-- The request is answered with what `readRecords` gives. -/
theorem exec_readRecords {s : State} {first limit part : Nat} (h : Serving s (.readRecords first limit part)) :
    ∃ t, exec .readRecords s = .next t ∧ RequestFrame [] s t ∧
      (readRecords s.store first limit part = none → Replied s t [s.codeInHand, 2]) ∧
      ∀ fields, readRecords s.store first limit part = some fields → Replied s t (s.codeInHand :: 0 :: fields) := by
  have hrow : exec .readRecords s = execReadRecords s := rfl
  rw [hrow, execReadRecords, taken_of_awake h.awake]
  simp only [h.work]
  cases readRecords s.store first limit part with
  | none => exact ⟨_, rfl, h.requestFrame _ _, fun _ => h.replied _ _, by simp⟩
  | some fields =>
    refine ⟨_, rfl, h.requestFrame _ _, by simp, fun other hother => ?_⟩
    obtain rfl : fields = other := by simpa using hother
    exact h.replied _ _

/-- A list whose first match is `r`, cut at it: its index is the length of what stands before. -/
theorem find?_eq_some_cut {records : List StoreRec} {p : StoreRec → Bool} {r : StoreRec} (h : records.find? p = some r) :
    ∃ before more, records = before ++ r :: more ∧ (∀ x ∈ before, p x = false) ∧
      records.findIdx? p = some before.length := by
  obtain ⟨hr, before, more, rfl, hbefore⟩ := List.find?_eq_some_iff_append.mp h
  have hnone : ∀ x ∈ before, p x = false := fun x hx => by simpa using hbefore x hx
  refine ⟨before, more, rfl, hnone, ?_⟩
  rw [List.findIdx?_append, List.findIdx?_eq_none_iff.mpr hnone, List.findIdx?_cons, if_pos hr]
  simp

/-- Settles O12, along the cases of R182: the limit, the empty store, the number held, ahead, or gone. -/
theorem readRecordsAnswersByTheNumber : Obligations.ReadRecordsAnswersByTheNumber := by
  intro s first limit part h
  obtain ⟨t, hexec, hframe, hbad, hok⟩ := exec_readRecords h
  refine ⟨t, hexec, hframe, ?_⟩
  by_cases hlimit : limit < 1 ∨ 8 < limit
  · rw [if_pos hlimit]
    exact hbad (if_pos hlimit)
  rw [if_neg hlimit]
  cases hrecords : s.store.records with
  | nil =>
    refine hok (recordsReply 1 0 s.store.nextSeq 0 0 []) ?_
    rw [readRecords, if_neg hlimit, hrecords]
  | cons oldest rest =>
    obtain ⟨newest, hnewest⟩ : ∃ newest, (oldest :: rest).getLast? = some newest := by simp [List.getLast?_cons]
    rw [List.head?_cons, hnewest]
    dsimp only
    cases hfind : (oldest :: rest).find? fun r => r.seq == first with
    | some r =>
      dsimp only
      obtain ⟨before, more, hcut, hbefore, hidx⟩ := find?_eq_some_cut hfind
      have hheld : readRecords s.store first limit part =
          if r.content.slotCount ≤ part then none else some (readFrom (r :: more) s.store.nextSeq 0 0 limit part) := by
        have hdrop : (oldest :: rest).drop before.length = r :: more := by rw [hcut, List.drop_left]
        rw [readRecords, if_neg hlimit, hrecords]
        simp [hnewest, hidx, hdrop]
      split
      · next hpart => exact hbad (by rw [hheld, if_pos hpart])
      · next hpart =>
        obtain ⟨bytes, hcarried, hlength, hread⟩ := readFrom_spec r more s.store.nextSeq 0 0 part (limit := limit) (by omega)
        rw [if_neg hpart, hread] at hheld
        refine ⟨before, more, bytes, hcut, fun x hx => by simpa using hbefore x hx, hcarried, hok _ hheld, ?_⟩
        simp only [List.length_cons]
        omega
    | none =>
      dsimp only
      have hidx : (oldest :: rest).findIdx? (fun r => r.seq == first) = none := by
        rw [List.findIdx?_eq_none_iff]
        simpa using hfind
      have hgone : readRecords s.store first limit part =
          if 1 ≤ (first + 65536 - newest.seq) % 65536 ∧ (first + 65536 - newest.seq) % 65536 ≤ 32768 then
            some (recordsReply 2 0 s.store.nextSeq 0 0 [])
          else some (readFrom (oldest :: rest) s.store.nextSeq 3 oldest.seq limit 0) := by
        rw [readRecords, if_neg hlimit, hrecords]
        simp [hnewest, hidx]
      split
      · next hahead =>
        rw [if_pos hahead] at hgone
        exact hok _ hgone
      · next hbehind =>
        obtain ⟨bytes, hcarried, hlength, hread⟩ :=
          readFrom_spec oldest rest s.store.nextSeq 3 oldest.seq 0 (limit := limit) (by omega)
        rw [if_neg hbehind, hread] at hgone
        refine ⟨bytes, hcarried, ?_, hok _ hgone⟩
        simp only [List.length_cons, List.length_append, length_beNat]
        omega

end Sys2Proof.Machine
end

section
/-! What RUN hands LOOP, and an abort, as they stand at the end of an event (R83, R135, R147, R150 to R152). -/

namespace Sys2Proof.Machine

set_option Elab.async false

/-! ## A command handed stays handed to the end of the event -/

/-- From `u` to `t` only LOOP has gone on, and what RUN had handed it is with it still. -/
structure CarriedOn (u t : State) : Prop where
  run : t.run = u.run := by simp
  handed : ∀ c, Handed c u.loop → Handed c t.loop

theorem CarriedOn.trans {u v t : State} (h : CarriedOn u v) (k : CarriedOn v t) : CarriedOn u t where
  run := k.run.trans h.run
  handed c hc := k.handed c (h.handed c hc)

/-- What RUN has handed depends on its pending place, the winch command place, the transmitter and the transaction. -/
theorem Handed.congr {c : RunCmd} {a b : Loop} (h : Handed c a) (cmd : b.pendingCmd = a.pendingCmd)
    (winch : b.winchPlace = a.winchPlace) (tx : b.tx = a.tx) (txn : b.txn = a.txn) : Handed c b := by
  unfold Handed
  rwa [cmd, winch, tx, txn]

theorem CarriedOn.of_places {u t : State} (run : t.run = u.run := by simp)
    (cmd : t.loop.pendingCmd = u.loop.pendingCmd := by simp) (winch : t.loop.winchPlace = u.loop.winchPlace := by simp)
    (tx : t.loop.tx = u.loop.tx := by simp) (txn : t.loop.txn = u.loop.txn := by simp) : CarriedOn u t :=
  ⟨run, fun _ h => h.congr cmd winch tx txn⟩

theorem CarriedOn.refl (s : State) : CarriedOn s s := ⟨rfl, fun _ => id⟩

theorem Loop.openCommand_handed (l : Loop) (c : RunCmd) :
    (l.openCommand c).txn = some { asker := .run c, addr := c.addr, phase := .queued } ∧
      (l.openCommand c).winchPlace = l.winchPlace ∧ (l.openCommand c).tx = l.tx ∧
      (l.openCommand c).pendingCmd = none := by
  unfold Loop.openCommand
  dsimp only
  split <;> simp

/-- A choice is made with nothing outstanding only. -/
theorem Loop.txn_of_mayChoose {l : Loop} (h : l.mayChoose = true) : l.txn = none := by
  simp only [Loop.mayChoose, Loop.pairFree, Bool.and_eq_true, Option.isNone_iff_eq_none] at h
  exact h.1.1.1

theorem choose_carriedOn (s : State) : CarriedOn s (choose s) := by
  obtain ⟨-, heq⟩ | ⟨d, hmay, hd, -, heq⟩ | ⟨hmay, -, ⟨-, heq⟩ | ⟨ch, p, -, heq⟩⟩ := choose_cases s <;> rw [heq]
  · exact .refl s
  · refine ⟨rfl, fun c hc => ?_⟩
    obtain ⟨htxn, hwinch, htx, -⟩ := s.loop.openCommand_handed d
    obtain hc | hc | hc | ⟨p, hc⟩ := hc
    · obtain rfl : d = c := by simpa [hd] using hc
      exact .inr (.inr (.inr ⟨_, htxn⟩))
    · exact .inr (.inl (by simpa [hwinch] using hc))
    · exact .inr (.inr (.inl (by simpa [htx] using hc)))
    · simp [Loop.txn_of_mayChoose hmay] at hc
  · exact .refl s
  · refine ⟨rfl, fun c hc => ?_⟩
    obtain hc | hc | hc | ⟨p, hc⟩ := hc
    · exact .inl hc
    · exact .inr (.inl hc)
    · exact .inr (.inr (.inl hc))
    · simp [Loop.txn_of_mayChoose hmay] at hc

/-- R70 step 2: what the transmitter takes of the waiting frames. -/
theorem Loop.takeWaiting_cases {l l' : Loop} {f : CmdFrame} (h : l.takeWaiting = some (f, l')) :
    (∃ c n, l.winchPlace = some (c, n) ∧ f = .winch c ∧ l' = { l with winchPlace := none }) ∨
      ∃ g rest, f = .service g ∧ l' = { l with serviceQ := rest } := by
  unfold Loop.takeWaiting at h
  split at h
  · next hplace _ =>
    split at h <;> cases h
    · exact .inl ⟨_, _, hplace, rfl, rfl⟩
    · exact .inr ⟨_, _, rfl, rfl⟩
  · next hplace _ =>
    cases h
    exact .inl ⟨_, _, hplace, rfl, rfl⟩
  · cases h
    exact .inr ⟨_, _, rfl, rfl⟩
  · cases h

/-- R70: what the transmitter takes. -/
theorem Loop.takeNext_cases {l l' : Loop} {f : CmdFrame} (h : l.takeNext = some (f, l')) :
    (l.claimPlace = true ∧ f = .claim ∧ l' = { l with claimPlace := false }) ∨
      (∃ c n, l.winchPlace = some (c, n) ∧ f = .winch c ∧ l' = { l with winchPlace := none }) ∨
      (∃ g rest, f = .service g ∧ l' = { l with serviceQ := rest }) ∨
      ∃ x, l.txn = some x ∧ x.phase = .queued ∧ f = .opening x.addr x.asker.kind ∧
        l' = { l with txn := some { x with phase := .sending } } := by
  unfold Loop.takeNext at h
  split at h
  · next hclaim =>
    cases h
    exact .inl ⟨hclaim, rfl, rfl⟩
  · split at h
    · next r hwait =>
      cases h
      exact .inr ((Loop.takeWaiting_cases hwait).imp_right .inl)
    · unfold Loop.takeOpening at h
      split at h
      · next x hx =>
        split at h
        · next hphase =>
          cases h
          exact .inr (.inr (.inr ⟨x, hx, hphase, rfl, rfl⟩))
        · cases h
      · cases h

/-- With the transmitter idle a command handed is pending, in the winch command place, or outstanding. -/
theorem Handed.of_idle {c : RunCmd} {l : Loop} {q : Prop} (h : Handed c l) (hidle : l.tx = none)
    (cmd : l.pendingCmd = some c → q) (winch : ∀ n, l.winchPlace = some (c, n) → q)
    (txn : ∀ p, l.txn = some { asker := .run c, addr := c.addr, phase := p } → q) : q := by
  obtain hc | ⟨n, hc⟩ | ⟨d, hc⟩ | ⟨p, hc⟩ := h
  · exact cmd hc
  · exact winch n hc
  · simp [hidle] at hc
  · exact txn p hc

/-- R70: a winch command taken off its place is on the transmitter; any other stays where it is. -/
theorem Loop.takeNext_handed {l l' : Loop} {f : CmdFrame} {d : Nat} (h : l.takeNext = some (f, l')) (hidle : l.tx = none)
    {c : RunCmd} (hc : Handed c l) : Handed c { l' with tx := some { frame := f, doneAt := d } } := by
  obtain ⟨-, -, rfl⟩ | ⟨b, n, hplace, rfl, rfl⟩ | ⟨g, rest, -, rfl⟩ | ⟨x, hx, -, -, rfl⟩ := Loop.takeNext_cases h
  · exact hc.of_idle hidle .inl (fun n h => .inr (.inl ⟨n, h⟩)) fun p h => .inr (.inr (.inr ⟨p, h⟩))
  · refine hc.of_idle hidle .inl (fun m h => ?_) fun p h => .inr (.inr (.inr ⟨p, h⟩))
    obtain ⟨rfl, rfl⟩ : b = c ∧ n = m := by simpa [hplace] using h
    exact .inr (.inr (.inl ⟨d, rfl⟩))
  · exact hc.of_idle hidle .inl (fun n h => .inr (.inl ⟨n, h⟩)) fun p h => .inr (.inr (.inr ⟨p, h⟩))
  · refine hc.of_idle hidle .inl (fun n h => .inr (.inl ⟨n, h⟩)) fun p h => ?_
    obtain rfl : x = _ := by simpa [hx] using h
    exact .inr (.inr (.inr ⟨_, rfl⟩))

theorem feedService_carriedOn (s : State) : CarriedOn s (feedService s) := .of_places

theorem kickFrom_carriedOn (t : Nat) (s : State) : CarriedOn s (kickFrom t s) := by
  obtain heq | ⟨f, l, d, hidle, hnext, heq⟩ := kickFrom_cases t s <;> rw [heq]
  · exact .refl s
  · refine .trans ?_ (feedService_carriedOn _)
    exact ⟨rfl, fun c hc => Loop.takeNext_handed hnext hidle hc⟩

/-- At the end of an event LOOP may choose what RUN has handed, and send it, but does not lose it. -/
theorem settle_carriedOn (s : State) : CarriedOn s (settle s) :=
  CarriedOn.trans (.of_places (t := rateEffect s)) ((choose_carriedOn _).trans (kickFrom_carriedOn _ _))

theorem answer_carriedOn (code : Byte) (fields : List Byte) (s : State) : CarriedOn s (answer code fields s) := .of_places

theorem HandedOver.carriedOn {k : CmdKind} {a : Nat} {u t : State} (h : HandedOver k a u) (e : CarriedOn u t) :
    HandedOver k a t := by
  obtain ⟨c, hkind, haddr, hlast, hhanded⟩ := h
  exact ⟨c, hkind, haddr, by rw [e.run, hlast], e.handed c hhanded⟩

/-! ## Handing -/

theorem Loop.hand_handed (l : Loop) (c : RunCmd) : Handed c (l.hand c) := by
  unfold Loop.hand
  split
  · exact .inr (.inl ⟨_, rfl⟩)
  · exact .inl rfl

theorem tellReplaced_lastCmd (old : Option RunCmd) (s : State) :
    (tellReplaced old s).run.lastCmd.map Prod.fst = s.run.lastCmd.map Prod.fst := by
  cases old with
  | none => rfl
  | some c => simp [tellReplaced, Run.note, Function.comp_def]

theorem handRun_handedOver {s : State} {a : Nat} (k : CmdKind) (h : s.run.held = some a) :
    HandedOver k a (handRun k s) := by
  refine ⟨{ kind := k, addr := a, id := s.run.nextId }, rfl, rfl, ?_, ?_⟩
  · simp only [handRun, h]
    rw [tellReplaced_lastCmd]
    rfl
  · simp only [handRun, h, tellReplaced_frame]
    exact Loop.hand_handed _ _

theorem handMove_handedOver {s : State} {a : Nat} {k : CmdKind} (hmove : s.run.moveCommand = some k)
    (h : s.run.held = some a) : HandedOver k a (handMove s) := by
  obtain ⟨c, hkind, haddr, hlast, hhanded⟩ := handRun_handedOver k h
  simp only [handMove, hmove]
  exact ⟨c, hkind, haddr, hlast, hhanded⟩

/-- R135: the release mode of the moves of a state. -/
def State.moveMode (s : State) : ReleaseMode :=
  ReleaseMode.ofCode (if s.run.state = .traverse then s.header.traverseMode else s.header.cableMode)

theorem State.header_congr {s t : State} (htbl : t.tbl = s.tbl)
    (hplan : t.run.record.map RunRec.plan = s.run.record.map RunRec.plan) : t.header = s.header := by
  simp only [State.header, State.plan, htbl, hplan]

/-- R135. -/
theorem obtainMove_obtained {s : State} {k : CmdKind} (hmove : s.run.moveCommand = some k) :
    MoveObtained k s.moveMode s (obtainMove s) := by
  intro a ha
  have hheld : s.run.held = some a := by simpa using ha
  have hheader : (obtainMove s).header = s.header := State.header_congr (by simp) (by simp)
  have hgranted : s.winchGranted = s.loop.grantedTo a := by simp [State.winchGranted, hheld]
  rw [hheader]
  unfold obtainMove
  rw [hgranted]
  split
  · exact handMove_handedOver hmove hheld
  · exact handRun_handedOver _ hheld

theorem MoveObtained.of_granted {k : CmdKind} {m : ReleaseMode} {s u t : State} (h : MoveObtained k m u t)
    (hgranted : ∀ a, u.loop.grantedTo a = s.loop.grantedTo a) : MoveObtained k m s t := by
  intro a ha
  rw [← hgranted]
  exact h a ha

theorem MoveObtained.of_start {k : CmdKind} {m : ReleaseMode} {s u t : State} (h : MoveObtained k m u t)
    (hgrant : u.loop.grant = s.loop.grant) : MoveObtained k m s t :=
  h.of_granted fun a => by simp only [Loop.grantedTo, hgrant]

theorem MoveObtained.carriedOn {k : CmdKind} {m : ReleaseMode} {s u t : State} (h : MoveObtained k m s u)
    (e : CarriedOn u t) (htbl : t.tbl = u.tbl) : MoveObtained k m s t := by
  intro a ha
  rw [State.header_congr htbl (by rw [e.run])]
  have hu := h a (by rwa [e.run] at ha)
  split at hu
  · rw [if_pos ‹_›]
    exact hu.carriedOn e
  · rw [if_neg ‹_›]
    exact hu.carriedOn e

/-! ## Retrieval and aborts -/

theorem enterRetrieve_begun (s : State) : RetrieveBegun s (enterRetrieve s) where
  state := by simp
  vertical := by simp
  timers := by simp [enterRetrieve, Run.enter]
  retrieveAt := by simp [enterRetrieve]
  rotor := by simp [enterRetrieve, Pls.release, Rotor.cancel]
  latches := by simp [enterRetrieve, Pls.release, idleLatch]
  marker := by simp
  held := by simp
  command a ha := handRun_handedOver _ (by simpa using ha)

theorem RetrieveBegun.of_start {s u t : State} (h : RetrieveBegun u t) (now : u.now = s.now) (header : u.header = s.header)
    (marker : u.run.marker = s.run.marker) (held : u.run.held = s.run.held) : RetrieveBegun s t := by
  obtain ⟨hstate, hvertical, htimers, hretrieve, hrotor, hlatches, hmarker, hheld, hcommand⟩ := h
  rw [now, header] at hretrieve
  exact ⟨hstate, hvertical, htimers, hretrieve, hrotor, hlatches, hmarker.trans marker, hheld.trans held,
    fun a ha => hcommand a (held.trans ha)⟩

theorem RetrieveBegun.carriedOn {s u t : State} (h : RetrieveBegun s u) (e : CarriedOn u t) (hpls : t.pls = u.pls) :
    RetrieveBegun s t := by
  obtain ⟨hstate, hvertical, htimers, hretrieve, hrotor, hlatches, hmarker, hheld, hcommand⟩ := h
  rw [← e.run] at hstate hvertical htimers hretrieve hmarker hheld
  rw [← hpls] at hrotor hlatches
  exact ⟨hstate, hvertical, htimers, hretrieve, hrotor, hlatches, hmarker, hheld,
    fun a ha => (hcommand a ha).carriedOn e⟩

theorem RunAborted.carriedOn {cause : RunOutcome} {s u t : State} (h : RunAborted cause s u) (e : CarriedOn u t)
    (hpls : t.pls = u.pls) : RunAborted cause s t :=
  ⟨h.retrieve.carriedOn e hpls, by rw [e.run, h.record]⟩

/-- R150. -/
theorem abortRun_aborted (cause : RunOutcome) {s : State} (h : s.run.state.working = true) :
    RunAborted cause s (abortRun cause s) := by
  unfold abortRun
  rw [if_pos h]
  refine ⟨(enterRetrieve_begun _).of_start (by simp [State.now]) (State.header_congr (by simp) ?_) (by simp) (by simp), ?_⟩
  · simp [Function.comp_def]
  · simp

/-- R151. -/
theorem abortRun_noted (cause : RunOutcome) {s : State} (h : s.run.state.working = false) :
    CauseNoted cause s (abortRun cause s) := by
  unfold abortRun
  rw [if_neg (by simp [h])]
  split
  · next hidle => exact ⟨rfl, rfl, rfl, by rw [if_pos hidle]⟩
  · next hbusy => exact ⟨by simp, by simp, by simp, by rw [if_neg hbusy]; rfl⟩

theorem CauseNoted.carriedOn {cause : RunOutcome} {s u t : State} (h : CauseNoted cause s u) (e : CarriedOn u t)
    (hpls : t.pls = u.pls) : CauseNoted cause s t :=
  ⟨by rw [e.run, h.state], by rw [e.run, h.marker], by rw [hpls, h.pls], by rw [e.run, h.record]⟩

/-- R151: an expiry that has come stays to be taken. -/
theorem abortRun_expiriesStand (cause : RunOutcome) (s : State) : ExpiriesStand s (abortRun cause s) := by
  unfold abortRun
  split
  · constructor <;> intro h <;> simp [State.traverseDue, State.cableDue, enterRetrieve, Run.enter] at h ⊢ <;> tauto
  · split
    · exact ⟨id, id⟩
    · exact ⟨id, id⟩

theorem ExpiriesStand.later {s u t : State} (h : ExpiriesStand s u) (run : t.run = u.run) (clk : t.clk = u.clk) :
    ExpiriesStand s t := by
  obtain ⟨htraverse, hcable⟩ := h
  have htraverseDue : t.traverseDue = u.traverseDue := by simp only [State.traverseDue, State.now, run, clk]
  have hcableDue : t.cableDue = u.cableDue := by simp only [State.cableDue, State.now, run, clk]
  exact ⟨fun hdue => htraverseDue.trans (htraverse hdue), fun hdue => hcableDue.trans (hcable hdue)⟩

end Sys2Proof.Machine
end

section
/-! START-RUN and ABORT-RUN (R131 to R133, R150, R151). -/

namespace Sys2Proof.Machine

set_option Elab.async false

/-! ## START-RUN -/

/-- R137: a move is obtained as TRAVERSE is entered. -/
theorem enterTraverse_obtained (entry x : Nat) (alternate : Bool) (s : State) :
    MoveObtained (.traverseTo x) (ReleaseMode.ofCode s.header.traverseMode) s (enterTraverse entry x alternate s) :=
  (obtainMove_obtained rfl).of_start rfl

@[simp] theorem enterTraverse_traverseAt (entry x : Nat) (alternate : Bool) (s : State) :
    (enterTraverse entry x alternate s).run.traverseAt = some (s.now + 1000 * s.header.traverseTimeout) := by
  simp [enterTraverse]

theorem holderOf_eq_some {view : List Treatment} {table : List Byte} {r : Role} {i : Nat}
    (h : holderOf view table r = some i) :
    activeRole view table i = some r ∧ ∀ j, j < i → activeRole view table j ≠ some r := by
  simp only [holderOf, List.find?_range_eq_some, beq_iff_eq, Bool.not_eq_true', beq_eq_false_iff_ne] at h
  obtain ⟨hrole, -, hbefore⟩ := h
  exact ⟨hrole, hbefore⟩

theorem holderOf_eq_none {view : List Treatment} {table : List Byte} {r : Role} :
    holderOf view table r = none ↔ ∀ i, i < 24 → activeRole view table i ≠ some r := by
  simp [holderOf]

/-- R132: the next MEASURE entry is the first one from there. -/
theorem nextMeasure_first {t : List Byte} {i j : Nat} (h : nextMeasure t i = some j) {k : Nat} (hik : i ≤ k) (hkj : k < j) :
    (planEntry t k).kind ≠ kindMeasure := by
  simp only [nextMeasure, List.head?_filter, List.find?_range_eq_some] at h
  obtain ⟨-, -, hbefore⟩ := h
  simpa [hik] using hbefore k hkj

/-- R132: RUN with marker, address and record of the run that it begins, still in IDLE. -/
def runStarted (n addr : Nat) (s : State) : State :=
  s.setRun
    { s.run with
      marker := some
        { plan := n, planId := u16 (s.tbl.plan n) 0, addr := addr, start := s.clk.time, startValid := s.clk.valid,
          written := false },
      held := some addr,
      record := some
        { plan := n, planId := u16 (s.tbl.plan n) 0, start := s.clk.time, startValid := s.clk.valid,
          startStage := s.stg.selected.map Selected.mm, verticals := [], outcome := none, flags := noGaugeFlags,
          figures := none, fromMarker := false } }

theorem beginRun_eq {n m : Nat} {s : State} (addr : Nat) (h : nextMeasure (s.tbl.plan n) 0 = some m) :
    beginRun n addr s = enterTraverse m (planEntry (s.tbl.plan n) m).x false (runStarted n addr s) := by
  simp only [beginRun, h]
  rfl

theorem runStarted_header (n addr : Nat) (s : State) : (runStarted n addr s).header = planHeader (s.tbl.plan n) := rfl

/-- R132: a run begun, to the end of the event. -/
theorem beginRun_begun {s : State} {n i m : Nat} (hholder : holderOf s.cht.view s.tbl.channels .winch = some i)
    (hfirst : nextMeasure (s.tbl.plan n) 0 = some m) {t : State} (e : CarriedOn (beginRun n s.winchAddr s) t)
    (htbl : t.tbl = s.tbl) : RunBegun n i m s t := by
  have haddr : s.winchAddr = (chanEntry s.tbl.channels i).addr := by simp [State.winchAddr, hholder, State.chan]
  obtain ⟨-, hcount, hkind⟩ := nextMeasure_eq_some hfirst
  have hmove := enterTraverse_obtained m (planEntry (s.tbl.plan n) m).x false (runStarted n s.winchAddr s)
  rw [beginRun_eq _ hfirst] at e
  exact
    { holder := holderOf_eq_some hholder
      first := ⟨hcount, hkind, fun j hj => nextMeasure_first hfirst (Nat.zero_le j) hj⟩
      held := by simp [e.run, runStarted, haddr]
      marker := by simp [e.run, runStarted, haddr]
      record := by simp [e.run, runStarted]
      state := by simp [e.run]
      target := by simp [e.run]
      timer := by
        rw [e.run, enterTraverse_traverseAt, runStarted_header]
        rfl
      move := (hmove.of_start rfl).carriedOn e (by simpa [runStarted] using htbl) }

/-- Settles O21: the refusals are those of `startRefusal`, in its order. -/
theorem startRunIsJudgedInOrder : Obligations.StartRunIsJudgedInOrder := by
  intro s n h
  obtain ⟨t, hexec, hrefused, hbegun⟩ : ∃ t, exec .startRun s = .next t ∧
      (∀ code fields, startRefusal n s = some (code, fields) →
        Replied s t (s.codeInHand :: code :: fields) ∧ RequestFrame [] s t) ∧
      (startRefusal n s = none → t = settle (answer replyOk
        (beNat 2 (u16 (s.tbl.plan n) 0) ++ beNat 4 s.clk.time ++ [boolByte s.clk.valid]) (beginRun n s.winchAddr s))) := by
    have hrow : exec .startRun s = execStartRun s := rfl
    rw [hrow, execStartRun, taken_of_awake h.awake]
    simp only [h.work]
    cases startRefusal n s with
    | some refusal =>
      refine ⟨_, rfl, fun code fields hcode => ?_, by simp⟩
      obtain rfl : refusal = (code, fields) := by simpa using hcode
      exact ⟨h.replied _ _, h.requestFrame _ _⟩
    | none => exact ⟨_, rfl, by simp, fun _ => rfl⟩
  refine ⟨t, hexec, ?_⟩
  unfold startRefusal at hrefused hbegun
  by_cases hidle : s.run.state ≠ .idle
  · rw [if_pos hidle] at hrefused ⊢
    exact hrefused _ _ rfl
  rw [if_neg hidle] at hrefused hbegun ⊢
  by_cases hlevel : cfgStopLevel s.tbl.config ≤ s.wrn.level
  · rw [if_pos (by simpa [State.interlock] using hlevel)] at hrefused
    rw [if_pos hlevel]
    exact hrefused _ _ rfl
  rw [if_neg (by simpa [State.interlock] using hlevel)] at hrefused hbegun
  rw [if_neg hlevel]
  cases hholder : holderOf s.cht.view s.tbl.channels .winch with
  | none =>
    rw [if_pos (holderOf_eq_none.mp hholder)]
    rw [hholder] at hrefused
    exact hrefused _ _ rfl
  | some i =>
    have hheld : ¬ ∀ j, j < 24 → activeRole s.cht.view s.tbl.channels j ≠ some .winch := by
      rw [← holderOf_eq_none, hholder]
      simp
    rw [if_neg hheld]
    rw [hholder] at hrefused hbegun
    cases hfault : planFault (s.tbl.plan n) with
    | some f =>
      rw [hfault] at hrefused
      exact hrefused _ _ rfl
    | none =>
      rw [hfault] at hbegun
      obtain ⟨m, hfirst⟩ := nextMeasure_isSome hfault
      have hwork : WorkedOn [.run] s (beginRun n s.winchAddr s) := { others := .of_blocks }
      obtain ⟨hframe, hreplied⟩ := hwork.answered h replyOk
        (beNat 2 (u16 (s.tbl.plan n) 0) ++ beNat 4 s.clk.time ++ [boolByte s.clk.valid])
      rw [hbegun rfl]
      exact ⟨⟨i, m, beginRun_begun hholder hfirst ((answer_carriedOn _ _ _).trans (settle_carriedOn _)) (by simp)⟩, hframe,
        hreplied⟩

/-! ## ABORT-RUN -/

/-- Settles O22. -/
theorem abortRunAnswersWithTheStateFound : Obligations.AbortRunAnswersWithTheStateFound := by
  intro s h
  have hrow : exec .abortRun s = execAbortRun s := rfl
  rw [hrow, execAbortRun, taken_of_awake h.awake]
  simp only [h.work]
  have hwork : WorkedOn [.run, .pls] s (abortRun .abortedCommand s) := { others := .of_blocks }
  obtain ⟨hframe, hreplied⟩ := hwork.answered h replyOk (beNat 1 s.run.state.code ++ [boolByte s.run.state.working])
  have hon := (answer_carriedOn replyOk (beNat 1 s.run.state.code ++ [boolByte s.run.state.working])
    (abortRun .abortedCommand s)).trans (settle_carriedOn _)
  refine ⟨_, rfl, hframe, hreplied, fun hworks => (abortRun_aborted _ hworks).carriedOn hon (by simp),
    fun hidle => (abortRun_noted _ hidle).carriedOn hon (by simp),
    (abortRun_expiriesStand .abortedCommand s).later (by simp) (by simp)⟩

end Sys2Proof.Machine
end

section
/-! What the level does in an event that computes the target (R48 to R53, R59). -/

namespace Sys2Proof.Machine

set_option Elab.async false

/-! ## A claim once made stands to the end of the event -/

theorem Loop.mayChoose_of_held {l : Loop} (h : l.grant.held = true) : l.mayChoose = false := by
  simp [Loop.mayChoose, Loop.pairFree, h]

theorem choose_of_held {s : State} (h : s.loop.grant.held = true) : choose s = s := by
  simp [choose, Loop.mayChoose_of_held h]

theorem settle_grant_of_held {s : State} (h : s.loop.grant.held = true) : (settle s).loop.grant = s.loop.grant := by
  have hrate : (rateEffect s).loop.grant.held = true := by simpa using h
  simp [settle, settleFrom, choose_of_held hrate]

theorem Loop.claim_claiming {l : Loop} (cause : ClaimCause)
    (h : l.grant.state = .held ∨ l.grant.state = .closing ∨ l.grant.state = .claiming) :
    (l.claim cause).grant.state = .claiming := by
  obtain h | h | h := h
  · simp [Loop.claim, h]
  · simp [Loop.claim, h]
  · unfold Loop.claim
    rw [h]
    cases cause <;> simp [h]

theorem abortRun_claiming (cause : RunOutcome) {s : State} (h : s.loop.grant.state = .claiming) :
    (abortRun cause s).loop.grant.state = .claiming := by
  unfold abortRun
  split
  · simpa using Loop.claim_claiming .runEngine (.inr (.inr h))
  · split
    · exact h
    · exact h

/-! ## What a statement about the level reads, before the event and after -/

/-- Two states from which a statement about the level says the same. -/
structure LevelStart (s s' : State) : Prop where
  level : s'.wrn.level = s.wrn.level := by simp
  standDown : s'.wrn.standDown = s.wrn.standDown := by simp
  silenced : s'.wrn.silenced = s.wrn.silenced := by simp
  test : s'.wrn.test = s.wrn.test := by simp
  tbl : s'.tbl = s.tbl := by simp
  clk : s'.clk = s.clk := by simp
  selected : s'.stg.selected = s.stg.selected := by simp
  latest : s'.rat.latest = s.rat.latest := by simp
  run : s'.run = s.run := by simp
  pls : s'.pls = s.pls := by simp
  grant : s'.loop.grant = s.loop.grant := by simp
  store : s'.store = s.store := by simp

/-- The level, RUN and PLS as the event left them, with the store and what RUN had handed. -/
structure LevelEnd (u t : State) : Prop where
  wrn : t.wrn = u.wrn := by simp
  store : t.store = u.store := by simp
  pls : t.pls = u.pls := by simp
  carried : CarriedOn u t
  claiming : u.loop.grant.state = .claiming → t.loop.grant.state = .claiming

theorem LevelEnd.trans {u v t : State} (h : LevelEnd u v) (k : LevelEnd v t) : LevelEnd u t where
  wrn := k.wrn.trans h.wrn
  store := k.store.trans h.store
  pls := k.pls.trans h.pls
  carried := h.carried.trans k.carried
  claiming hc := k.claiming (h.claiming hc)

theorem LevelEnd.refl (s : State) : LevelEnd s s := ⟨rfl, rfl, rfl, .refl s, id⟩

theorem settle_levelEnd (s : State) : LevelEnd s (settle s) where
  carried := settle_carriedOn s
  claiming h := by rw [settle_grant_of_held (by simp [Grant.held, h]), h]

theorem answer_levelEnd (code : Byte) (fields : List Byte) (s : State) : LevelEnd s (answer code fields s) where
  carried := answer_carriedOn code fields s
  claiming h := by simpa using h

theorem setStg_levelEnd (s : State) (g : Stg) : LevelEnd s (s.setStg g) := ⟨rfl, rfl, rfl, .of_places, id⟩

theorem LevelStart.now {s s' : State} (h : LevelStart s s') : s'.now = s.now := by simp only [State.now, h.clk]

theorem LevelStart.header {s s' : State} (h : LevelStart s s') : s'.header = s.header :=
  State.header_congr h.tbl (by rw [h.run])

section
variable {cause : RunOutcome} {s s' t : State}

theorem RunAborted.of_levelStart (h : RunAborted cause s t) (start : LevelStart s s') : RunAborted cause s' t :=
  ⟨h.retrieve.of_start start.now.symm start.header.symm (by rw [start.run]) (by rw [start.run]),
    by rw [start.run, h.record]⟩

theorem CauseNoted.of_levelStart (h : CauseNoted cause s t) (start : LevelStart s s') : CauseNoted cause s' t := by
  obtain ⟨hstate, hmarker, hpls, hrecord⟩ := h
  rw [← start.run] at hstate hmarker hrecord
  exact ⟨hstate, hmarker, by rw [hpls, start.pls], hrecord⟩

theorem LevelUpheld.of_levelStart (h : LevelUpheld s t) (start : LevelStart s s') : LevelUpheld s' t := by
  obtain ⟨hrise, himposed, hstill, habove, hapart⟩ := h
  rw [← start.level, ← start.tbl, ← start.clk, ← start.selected, ← start.latest, ← start.store] at hrise
  rw [← start.level, ← start.tbl, ← start.run, ← start.grant] at himposed
  rw [← start.level, ← start.silenced, ← start.test, ← start.store] at hstill
  rw [← start.level, ← start.standDown, ← start.test, ← start.store] at habove
  rw [← start.level, ← start.tbl, ← start.run, ← start.pls] at hapart
  refine ⟨hrise, fun hup hstop => ?_, hstill, habove, hapart⟩
  obtain ⟨haborted, hnoted, hclaims⟩ := himposed hup hstop
  exact ⟨fun h => (haborted h).of_levelStart start, fun h => (hnoted h).of_levelStart start, hclaims⟩

theorem LevelMoved.of_levelStart (h : LevelMoved s t) (start : LevelStart s s') : LevelMoved s' t := by
  obtain ⟨hupheld, hstart, hfall⟩ := h
  rw [← start.level, ← start.standDown, ← start.tbl, ← start.test, ← start.store, ← start.now] at hstart
  rw [← start.level, ← start.standDown, ← start.tbl, ← start.silenced, ← start.store, ← start.clk, ← start.selected,
    ← start.latest] at hfall
  exact ⟨hupheld.of_levelStart start, hstart, hfall⟩

end

section
variable {s u t : State}

theorem LevelUpheld.of_levelEnd (h : LevelUpheld s u) (e : LevelEnd u t) : LevelUpheld s t := by
  obtain ⟨hrise, himposed, hstill, habove, hapart⟩ := h
  rw [← e.wrn, ← e.store] at hrise hstill habove
  rw [← e.wrn] at himposed
  rw [← e.wrn, ← e.carried.run, ← e.pls] at hapart
  refine ⟨hrise, fun hup hstop => ?_, hstill, habove, hapart⟩
  obtain ⟨haborted, hnoted, hclaims⟩ := himposed hup hstop
  exact ⟨fun h => (haborted h).carriedOn e.carried e.pls, fun h => (hnoted h).carriedOn e.carried e.pls,
    fun h => e.claiming (hclaims h)⟩

theorem LevelMoved.of_levelEnd (h : LevelMoved s u) (e : LevelEnd u t) : LevelMoved s t := by
  obtain ⟨hupheld, hstart, hfall⟩ := h
  rw [← e.wrn, ← e.store] at hstart hfall
  exact ⟨hupheld.of_levelEnd e, hstart, hfall⟩

end

/-! ## The target (R48) -/

/-- R53: the cause of a rise. -/
theorem riseCause_spec (w : Wrn) (table : List Byte) (level : Nat) :
    RiseCause w table level (w.riseCause table level) := by
  unfold Wrn.riseCause
  cases h : (List.range 12).find? fun i => w.ruleState i == .triggered && (ruleEntry table i).target == level with
  | some i =>
    simp only [List.find?_range_eq_some, Bool.and_eq_true, beq_iff_eq, List.mem_range, Bool.not_eq_true',
      Bool.and_eq_false_iff, beq_eq_false_iff_ne, ne_eq] at h
    obtain ⟨⟨hstate, htarget⟩, hi, hbefore⟩ := h
    exact .inl ⟨i, hi, rfl, hstate, htarget, fun j hj ⟨h1, h2⟩ => (hbefore j hj).elim (· h1) (· h2)⟩
  | none =>
    simp only [List.find?_range_eq_none, Bool.not_eq_true', Bool.and_eq_false_iff, beq_eq_false_iff_ne, ne_eq] at h
    exact .inr ⟨rfl, fun i hi ⟨h1, h2⟩ => (h i hi).elim (· h1) (· h2)⟩

theorem applyTarget_target (s : State) :
    (applyTarget s).wrn.target = s.wrn.targetOf s.tbl.rules ∧
      (applyTarget s).wrn.target = (applyTarget s).wrn.targetOf s.tbl.rules := by
  have htarget : (applyTarget s).wrn.target = s.wrn.targetOf s.tbl.rules := by
    obtain ⟨-, heq⟩ | ⟨-, heq⟩ | ⟨-, heq⟩ := applyTarget_cases s <;> rw [heq]
    · simp [withTarget]
    · simp [withTarget]
    · rfl
  exact ⟨htarget, by rw [htarget, Wrn.targetOf_congr (w' := (applyTarget s).wrn) (w := s.wrn) (by simp) (by simp)]⟩

/-- R59: what the interlock imposes. -/
theorem imposeInterlock_spec (s : State) :
    (s.run.state.working = true → RunAborted .abortedWarning s (imposeInterlock s)) ∧
      (s.run.state.working = false → CauseNoted .abortedWarning s (imposeInterlock s)) ∧
      (s.loop.grant.state = .held ∨ s.loop.grant.state = .closing →
        (imposeInterlock s).loop.grant.state = .claiming) := by
  have hclaimed : (s.setLoop (s.loop.claim .warning)).run = s.run := rfl
  refine ⟨fun h => ?_, fun h => ?_, fun h => ?_⟩
  · obtain ⟨hretrieve, hrecord⟩ := abortRun_aborted .abortedWarning (s := s.setLoop (s.loop.claim .warning)) h
    exact ⟨hretrieve.of_start rfl rfl rfl rfl, hrecord⟩
  · obtain ⟨hstate, hmarker, hpls, hrecord⟩ := abortRun_noted .abortedWarning (s := s.setLoop (s.loop.claim .warning)) h
    exact ⟨hstate, hmarker, hpls, hrecord⟩
  · refine abortRun_claiming _ (Loop.claim_claiming .warning ?_)
    exact h.imp_right .inl

/-- R49, R53: RUN and PLS after a rise. -/
theorem rise_spec (target : Nat) (s : State) :
    (cfgStopLevel s.tbl.config ≤ target →
      (s.run.state.working = true → RunAborted .abortedWarning s (rise target s)) ∧
      (s.run.state.working = false → CauseNoted .abortedWarning s (rise target s)) ∧
      (s.loop.grant.state = .held ∨ s.loop.grant.state = .closing →
        (rise target s).loop.grant.state = .claiming)) ∧
    (target < cfgStopLevel s.tbl.config → (rise target s).run = s.run ∧ (rise target s).pls = s.pls) := by
  unfold rise
  dsimp only
  generalize hrisen : drive (warnRecord s.wrn.level target (s.wrn.riseCause s.tbl.rules target)
    (s.setWrn { s.wrn with level := target, standDown := none, silenced := false, test := none })) = u
  have hrun : u.run = s.run := by simp [← hrisen]
  have hloop : u.loop = s.loop := by simp [← hrisen]
  have htbl : u.tbl = s.tbl := by simp [← hrisen]
  have hpls : u.pls = s.pls := by simp [← hrisen]
  have hclk : u.clk = s.clk := by simp [← hrisen]
  refine ⟨fun hstop => ?_, fun hbelow => ?_⟩
  · rw [if_pos (by rwa [htbl])]
    obtain ⟨haborted, hnoted, hclaims⟩ := imposeInterlock_spec u
    rw [hrun] at haborted hnoted
    rw [hloop] at hclaims
    refine ⟨fun h => ?_, fun h => ?_, hclaims⟩
    · obtain ⟨hretrieve, hrecord⟩ := haborted h
      exact ⟨hretrieve.of_start (by simp [State.now, hclk]) (State.header_congr htbl (by rw [hrun])) (by rw [hrun])
        (by rw [hrun]), by rw [hrecord, hrun]⟩
    · obtain ⟨hstate, hmarker, hp, hrecord⟩ := hnoted h
      exact ⟨by rw [hstate, hrun], by rw [hmarker, hrun], by rw [hp, hpls], by rw [hrecord, hrun]⟩
  · rw [if_neg (by rw [htbl]; omega)]
    exact ⟨hrun, hpls⟩

theorem RiseCause.congr {w w' : Wrn} {table : List Byte} {level : Nat} {c : WarnCause} (h : RiseCause w table level c)
    (rules : w'.rules = w.rules) : RiseCause w' table level c := by
  unfold RiseCause Wrn.ruleState at *
  rwa [rules]

theorem applyTarget_target_le (s : State) : (applyTarget s).wrn.target ≤ (applyTarget s).wrn.level := by
  obtain ⟨-, heq⟩ | ⟨hfall, heq⟩ | ⟨hstill, heq⟩ := applyTarget_cases s <;> rw [heq]
  · simp [withTarget]
  · obtain ⟨-, heq⟩ | ⟨-, -, -, heq⟩ | ⟨-, -, -, heq⟩ := startStandDown_cases (withTarget s) <;> rw [heq]
    · simpa [withTarget] using hfall.le
    · simp
    · simpa [withTarget] using hfall.le
  · simp [hstill]

/-- R48, R49, R53, R59: the event in which the target is computed, but for a stand-down that starts. -/
theorem applyTarget_upheld (s : State) : LevelUpheld s (applyTarget s) := by
  obtain ⟨htarget, -⟩ := applyTarget_target s
  constructor
  case rise =>
    rw [htarget]
    intro hup
    obtain ⟨-, heq⟩ | ⟨hfall, -⟩ | ⟨hstill, -⟩ := applyTarget_cases s
    · rw [heq]
      exact ⟨by simp, by simp, by simp, by simp, _, (riseCause_spec (withTarget s).wrn _ _).congr (by simp), by
        simp [withTarget, levelRecord]⟩
    · omega
    · omega
  case imposed =>
    rw [htarget]
    intro hup hstop
    obtain ⟨-, heq⟩ | ⟨hfall, -⟩ | ⟨hstill, -⟩ := applyTarget_cases s
    · rw [heq]
      obtain ⟨hspec, -⟩ := rise_spec (s.wrn.targetOf s.tbl.rules) (withTarget s)
      obtain ⟨haborted, hnoted, hclaims⟩ := hspec hstop
      have hstart : LevelStart (withTarget s) s := ⟨rfl, rfl, rfl, rfl, rfl, rfl, rfl, rfl, rfl, rfl, rfl, rfl⟩
      exact ⟨fun h => (haborted h).of_levelStart hstart, fun h => (hnoted h).of_levelStart hstart, hclaims⟩
    · omega
    · omega
  case still =>
    rw [htarget]
    intro hstands
    obtain ⟨hrise, -⟩ | ⟨hfall, -⟩ | ⟨-, heq⟩ := applyTarget_cases s
    · omega
    · omega
    · rw [heq]
      exact ⟨rfl, rfl, rfl, rfl, rfl⟩
  case above =>
    rw [htarget]
    intro hfall hruns
    obtain ⟨hrise, -⟩ | ⟨-, heq⟩ | ⟨hstill, -⟩ := applyTarget_cases s
    · omega
    · rw [heq]
      obtain ⟨-, heq⟩ | ⟨hnone, -⟩ | ⟨hnone, -⟩ := startStandDown_cases (withTarget s)
      · rw [heq]
        exact ⟨rfl, rfl, rfl, rfl⟩
      · simp [show s.wrn.standDown = none from hnone] at hruns
      · simp [show s.wrn.standDown = none from hnone] at hruns
    · omega
  case apart =>
    rw [htarget]
    intro hapart
    obtain ⟨hrise, heq⟩ | ⟨-, heq⟩ | ⟨-, heq⟩ := applyTarget_cases s
    · rw [heq]
      obtain ⟨-, hspec⟩ := rise_spec (s.wrn.targetOf s.tbl.rules) (withTarget s)
      exact hspec (hapart.resolve_right (by omega))
    · rw [heq]
      simp [withTarget]
    · rw [heq]
      simp

/-- R50, R51: with the level above the target, no stand-down timer running and no reset hold, the stand-down begins. -/
theorem applyTarget_standsDown {s : State} (hopen : s.wrn.resetHold = false)
    (hfall : s.wrn.targetOf s.tbl.rules < s.wrn.level) (hnone : s.wrn.standDown = none) :
    applyTarget s =
      if cfgStandDown s.tbl.config s.wrn.level = 0 then standDownFall (withTarget s)
      else (withTarget s).setWrn
        { (withTarget s).wrn with
          standDown := some
            { start := s.now, level := s.wrn.level, expiry := s.now + cfgStandDown s.tbl.config s.wrn.level } } := by
  obtain ⟨hrise, -⟩ | ⟨-, heq⟩ | ⟨hstill, -⟩ := applyTarget_cases s
  · omega
  · rw [heq]
    obtain ⟨hruns | hholds, -⟩ | ⟨-, -, hzero, heq⟩ | ⟨-, -, hlong, heq⟩ := startStandDown_cases (withTarget s)
    · simp [withTarget, hnone] at hruns
    · simp [withTarget, hopen] at hholds
    · exact heq.trans (if_pos hzero).symm
    · exact heq.trans (if_neg hlong).symm
  · omega

/-- R50, R51: the same in an evaluation event, after which the reset hold does not stand. -/
theorem applyTarget_moved {s : State} (hopen : s.wrn.resetHold = false) : LevelMoved s (applyTarget s) := by
  obtain ⟨htarget, -⟩ := applyTarget_target s
  refine ⟨applyTarget_upheld s, fun hfall hnone htime => ?_, fun hfall hnone htime => ?_⟩
  · rw [htarget] at hfall
    rw [applyTarget_standsDown hopen hfall hnone, if_neg htime]
    exact ⟨rfl, rfl, rfl, rfl⟩
  · rw [htarget] at hfall
    rw [applyTarget_standsDown hopen hfall hnone, if_pos htime]
    simp [withTarget, levelRecord]

/-- R63: under the reset hold nothing starts below the level. -/
theorem applyTarget_held {s : State} (hhold : s.wrn.resetHold = true) (hfall : (applyTarget s).wrn.target < s.wrn.level) :
    (applyTarget s).wrn.level = s.wrn.level ∧ (applyTarget s).wrn.standDown = s.wrn.standDown ∧
      (applyTarget s).wrn.test = s.wrn.test ∧ (applyTarget s).wrn.silenced = s.wrn.silenced ∧
      (applyTarget s).store = s.store := by
  obtain ⟨htarget, -⟩ := applyTarget_target s
  rw [htarget] at hfall
  obtain ⟨hrise, -⟩ | ⟨-, heq⟩ | ⟨hstill, -⟩ := applyTarget_cases s
  · omega
  · rw [heq, startStandDown, if_pos (by simp [withTarget, hhold])]
    exact ⟨rfl, rfl, rfl, rfl, rfl⟩
  · omega

end Sys2Proof.Machine
end

section
/-! The rows of the warning unit: writes to RULES and PATTERNS, the history step, the stand-down and the test (R17, R43,
R45, R51, R54, R58). -/

namespace Sys2Proof.Machine

set_option Elab.async false

theorem EventFrame.of_changes {bs : List Block} {s t : State} (others : ChangesOnly (.loop :: .ctl :: bs) s t)
    (ctl : s.ctl.QueueKept t.ctl := by constructor <;> simp) (loop : s.loop.LineKept t.loop := by constructor <;> simp) :
    EventFrame bs s t :=
  ⟨others, fun _ => ctl, fun _ => loop⟩

/-! ## Rules by their number -/

theorem getD_zipIdx_map {f : RuleState × Nat → RuleState} {rules : List RuleState} {i : Nat} (hi : i < rules.length) :
    (rules.zipIdx.map f).getD i .off = f (rules.getD i .off, i) := by
  simp [List.getD_eq_getElem?_getD, hi]

/-- R46: an evaluation, rule by rule. -/
theorem ruleState_evaluate {w : Wrn} (h : w.rules.length = 12) (table : List Byte) (value : RuleEntry → Option Int)
    {i : Nat} (hi : i < 12) :
    (w.evaluate table value).ruleState i =
      (value (ruleEntry table i)).elim (w.ruleState i) fun v => (w.ruleState i).next (ruleEntry table i) v := by
  rw [Wrn.ruleState, Wrn.evaluate, getD_zipIdx_map (by omega)]
  cases h : value (ruleEntry table i) <;> simp [h, Wrn.ruleState]

/-- R46, Table 24. -/
theorem ruleMoved_next (e : RuleEntry) (v : Option Int) (a : RuleState) :
    RuleMoved e v a (v.elim a fun x => a.next e x) := by
  cases v with
  | none => rfl
  | some x => cases a <;> simp [RuleMoved, RuleState.next, eq_comm]

theorem ruleState_congr {w w' : Wrn} (h : w'.rules = w.rules) (i : Nat) : w'.ruleState i = w.ruleState i := by
  rw [Wrn.ruleState, h, Wrn.ruleState]

/-! ## A write to RULES (R43) -/

/-- WRN with the rules examined that the write has touched. -/
def rulesExamined (off len : Nat) (s : State) : State :=
  s.setWrn
    { s.wrn with
      rules :=
        s.wrn.rules.zipIdx.map fun (st, i) => if ruleWritten off len i then examined (ruleEntry s.tbl.rules i) else st }

theorem rulesWritten_eq (off len : Nat) (s : State) : rulesWritten off len s = applyTarget (rulesExamined off len s) := rfl

theorem ruleState_rulesExamined {s : State} (h : s.wrn.rules.length = 12) (off len : Nat) {i : Nat} (hi : i < 12) :
    (rulesExamined off len s).wrn.ruleState i =
      if 14 * i < off + len ∧ off < 14 * i + 14 then (if (ruleEntry s.tbl.rules i).valid then .armed else .off)
      else s.wrn.ruleState i := by
  rw [Wrn.ruleState, rulesExamined, State.setWrn_wrn, getD_zipIdx_map (by omega)]
  simp [ruleWritten, examined, Wrn.ruleState]

/-- Settles O17. -/
theorem writeTableRulesAndPatternsAct : Obligations.WriteTableRulesAndPatternsAct := by
  refine ⟨fun s off data h hfits => ?_, fun s off data h hfits => ?_⟩
  · have hrow : exec .writeTableRules s = execWriteTableRules s := rfl
    rw [hrow, execWriteTableRules, taken_of_awake h.awake]
    simp only [h.work]
    generalize hu : s.setTbl { s.tbl with rules := writeBytes s.tbl.rules off data } = u
    have hwork : WorkedOn [.tbl, .wrn, .pls, .run, .store] s (rulesWritten off data.length u) := by
      rw [← hu]
      exact { others := .of_blocks }
    obtain ⟨hframe, hreplied⟩ := hwork.answered h replyOk (beNat 1 5 ++ beNat 2 off ++ beNat 1 data.length)
    have hend := (answer_levelEnd replyOk (beNat 1 5 ++ beNat 2 off ++ beNat 1 data.length)
      (rulesWritten off data.length u)).trans (settle_levelEnd _)
    rw [← answerWrite] at hframe hreplied hend
    have htbl : (settle (answerWrite 5 off data (rulesWritten off data.length u))).tbl = u.tbl := by simp
    have hstart : LevelStart (rulesExamined off data.length u) (s.setTbl u.tbl) := by
      rw [← hu]
      constructor <;> simp [rulesExamined]
    have hexamined : (rulesExamined off data.length u).tbl = u.tbl := rfl
    have hhold : (rulesExamined off data.length u).wrn.resetHold = s.wrn.resetHold := by rw [← hu]; rfl
    obtain ⟨-, htarget⟩ := applyTarget_target (rulesExamined off data.length u)
    have hle := applyTarget_target_le (rulesExamined off data.length u)
    rw [← rulesWritten_eq, ← hend.wrn] at hle
    rw [← rulesWritten_eq, ← hend.wrn, hexamined] at htarget
    refine ⟨_, rfl, ?_, hreplied, ?_, hframe.ctl, hframe.loop, hframe.upl, ?_, hle, ?_, ?_, ?_, fun hopen => ?_,
      fun hheld hfall => ?_, fun i hi hlength => ?_⟩
    · exact .of_setBytes ⟨by decide, by decide, by decide⟩ hfits (by rw [htbl, ← hu]; rfl) (by simp [← hu])
        (by simp [← hu])
    · rw [← hu]
      exact .of_blocks
    · rw [htbl, htarget]
    · simp [← hu]
    · simp [← hu]
    · rw [htbl]
      exact ((applyTarget_upheld _).of_levelStart hstart).of_levelEnd hend
    · rw [htbl]
      exact ((applyTarget_moved (hhold.trans hopen)).of_levelStart hstart).of_levelEnd hend
    · have hlevel : (rulesExamined off data.length u).wrn.level = s.wrn.level := by rw [← hu]; rfl
      rw [hend.wrn, ← hlevel] at hfall
      have hstands := applyTarget_held (hhold.trans hheld) hfall
      rw [← rulesWritten_eq, ← hend.wrn, ← hend.store] at hstands
      rw [← hu] at hstands ⊢
      exact hstands
    · have hwrn : u.wrn = s.wrn := by rw [← hu]; rfl
      have hlength' : u.wrn.rules.length = 12 := by rw [hwrn, hlength]
      have hrules := ruleState_congr (w := (rulesExamined off data.length u).wrn)
        (w' := (settle (answerWrite 5 off data (rulesWritten off data.length u))).wrn) (by simp [rulesWritten_eq]) i
      rw [hrules, ruleState_rulesExamined hlength' _ _ hi, htbl, hwrn]
  · have hrow : exec .writeTablePatterns s = execWriteTablePatterns s := rfl
    rw [hrow, execWriteTablePatterns, taken_of_awake h.awake]
    simp only [h.work]
    generalize hu : s.setTbl { s.tbl with patterns := writeBytes s.tbl.patterns off data } = u
    have hwork : WorkedOn [.tbl, .wrn] s (drive u) := by
      rw [← hu]
      exact { others := .of_blocks }
    obtain ⟨hframe, hreplied⟩ := hwork.answered h replyOk (beNat 1 6 ++ beNat 2 off ++ beNat 1 data.length)
    rw [← answerWrite] at hframe hreplied
    refine ⟨_, rfl, ?_, hframe, hreplied, by simp [drive_wrn, ← hu], ?_⟩
    · exact .of_setBytes ⟨by decide, by decide, by decide⟩ hfits (by simp [← hu]; rfl) (by simp [← hu]) (by simp [← hu])
    · have hdriven : (settle (answerWrite 6 off data (drive u))).wrn.outputs = u.wrn.outputsOf u.tbl.patterns := by
        simp [drive_wrn]
      have htbl : (settle (answerWrite 6 off data (drive u))).tbl = u.tbl := by simp
      have hwrn : u.wrn = s.wrn := by rw [← hu]; rfl
      rw [hdriven, htbl, hwrn]
      cases htest : s.wrn.test <;> simp [Wrn.outputsOf, htest]

/-! ## The history step (R17, R45) -/

/-- Settles O27. -/
theorem historyStepEvaluatesTheRiseRules : Obligations.HistoryStepEvaluatesTheRiseRules := by
  intro s hawake hdue hlength
  have hexec : exec .historyStep s = .next (settle (wrnHistory (enterHistory s))) := by
    have hrow : exec .historyStep s = execHistoryStep s := rfl
    rw [hrow, execHistoryStep, taken_of_awake hawake, if_pos (by simpa [State.historyDue] using hdue)]
  rw [wrnHistory, endEvaluation_setWrn] at hexec
  have hmoved := applyTarget_moved (s := (enterHistory s).setWrn
    { (enterHistory s).wrn.evaluate (enterHistory s).tbl.rules
        (riseValue (enterHistory s).stg.history (cfgHistoryStep (enterHistory s).tbl.config)) with
      resetHold := false }) rfl
  have htarget := applyTarget_target ((enterHistory s).setWrn
    { (enterHistory s).wrn.evaluate (enterHistory s).tbl.rules
        (riseValue (enterHistory s).stg.history (cfgHistoryStep (enterHistory s).tbl.config)) with
      resetHold := false })
  refine ⟨_, hexec, (EventFrame.of_changes .of_blocks).settle, by constructor <;> simp, by simp, by simp,
    by simp [enterHistory, State.stageNow], by simp [enterHistory], fun i hi => ?_, by simp, by simp [Wrn.evaluate], ?_, ?_⟩
  · have hrules : (settle (applyTarget ((enterHistory s).setWrn
        { (enterHistory s).wrn.evaluate (enterHistory s).tbl.rules
            (riseValue (enterHistory s).stg.history (cfgHistoryStep (enterHistory s).tbl.config)) with
          resetHold := false }))).wrn.ruleState i =
        (s.wrn.evaluate s.tbl.rules
          (riseValue (enterHistory s).stg.history (cfgHistoryStep s.tbl.config))).ruleState i :=
      ruleState_congr (by simp) i
    rw [hrules, ruleState_evaluate hlength _ _ hi]
    simpa using ruleMoved_next _ _ _
  · simpa using htarget.2
  · exact (hmoved.of_levelStart (by constructor <;> simp [Wrn.evaluate])).of_levelEnd (settle_levelEnd _)

/-! ## The stand-down and the test (R51, R58) -/

/-- Settles O28. -/
theorem standDownAndTestEndReleaseTheOutputs : Obligations.StandDownAndTestEndReleaseTheOutputs := by
  refine ⟨fun s d hawake hstand hpast => ?_, fun s w hawake htest hpast => ?_⟩
  · have hdue : s.standDownDue = true := by simpa [State.standDownDue, hstand, dueAt] using hpast
    have hexec : exec .standDownExpiry s = .next (standDownFall s) := by
      have hrow : exec .standDownExpiry s = execStandDownExpiry s := rfl
      rw [hrow, execStandDownExpiry, taken_of_awake hawake, if_pos hdue]
    exact ⟨_, hexec, .of_blocks, by constructor <;> simp, by simp, by simp, by simp,
      by simp [Wrn.outputsOf], by simp [levelRecord]⟩
  · have hdue : s.testDue = true := by simpa [State.testDue, htest, dueAt] using hpast
    have hexec : exec .warningTestEnd s = .next (drive (s.setWrn { s.wrn with test := none })) := by
      have hrow : exec .warningTestEnd s = execWarningTestEnd s := rfl
      rw [hrow, execWarningTestEnd, taken_of_awake hawake, if_pos hdue]
    exact ⟨_, hexec, .of_blocks, by simp [drive_wrn], Wrn.outputsOf_of_noTest (w := { s.wrn with test := none }) rfl⟩

end Sys2Proof.Machine
end

section
/-! The selected stage: what it brings when it is handed on, and what an acceptance and the spike rule make of a sample
(R3, R4, R8 to R13, R44). -/

namespace Sys2Proof.Machine

set_option Elab.async false

/-! ## A new selected stage (R12, R44) -/

/-- A state from which a new selected stage brings the warning unit the same. -/
structure PublishStart (s u : State) : Prop where
  tbl : u.tbl = s.tbl := by simp
  clk : u.clk = s.clk := by simp
  rat : u.rat = s.rat := by simp
  wrn : u.wrn = s.wrn := by simp
  run : u.run = s.run := by simp
  pls : u.pls = s.pls := by simp
  grant : u.loop.grant = s.loop.grant := by simp

theorem PublishStart.discharge {s u : State} (h : PublishStart s u) (mm : Int) : u.discharge mm = s.discharge mm := by
  simp only [State.discharge, h.rat, h.clk]

/-- R44: the evaluation at a new selected stage. -/
theorem wrnStage_eq (stage : Int) (discharge : Option Nat) (s : State) :
    wrnStage stage discharge s =
      applyTarget
        (s.setWrn
          { ({ s.wrn with stageLost := false }.evaluate s.tbl.rules (stageValue stage discharge)) with
            resetHold := false }) := rfl

section
variable {u : State} {v : Selected} (hv : u.stg.selectedValue (cfgAlignLimit u.tbl.config) = some v)
include hv

theorem publish_eq :
    publish u =
      (wrnStage v.mm (u.discharge v.mm).discharge
        ((u.setStg { u.stg with selected := some v }).setRat { u.rat with latest := some (u.discharge v.mm) })).setStg
      { u.stg with selected := some v, acc := u.stg.acc.add v (u.discharge v.mm) } := by
  rw [publish, hv]
  simp [State.discharge]

theorem publish_stg :
    (publish u).stg = { u.stg with selected := some v, acc := u.stg.acc.add v (u.discharge v.mm) } := by
  rw [publish_eq hv, State.setStg_stg]

theorem publish_rat : (publish u).rat = { u.rat with latest := some (u.discharge v.mm) } := by
  rw [publish_eq hv]
  simp

/-- R44, R46, R48 to R51: what the warning unit makes of a new selected stage. -/
theorem publish_evaluated {s : State} (h : PublishStart s u) : StageEvaluated u.store s (publish u) := by
  have hstg := publish_stg hv
  have hrat := publish_rat hv
  generalize hgiven : (((u.setStg { u.stg with selected := some v }).setRat
      { u.rat with latest := some (u.discharge v.mm) }).setWrn
    { ({ u.wrn with stageLost := false }.evaluate u.tbl.rules (stageValue v.mm (u.discharge v.mm).discharge)) with
      resetHold := false }) = g
  have hpublish : publish u =
      (applyTarget g).setStg { u.stg with selected := some v, acc := u.stg.acc.add v (u.discharge v.mm) } := by
    rw [publish_eq hv, wrnStage_eq, ← hgiven]
    rfl
  have hwrn : (publish u).wrn = (applyTarget g).wrn := by rw [hpublish, State.setStg_wrn]
  have htbl : g.tbl = s.tbl := by simp [← hgiven, h.tbl]
  constructor
  case rules =>
    intro hlength v' hv' i hi
    obtain rfl : v = v' := by simpa [hstg] using hv'
    have hrules : (publish u).wrn.rules = g.wrn.rules := by rw [hwrn]; simp
    have hstate : (publish u).wrn.ruleState i =
        (s.wrn.evaluate s.tbl.rules (stageValue v.mm (s.discharge v.mm).discharge)).ruleState i := by
      rw [ruleState_congr hrules i, ← hgiven, ← h.discharge, ← h.tbl, ← h.wrn]
      rfl
    rw [hstate, ruleState_evaluate hlength _ _ hi]
    exact ruleMoved_next _ _ _
  case target => rw [hwrn, ← htbl, (applyTarget_target g).2]
  case resetHold => rw [hwrn]; simp [← hgiven]
  case stageLost => rw [hwrn]; simp [← hgiven]
  case level =>
    have hstart : LevelStart g (((s.setStg (publish u).stg).setRat (publish u).rat).setStore u.store) := by
      rw [hstg, hrat, ← hgiven]
      constructor <;> simp [Wrn.evaluate, h.tbl, h.clk, h.wrn, h.run, h.pls, h.grant]
    have hmoved : LevelMoved g (publish u) := by
      rw [hpublish]
      exact (applyTarget_moved (by rw [← hgiven]; rfl)).of_levelEnd (setStg_levelEnd ..)
    exact hmoved.of_levelStart hstart

end

theorem StageEvaluated.of_levelEnd {st : Store} {s u t : State} (h : StageEvaluated st s u) (e : LevelEnd u t)
    (stg : t.stg = u.stg) (rat : t.rat = u.rat) : StageEvaluated st s t := by
  obtain ⟨hrules, htarget, hhold, hlost, hlevel⟩ := h
  refine ⟨?_, ?_, ?_, ?_, ?_⟩
  · rwa [stg, e.wrn]
  · rwa [e.wrn]
  · rwa [e.wrn]
  · rwa [e.wrn]
  · rw [stg, rat]
    exact hlevel.of_levelEnd e

/-- R11, R12, R19, R36, R44. -/
theorem publish_published {s u : State} {v : Selected}
    (hv : u.stg.selectedValue (cfgAlignLimit u.tbl.config) = some v) (start : PublishStart s u)
    (frame : EventFrame [.stg, .rat, .wrn, .run, .pls, .store, .upl] s (publish u))
    (port : s.upl.PortKept (publish u).upl := by constructor <;> simp) : Published u.stg v u.store s (publish u) where
  frame := frame
  port := port
  stage := by rw [publish_stg hv, start.discharge]
  discharge := by rw [publish_rat hv, start.discharge, start.rat]
  warning := publish_evaluated hv start

end Sys2Proof.Machine
end

section
/-! Acceptances and the spike rule (R3, R4, R8 to R11). -/

namespace Sys2Proof.Machine

set_option Elab.async false

/-- R10. -/
theorem Stg.align_eq {g : Stg} {v : Sample} {o : Int}
    (valid : ∀ p, g.prim.state = .valid → g.prim.last = some p → o = p.mm - v.mm)
    (other : g.prim.state ≠ .valid ∨ g.prim.last = none → o = g.offset) : g.align v = { g with offset := o } := by
  unfold Stg.align
  split
  · next p hstate hlast => rw [valid p hstate hlast]
  · next hnot =>
    cases hlast : g.prim.last with
    | none => rw [other (.inr hlast)]
    | some p => rw [other (.inl fun hstate => hnot p hstate hlast)]

@[simp] theorem Stg.source_setSource (g : Stg) (src : Source) (r : SourceRec) : (g.setSource src r).source src = r := by
  cases src <;> rfl

theorem Stg.source_setSource_ne {g : Stg} {src o : Source} (h : o ≠ src) (r : SourceRec) :
    (g.setSource src r).source o = g.source o := by
  cases src <;> cases o
  case primary.secondary | secondary.primary => rfl
  case primary.primary | secondary.secondary => exact absurd rfl h

theorem Stg.source_congr {g g' : Stg} (hprim : g'.prim = g.prim) (hsec : g'.sec = g.sec) (o : Source) :
    g'.source o = g.source o := by
  cases o
  · exact hprim
  · exact hsec

/-- R4: an acceptance sets the record of its source. -/
theorem accept_source (src : Source) (v : Sample) (t : Nat) (s : State) (o : Source) :
    (accept src v t s).stg.source o = (s.stg.setSource src (acceptedSource src v t s)).source o := by
  refine Stg.source_congr ?_ ?_ o <;> rw [accept_eq] <;> split <;> simp

theorem accept_of_follows {src : Source} {v : Sample} {t : Nat} {s u : State} (h : acceptedState src v t s = u)
    (hfollows : u.stg.selection.follows src = true) : accept src v t s = publish u := by
  rw [accept_eq, h, if_pos hfollows]

theorem accept_of_not_follows {src : Source} {v : Sample} {t : Nat} {s u : State} (h : acceptedState src v t s = u)
    (hfollows : u.stg.selection.follows src = false) : accept src v t s = u := by
  rw [accept_eq, h, if_neg (by simp [hfollows])]

/-! ## What becomes of the selection (R8 to R10) -/

/-- The stage unit with the record of an accepted sample, before the selection follows. -/
def acceptedStg (src : Source) (v : Sample) (t : Nat) (s : State) : Stg :=
  s.stg.setSource src (acceptedSource src v t s)

/-- R12: the selected stage of PRIMARY. -/
def ownStage (v : Sample) : Selected :=
  { mm := v.mm, clamped := v.clamped, alignLimit := false, secondaryUsed := false }

/-- The store with the notice of R9. -/
def restoredStore (src : Source) (s : State) : Store :=
  s.store.append (.notice { time := s.clk.time, valid := s.clk.valid, body := .stageRestored src })

theorem accept_primary_selected {v : Sample} {t : Nat} {s : State} (h : s.stg.selection = .primary) :
    Published (acceptedStg .primary v t s) (ownStage v) s.store s (accept .primary v t s) := by
  have haccepted : acceptedState .primary v t s = s.setStg (acceptedStg .primary v t s) := by
    simp [acceptedState, selectAfter, acceptedStg, h]
  rw [accept_of_follows haccepted (by simp [acceptedStg, h, Selection.follows])]
  refine publish_published (u := s.setStg (acceptedStg .primary v t s)) ?_ {} (.of_changes .of_blocks)
  simp [Stg.selectedValue, acceptedStg, h, Stg.setSource, acceptedSource, ownStage]

/-- R8. -/
theorem accept_primary_recovering {v : Sample} {t : Nat} {s : State} (h : s.stg.selection = .secondary)
    (hcount : s.stg.recovery + 1 < cfgRecovery s.tbl.config) :
    accept .primary v t s = s.setStg { acceptedStg .primary v t s with recovery := s.stg.recovery + 1 } := by
  refine accept_of_not_follows ?_ (by simp [acceptedStg, h, Selection.follows])
  simp [acceptedState, selectAfter, acceptedStg, h, hcount, State.setStg]

/-- R8. -/
theorem accept_primary_recovered {v : Sample} {t : Nat} {s : State} (h : s.stg.selection = .secondary)
    (hcount : cfgRecovery s.tbl.config ≤ s.stg.recovery + 1) :
    Published { acceptedStg .primary v t s with selection := .primary, recovery := 0 } (ownStage v) s.store s
      (accept .primary v t s) := by
  have haccepted : acceptedState .primary v t s =
      s.setStg { acceptedStg .primary v t s with selection := .primary, recovery := 0 } := by
    simp [acceptedState, selectAfter, acceptedStg, h, hcount, State.setStg]
  rw [accept_of_follows haccepted rfl]
  refine publish_published (u := s.setStg { acceptedStg .primary v t s with selection := .primary, recovery := 0 }) ?_ {}
    (.of_changes .of_blocks)
  simp [Stg.selectedValue, acceptedStg, Stg.setSource, acceptedSource, ownStage]

/-- R9: stage is restored by PRIMARY. -/
theorem accept_primary_restores {v : Sample} {t : Nat} {s : State} (h : s.stg.selection = .none) :
    Published { acceptedStg .primary v t s with selection := .primary } (ownStage v) (restoredStore .primary s) s
      (accept .primary v t s) := by
  have haccepted : acceptedState .primary v t s = restoreStage .primary (s.setStg (acceptedStg .primary v t s)) := by
    simp [acceptedState, selectAfter, acceptedStg, h]
  rw [accept_of_follows haccepted (by simp [restoreStage, Selection.follows])]
  generalize hu : restoreStage .primary (s.setStg (acceptedStg .primary v t s)) = u
  have hstg : u.stg = { acceptedStg .primary v t s with selection := .primary } := by simp [← hu, restoreStage]
  have hstore : u.store = restoredStore .primary s := by simp [← hu, restoreStage, appendNotice, restoredStore]
  rw [← hstg, ← hstore]
  refine publish_published ?_ (by rw [← hu]; exact {}) (by rw [← hu]; exact .of_changes .of_blocks)
    (by rw [← hu]; constructor <;> simp)
  simp [Stg.selectedValue, hstg, acceptedStg, Stg.setSource, acceptedSource, ownStage]

section
variable {v : Sample} {t : Nat} {s : State} {o : Int}
  (valid : ∀ p, s.stg.prim.state = .valid → s.stg.prim.last = some p → o = p.mm - v.mm)
  (other : s.stg.prim.state ≠ .valid ∨ s.stg.prim.last = none → o = s.stg.offset)
include valid other

/-- R10: SECONDARY sets the alignment offset. -/
theorem accept_secondary_aligns (h : s.stg.selection = .primary) :
    accept .secondary v t s = s.setStg { acceptedStg .secondary v t s with offset := o } := by
  refine accept_of_not_follows ?_ (by simp [acceptedStg, h, Selection.follows])
  have halign : (acceptedStg .secondary v t s).align v = { acceptedStg .secondary v t s with offset := o } :=
    Stg.align_eq valid other
  rw [← halign]
  simp [acceptedState, selectAfter, acceptedStg, h, State.setStg]

theorem accept_secondary_selected (h : s.stg.selection = .secondary) :
    Published { acceptedStg .secondary v t s with offset := o } (aligned (cfgAlignLimit s.tbl.config) o v) s.store s
      (accept .secondary v t s) := by
  have halign : (acceptedStg .secondary v t s).align v = { acceptedStg .secondary v t s with offset := o } :=
    Stg.align_eq valid other
  have haccepted : acceptedState .secondary v t s = s.setStg { acceptedStg .secondary v t s with offset := o } := by
    rw [← halign]
    simp [acceptedState, selectAfter, acceptedStg, h, State.setStg]
  rw [accept_of_follows haccepted (by simp [acceptedStg, h, Selection.follows])]
  refine publish_published (u := s.setStg { acceptedStg .secondary v t s with offset := o }) ?_ {}
    (.of_changes .of_blocks)
  simp [Stg.selectedValue, acceptedStg, h, Stg.setSource, acceptedSource]

/-- R9: stage is restored by SECONDARY. -/
theorem accept_secondary_restores (h : s.stg.selection = .none) :
    Published { acceptedStg .secondary v t s with selection := .secondary, recovery := 0, offset := o }
      (aligned (cfgAlignLimit s.tbl.config) o v) (restoredStore .secondary s) s (accept .secondary v t s) := by
  have hstore : (restoreStage .secondary (s.setStg (acceptedStg .secondary v t s))).store = restoredStore .secondary s := by
    simp [restoreStage, appendNotice, restoredStore]
  have halign : (restoreStage .secondary (s.setStg (acceptedStg .secondary v t s))).stg.align v =
      { acceptedStg .secondary v t s with selection := .secondary, recovery := 0, offset := o } := by
    simpa [restoreStage] using Stg.align_eq
      (g := { acceptedStg .secondary v t s with selection := .secondary, recovery := 0 }) valid other
  have haccepted : acceptedState .secondary v t s =
      (restoreStage .secondary (s.setStg (acceptedStg .secondary v t s))).setStg
        { acceptedStg .secondary v t s with selection := .secondary, recovery := 0, offset := o } := by
    rw [← halign]
    simp [acceptedState, selectAfter, acceptedStg, h]
  rw [accept_of_follows haccepted rfl]
  generalize hu : (restoreStage .secondary (s.setStg (acceptedStg .secondary v t s))).setStg
    { acceptedStg .secondary v t s with selection := .secondary, recovery := 0, offset := o } = u
  have hstg : u.stg = { acceptedStg .secondary v t s with selection := .secondary, recovery := 0, offset := o } := by
    simp [← hu]
  have hstore' : u.store = restoredStore .secondary s := by simp [← hu, hstore]
  rw [← hstg, ← hstore']
  refine publish_published ?_ (by rw [← hu]; exact {}) (by rw [← hu]; exact .of_changes .of_blocks)
    (by rw [← hu]; constructor <;> simp)
  rw [hstg, ← hu]
  simp [Stg.selectedValue, acceptedStg, Stg.setSource, acceptedSource]

end

/-- R11. -/
theorem aligned_spec (limit : Nat) (o : Int) (v : Sample) :
    (aligned limit o v).secondaryUsed = true ∧
      (|o| ≤ (limit : Int) →
        (aligned limit o v).mm = max (-2000) (min 20000 (v.mm + o)) ∧ (aligned limit o v).alignLimit = false ∧
        ((aligned limit o v).clamped = true ↔ v.clamped = true ∨ v.mm + o < -2000 ∨ 20000 < v.mm + o)) ∧
      ((limit : Int) < |o| →
        (aligned limit o v).mm = v.mm ∧ (aligned limit o v).alignLimit = true ∧
        (aligned limit o v).clamped = v.clamped) := by
  have habs : |o| = (o.natAbs : Int) := (Int.natCast_natAbs o).symm
  unfold aligned
  split
  · refine ⟨rfl, fun _ => ⟨clampInt_eq_max_min (by omega) _, rfl, by simp⟩, fun _ => by omega⟩
  · exact ⟨rfl, fun _ => by omega, fun _ => ⟨rfl, rfl, rfl⟩⟩

/-! ## The spike rule (R3) -/

/-- R3: further than the spike limit. -/
theorem near_eq_false_iff {limit : Nat} {a b : Int} : near limit a b = false ↔ (limit : Int) < |a - b| := by
  rw [near, decide_eq_false_iff_not, Int.abs_eq_natAbs]
  omega

theorem near_eq_true_iff {limit : Nat} {a b : Int} : near limit a b = true ↔ ¬ (limit : Int) < |a - b| := by
  rw [← near_eq_false_iff, Bool.not_eq_false]

section
variable {src : Source} {v l : Sample} {t : Nat} {s : State}

theorem judgeSample_of_unheard (h : (s.stg.source src).last = none) : judgeSample src v t s = accept src v t s := by
  unfold judgeSample
  simp only [h]

variable (hlast : (s.stg.source src).last = some l)
include hlast

theorem judgeSample_suspects (hfar : near (cfgSpikeLimit s.tbl.config) v.mm l.mm = false)
    (hsuspect : ∀ q, (s.stg.source src).suspect = some q → near (cfgSpikeLimit s.tbl.config) v.mm q.mm = false) :
    judgeSample src v t s = becomeSuspect src v s := by
  unfold judgeSample
  cases hq : (s.stg.source src).suspect with
  | none => simp [hlast, hq, hfar]
  | some q => simp [hlast, hq, hfar, hsuspect q hq]

theorem judgeSample_confirms {q : Sample} (hq : (s.stg.source src).suspect = some q)
    (hnear : near (cfgSpikeLimit s.tbl.config) v.mm q.mm = true) :
    judgeSample src v t s = accept src v t (accept src q t (dropSuspect src s)) := by
  unfold judgeSample
  simp [hlast, hq, hnear]

theorem judgeSample_accepts (hnear : near (cfgSpikeLimit s.tbl.config) v.mm l.mm = true)
    (hsuspect : ∀ q, (s.stg.source src).suspect = some q → near (cfgSpikeLimit s.tbl.config) v.mm q.mm = false) :
    judgeSample src v t s = accept src v t s ∧ (s.stg.source src).suspect = none ∨
      judgeSample src v t s = accept src v t (dropSuspect src s) := by
  unfold judgeSample
  cases hq : (s.stg.source src).suspect with
  | none => exact .inl (by simp [hlast, hq, hnear])
  | some q => exact .inr (by simp [hlast, hq, hnear, hsuspect q hq])

end

theorem becomeSuspect_spec (src : Source) (v : Sample) (s : State) :
    (becomeSuspect src v s).stg.source src = { s.stg.source src with suspect := some v } ∧
      (becomeSuspect src v s).stg.recovery =
        if src = .primary ∧ s.stg.selection = .secondary then 0 else s.stg.recovery := by
  unfold becomeSuspect
  dsimp only
  split
  · next h => cases src <;> simp [Stg.source, Stg.setSource]
  · simp

theorem accept_own (src : Source) (v : Sample) (t : Nat) (s : State) :
    (accept src v t s).stg.source src = acceptedSource src v t s := by
  rw [accept_source, Stg.source_setSource]

/-- R3: of one sample, by where it lies from the last accepted stage and from the suspect. -/
theorem judgeSample_spec {src : Source} {v l : Sample} {t : Nat} {s : State} (hlast : (s.stg.source src).last = some l) :
    (near (cfgSpikeLimit s.tbl.config) v.mm l.mm = false →
      (∀ q, (s.stg.source src).suspect = some q → near (cfgSpikeLimit s.tbl.config) v.mm q.mm = false) →
      judgeSample src v t s = becomeSuspect src v s) ∧
    (∀ q, (s.stg.source src).suspect = some q → near (cfgSpikeLimit s.tbl.config) v.mm q.mm = true →
      judgeSample src v t s = accept src v t (accept src q t (dropSuspect src s))) ∧
    (near (cfgSpikeLimit s.tbl.config) v.mm l.mm = true →
      (∀ q, (s.stg.source src).suspect = some q → near (cfgSpikeLimit s.tbl.config) v.mm q.mm = false) →
      ∃ u, judgeSample src v t s = accept src v t u ∧ (u.stg.source src).suspect = none ∧ u.tbl = s.tbl) := by
  refine ⟨judgeSample_suspects hlast, fun q hq hnear => judgeSample_confirms hlast hq hnear, fun hnear hsuspect => ?_⟩
  obtain ⟨heq, hnone⟩ | heq := judgeSample_accepts (t := t) hlast hnear hsuspect
  · exact ⟨s, heq, hnone, rfl⟩
  · exact ⟨dropSuspect src s, heq, by simp [dropSuspect], by simp⟩

/-- Settles O36. -/
theorem spikeRuleHoldsOneSampleBack : Obligations.SpikeRuleHoldsOneSampleBack := by
  refine ⟨fun s src v l time hlast => ?_, aligned_spec, fun s src v time => ?_⟩
  · dsimp only
    simp only [← near_eq_false_iff, Bool.not_eq_false]
    obtain ⟨hsuspects, hconfirms, haccepts⟩ := judgeSample_spec (v := v) (t := time) hlast
    refine ⟨fun hfar hsuspect => ?_, fun q hq hnear => ?_, fun hnear hsuspect => ?_⟩
    · rw [hsuspects hfar hsuspect]
      obtain ⟨hsource, hrecovery⟩ := becomeSuspect_spec src v s
      exact ⟨hsource, by simp, by simp, by simp, .of_blocks, hrecovery⟩
    · rw [hconfirms q hq hnear, accept_own]
      refine ⟨rfl, rfl, ?_⟩
      simp [acceptedSource, accept_own, dropSuspect]
    · obtain ⟨u, heq, hnone, htbl⟩ := haccepts hnear hsuspect
      rw [heq, accept_own]
      exact ⟨rfl, by simpa [acceptedSource] using hnone, rfl, rfl, by simp [acceptedSource, htbl]⟩
  · refine ⟨judgeSample_of_unheard, accept_own .., fun o ho => ?_, ?_, ?_, ?_, ?_⟩
    · rw [accept_source, Stg.source_setSource_ne ho]
    · rintro rfl hsel
      exact accept_primary_selected hsel
    · rintro rfl hsel
      refine ⟨fun hcount => ?_, fun hcount => accept_primary_recovered hsel hcount⟩
      rw [accept_primary_recovering hsel hcount]
      exact ⟨.of_blocks, rfl⟩
    · rintro rfl hsel
      exact accept_primary_restores hsel
    · rintro o rfl hvalid hother
      refine ⟨fun hsel => ?_, fun hsel => accept_secondary_selected hvalid hother hsel,
        fun hsel => accept_secondary_restores hvalid hother hsel⟩
      rw [accept_secondary_aligns hvalid hother hsel]
      exact ⟨.of_blocks, rfl⟩

end Sys2Proof.Machine
end

section
/-! A stale source (R5, R7, R8, R13). -/

namespace Sys2Proof.Machine

set_option Elab.async false

/-- The selection of a source. -/
def selectionOf : Source → Selection
  | .primary => .primary
  | .secondary => .secondary

theorem Selection.follows_iff {x : Selection} {src : Source} : x.follows src = true ↔ x = selectionOf src := by
  cases x <;> cases src <;> simp [Selection.follows, selectionOf]

/-- The stage unit with a source STALE, before the selection follows. -/
def staledStg (src : Source) (s : State) : Stg :=
  s.stg.setSource src { s.stg.source src with state := .stale, staleAt := none }

/-- The stage unit with the selection handed over to `o`. -/
def handedOverStg (src o : Source) (s : State) : Stg :=
  { staledStg src s with selection := selectionOf o, recovery := 0 }

/-- R7: a source that is not selected. -/
theorem becomeStale_unselected {src : Source} {s : State} (hsel : s.stg.selection.follows src = false)
    (hsome : s.stg.selection ≠ .none) :
    becomeStale src s =
      s.setStg
        { staledStg src s with
          recovery := if src = .primary ∧ s.stg.selection = .secondary then 0 else s.stg.recovery } := by
  cases src <;> cases h : s.stg.selection <;> simp_all [Selection.follows, becomeStale, selectAfterStale, staledStg,
    Stg.setSource, State.setStg]

/-- R7: the changeover to the other source. -/
theorem becomeStale_handsOver {src o : Source} {s : State} (hsel : s.stg.selection = selectionOf src) (ho : o ≠ src)
    (hvalid : (s.stg.source o).state = .valid) :
    becomeStale src s = publish (s.setStg (handedOverStg src o s)) := by
  cases src <;> cases o <;> simp_all [selectionOf, becomeStale, selectAfterStale, staledStg, handedOverStg,
    Stg.setSource, Stg.source, State.setStg]

/-- R13: neither source is left. -/
theorem becomeStale_loses {src : Source} {s : State} (hsel : s.stg.selection = selectionOf src)
    (hother : ∀ o, o ≠ src → (s.stg.source o).state ≠ .valid) :
    becomeStale src s = loseStage (s.setStg (staledStg src s)) := by
  cases src with
  | primary =>
    have hsec : s.stg.sec.state ≠ .valid := hother .secondary nofun
    simp_all [selectionOf, becomeStale, selectAfterStale, staledStg, Stg.setSource, Stg.source, State.setStg]
  | secondary =>
    have hprim : s.stg.prim.state ≠ .valid := hother .primary nofun
    simp_all [selectionOf, becomeStale, selectAfterStale, staledStg, Stg.setSource, Stg.source, State.setStg]

theorem becomeStale_source (src : Source) (s : State) (o : Source) :
    (becomeStale src s).stg.source o = (staledStg src s).source o := by
  refine Stg.source_congr ?_ ?_ o <;> simp [becomeStale, staledStg]

/-! ## The loss of stage (R13, R47) -/

/-- R13: the loss of stage up to the target. -/
def lostState (s : State) : State :=
  ((s.setStg { s.stg with selection := .none, selected := none }).setRat { s.rat with latest := none }).setWrn
    { s.wrn with stageLost := true }

theorem loseStage_eq (s : State) :
    loseStage s =
      appendNotice .stageLost (markInterval { noIntervalFlags with stageLost := true } (applyTarget (lostState s))) := rfl

theorem loseStage_stg (s : State) :
    (loseStage s).stg =
      { s.stg with
        selection := .none, selected := none,
        acc := { s.stg.acc with flags := { s.stg.acc.flags with stageLost := true } } } := by
  simp [loseStage_eq, lostState, markInterval, IntervalFlags.union, noIntervalFlags]

theorem loseStage_store (s : State) :
    (loseStage s).store =
      (applyTarget (lostState s)).store.append
        (.notice { time := s.clk.time, valid := s.clk.valid, body := .stageLost }) := by
  simp [loseStage_eq, lostState, markInterval, appendNotice]

/-- The loss of stage as the level and the store without its notice show it, to the end of the event. -/
theorem loseStage_levelEnd (s : State) :
    LevelEnd (applyTarget (lostState s)) ((settle (loseStage s)).setStore (applyTarget (lostState s)).store) := by
  have hend := settle_levelEnd (loseStage s)
  have hcarried : CarriedOn (applyTarget (lostState s)) (loseStage s) := 
    .of_places (by simp [loseStage_eq, markInterval]) (by simp [loseStage_eq, markInterval])
      (by simp [loseStage_eq, markInterval]) (by simp [loseStage_eq, markInterval])
      (by simp [loseStage_eq, markInterval])
  constructor
  case wrn => simp [loseStage_eq, markInterval]
  case store => rfl
  case pls => simp [loseStage_eq, markInterval]
  case carried => exact (hcarried.trans hend.carried).trans .of_places
  case claiming =>
    intro h
    exact hend.claiming (by simpa [loseStage_eq, markInterval] using h)

/-! ## The changeover (R7, R8) -/

theorem StageConsistent.last_of_valid {s : State} (h : StageConsistent s) {o : Source}
    (hvalid : (s.stg.source o).state = .valid) : ∃ x, (s.stg.source o).last = some x := by
  rw [← Option.ne_none_iff_exists']
  cases o
  · simpa [Stg.source, h.primLast] using (by rintro hnone; simp [Stg.source, hnone] at hvalid)
  · simpa [Stg.source, h.secLast] using (by rintro hnone; simp [Stg.source, hnone] at hvalid)

/-- R10: the value of the source that is selected by a changeover. -/
theorem handedOver_value (src : Source) {o : Source} {s : State} {x : Sample} (ho : o ≠ src)
    (hx : (s.stg.source o).last = some x) :
    ∃ v, (s.setStg (handedOverStg src o s)).stg.selectedValue
        (cfgAlignLimit (s.setStg (handedOverStg src o s)).tbl.config) = some v ∧
      (o = .primary → v = ownStage x) ∧
      (o = .secondary → v = aligned (cfgAlignLimit s.tbl.config) s.stg.offset x) := by
  have hkept : (handedOverStg src o s).source o = s.stg.source o := by
    have hstaled : (handedOverStg src o s).source o = (staledStg src s).source o := Stg.source_congr rfl rfl o
    rw [hstaled, staledStg, Stg.source_setSource_ne ho]
  rw [← hkept] at hx
  have hoffset : (handedOverStg src o s).offset = s.stg.offset := by simp [handedOverStg, staledStg]
  have hselection : (handedOverStg src o s).selection = selectionOf o := rfl
  cases o
  · have hown : (handedOverStg src .primary s).prim.last = some x := hx
    exact ⟨ownStage x, by simp [Stg.selectedValue, hselection, selectionOf, hown, ownStage], fun _ => rfl, nofun⟩
  · have hother : (handedOverStg src .secondary s).sec.last = some x := hx
    exact ⟨aligned (cfgAlignLimit s.tbl.config) s.stg.offset x,
      by simp [Stg.selectedValue, hselection, selectionOf, hother, hoffset], nofun, fun _ => rfl⟩

/-- R7, R8: the other source is selected, and its value is the selected stage. -/
theorem becomeStale_changeover {s : State} {src o : Source} (hconsistent : StageConsistent s)
    (hsel : s.stg.selection.follows src = true) (ho : o ≠ src) (hother : (s.stg.source o).state = .valid) :
    (settle (becomeStale src s)).stg.selection.follows o = true ∧ (settle (becomeStale src s)).stg.recovery = 0 ∧
      StageEvaluated s.store s (settle (becomeStale src s)) ∧
      ∃ v, (settle (becomeStale src s)).stg.selected = some v ∧
        (settle (becomeStale src s)).rat.latest = some (s.discharge v.mm) ∧
        ∀ x, (s.stg.source o).last = some x →
          (o = .primary → v = ownStage x) ∧
          (o = .secondary → v = aligned (cfgAlignLimit s.tbl.config) s.stg.offset x) := by
  rw [Selection.follows_iff] at hsel
  have heq := becomeStale_handsOver hsel ho hother
  generalize hu : s.setStg (handedOverStg src o s) = u at heq
  have hgiven : u.stg = handedOverStg src o s := by rw [← hu]; rfl
  obtain ⟨x, hx⟩ := hconsistent.last_of_valid hother
  obtain ⟨v, hv, hprim, hsec⟩ := handedOver_value src ho hx
  rw [hu] at hv
  have hstart : PublishStart s u := by rw [← hu]; exact {}
  have hevaluated := publish_evaluated hv hstart
  have hstore : u.store = s.store := by rw [← hu]; rfl
  rw [hstore] at hevaluated
  have hpublished : (settle (publish u)).stg =
      { u.stg with selected := some v, acc := u.stg.acc.add v (u.discharge v.mm) } :=
    .trans (by simp) (publish_stg hv)
  have hrat : (settle (publish u)).rat = { u.rat with latest := some (u.discharge v.mm) } :=
    .trans (by simp) (publish_rat hv)
  rw [heq]
  refine ⟨?_, ?_, hevaluated.of_levelEnd (settle_levelEnd _) (by simp) (by simp), v, by rw [hpublished], ?_, ?_⟩
  · rw [hpublished, Selection.follows_iff, hgiven]
    rfl
  · rw [hpublished, hgiven]
    rfl
  · rw [hrat, hstart.discharge]
  · intro y hy
    obtain rfl : x = y := by simpa [hx] using hy
    exact ⟨hprim, hsec⟩

/-- R13, R47: with neither source left stage is lost, and the level moves before the notice. -/
theorem becomeStale_loss {s : State} {src : Source} (hsel : s.stg.selection.follows src = true)
    (hother : ∀ o, o ≠ src → (s.stg.source o).state ≠ .valid) :
    let t := settle (becomeStale src s)
    t.stg.selection = .none ∧ t.stg.selected = none ∧ t.rat.latest = none ∧ t.wrn.stageLost = true ∧
      t.stg.acc = { s.stg.acc with flags := t.stg.acc.flags } ∧
      t.stg.acc.flags = { s.stg.acc.flags with stageLost := true } ∧ t.stg.recovery = s.stg.recovery ∧
      t.wrn.rules = s.wrn.rules ∧ t.wrn.target = t.wrn.targetOf s.tbl.rules ∧ t.wrn.resetHold = s.wrn.resetHold ∧
      t.store.records.getLast?.map StoreRec.content =
        some (.notice { time := s.clk.time, valid := s.clk.valid, body := .stageLost }) ∧
      ∃ st, t.store = st.append (.notice { time := s.clk.time, valid := s.clk.valid, body := .stageLost }) ∧
        LevelUpheld ((s.setStg t.stg).setRat t.rat) (t.setStore st) ∧
        (s.wrn.resetHold = false → LevelMoved ((s.setStg t.stg).setRat t.rat) (t.setStore st)) ∧
        (s.wrn.resetHold = true → t.wrn.target < s.wrn.level →
          t.wrn.level = s.wrn.level ∧ t.wrn.standDown = s.wrn.standDown ∧ t.wrn.test = s.wrn.test ∧
          t.wrn.silenced = s.wrn.silenced ∧ st = s.store) := by
  dsimp only
  rw [Selection.follows_iff] at hsel
  rw [becomeStale_loses hsel hother]
  generalize hu : s.setStg (staledStg src s) = u
  have hstart : PublishStart s u := by rw [← hu]; exact {}
  have hgiven : u.stg = staledStg src s := by rw [← hu]; rfl
  have hstore : u.store = s.store := by rw [← hu]; rfl
  have hlost : (settle (loseStage u)).stg = (loseStage u).stg := by simp
  have hrat : (settle (loseStage u)).rat = { u.rat with latest := none } := by
    simp [loseStage_eq, lostState, markInterval]
  have hwrn : (settle (loseStage u)).wrn = (applyTarget (lostState u)).wrn := by simp [loseStage_eq, markInterval]
  have hend := loseStage_levelEnd u
  have hlevel : LevelStart (lostState u)
      ((s.setStg (settle (loseStage u)).stg).setRat (settle (loseStage u)).rat) := by
    rw [hlost, loseStage_stg, hrat]
    constructor <;> simp [lostState, hstart.tbl, hstart.clk, hstart.rat, hstart.wrn, hstart.run, hstart.pls,
      hstart.grant, hstore]
  have hhold : (lostState u).wrn.resetHold = s.wrn.resetHold := by rw [← hstart.wrn]; rfl
  have hnotice : (settle (loseStage u)).store = (applyTarget (lostState u)).store.append
      (.notice { time := s.clk.time, valid := s.clk.valid, body := .stageLost }) := by
    rw [← hstart.clk, ← loseStage_store]
    simp
  have hacc : (settle (loseStage u)).stg.acc =
      { s.stg.acc with flags := { s.stg.acc.flags with stageLost := true } } := by
    rw [hlost, loseStage_stg, hgiven]
    simp [staledStg]
  refine ⟨?_, ?_, ?_, ?_, ?_, ?_, ?_, ?_, ?_, ?_, ?_, _, hnotice, ?_, fun hopen => ?_, fun hheld hfall => ?_⟩
  · rw [hlost, loseStage_stg]
  · rw [hlost, loseStage_stg]
  · rw [hrat]
  · rw [hwrn]
    simp [lostState]
  · rw [hacc]
  · rw [hacc]
  · rw [hlost, loseStage_stg, hgiven]
    simp [staledStg]
  · rw [hwrn, ← hstart.wrn]
    simp [lostState]
  · rw [hwrn, (applyTarget_target _).2, ← hstart.tbl]
    rfl
  · rw [hwrn, ← hstart.wrn]
    simp [lostState]
  · rw [hnotice]
    simp [Store.append]
  · exact ((applyTarget_upheld _).of_levelStart hlevel).of_levelEnd hend
  · exact ((applyTarget_moved (hhold.trans hopen)).of_levelStart hlevel).of_levelEnd hend
  · have hstands := applyTarget_held (hhold.trans hheld)
      (by rw [hwrn, ← hstart.wrn] at hfall; exact hfall)
    rw [hwrn, ← hstart.wrn, ← hstore]
    exact hstands

/-- Settles O26. -/
theorem staleSourceHandsOverOrLosesStage : Obligations.StaleSourceHandsOverOrLosesStage := by
  intro s src e hawake hconsistent hvalid hexpiry hpast
  have hdue : s.staleDue src = true := by simpa [State.staleDue, hvalid, hexpiry, dueAt] using hpast
  have hexec : exec (.staleTimerExpiry src) s = .next (settle (becomeStale src s)) := by
    have hrow : exec (.staleTimerExpiry src) s = execStaleTimerExpiry src s := rfl
    rw [hrow, execStaleTimerExpiry, taken_of_awake hawake, if_pos hdue]
  have hsome : s.stg.selection ≠ .none := by
    rw [ne_eq, hconsistent.neither]
    intro ⟨hprim, hsec⟩
    cases src
    · exact hprim hvalid
    · exact hsec hvalid
  have hstg : (settle (becomeStale src s)).stg = (becomeStale src s).stg := by simp
  have hsource (o : Source) : (settle (becomeStale src s)).stg.source o = (staledStg src s).source o := by
    rw [hstg, becomeStale_source]
  refine ⟨_, hexec, (EventFrame.of_changes .of_blocks).settle, by constructor <;> simp, by simp, by simp, by simp,
    by rw [hsource]; simp [staledStg], fun o ho => by rw [hsource, staledStg, Stg.source_setSource_ne ho], by simp,
    by simp, by simp, fun hsel => ?_,
    fun hsel o ho hother => becomeStale_changeover hconsistent hsel ho hother,
    fun hsel hother => becomeStale_loss hsel hother⟩
  · rw [becomeStale_unselected hsel hsome]
    exact ⟨(EventFrame.of_changes .of_blocks).settle, by simp [staledStg], by simp [staledStg], by simp [staledStg],
      by simp⟩

end Sys2Proof.Machine
end

section
/-! What LOOP does at the end of an event, by the transaction it opens (R70, R79, R82, R83). -/

namespace Sys2Proof.Machine

set_option Elab.async false

/-! ## The schedule by channel -/

theorem Loop.poll?_setPoll_same {l : Loop} {ch : Nat} {p : Poll} (q : Poll) (h : l.poll? ch = some p) :
    (l.setPoll ch q).poll? ch = some q := by
  rw [Loop.poll?_eq_some] at h ⊢
  have hlen : ch < l.sched.length := (List.getElem?_eq_some_iff.mp h).1
  simp [Loop.setPoll, hlen]

theorem Loop.poll?_setPoll_ne {l : Loop} {ch j : Nat} (q : Poll) (h : j ≠ ch) : (l.setPoll ch q).poll? j = l.poll? j := by
  rw [Loop.poll?, Loop.poll?, List.getD_eq_getElem?_getD, List.getD_eq_getElem?_getD]
  simp [Loop.setPoll, List.getElem?_set_ne h.symm]

theorem Loop.poll?_congr {l l' : Loop} (h : l'.sched = l.sched) (ch : Nat) : l'.poll? ch = l.poll? ch := by
  rw [Loop.poll?, h, Loop.poll?]

/-! ## The transaction -/

/-- The transaction `a` at the end of an event: its opening frame may have been taken. -/
def TxnOn (a b : Option Txn) : Prop :=
  b = a ∨ ∃ x, a = some x ∧ x.phase = .queued ∧ b = some { x with phase := .sending }

theorem TxnOn.of_some {x : Txn} {b : Option Txn} (h : TxnOn (some x) b) :
    ∃ ph, b = some { x with phase := ph } ∧ (ph = x.phase ∨ x.phase = .queued ∧ ph = .sending) := by
  obtain h | ⟨y, hy, hqueued, h⟩ := h
  · exact ⟨x.phase, h, .inl rfl⟩
  · cases hy
    exact ⟨.sending, h, .inr ⟨hqueued, rfl⟩⟩

theorem TxnOn.of_none {b : Option Txn} (h : TxnOn none b) : b = none := by
  obtain h | ⟨y, hy, -⟩ := h
  · exact h
  · cases hy

theorem kickFrom_txn (t : Nat) (s : State) : TxnOn s.loop.txn (kickFrom t s).loop.txn := by
  obtain h | ⟨f, l, doneAt, -, hnext, h⟩ := kickFrom_cases t s <;> rw [h]
  · exact .inl rfl
  · obtain hsame | ⟨x, hx, hqueued, -, hsending⟩ := Loop.takeNext_txn hnext
    · exact .inl (by simpa using hsame)
    · exact .inr ⟨x, hx, hqueued, by simpa using hsending⟩

/-! ## The choice at the end of an event -/

/-- Nothing has been chosen. -/
structure NothingChosen (l k : Loop) : Prop where
  sched : k.sched = l.sched := by simp
  grant : k.grant = l.grant := by simp
  pending : k.pendingCmd = l.pendingCmd := by simp
  txn : TxnOn l.txn k.txn

/-- The run-engine command `c` has been chosen (R82 step 1, R102). -/
structure CommandChosen (c : RunCmd) (l k : Loop) : Prop where
  waited : l.pendingCmd = some c
  sendable : l.sendable c = true
  sched : k.sched = l.sched := by simp
  grant : k.grant = (l.openCommand c).grant
  pending : k.pendingCmd = none := by simp
  txn : TxnOn (some { asker := .run c, addr := c.addr, phase := .queued }) k.txn

/-- The poll of channel `ch` has been chosen (R82 step 2). -/
structure PollChosen (ch addr period : Nat) (p : Poll) (l k : Loop) : Prop where
  unsendable : ∀ c, l.pendingCmd = some c → l.sendable c = false
  sched : k.sched = (l.setPoll ch { p with due := p.due + period, announced := false }).sched
  grant : k.grant = l.grant := by simp
  pending : k.pendingCmd = l.pendingCmd := by simp
  txn : TxnOn (some { asker := .poll ch, addr := addr, phase := .queued }) k.txn

theorem mayChoose_rateEffect (s : State) : (rateEffect s).loop.mayChoose = s.loop.mayChoose := by
  simp [Loop.mayChoose, Loop.pairFree, Loop.jammed]

theorem sendable_rateEffect (s : State) (c : RunCmd) : (rateEffect s).loop.sendable c = s.loop.sendable c := by
  unfold Loop.sendable
  simp

theorem Loop.openCommand_grant_congr {l l' : Loop} (h : l'.grant = l.grant) (c : RunCmd) :
    (l'.openCommand c).grant = (l.openCommand c).grant := by
  unfold Loop.openCommand
  dsimp only
  split <;> simp [h]

/-- R82: what is chosen at the end of an event. -/
theorem settleFrom_chosen (t : Nat) (s : State) :
    ((s.loop.mayChoose = false ∨
        (∀ c, s.loop.pendingCmd = some c → s.loop.sendable c = false) ∧ earliestDue s.loop.sched s.now = none) ∧
      NothingChosen s.loop (settleFrom t s).loop) ∨
    (s.loop.mayChoose = true ∧ ∃ c, CommandChosen c s.loop (settleFrom t s).loop) ∨
    (s.loop.mayChoose = true ∧ ∃ ch p, earliestDue s.loop.sched s.now = some (ch, p) ∧
      PollChosen ch (chanEntry s.tbl.channels ch).addr (s.pollPeriod ch) p s.loop (settleFrom t s).loop) := by
  have htxn := kickFrom_txn t (choose (rateEffect s))
  have hnow : (rateEffect s).now = s.now := by simp [State.now]
  have hperiod (ch : Nat) : (rateEffect s).pollPeriod ch = s.pollPeriod ch := by simp [State.pollPeriod]
  rw [← settleFrom] at htxn
  obtain ⟨hmay, hchoose⟩ | ⟨c, hmay, hwaited, hsendable, hchoose⟩ | ⟨hmay, hunsendable, hpoll⟩ :=
      choose_cases (rateEffect s) <;> rw [mayChoose_rateEffect] at hmay
  · rw [hchoose] at htxn
    exact .inl ⟨.inl hmay, by simp [settleFrom, hchoose], by simp [settleFrom, hchoose], by simp [settleFrom, hchoose],
      by simpa using htxn⟩
  · rw [hchoose] at htxn
    refine .inr (.inl ⟨hmay, c, by simpa using hwaited, by rwa [sendable_rateEffect] at hsendable,
      by simp [settleFrom, hchoose], ?_, ?_, ?_⟩)
    · simpa [settleFrom, hchoose] using Loop.openCommand_grant_congr (by simp) c
    · obtain ⟨-, -, -, hpending⟩ := (rateEffect s).loop.openCommand_handed c
      simpa [settleFrom, hchoose] using hpending
    · obtain ⟨hopened, -⟩ := (rateEffect s).loop.openCommand_handed c
      simpa [hopened] using htxn
  · simp only [rateEffect_frame, sendable_rateEffect, hnow, hperiod] at hunsendable hpoll
    obtain ⟨hnone, hchoose⟩ | ⟨ch, p, hdue, hchoose⟩ := hpoll <;> rw [hchoose] at htxn
    · exact .inl ⟨.inr ⟨hunsendable, hnone⟩, by simp [settleFrom, hchoose], by simp [settleFrom, hchoose],
        by simp [settleFrom, hchoose], by simpa using htxn⟩
    · exact .inr (.inr ⟨hmay, ch, p, hdue, hunsendable, by simp [settleFrom, hchoose, Loop.openPoll, Loop.setPoll],
        by simp [settleFrom, hchoose, Loop.openPoll, Loop.setPoll],
        by simp [settleFrom, hchoose, Loop.openPoll, Loop.setPoll], htxn⟩)

/-- R79: a poll at the end of an event: only the one chosen moves on, by a period. -/
theorem settleFrom_poll (t : Nat) {s : State} {ch : Nat} {p : Poll} (h : s.loop.poll? ch = some p) :
    (settleFrom t s).loop.poll? ch = some p ∨
      (s.loop.mayChoose = true ∧
        (settleFrom t s).loop.poll? ch = some { p with due := p.due + s.pollPeriod ch, announced := false } ∧
        ∃ x, (settleFrom t s).loop.txn = some x ∧ x.asker = .poll ch) := by
  obtain ⟨-, hchosen⟩ | ⟨-, c, hchosen⟩ | ⟨hmay, k, q, hdue, hchosen⟩ := settleFrom_chosen t s
  · exact .inl (by rw [Loop.poll?_congr hchosen.sched, h])
  · exact .inl (by rw [Loop.poll?_congr hchosen.sched, h])
  · rw [Loop.poll?_congr hchosen.sched]
    by_cases hk : ch = k
    · subst hk
      obtain rfl : p = q := by simpa [h] using poll?_of_earliestDue hdue
      obtain ⟨ph, hph, -⟩ := hchosen.txn.of_some
      exact .inr ⟨hmay, Loop.poll?_setPoll_same _ h, _, hph, rfl⟩
    · exact .inl (by rw [Loop.poll?_setPoll_ne _ hk, h])

/-- A transaction that is outstanding at the end of an event which found none is not beyond its opening frame. -/
theorem settleFrom_txn_new (t : Nat) {s : State} (h : s.loop.txn = none) :
    ∀ x, (settleFrom t s).loop.txn = some x → x.phase = .queued ∨ x.phase = .sending := by
  intro x hx
  have hphase {y : Txn} (hy : y.phase = .queued) (hon : TxnOn (some y) (settleFrom t s).loop.txn) :
      x.phase = .queued ∨ x.phase = .sending := by
    obtain ⟨ph, heq, hph⟩ := hon.of_some
    obtain rfl : { y with phase := ph } = x := by simpa [heq] using hx
    exact hph.imp (·.trans hy) And.right
  obtain ⟨-, hchosen⟩ | ⟨-, c, hchosen⟩ | ⟨-, k, q, -, hchosen⟩ := settleFrom_chosen t s
  · have hon := hchosen.txn
    rw [h] at hon
    rw [hon.of_none] at hx
    cases hx
  · exact hphase rfl hchosen.txn
  · exact hphase rfl hchosen.txn

/-! ## A claim on its way (R70, R108) -/

theorem kickFrom_claimOnItsWay {s : State} (t : Nat) (h : ClaimOnItsWay s) : ClaimOnItsWay (kickFrom t s) := by
  obtain heq | ⟨f, l, doneAt, htx, hnext, heq⟩ := kickFrom_cases t s
  · rwa [heq]
  · have hplace : s.loop.claimPlace = true := by
      obtain h | h := h
      · exact h
      · simp [htx] at h
    rw [heq]
    rw [Loop.takeNext, if_pos hplace] at hnext
    cases hnext
    exact .inr (by simp)

theorem ClaimOnItsWay.settleFrom {s : State} (t : Nat) (h : ClaimOnItsWay s) : ClaimOnItsWay (settleFrom t s) :=
  kickFrom_claimOnItsWay t (by simpa [ClaimOnItsWay] using h)

theorem duePollClaim_of_onDemand {s : State} (hmode : s.loop.grant.mode = .onDemand)
    (hstate : s.loop.grant.state = .held ∨ s.loop.grant.state = .closing) :
    duePollClaim s =
      s.setLoop
        { s.loop with
          claimPlace := true,
          grant := { s.loop.grant with state := .claiming, timerAt := none, cause := some .duePoll } } := by
  have hclaim : s.loop.claim .duePoll =
      { s.loop with
        claimPlace := true,
        grant := { s.loop.grant with state := .claiming, timerAt := none, cause := some .duePoll } } := by
    obtain h | h := hstate <;> simp [Loop.claim, h]
  rw [duePollClaim, if_pos ⟨hmode, hstate⟩, hclaim]

theorem duePollClaim_of_other {s : State}
    (h : s.loop.grant.mode ≠ .onDemand ∨ s.loop.grant.state ≠ .held ∧ s.loop.grant.state ≠ .closing) :
    duePollClaim s = s := by
  refine if_neg fun ⟨hmode, hstate⟩ => ?_
  obtain h | ⟨hheld, hclosing⟩ := h
  · exact h hmode
  · exact hstate.elim hheld hclosing

end Sys2Proof.Machine
end

section
/-! Polls that fall due and polls that are skipped (R79, R80, R82, R109). -/

namespace Sys2Proof.Machine

set_option Elab.async false

/-- The poll of a channel with its falling due taken. -/
def announcedState (ch : Nat) (p : Poll) (s : State) : State :=
  s.setLoop (s.loop.setPoll ch { p with announced := true })

theorem exec_pollDue {s : State} {ch : Fin 24} {p : Poll} (hawake : s.resetLine = false)
    (hpoll : s.loop.poll? ch.val = some p) (hdue : p.due ≤ s.now) (hfresh : p.announced = false) :
    exec (.pollDue ch) s = .next (settle (duePollClaim (announcedState ch p s))) := by
  have hrow : exec (.pollDue ch) s = execPollDue ch s := rfl
  have hpollDue : s.pollDue ch.val = true := by simp [State.pollDue, hpoll, hdue, hfresh]
  rw [hrow, execPollDue, taken_of_awake hawake]
  simp only [hpoll, hpollDue, if_true]
  rfl

theorem clampNat_one_eq (l : Nat) : clampNat 1 32 l = min (max l 1) 32 := by
  unfold clampNat
  split
  · omega
  · split <;> omega

/-- R102: a GRANT that is chosen makes the grant OPENING. -/
theorem Loop.openCommand_opening {l : Loop} {c : RunCmd} {limit : Nat} {mode : ReleaseMode} (h : c.kind = .grant limit mode) :
    (l.openCommand c).grant.state = .opening ∧ (l.openCommand c).grant.node = c.addr ∧
      (l.openCommand c).grant.limit = min (max limit 1) 32 ∧ (l.openCommand c).grant.mode = mode := by
  simp [Loop.openCommand, h, clampNat_one_eq]

/-- The polls of the schedule, but for the marks of the one announced. -/
theorem announced_poll {s : State} {ch : Nat} {p : Poll} (hpoll : s.loop.poll? ch = some p) (j : Nat) :
    (announcedState ch p s).loop.poll? j =
      (s.loop.poll? j).map fun q => if j = ch then { q with announced := true } else q := by
  by_cases hj : j = ch
  · subst hj
    rw [announcedState, State.setLoop_loop, Loop.poll?_setPoll_same _ hpoll, hpoll]
    simp
  · rw [announcedState, State.setLoop_loop, Loop.poll?_setPoll_ne _ hj]
    simp [hj]

theorem announced_due {s : State} {ch : Nat} {p : Poll} (hpoll : s.loop.poll? ch = some p) {j : Nat} {r : Poll}
    (h : s.loop.poll? j = some r) : ∃ q, (announcedState ch p s).loop.poll? j = some q ∧ q.due = r.due ∧
      { q with announced := false } = { r with announced := false } := by
  rw [announced_poll hpoll, h]
  exact ⟨_, rfl, by dsimp only; split <;> rfl, by dsimp only; split <;> rfl⟩

theorem due_of_announced {s : State} {ch : Nat} {p : Poll} (hpoll : s.loop.poll? ch = some p) {j : Nat} {q : Poll}
    (h : (announcedState ch p s).loop.poll? j = some q) : ∃ r, s.loop.poll? j = some r ∧ q.due = r.due ∧
      { q with announced := false } = { r with announced := false } := by
  rw [announced_poll hpoll] at h
  obtain ⟨r, hr, hq⟩ := Option.map_eq_some_iff.mp h
  exact ⟨r, hr, by rw [← hq]; split <;> rfl, by rw [← hq]; split <;> rfl⟩

/-- Settles O29. -/
theorem duePollIsChosenOrClaims : Obligations.DuePollIsChosenOrClaims := by
  intro s ch p hawake hpoll hdue hfresh
  refine ⟨_, exec_pollDue hawake hpoll hdue hfresh, ?_, fun htxn hopen hjam hbreak => ?_, fun hmode hstate => ?_⟩
  · unfold announcedState
    exact (EventFrame.of_changes .of_blocks).settle
  · have hstands : duePollClaim (announcedState ch p s) = announcedState ch p s := by
      refine duePollClaim_of_other (.inr ?_)
      simp only [Grant.held, Bool.or_eq_false_iff, beq_eq_false_iff_ne] at hopen
      simp [announcedState, hopen]
    rw [hstands]
    generalize hu : announcedState ch p s = u
    have hgrant : u.loop.grant = s.loop.grant := by simp [← hu, announcedState, Loop.setPoll]
    have hpending : u.loop.pendingCmd = s.loop.pendingCmd := by simp [← hu, announcedState, Loop.setPoll]
    have hsendable (c : RunCmd) : u.loop.sendable c = s.loop.sendable c := by
      unfold Loop.sendable
      rw [hgrant]
    have hmay : u.loop.mayChoose = true := by
      simp [← hu, announcedState, Loop.setPoll, Loop.mayChoose, Loop.pairFree, Loop.jammed, htxn, hopen, hjam, hbreak]
    have hnow : u.now = s.now := by rw [← hu]; rfl
    have hwaits (c : RunCmd) : u.loop.pendingCmd = some c ∧ u.loop.sendable c = true ↔
        s.loop.pendingCmd = some c ∧ s.loop.sendable c = true := by rw [hpending, hsendable]
    have hlive : ∃ q, u.loop.poll? ch.val = some q ∧ q.due ≤ u.now := by
      rw [← hu]
      obtain ⟨q, hq, hqdue, -⟩ := announced_due hpoll hpoll
      exact ⟨q, hq, by rw [hqdue]; exact hdue⟩
    have hearliest := earliestDue_spec u.loop.sched u.now
    refine ⟨fun c hc hcsend => ?_, fun hnone => ?_⟩
    · obtain ⟨hnot | ⟨hnot, -⟩, -⟩ | ⟨-, c', hchosen⟩ | ⟨-, _, _, -, hchosen⟩ := settleFrom_chosen u.fineNow u
      · simp [hmay] at hnot
      · simp [hsendable, hpending, hc, hcsend] at hnot
      · obtain rfl : c = c' := by simpa [hpending, hc] using hchosen.waited
        obtain ⟨ph, hph, -⟩ := hchosen.txn.of_some
        refine ⟨hchosen.pending, ⟨ph, hph⟩, fun l m hkind => ?_⟩
        rw [settle, hchosen.grant]
        exact Loop.openCommand_opening hkind
      · have hnot := hchosen.unsendable c (by rw [hpending, hc])
        rw [hsendable, hcsend] at hnot
        cases hnot
    · obtain ⟨hnot | ⟨-, hnot⟩, -⟩ | ⟨-, c, hchosen⟩ | ⟨-, k, q, hfirst, hchosen⟩ := settleFrom_chosen u.fineNow u
      · simp [hmay] at hnot
      · obtain ⟨q, hq, hqdue⟩ := hlive
        rw [hnot] at hearliest
        have := hearliest _ q ((Loop.poll?_eq_some ..).mp hq)
        omega
      · have := hnone c (by rw [← hpending, hchosen.waited])
        rw [← hsendable, hchosen.sendable] at this
        cases this
      · rw [hfirst] at hearliest
        obtain ⟨hat, hpast, hleast⟩ := hearliest
        rw [← Loop.poll?_eq_some, ← hu] at hat
        obtain ⟨r, hr, hrdue, hsame⟩ := due_of_announced hpoll hat
        obtain ⟨ph, hph, -⟩ := hchosen.txn.of_some
        refine ⟨by rw [settle, hchosen.grant, hgrant], by rw [settle, hchosen.pending, hpending], k, r, hr, ?_, ?_, ?_,
          fun j hj hch => ?_, ph, ?_⟩
        · omega
        · intro j x hx hxdue
          obtain ⟨y, hy, hydue, -⟩ := announced_due hpoll hx
          rw [hu, Loop.poll?_eq_some] at hy
          have := hleast j y hy (by omega)
          omega
        · rw [settle, Loop.poll?_congr hchosen.sched, Loop.poll?_setPoll_same _ (hu ▸ hat)]
          have hperiod : u.pollPeriod k = 1000 * (chanEntry s.tbl.channels k).period := by rw [← hu]; rfl
          rw [hperiod]
          exact congrArg
            (fun x : Poll => some { x with due := x.due + 1000 * (chanEntry s.tbl.channels k).period }) hsame
        · rw [settle, Loop.poll?_congr hchosen.sched, Loop.poll?_setPoll_ne _ hj, ← hu, announcedState, State.setLoop_loop,
            Loop.poll?_setPoll_ne _ hch]
        · have htbl : u.tbl = s.tbl := by rw [← hu]; rfl
          rw [settle, hph, htbl]
  · rw [duePollClaim_of_onDemand (by simpa [announcedState, Loop.setPoll] using hmode)
      (by simpa [announcedState, Loop.setPoll] using hstate)]
    have hclaim : ClaimOnItsWay ((announcedState ch p s).setLoop
      { (announcedState ch p s).loop with
        claimPlace := true,
        grant :=
          { (announcedState ch p s).loop.grant with state := .claiming, timerAt := none, cause := some .duePoll } }) :=
      .inl rfl
    have hgrant := settle_grant_of_held (s := (announcedState ch p s).setLoop
      { (announcedState ch p s).loop with
        claimPlace := true,
        grant :=
          { (announcedState ch p s).loop.grant with state := .claiming, timerAt := none, cause := some .duePoll } }) rfl
    exact ⟨by rw [hgrant]; rfl, by rw [hgrant]; rfl, by rw [hgrant]; rfl, hclaim.settleFrom _⟩

/-! ## Skipped polls (R80) -/

/-- R6, R80: STG is told of a missing sample by the role of the channel. -/
theorem notifyMissing_noted (ch : Nat) (s : State) :
    MissingNoted (activeRole s.cht.view s.tbl.channels ch) s (notifyMissing ch s) := by
  unfold notifyMissing MissingNoted
  cases h : activeRole s.cht.view s.tbl.channels ch with
  | none => simp
  | some role =>
    cases role
    case stagePrimary =>
      by_cases hsel : s.stg.selection = .secondary <;>
        simp [Role.source?, missingSample, markInterval, IntervalFlags.union, noIntervalFlags, hsel]
    case stageSecondary => simp [Role.source?, missingSample, markInterval, IntervalFlags.union, noIntervalFlags]
    case winch | forward | service => simp [Role.source?]

theorem MissingNoted.congr {role : Option Role} {s s' t t' : State} (h : MissingNoted role s t) (hs : s'.stg = s.stg)
    (ht : t'.stg = t.stg) : MissingNoted role s' t' := by
  unfold MissingNoted at *
  rwa [hs, ht]

theorem notifyMissing_setLoop_noted (ch : Nat) (s : State) (l : Loop) :
    MissingNoted (activeRole s.cht.view s.tbl.channels ch) s (notifyMissing ch (s.setLoop l)) := by
  have h := notifyMissing_noted ch (s.setLoop l)
  rw [State.setLoop_cht, State.setLoop_tbl] at h
  exact h.congr rfl rfl

/-- The poll of a channel skipped, before the claim it may make. -/
def skippedState (ch : Nat) (p : Poll) (s : State) : State :=
  notifyMissing ch
    (s.setLoop
      { s.loop.setPoll ch
          { p with due := p.due + s.pollPeriod ch, announced := true, missed := true, skipped := inc16 p.skipped } with
        jam := s.loop.jam.map fun j => { j with skipped := j.skipped + 1 } })

theorem skipPoll_eq (ch : Nat) (p : Poll) (s : State) : skipPoll ch p s = duePollClaim (skippedState ch p s) := rfl

theorem skippedState_loop (ch : Nat) (p : Poll) (s : State) :
    (skippedState ch p s).loop =
      { s.loop.setPoll ch
          { p with due := p.due + s.pollPeriod ch, announced := true, missed := true, skipped := inc16 p.skipped } with
        jam := s.loop.jam.map fun j => { j with skipped := j.skipped + 1 } } := by
  simp [skippedState]

theorem exec_pollSkip {s : State} {ch : Fin 24} {p : Poll} (hawake : s.resetLine = false)
    (hpoll : s.loop.poll? ch.val = some p)
    (hlate : p.due + 1000 * (chanEntry s.tbl.channels ch.val).period ≤ s.now) :
    exec (.pollSkip ch) s = .next (settle (duePollClaim (skippedState ch p s))) := by
  have hrow : exec (.pollSkip ch) s = execPollSkip ch s := rfl
  have hskip : s.skipDue ch.val = true := by
    simp only [State.skipDue, hpoll, decide_eq_true_eq]
    exact hlate
  rw [hrow, execPollSkip, taken_of_awake hawake]
  simp only [hpoll, hskip, if_true]
  rfl

/-- Settles O30. -/
theorem latePollIsSkipped : Obligations.LatePollIsSkipped := by
  intro s ch p hawake hpoll hlate
  have hloop := skippedState_loop ch p s
  have hgrant : (skippedState ch p s).loop.grant = s.loop.grant := by rw [hloop]; simp
  refine ⟨_, exec_pollSkip hawake hpoll hlate, ?_, ?_, ?_, ?_, ?_, ?_, ?_, fun hmode hstate => ?_,
    fun hheld hother => ?_, ?_⟩
  · unfold skippedState
    exact .of_blocks
  · constructor <;> simp [skippedState]
  · simp [hloop]
  · simp [hloop]
  · simp [hloop]
  · simp [hloop]
  · exact (notifyMissing_setLoop_noted ch s _).congr rfl (by simp; rfl)
  · rw [duePollClaim_of_onDemand (by rwa [hgrant]) (by rwa [hgrant])]
    have hclaim : ClaimOnItsWay ((skippedState ch p s).setLoop
      { (skippedState ch p s).loop with
        claimPlace := true,
        grant := { (skippedState ch p s).loop.grant with state := .claiming, timerAt := none, cause := some .duePoll } }) :=
      .inl rfl
    refine ⟨?_, hclaim.settleFrom _⟩
    rw [settle_grant_of_held rfl, State.setLoop_loop, hgrant]
  · rw [duePollClaim_of_other (by
      rw [hgrant]
      exact hother.imp_right fun h => by simp [h]), settle_grant_of_held (by rwa [hgrant]), hgrant]
  · have hskipped : (duePollClaim (skippedState ch p s)).loop.poll? ch.val =
        some { p with due := p.due + s.pollPeriod ch, announced := true, missed := true, skipped := inc16 p.skipped } :=
      (Loop.poll?_congr (by simp [hloop]) ch).trans (Loop.poll?_setPoll_same _ hpoll)
    have hperiod : (duePollClaim (skippedState ch p s)).pollPeriod ch.val =
        1000 * (chanEntry s.tbl.channels ch.val).period := by simp [State.pollPeriod, skippedState]
    obtain hsame | ⟨-, hmoved, x, hx, hasker⟩ :=
      settleFrom_poll (duePollClaim (skippedState ch p s)).fineNow hskipped
    · exact ⟨_, hsame, rfl, rfl, rfl, .inl rfl⟩
    · refine ⟨_, hmoved, rfl, rfl, rfl, .inr ⟨?_, x, hx, hasker⟩⟩
      dsimp only
      rw [hperiod, State.pollPeriod]
      omega

end Sys2Proof.Machine
end

section
/-! Failures of the reply pair: the counts of the nodes, what the winch's third failure does to the run, and the failed
poll (R71 to R74, R152). -/

namespace Sys2Proof.Machine

set_option Elab.async false

/-! ## The failure counts of the nodes (R74) -/

theorem Loop.nodeCount_congr {l l' : Loop} (h : l'.nodeFail = l.nodeFail) (addr : Nat) :
    l'.nodeCount addr = l.nodeCount addr := by
  rw [Loop.nodeCount, h, Loop.nodeCount]

theorem Loop.nodeCount_setNodeCount_same {l : Loop} {addr : Nat} (n : Nat) (h : 1 ≤ addr ∧ addr ≤ l.nodeFail.length) :
    (l.setNodeCount addr n).nodeCount addr = n := by
  obtain ⟨hpos, hle⟩ := h
  have hne : addr ≠ 0 := by omega
  have hlt : addr - 1 < l.nodeFail.length := by omega
  simp [Loop.nodeCount, Loop.setNodeCount, hne, hlt]

theorem Loop.nodeCount_setNodeCount_ne {l : Loop} {addr a : Nat} (n : Nat) (h : a ≠ addr) :
    (l.setNodeCount addr n).nodeCount a = l.nodeCount a := by
  unfold Loop.nodeCount Loop.setNodeCount
  split
  · rfl
  · split
    · rfl
    · have hne : addr - 1 ≠ a - 1 := by omega
      simp [List.getD_eq_getElem?_getD, List.getElem?_set_ne hne]

theorem Loop.nodeCount_failNode_same {l : Loop} {addr : Nat} (h : 1 ≤ addr ∧ addr ≤ l.nodeFail.length) :
    (l.failNode addr).nodeCount addr = min (l.nodeCount addr + 1) 255 :=
  Loop.nodeCount_setNodeCount_same _ h

theorem Loop.nodeCount_failNode_ne {l : Loop} {addr a : Nat} (h : a ≠ addr) :
    (l.failNode addr).nodeCount a = l.nodeCount a :=
  Loop.nodeCount_setNodeCount_ne _ h

/-- R74, R152: the failure of a node, and the third in a row of the winch that RUN holds. -/
theorem nodeFailure_eq {addr : Nat} {s : State} (h : 1 ≤ addr ∧ addr ≤ s.loop.nodeFail.length) :
    nodeFailure addr s =
      if s.run.held = some addr ∧ 2 ≤ s.loop.nodeCount addr ∧ s.loop.nodeCount addr < 255 then
        abortRun .abortedLoop (s.setLoop (s.loop.failNode addr))
      else s.setLoop (s.loop.failNode addr) := by
  have hcount := Loop.nodeCount_failNode_same h
  unfold nodeFailure runCountRise
  simp only [State.setLoop_loop, State.setLoop_run, hcount]
  by_cases hlow : s.loop.nodeCount addr < 255
  · rw [if_pos (by omega)]
    refine if_congr ?_ rfl rfl
    constructor
    · rintro ⟨hheld, hthird⟩
      exact ⟨hheld, by omega, hlow⟩
    · rintro ⟨hheld, hthird, -⟩
      exact ⟨hheld, by omega⟩
  · rw [if_neg (by omega), if_neg (by omega)]

theorem nodeFailure_of_other {addr : Nat} {s : State} (h : 1 ≤ addr ∧ addr ≤ s.loop.nodeFail.length)
    (hother : s.run.held ≠ some addr) : nodeFailure addr s = s.setLoop (s.loop.failNode addr) := by
  rw [nodeFailure_eq h, if_neg fun ⟨hheld, _⟩ => hother hheld]

theorem nodeFailure_nodeFail {addr : Nat} {s : State} (h : 1 ≤ addr ∧ addr ≤ s.loop.nodeFail.length) :
    (nodeFailure addr s).loop.nodeFail = (s.loop.failNode addr).nodeFail := by
  rw [nodeFailure_eq h]
  split <;> simp

/-! ## The run whose winch has failed (R152) -/

/-- Two states from which a failure of the winch does the run the same. -/
structure WinchStart (addr : Nat) (s s' : State) : Prop where
  count : s'.loop.nodeCount addr = s.loop.nodeCount addr := by simp
  run : s'.run = s.run := by simp
  pls : s'.pls = s.pls := by simp
  tbl : s'.tbl = s.tbl := by simp
  clk : s'.clk = s.clk := by simp

section
variable {addr : Nat} {s s' u t : State}

theorem WinchFailed.of_start (h : WinchFailed addr s t) (start : WinchStart addr s s') : WinchFailed addr s' t := by
  obtain ⟨haborted, hnoted, hkept⟩ := h
  have hnow : s'.now = s.now := by simp only [State.now, start.clk]
  have hheader : s'.header = s.header := State.header_congr start.tbl (by rw [start.run])
  rw [← start.count, ← start.run] at haborted hnoted hkept
  rw [← start.pls] at hkept
  refine ⟨fun h2 h255 hwork => ?_, fun h2 h255 hwork => ?_, hkept⟩
  · obtain ⟨hretrieve, hrecord⟩ := haborted h2 h255 hwork
    exact ⟨hretrieve.of_start hnow.symm hheader.symm (by rw [start.run]) (by rw [start.run]), by rw [start.run, hrecord]⟩
  · obtain ⟨hstate, hmarker, hpls, hrecord⟩ := hnoted h2 h255 hwork
    exact ⟨by rw [start.run, hstate], by rw [start.run, hmarker], by rw [start.pls, hpls], by rw [start.run, hrecord]⟩

theorem WinchFailed.carriedOn (h : WinchFailed addr s u) (e : CarriedOn u t) (hpls : t.pls = u.pls) :
    WinchFailed addr s t := by
  obtain ⟨haborted, hnoted, hkept⟩ := h
  rw [← e.run, ← hpls] at hkept
  exact ⟨fun h2 h255 hwork => (haborted h2 h255 hwork).carriedOn e hpls,
    fun h2 h255 hwork => (hnoted h2 h255 hwork).carriedOn e hpls, hkept⟩

end

theorem nodeFailure_winch {addr : Nat} {s : State} (h : 1 ≤ addr ∧ addr ≤ s.loop.nodeFail.length)
    (hheld : s.run.held = some addr) : WinchFailed addr s (nodeFailure addr s) := by
  have hgiven : (s.setLoop (s.loop.failNode addr)).run = s.run := rfl
  rw [nodeFailure_eq h]
  constructor
  case aborted =>
    intro h2 h255 hwork
    rw [if_pos ⟨hheld, h2, h255⟩]
    obtain ⟨hretrieve, hrecord⟩ := abortRun_aborted .abortedLoop (s := s.setLoop (s.loop.failNode addr)) hwork
    exact ⟨hretrieve.of_start rfl rfl rfl rfl, hrecord⟩
  case noted =>
    intro h2 h255 hwork
    rw [if_pos ⟨hheld, h2, h255⟩]
    obtain ⟨hstate, hmarker, hpls, hrecord⟩ :=
      abortRun_noted .abortedLoop (s := s.setLoop (s.loop.failNode addr)) hwork
    exact ⟨hstate, hmarker, hpls, hrecord⟩
  case kept =>
    intro hrange
    rw [if_neg (by omega)]
    exact ⟨rfl, rfl, rfl, rfl, rfl⟩

/-! ## A grant that is not held is not held after an abort -/

theorem Loop.claim_notHeld {l : Loop} (cause : ClaimCause) (h : l.grant.held = false) :
    (l.claim cause).grant.held = false := by
  simp only [Grant.held, Bool.or_eq_false_iff, beq_eq_false_iff_ne, and_assoc] at h
  obtain ⟨hheld, hclosing, hclaiming⟩ := h
  unfold Loop.claim
  cases hstate : l.grant.state <;> cases cause <;> simp_all [Grant.held]

theorem abortRun_notHeld (cause : RunOutcome) {s : State} (h : s.loop.grant.held = false) :
    (abortRun cause s).loop.grant.held = false := by
  unfold abortRun
  split
  · simpa using Loop.claim_notHeld .runEngine h
  · split
    · exact h
    · exact h

theorem nodeFailure_notHeld (addr : Nat) {s : State} (h : s.loop.grant.held = false) :
    (nodeFailure addr s).loop.grant.held = false := by
  have hfailed : (s.setLoop (s.loop.failNode addr)).loop.grant.held = false := by simpa using h
  unfold nodeFailure runCountRise
  dsimp only
  split
  · split
    · exact abortRun_notHeld _ hfailed
    · exact hfailed
  · exact hfailed

/-! ## The failed poll (R73) -/

/-- The reply pair seen high since the fine time `x`. -/
def heardFrom (x : Nat) (s : State) : State := s.setLoop (s.loop.highFrom x)

theorem heardFrom_self (s : State) : heardFrom s.loop.highSince s = s := rfl

/-- The transaction at `addr` ended in failure, before its asker is told. -/
def failedState (k : RxFault) (addr : Nat) (s : State) : State :=
  nodeFailure addr (s.setLoop (s.loop.dropTxn.countFault k))

theorem failTxn_poll {k : RxFault} {ch addr : Nat} {ph : TxnPhase} {s : State}
    (h : s.loop.txn = some { asker := .poll ch, addr := addr, phase := ph }) :
    failTxn k s =
      notifyMissing ch
        ((failedState k addr s).setLoop ((failedState k addr s).loop.pollOutcome ch (.failed k))) := by
  simp [failTxn, h, failedState]

theorem Loop.pollOutcome_poll {l : Loop} {ch : Nat} {p : Poll} (o : PollOutcome) (h : l.poll? ch = some p) :
    (l.pollOutcome ch o).poll? ch = some { p with last := some o } := by
  simp [Loop.pollOutcome, h, Loop.poll?_setPoll_same _ h]

theorem Loop.dropTxn_rx {l : Loop} (h : l.rx = none ∨ ∃ a, l.rx = some { addr := a, context := .reply }) :
    l.dropTxn.rx = none := by
  obtain h | ⟨a, h⟩ := h <;> simp [Loop.dropTxn, h]

section
variable {k : RxFault} {ch addr : Nat} {ph : TxnPhase} {x : Nat} {s : State}

theorem failedState_frame (k : RxFault) (addr x : Nat) (s : State) :
    (failedState k addr (heardFrom x s)).loop.jam = s.loop.jam ∧
      (failedState k addr (heardFrom x s)).loop.lineBreak = s.loop.lineBreak ∧
      (failedState k addr (heardFrom x s)).loop.faults = s.loop.faults.count k ∧
      (failedState k addr (heardFrom x s)).loop.sched = s.loop.sched ∧
      (failedState k addr (heardFrom x s)).loop.txn = none ∧
      (failedState k addr (heardFrom x s)).loop.rx = s.loop.dropTxn.rx := by
  simp [failedState, heardFrom, Loop.countFault, Loop.dropTxn]

theorem failedState_nodeCount (k : RxFault) (x : Nat) (h : 1 ≤ addr ∧ addr ≤ s.loop.nodeFail.length) :
    (failedState k addr (heardFrom x s)).loop.nodeCount addr = min (s.loop.nodeCount addr + 1) 255 ∧
      ∀ b, b ≠ addr → (failedState k addr (heardFrom x s)).loop.nodeCount b = s.loop.nodeCount b := by
  have hfail := nodeFailure_nodeFail
    (s := (heardFrom x s).setLoop ((heardFrom x s).loop.dropTxn.countFault k)) (addr := addr) (by simpa [heardFrom] using h)
  refine ⟨?_, fun b hb => ?_⟩
  · rw [failedState, Loop.nodeCount_congr hfail, Loop.nodeCount_failNode_same (by simpa [heardFrom] using h)]
    rfl
  · rw [failedState, Loop.nodeCount_congr hfail, Loop.nodeCount_failNode_ne hb]
    rfl

/-- The state after a failed poll, a marked character `y` having begun the next frame. -/
def pollFailedState (k : RxFault) (ch addr x : Nat) (y : Option RxFrame) (s : State) : State :=
  notifyMissing ch
    ((failedState k addr (heardFrom x s)).setLoop
      { (failedState k addr (heardFrom x s)).loop.pollOutcome ch (.failed k) with rx := y })

theorem pollFailedState_loop (y : Option RxFrame) :
    (pollFailedState k ch addr x y s).loop =
      { (failedState k addr (heardFrom x s)).loop.pollOutcome ch (.failed k) with rx := y } := by
  simp [pollFailedState]

/-- R73, R74: what every failed poll does. -/
theorem pollFailed_of_others {bs : List Block} (y : Option RxFrame) (h : 1 ≤ addr ∧ addr ≤ s.loop.nodeFail.length)
    (others : ChangesOnly (.loop :: .ctl :: .stg :: bs) s (settle (pollFailedState k ch addr x y s))) :
    PollFailed bs k ch addr s (settle (pollFailedState k ch addr x y s)) := by
  obtain ⟨hjam, hbreak, hfaults, hsched, htxn, -⟩ := failedState_frame k addr x s
  obtain ⟨hnode, hnodes⟩ := failedState_nodeCount k x h
  have hloop := pollFailedState_loop (k := k) (ch := ch) (addr := addr) (x := x) (s := s) y
  have hfail : (settle (pollFailedState k ch addr x y s)).loop.nodeFail =
      (failedState k addr (heardFrom x s)).loop.nodeFail := by simp [hloop]
  constructor
  case others => exact others
  case ctl => constructor <;> simp [pollFailedState, failedState, heardFrom]
  case line => simp [hloop, hjam, hbreak]
  case counts => simp [hloop, failedState, heardFrom]
  case faults => simp [hloop, hfaults]
  case node => rw [Loop.nodeCount_congr hfail, hnode]
  case nodes =>
    intro b hb
    rw [Loop.nodeCount_congr hfail, hnodes b hb]
  case outcome =>
    intro p hp
    have hpoll : (pollFailedState k ch addr x y s).loop.poll? ch = some { p with last := some (.failed k) } := by
      rw [hloop]
      exact Loop.pollOutcome_poll _ (by rwa [Loop.poll?_congr hsched])
    obtain hsame | ⟨-, hmoved, -⟩ := settleFrom_poll (pollFailedState k ch addr x y s).fineNow hpoll
    · exact ⟨_, hsame, rfl, rfl, rfl⟩
    · exact ⟨_, hmoved, rfl, rfl, rfl⟩
  case missing =>
    have hnoted := notifyMissing_setLoop_noted ch (failedState k addr (heardFrom x s))
      { (failedState k addr (heardFrom x s)).loop.pollOutcome ch (.failed k) with rx := y }
    rw [show (failedState k addr (heardFrom x s)).cht = s.cht by simp [failedState, heardFrom],
      show (failedState k addr (heardFrom x s)).tbl = s.tbl by simp [failedState, heardFrom]] at hnoted
    exact hnoted.congr (by simp [failedState, heardFrom]) (by simp [pollFailedState])
  case ended => exact settleFrom_txn_new _ (by simp [hloop, htxn])

theorem pollFailed_other (y : Option RxFrame) (h : 1 ≤ addr ∧ addr ≤ s.loop.nodeFail.length)
    (hother : s.run.held ≠ some addr) : PollFailed [] k ch addr s (settle (pollFailedState k ch addr x y s)) := by
  refine pollFailed_of_others y h ?_
  unfold pollFailedState failedState
  rw [nodeFailure_of_other (by simpa [heardFrom] using h) (by simpa [heardFrom] using hother)]
  unfold heardFrom
  exact .of_blocks

theorem pollFailed_winch (y : Option RxFrame) (h : 1 ≤ addr ∧ addr ≤ s.loop.nodeFail.length)
    (hheld : s.run.held = some addr) :
    PollFailed [.run, .pls] k ch addr s (settle (pollFailedState k ch addr x y s)) ∧
      WinchFailed addr s (settle (pollFailedState k ch addr x y s)) := by
  refine ⟨pollFailed_of_others y h ?_, ?_⟩
  · unfold pollFailedState failedState heardFrom
    exact .of_blocks
  · have hstart : WinchStart addr ((heardFrom x s).setLoop ((heardFrom x s).loop.dropTxn.countFault k)) s :=
      ⟨rfl, rfl, rfl, rfl, rfl⟩
    have hfailed := nodeFailure_winch (s := (heardFrom x s).setLoop ((heardFrom x s).loop.dropTxn.countFault k))
      (by simpa [heardFrom] using h) hheld
    rw [← failedState] at hfailed
    refine (hfailed.of_start hstart).carriedOn (.trans ?_ (settle_carriedOn _)) (by simp [pollFailedState])
    unfold pollFailedState
    exact .of_places

end

/-! ## The rows that end a poll in failure (R71, R72) -/

/-- What a marked character that cuts a reply has begun, and otherwise nothing. -/
def cutFrameOf (f : FrameFault) : Option RxFrame := (cutBy f).map fun b => { addr := b, context := .unsolicited }

/-- The rows after which the poll of `ch` at `addr` has ended with the failure `k`, `y` being the frame then in progress. -/
structure PollFails (k : RxFault) (ch addr : Nat) (y : Option RxFrame) (c : Instr) (s : State) : Prop where
  row : ∃ x, exec c s = .next (settle (pollFailedState k ch addr x y s))

theorem PollFails.other {k : RxFault} {ch addr : Nat} {y : Option RxFrame} {c : Instr} {s : State}
    (h : PollFails k ch addr y c s) (hnode : 1 ≤ addr ∧ addr ≤ s.loop.nodeFail.length)
    (hother : s.run.held ≠ some addr) : ∃ t, exec c s = .next t ∧ PollFailed [] k ch addr s t ∧ t.loop.rx = y := by
  obtain ⟨x, hrow⟩ := h.row
  exact ⟨_, hrow, pollFailed_other y hnode hother, by simp [pollFailedState_loop]⟩

theorem PollFails.winch {k : RxFault} {ch addr : Nat} {y : Option RxFrame} {c : Instr} {s : State}
    (h : PollFails k ch addr y c s) (hnode : 1 ≤ addr ∧ addr ≤ s.loop.nodeFail.length)
    (hheld : s.run.held = some addr) :
    ∃ t, exec c s = .next t ∧ PollFailed [.run, .pls] k ch addr s t ∧ WinchFailed addr s t ∧ t.loop.rx = y := by
  obtain ⟨x, hrow⟩ := h.row
  obtain ⟨hfailed, hwinch⟩ := pollFailed_winch (k := k) (ch := ch) (x := x) y hnode hheld
  exact ⟨_, hrow, hfailed, hwinch, by simp [pollFailedState_loop]⟩

section
variable {k : RxFault} {ch addr : Nat} {ph : TxnPhase} {s : State}

/-- A failed poll leaves no frame in progress. -/
theorem failTxn_poll_heard (x : Nat) (h : s.loop.txn = some { asker := .poll ch, addr := addr, phase := ph }) :
    failTxn k (heardFrom x s) = pollFailedState k ch addr x s.loop.dropTxn.rx s := by
  obtain ⟨-, -, -, -, -, hrx⟩ := failedState_frame k addr x s
  have hheard : (heardFrom x s).loop.txn = some { asker := .poll ch, addr := addr, phase := ph } := h
  rw [failTxn_poll hheard, pollFailedState, ← hrx]
  have hkept : ((failedState k addr (heardFrom x s)).loop.pollOutcome ch (.failed k)).rx =
      (failedState k addr (heardFrom x s)).loop.rx := by simp
  rw [← hkept]

theorem notifyMissing_setLoop (ch : Nat) (s : State) (l : Loop) :
    (notifyMissing ch s).setLoop l = notifyMissing ch (s.setLoop l) := by
  have hmissing (src : Source) : (missingSample src s).setLoop l = missingSample src (s.setLoop l) := by
    unfold missingSample
    dsimp only
    split
    · next h => rw [if_pos (by simpa using h)]; rfl
    · next h => rw [if_neg (by simpa using h)]; rfl
  unfold notifyMissing
  simp only [State.setLoop_cht, State.setLoop_tbl]
  cases (activeRole s.cht.view s.tbl.channels ch).bind Role.source? with
  | none => rfl
  | some src => exact hmissing src

theorem pollFailedState_setRx (x : Nat) (y z : Option RxFrame) :
    (pollFailedState k ch addr x y s).setLoop { (pollFailedState k ch addr x y s).loop with rx := z } =
      pollFailedState k ch addr x z s := by
  rw [pollFailedState_loop]
  unfold pollFailedState
  rw [notifyMissing_setLoop]
  rfl

/-- R72, R75: with the reply pair free a marked character begins an unsolicited frame. -/
theorem beginFrame_of_free {s : State} (a : Byte) (hopen : s.loop.grant.held = false) (hfree : s.loop.txn = none) :
    beginFrame a s = s.setLoop { s.loop with rx := some { addr := a, context := .unsolicited } } := by
  simp [beginFrame, hopen, hfree]

theorem afterFault_pollFailed (f : FrameFault) (x : Nat) (hopen : s.loop.grant.held = false) :
    afterFault f (pollFailedState k ch addr x none s) = pollFailedState k ch addr x (cutFrameOf f) s := by
  have hgrant : (pollFailedState k ch addr x none s).loop.grant.held = false := by
    have hfailed := nodeFailure_notHeld addr
      (s := (heardFrom x s).setLoop ((heardFrom x s).loop.dropTxn.countFault k)) (by simpa [heardFrom] using hopen)
    rw [← failedState] at hfailed
    rw [pollFailedState_loop]
    simpa using hfailed
  have htxn : (pollFailedState k ch addr x none s).loop.txn = none := by
    rw [pollFailedState_loop]
    simp [failedState, heardFrom, Loop.countFault]
  unfold afterFault cutFrameOf
  cases cutBy f with
  | none => rfl
  | some a => exact (beginFrame_of_free a hgrant htxn).trans (pollFailedState_setRx x none _)

theorem replyTimeout_fails {e : Nat} (hawake : s.resetLine = false)
    (h : s.loop.txn = some { asker := .poll ch, addr := addr, phase := .waiting e }) (hpast : e ≤ s.fineNow) :
    PollFails .timeout ch addr s.loop.dropTxn.rx .replyTimeout s := by
  refine ⟨s.loop.highSince, ?_⟩
  have hrow : exec .replyTimeout s = execReplyTimeout s := rfl
  have hdue : s.loop.replyDue s.fineNow = true := by simpa [Loop.replyDue, h] using hpast
  rw [hrow, execReplyTimeout, taken_of_awake hawake, if_pos hdue, ← failTxn_poll_heard _ h, heardFrom_self]

theorem receptionFailure_fails {f : FrameFault} (hawake : s.resetLine = false) (hopen : s.loop.grant.held = false)
    (h : s.loop.txn = some { asker := .poll ch, addr := addr, phase := ph }) (hmay : s.loop.mayFail f = true)
    (hrx : s.loop.dropTxn.rx = none) :
    PollFails (faultKind f) ch addr (cutFrameOf f) (.receptionFailure f) s := by
  refine ⟨s.fineNow, ?_⟩
  have hrow : exec (.receptionFailure f) s = execReceptionFailure f s := rfl
  have hheard : seenHigh s = heardFrom s.fineNow s := rfl
  rw [hrow, execReceptionFailure, taken_of_awake hawake, if_pos hmay, hheard, failTxn_poll_heard _ h, hrx,
    afterFault_pollFailed _ _ hopen]

theorem receptionGap_fails {a : Byte} (hawake : s.resetLine = false)
    (h : s.loop.txn = some { asker := .poll ch, addr := addr, phase := ph })
    (hrx : s.loop.rx = some { addr := a, context := .reply }) : PollFails .gap ch addr none .receptionGap s := by
  refine ⟨s.fineNow - 4 * loopChar s.loop.rate, ?_⟩
  have hrow : exec .receptionGap s = execReceptionGap s := rfl
  rw [hrow, execReceptionGap, taken_of_awake hawake]
  simp only [hrx, gapIn]
  rw [← Loop.dropTxn_rx (.inr ⟨a, hrx⟩), ← failTxn_poll_heard _ h]
  rfl

theorem bodyFault_of_good {b : FrameBody} (h : BodyGood b) : bodyFault b = none := by
  obtain ⟨hlength, hcrc⟩ := h
  rw [bodyFault, if_neg (by omega), if_neg (by simpa using hcrc)]

theorem bodyFault_of_bad {b : FrameBody} (h : ¬ BodyGood b) : bodyFault b = some (bodyFailure b) := by
  unfold bodyFault bodyFailure
  split
  · rfl
  · next hlength =>
    rw [if_pos fun hcrc => h ⟨by omega, hcrc⟩]

theorem endReply_of_fails {b : FrameBody} {a : Byte} {t : Txn} {s : State} (h : s.loop.txn = some t)
    (hrx : s.loop.rx = some { addr := a, context := .reply }) (hfails : ReplyFails b a t.addr k) :
    endReply b s = failTxn k s := by
  obtain ⟨hbad, rfl⟩ | ⟨hgood, hother, rfl⟩ := hfails
  · simp [endReply, h, hrx, bodyFault_of_bad hbad]
  · simp [endReply, h, hrx, bodyFault_of_good hgood, hother]

theorem replyReceived_fails {b : FrameBody} {a : Byte} (hawake : s.resetLine = false)
    (h : s.loop.txn = some { asker := .poll ch, addr := addr, phase := .replying })
    (hrx : s.loop.rx = some { addr := a, context := .reply }) (hfails : ReplyFails b a addr k) :
    PollFails k ch addr none (.replyReceived b) s := by
  refine ⟨s.fineNow, ?_⟩
  have hrow : exec (.replyReceived b) s = execReplyReceived b s := rfl
  have hheard : seenHigh s = heardFrom s.fineNow s := rfl
  have hreply : s.loop.inReply = true := by simp [Loop.inReply, h, hrx]
  have hend : endReply b (heardFrom s.fineNow s) = failTxn k (heardFrom s.fineNow s) :=
    endReply_of_fails (t := { asker := .poll ch, addr := addr, phase := .replying }) h hrx hfails
  rw [hrow, execReplyReceived, taken_of_awake hawake, if_pos hreply, hheard, hend, failTxn_poll_heard _ h,
    Loop.dropTxn_rx (.inr ⟨a, hrx⟩)]

end

/-- R71, R72: a low stop bit can end a transaction that waits, and any fault a reply in progress, a stray only one of
another node. -/
theorem Loop.mayFail_of_reply {l : Loop} {t : Txn} {a : Byte} {f : FrameFault} (h : l.txn = some t)
    (hphase : t.phase = .replying) (hrx : l.rx = some { addr := a, context := .reply })
    (hstray : f = .stray → a.toNat ≠ t.addr) : l.mayFail f = true := by
  cases f <;> simp [Loop.mayFail, Loop.inReply, h, hphase, hrx]
  exact hstray rfl

theorem Loop.mayFail_of_waiting {l : Loop} {t : Txn} {e : Nat} (h : l.txn = some t) (hphase : t.phase = .waiting e)
    (hrx : l.rx = none) : l.mayFail .framing = true := by
  simp [Loop.mayFail, Loop.waits, h, hphase, hrx]

/-- Settles O32. -/
theorem failedPollIsCountedAndTold : Obligations.FailedPollIsCountedAndTold := by
  intro s ch addr ph hawake hpos hle hlength hopen htxn
  have hnode : 1 ≤ addr ∧ addr ≤ s.loop.nodeFail.length := ⟨hpos, by omega⟩
  refine ⟨fun hother => ⟨fun e hph hpast => ?_, fun e hph hrx => ?_, fun a hph hrx => ?_⟩,
    fun hheld => ⟨fun e hph hpast => ?_, fun e hph hrx => ?_, fun a hph hrx => ?_⟩⟩ <;> subst hph
  · obtain ⟨t, hexec, hfailed, -⟩ := (replyTimeout_fails hawake htxn hpast).other hnode hother
    exact ⟨t, hexec, hfailed⟩
  · exact (receptionFailure_fails hawake hopen htxn (Loop.mayFail_of_waiting htxn rfl hrx)
      (Loop.dropTxn_rx (.inl hrx))).other hnode hother
  · refine ⟨fun f hstray => ?_, (receptionGap_fails hawake htxn hrx).other hnode hother,
      fun b k hfails => (replyReceived_fails hawake htxn hrx hfails).other hnode hother⟩
    exact (receptionFailure_fails hawake hopen htxn (Loop.mayFail_of_reply htxn rfl hrx hstray)
      (Loop.dropTxn_rx (.inr ⟨a, hrx⟩))).other hnode hother
  · obtain ⟨t, hexec, hfailed, hwinch, -⟩ := (replyTimeout_fails hawake htxn hpast).winch hnode hheld
    exact ⟨t, hexec, hfailed, hwinch⟩
  · exact (receptionFailure_fails hawake hopen htxn (Loop.mayFail_of_waiting htxn rfl hrx)
      (Loop.dropTxn_rx (.inl hrx))).winch hnode hheld
  · refine ⟨fun f hstray => ?_, (receptionGap_fails hawake htxn hrx).winch hnode hheld,
      fun b k hfails => (replyReceived_fails hawake htxn hrx hfails).winch hnode hheld⟩
    exact (receptionFailure_fails hawake hopen htxn (Loop.mayFail_of_reply htxn rfl hrx hstray)
      (Loop.dropTxn_rx (.inr ⟨a, hrx⟩))).winch hnode hheld

end Sys2Proof.Machine
end

section
/-! A run-engine command that has failed (R73, R83, R138, R142, R147). -/

namespace Sys2Proof.Machine

set_option Elab.async false

/-! ## What RUN does at an outcome (R83) -/

theorem Run.note_lastCmd (r : Run) (id : Nat) (o : CmdOutcome) :
    (r.note id o).lastCmd.map Prod.fst = r.lastCmd.map Prod.fst := by
  simp [Run.note, Function.comp_def]

/-- R138, R142, R147: in each state but POINT-SEEK an outcome leaves RUN with the note of it and the enquiry interval. -/
theorem runOutcome_notSeeking {s : State} (id : Nat) (o : CmdOutcome)
    (h : s.run.state ≠ .pointSeek ∨ s.run.haltId ≠ some id) :
    ∃ sent e, runOutcome id o s = s.setRun { s.run.note id o with retrieveSent := sent, enquiryAt := e } := by
  unfold runOutcome
  dsimp only
  split
  · next hstate => exact ⟨_, _, if_neg (h.resolve_left (absurd hstate))⟩
  · split
    · exact ⟨_, _, rfl⟩
    · exact ⟨_, _, rfl⟩
  · split
    · split
      · exact ⟨_, _, rfl⟩
      · exact ⟨_, _, rfl⟩
    · exact ⟨_, _, rfl⟩
  · exact ⟨_, _, rfl⟩

theorem runOutcome_told {s : State} {id : Nat} (o : CmdOutcome) (h : s.run.haltId ≠ some id) :
    (runOutcome id o s).run.told = some (id, o) := by
  obtain ⟨sent, e, heq⟩ := runOutcome_notSeeking id o (.inr h)
  rw [heq]
  rfl

theorem abortRun_haltId (cause : RunOutcome) (s : State) :
    (abortRun cause s).run.haltId = s.run.haltId ∨ (abortRun cause s).run.haltId = none := by
  unfold abortRun
  split
  · exact .inr (by simp [enterRetrieve, Run.enter])
  · split
    · exact .inl rfl
    · exact .inl (by simp)

/-! ## An outcome after the failure of the winch -/

section
variable {cause : RunOutcome} {addr id : Nat} {o : CmdOutcome} {s u : State}

theorem RetrieveBegun.outcome (h : RetrieveBegun s u) : RetrieveBegun s (runOutcome id o u) := by
  obtain ⟨hstate, hvertical, htimers, hretrieve, hrotor, hlatches, hmarker, hheld, hcommand⟩ := h
  obtain ⟨sent, e, heq⟩ := runOutcome_notSeeking (s := u) id o (.inl (by simp [hstate]))
  rw [heq]
  refine ⟨hstate, hvertical, htimers, hretrieve, hrotor, hlatches, hmarker, hheld, fun a ha => ?_⟩
  obtain ⟨c, hkind, haddr, hlast, hhanded⟩ := hcommand a ha
  exact ⟨c, hkind, haddr, (Run.note_lastCmd u.run id o).trans hlast, hhanded⟩

theorem RunAborted.outcome (h : RunAborted cause s u) : RunAborted cause s (runOutcome id o u) := by
  obtain ⟨hretrieve, hrecord⟩ := h
  exact ⟨hretrieve.outcome, by simpa using hrecord⟩

theorem CauseNoted.outcome (h : CauseNoted cause s u) : CauseNoted cause s (runOutcome id o u) := by
  obtain ⟨hstate, hmarker, hpls, hrecord⟩ := h
  exact ⟨by simpa using hstate, by simpa using hmarker, by simpa using hpls, by simpa using hrecord⟩

theorem WinchFailed.outcome (h : WinchFailed addr s u) : WinchFailed addr s (runOutcome id o u) := by
  obtain ⟨haborted, hnoted, hkept⟩ := h
  exact ⟨fun h2 h255 hwork => (haborted h2 h255 hwork).outcome, fun h2 h255 hwork => (hnoted h2 h255 hwork).outcome,
    by simpa using hkept⟩

end

/-! ## The failed command (R73, R152) -/

theorem beginFrame_of_noTxn (a : Byte) {s : State} (h : s.loop.txn = none) : (beginFrame a s).loop.txn = none := by
  unfold beginFrame
  dsimp only
  split
  · exact h
  · simp [h]

theorem afterFault_carriedOn (f : FrameFault) {s : State} (h : s.loop.txn = none) : CarriedOn s (afterFault f s) := by
  unfold afterFault
  cases cutBy f with
  | none => exact .refl s
  | some a => exact .of_places (txn := by rw [h, beginFrame_of_noTxn a h])

/-- The state after a failed command, before what its cut reply may have begun. -/
def commandFailedState (c : RunCmd) (k : RxFault) (a x : Nat) (s : State) : State :=
  runOutcome c.id (.failed k) (failedState k a (heardFrom x s))

section
variable {c : RunCmd} {k : RxFault} {a x : Nat} {ph : TxnPhase} {s : State}

theorem failTxn_command (h : s.loop.txn = some { asker := .run c, addr := a, phase := ph }) (x : Nat) :
    failTxn k (heardFrom x s) = commandFailedState c k a x s := by
  have hheard : (heardFrom x s).loop.txn = some { asker := .run c, addr := a, phase := ph } := h
  simp [failTxn, hheard, commandFailedState, failedState]

theorem failedState_winch (k : RxFault) (x : Nat) (hnode : 1 ≤ a ∧ a ≤ s.loop.nodeFail.length)
    (hheld : s.run.held = some a) : WinchFailed a s (failedState k a (heardFrom x s)) := by
  have hstart : WinchStart a ((heardFrom x s).setLoop ((heardFrom x s).loop.dropTxn.countFault k)) s :=
    ⟨rfl, rfl, rfl, rfl, rfl⟩
  have hfailed := nodeFailure_winch (s := (heardFrom x s).setLoop ((heardFrom x s).loop.dropTxn.countFault k))
    (by simpa [heardFrom] using hnode) hheld
  rw [← failedState] at hfailed
  exact hfailed.of_start hstart

theorem failedState_haltId (k : RxFault) (a x : Nat) (s : State) :
    (failedState k a (heardFrom x s)).run.haltId = s.run.haltId ∨
      (failedState k a (heardFrom x s)).run.haltId = none := by
  unfold failedState nodeFailure runCountRise
  dsimp only
  split
  · split
    · exact abortRun_haltId ..
    · exact .inl rfl
  · exact .inl rfl

/-- An early failure leaves RUN as it was before it is told. -/
theorem failedState_run (k : RxFault) (x : Nat) (hnode : 1 ≤ a ∧ a ≤ s.loop.nodeFail.length)
    (hearly : s.loop.nodeCount a < 2) : (failedState k a (heardFrom x s)).run = s.run := by
  have hcount : ((heardFrom x s).setLoop ((heardFrom x s).loop.dropTxn.countFault k)).loop.nodeCount a =
      s.loop.nodeCount a := rfl
  rw [failedState, nodeFailure_eq (by simpa [heardFrom] using hnode), if_neg (by rw [hcount]; omega)]
  rfl

theorem commandFailed (f : FrameFault) (k : RxFault) (x : Nat) (hnode : 1 ≤ a ∧ a ≤ s.loop.nodeFail.length)
    (hheld : s.run.held = some a) : CommandFailed c a k s (settle (afterFault f (commandFailedState c k a x s))) := by
  obtain ⟨-, -, hfaults, -, htxn, -⟩ := failedState_frame k a x s
  obtain ⟨hcount, hcounts⟩ := failedState_nodeCount k x hnode
  have hfail : (settle (afterFault f (commandFailedState c k a x s))).loop.nodeFail =
      (failedState k a (heardFrom x s)).loop.nodeFail := by simp [commandFailedState]
  have hrun : (settle (afterFault f (commandFailedState c k a x s))).run = (commandFailedState c k a x s).run := by simp
  constructor
  case others =>
    unfold commandFailedState failedState heardFrom
    exact .of_blocks
  case ctl => constructor <;> simp [commandFailedState, failedState, heardFrom]
  case node => rw [Loop.nodeCount_congr hfail, hcount]
  case nodes =>
    intro b hb
    rw [Loop.nodeCount_congr hfail, hcounts b hb]
  case faults => simp [commandFailedState, hfaults]
  case winch =>
    refine (failedState_winch k x hnode hheld).outcome.carriedOn
      (.trans (afterFault_carriedOn f ?_) (settle_carriedOn _)) (by simp [commandFailedState])
    simp [htxn]
  case told =>
    intro hother
    rw [hrun]
    refine runOutcome_told _ ?_
    obtain hsame | hnone := failedState_haltId k a x s
    · rwa [hsame]
    · simp [hnone]
  case enquiry =>
    intro y w hlast hid hearly hstate
    have hsame := failedState_run k x hnode hearly
    have hnow : (failedState k a (heardFrom x s)).now = s.now := by simp [State.now, failedState, heardFrom]
    have hlatest : s.run.isLast c.id = some y := by simp [Run.isLast, hlast, Option.filter, hid]
    rw [hrun, commandFailedState]
    obtain hretrieve | ⟨hverify, hpoll⟩ := hstate
    · simp [runOutcome, hsame, hretrieve, hlatest, hnow, Run.note, CmdOutcome.reached]
    · simp [runOutcome, hsame, hverify, hlatest, hnow, hpoll, Run.note, CmdOutcome.reached]

/-! ## The rows that end a command in failure (R71, R72) -/

theorem replyTimeout_fails_command {e : Nat} (hawake : s.resetLine = false)
    (h : s.loop.txn = some { asker := .run c, addr := a, phase := .waiting e }) (hpast : e ≤ s.fineNow) :
    exec .replyTimeout s = .next (settle (afterFault .crc (commandFailedState c .timeout a s.loop.highSince s))) := by
  have hrow : exec .replyTimeout s = execReplyTimeout s := rfl
  have hdue : s.loop.replyDue s.fineNow = true := by simpa [Loop.replyDue, h] using hpast
  rw [hrow, execReplyTimeout, taken_of_awake hawake, if_pos hdue, ← failTxn_command h, heardFrom_self]
  rfl

theorem receptionFailure_fails_command {f : FrameFault} (hawake : s.resetLine = false)
    (h : s.loop.txn = some { asker := .run c, addr := a, phase := ph }) (hmay : s.loop.mayFail f = true) :
    exec (.receptionFailure f) s =
      .next (settle (afterFault f (commandFailedState c (faultKind f) a s.fineNow s))) := by
  have hrow : exec (.receptionFailure f) s = execReceptionFailure f s := rfl
  have hheard : seenHigh s = heardFrom s.fineNow s := rfl
  rw [hrow, execReceptionFailure, taken_of_awake hawake, if_pos hmay, hheard, failTxn_command h]

theorem receptionGap_fails_command {y : Byte} (hawake : s.resetLine = false)
    (h : s.loop.txn = some { asker := .run c, addr := a, phase := ph })
    (hrx : s.loop.rx = some { addr := y, context := .reply }) :
    exec .receptionGap s =
      .next (settle (afterFault .crc (commandFailedState c .gap a (s.fineNow - 4 * loopChar s.loop.rate) s))) := by
  have hrow : exec .receptionGap s = execReceptionGap s := rfl
  rw [hrow, execReceptionGap, taken_of_awake hawake]
  simp only [hrx, gapIn]
  rw [← failTxn_command h]
  rfl

theorem replyReceived_fails_command {b : FrameBody} {y : Byte} (hawake : s.resetLine = false)
    (h : s.loop.txn = some { asker := .run c, addr := a, phase := .replying })
    (hrx : s.loop.rx = some { addr := y, context := .reply }) (hfails : ReplyFails b y a k) :
    exec (.replyReceived b) s = .next (settle (afterFault .crc (commandFailedState c k a s.fineNow s))) := by
  have hrow : exec (.replyReceived b) s = execReplyReceived b s := rfl
  have hheard : seenHigh s = heardFrom s.fineNow s := rfl
  have hreply : s.loop.inReply = true := by simp [Loop.inReply, h, hrx]
  have hend : endReply b (heardFrom s.fineNow s) = failTxn k (heardFrom s.fineNow s) :=
    endReply_of_fails (t := { asker := .run c, addr := a, phase := .replying }) h hrx hfails
  rw [hrow, execReplyReceived, taken_of_awake hawake, if_pos hreply, hheard, hend, failTxn_command h]
  rfl

end

end Sys2Proof.Machine
end

section
/-! The ends of a run: the finish, CLOSE, and the retrieval (R145 to R149, R156, R168 to R170). -/

namespace Sys2Proof.Machine

set_option Elab.async false

/-! ## The finish (R149, R168, R169) -/

/-- The computation and the flags of the record of a finish, before the adoption. -/
def finishCalc (r : RunRec) : Calc := r.figures.getD emptyCalc

def finishFlags (r : RunRec) : GaugeFlags := gaugeFlags r.flags r.verticals (finishCalc r)

/-- R169: the shift of the run is wanted, and lies within the adopt limit. -/
def shiftWanted (r : RunRec) (o : RunOutcome) (s : State) : Bool :=
  adoptable (gradeOf o (finishFlags r)) (planHeader (s.planOf r)).adopt (finishCalc r)

def shiftWithin (r : RunRec) (s : State) : Bool := withinAdoptLimit (cfgAdoptLimit s.tbl.config) (finishCalc r)

/-- The adoption that a finish makes. -/
def adoption (r : RunRec) (o : RunOutcome) (s : State) : State × Option Placement :=
  if shiftWanted r o s && shiftWithin r s && s.clk.valid then
    adopt s.clk.time ((finishCalc r).indicated.getD 0) s
  else (s, none)

/-- The gauging record that a finish writes. -/
def finishRecord (r : RunRec) (o : RunOutcome) (s : State) : GaugeRec :=
  gaugeRecord r o (finishCalc r)
    { finishFlags r with
      shiftAdopted := (adoption r o s).2.isSome, shiftLimit := shiftWanted r o s && !shiftWithin r s }
    (gradeOf o (finishFlags r)) (adoption r o s).2 s.clk

theorem finishRun_eq (r : RunRec) (o : RunOutcome) (s : State) :
    finishRun r o s =
      (append (.gauging (finishRecord r o s)) (adoption r o s).1).setRun
        (append (.gauging (finishRecord r o s)) (adoption r o s).1).run.toIdle := rfl

theorem adoption_frame (r : RunRec) (o : RunOutcome) (s : State) :
    (adoption r o s).1.run = s.run ∧ (adoption r o s).1.store = s.store ∧ (adoption r o s).1.clk = s.clk := by
  unfold adoption
  split
  · unfold adopt
    split <;> simp
  · simp

theorem finishRun_store (r : RunRec) (o : RunOutcome) (s : State) :
    (finishRun r o s).store = s.store.append (.gauging (finishRecord r o s)) := by
  obtain ⟨-, hstore, -⟩ := adoption_frame r o s
  simp [finishRun_eq, hstore]

theorem finishRun_rat (r : RunRec) (o : RunOutcome) (s : State) : (finishRun r o s).rat = (adoption r o s).1.rat := by
  simp [finishRun_eq]

theorem finishRun_over (r : RunRec) (o : RunOutcome) (s : State) : RunOver s (finishRun r o s) := by
  obtain ⟨hrun, -, -⟩ := adoption_frame r o s
  constructor <;> simp [finishRun_eq, Run.toIdle, idleRun, hrun]

theorem gradeOf_of_aborted {o : RunOutcome} (h : o ≠ .complete) (f : GaugeFlags) : gradeOf o f = .poor :=
  if_neg fun hgood => h hgood.1

theorem adoption_of_unwanted {r : RunRec} {o : RunOutcome} {s : State} (h : shiftWanted r o s = false) :
    adoption r o s = (s, none) := by
  simp [adoption, h]

theorem finishRun_poor {r : RunRec} {o : RunOutcome} (h : o ≠ .complete) (s : State) :
    FinishedPoor r o s (finishRun r o s) := by
  have hgrade := gradeOf_of_aborted h (finishFlags r)
  have hunwanted : shiftWanted r o s = false := by simp [shiftWanted, hgrade, adoptable]
  have hadoption := adoption_of_unwanted hunwanted
  exact ⟨finishRun_over r o s, by rw [finishRun_rat, hadoption], finishRecord r o s, finishRun_store r o s, rfl, rfl, rfl,
    rfl, rfl, rfl, rfl, hgrade, by simp [finishRecord, gaugeRecord, hadoption],
    by simp [finishRecord, gaugeRecord, hadoption]⟩

/-! ## CLOSE (R146) -/

/-- RUN as it enters CLOSE with the figures of `r`. -/
def closingRun (r : RunRec) (s : State) : Run :=
  { (s.run.stopTimers s.now).enter .close with
    cursor := none, vertical := none, settleAt := none, retrieveAt := none, enquiryAt := none,
    record := some { r with figures := some (closeFigures (s.planOf r) r.verticals r.startStage) } }

theorem closeFigures_asked (plan : List Byte) (vs : List DoneVert) (startStage : Option Int) :
    (closeFigures plan vs startStage).asked =
      if vs.isEmpty then none else some (min (closeFigures plan vs startStage).total 100000000) := rfl

/-- R165: with a vertical completed CLOSE asks for the inverse lookup. -/
theorem enterClose_of_verticals {r : RunRec} (h : r.verticals ≠ []) (s : State) :
    enterClose r s = s.setRun (closingRun r s) := by
  have hasked : (closeFigures (s.planOf r) r.verticals r.startStage).asked ≠ none := by
    rw [closeFigures_asked, if_neg (by simpa using h)]
    simp
  unfold enterClose
  dsimp only
  cases hq : (closeFigures (s.planOf r) r.verticals r.startStage).asked with
  | none => exact absurd hq hasked
  | some q => rfl

/-- R146: without a vertical an aborted run is finished at once. -/
theorem enterClose_of_aborted {r : RunRec} {o : RunOutcome} (hnone : r.verticals = []) (ho : r.outcome = some o) (s : State) :
    enterClose r s =
      finishRun { r with figures := some (closeFigures (s.planOf r) [] r.startStage) } o (s.setRun (closingRun r s)) := by
  have hasked : (closeFigures (s.planOf r) [] r.startStage).asked = none := rfl
  simp only [enterClose, hnone, hasked, endClose, ho, closingRun]

theorem FinishedPoor.of_start {r r' : RunRec} {o : RunOutcome} {s s' t : State} (h : FinishedPoor r o s t)
    (plan : r'.plan = r.plan ∧ r'.planId = r.planId ∧ r'.start = r.start ∧ r'.startValid = r.startValid)
    (position : s'.run.position = s.run.position) (clk : s'.clk = s.clk) (rat : s'.rat = s.rat)
    (store : s'.store = s.store) : FinishedPoor r' o s' t := by
  obtain ⟨⟨hstate, hmarker, hheld, hrecord, htimers, hposition⟩, hrat, hgauge⟩ := h
  obtain ⟨hplan, hid, hstart, hvalid⟩ := plan
  refine ⟨⟨hstate, hmarker, hheld, hrecord, htimers, by rw [hposition, position]⟩, by rw [hrat, rat], ?_⟩
  rwa [hplan, hid, hstart, hvalid, clk, store]

/-! ## The end of a retrieval (R147, R149, R156) -/

/-- The record of a run at the end of its retrieval. -/
def retrievedRec (home : Bool) (r : RunRec) : RunRec :=
  if home then r else { r with flags := { r.flags with retrieveTimeout := true } }

/-- RUN with its retrieval over, before it goes on. -/
def retrievedState (home : Bool) (r : RunRec) (s : State) : State :=
  s.setRun { s.run with record := some (retrievedRec home r), retrieveAt := none, enquiryAt := none }

section
variable {home : Bool} {r : RunRec} {s : State} (hr : s.run.record = some r)
include hr

theorem endRetrieval_of_marker {m : Marker} (hfrom : r.fromMarker = true) (hm : s.run.marker = some m) :
    endRetrieval home s = endMarkedRetrieval m (retrievedRec home r) home (retrievedState home r s) := by
  have hflag : (retrievedRec home r).fromMarker = true := by
    unfold retrievedRec
    split <;> exact hfrom
  have hmarker : (retrievedState home r s).run.marker = some m := hm
  simp only [endRetrieval, hr]
  rw [← retrievedRec, ← retrievedState]
  simp only [hflag, hm]

theorem endRetrieval_of_run (hfrom : r.fromMarker = false ∨ s.run.marker = none) :
    endRetrieval home s =
      if r.outcome = some .complete then finishRun (retrievedRec home r) .complete (retrievedState home r s)
      else enterClose (retrievedRec home r) (retrievedState home r s) := by
  have hflag : (retrievedRec home r).fromMarker = r.fromMarker := by
    unfold retrievedRec
    split <;> rfl
  have houtcome : (retrievedRec home r).outcome = r.outcome := by
    unfold retrievedRec
    split <;> rfl
  simp only [endRetrieval, hr]
  rw [← retrievedRec, ← retrievedState, hflag, houtcome]
  obtain h | h := hfrom
  · rw [h]
  · cases r.fromMarker
    · rfl
    · rw [h]

end

theorem retrievedRec_frame (home : Bool) (r : RunRec) :
    (retrievedRec home r).plan = r.plan ∧ (retrievedRec home r).planId = r.planId ∧
      (retrievedRec home r).start = r.start ∧ (retrievedRec home r).startValid = r.startValid ∧
      (retrievedRec home r).startStage = r.startStage ∧ (retrievedRec home r).verticals = r.verticals ∧
      (retrievedRec home r).outcome = r.outcome ∧ (retrievedRec home r).fromMarker = r.fromMarker ∧
      (retrievedRec home r).figures = r.figures := by
  unfold retrievedRec
  split <;> exact ⟨rfl, rfl, rfl, rfl, rfl, rfl, rfl, rfl, rfl⟩

theorem toIdle_over (s : State) (r : Run) (h : r.position = s.run.position) : RunOver s (s.setRun r.toIdle) := by
  constructor <;> simp [Run.toIdle, idleRun, h]

/-- R156: the notice of a run begun at a reset whose record was written before. -/
theorem endMarkedRetrieval_of_written {m : Marker} (h : m.written = true) (r : RunRec) (home : Bool) (s : State) :
    RunOver s (endMarkedRetrieval m r home s) ∧
      (endMarkedRetrieval m r home s).store =
        s.store.append
          (.notice
            { time := s.clk.time, valid := s.clk.valid,
              body := .runRetrieved m.planId m.start m.startValid s.clk.time home }) := by
  rw [endMarkedRetrieval, if_pos h]
  refine ⟨?_, by simp [appendNotice]⟩
  constructor <;> simp [Run.toIdle, idleRun]

/-- R156: the record of one whose record was not. -/
theorem endMarkedRetrieval_of_unwritten {m : Marker} (h : m.written = false) (r : RunRec) (home : Bool) (s : State) :
    endMarkedRetrieval m r home s = finishRun r .abortedPower s := by
  rw [endMarkedRetrieval, if_neg (by simp [h])]

end Sys2Proof.Machine
end

section
/-! What a POSITION from the held winch address does to the run (R134 to R151). -/

namespace Sys2Proof.Machine

set_option Elab.async false

/-! ## The judgement, by the state that RUN is in -/

/-- RUN with the latest position taken. -/
def positioned (p : Position) (s : State) : State := s.setRun { s.run with position := some p }

theorem runPosition_eq {p : Position} {s : State} (h : s.run.held = some p.addr) (answers : Option Nat) :
    runPosition p answers s = judgePosition p answers (positioned p s) := by
  simp [runPosition, h, positioned]

theorem counts_iff {r : Run} {answers : Option Nat} : r.counts answers = true ↔ CountsForMove r answers := by
  unfold Run.counts CountsForMove
  cases r.moveId with
  | none => simp
  | some m => simp

theorem countsHome_iff {r : Run} {answers : Option Nat} : r.countsHome answers = true ↔ CountsForHome r answers := by
  unfold Run.countsHome CountsForHome
  cases r.lastCmd with
  | none => simp
  | some x =>
    obtain ⟨c, w⟩ := x
    simp only [Bool.or_eq_true, Bool.and_eq_true, beq_iff_eq, Option.some.injEq, Prod.mk.injEq]
    exact or_congr_right
      ⟨fun ⟨hkind, hid⟩ => ⟨c, w, ⟨rfl, rfl⟩, hkind, hid⟩, fun ⟨_, _, ⟨rfl, rfl⟩, hkind, hid⟩ => ⟨hkind, hid⟩⟩

theorem stopped_iff {w : WinchState} : w.stopped = true ↔ w ≠ .fault ∧ w ≠ .moving := by
  cases w <;> simp [WinchState.stopped]

section
variable {p : Position} {answers : Option Nat} {s : State}

theorem judgePosition_fault (hwork : s.run.state.working = true) (h : p.winch = .fault) :
    judgePosition p answers s = abortRun .abortedWinchFault s := by
  simp [judgePosition, hwork, h]

theorem judgePosition_traverse (hstate : s.run.state = .traverse) (h : p.winch ≠ .fault) :
    judgePosition p answers s = if s.run.counts answers && p.winch.stopped then enterVerify s else s := by
  simp [judgePosition, hstate, h, whenever]

theorem judgePosition_verify {r : RunRec} {v : Vertical} (hstate : s.run.state = .verify) (h : p.winch ≠ .fault)
    (hr : s.run.record = some r) (hv : s.run.vertical = some v) :
    judgePosition p answers s = judgeConfirm r v p s := by
  simp [judgePosition, hstate, h, hr, hv]

theorem judgePosition_pointSeek (hstate : s.run.state = .pointSeek) (h : p.winch ≠ .fault) :
    judgePosition p answers s = if s.run.counts answers && p.winch == .atTarget then enterSettle s else s := by
  simp [judgePosition, hstate, h, whenever]

theorem judgePosition_lift {r : RunRec} {v : Vertical} (hstate : s.run.state = .lift) (h : p.winch ≠ .fault)
    (hr : s.run.record = some r) (hv : s.run.vertical = some v) :
    judgePosition p answers s =
      if s.run.counts answers && p.winch == .atTarget then completeVertical r v s else s := by
  simp [judgePosition, hstate, h, hr, hv, whenever]

theorem judgePosition_lift_waits (hstate : s.run.state = .lift) (h : p.winch ≠ .fault)
    (hnot : ¬ (s.run.counts answers && p.winch == .atTarget) = true) : judgePosition p answers s = s := by
  unfold judgePosition
  rw [if_neg (by simp [h])]
  cases hr : s.run.record <;> cases hv : s.run.vertical <;> simp [hstate, whenever, hnot]

theorem judgePosition_still
    (hstate : s.run.state = .surfaceSeek ∨ s.run.state = .sound ∨ s.run.state = .settle ∨ s.run.state = .expose)
    (h : p.winch ≠ .fault) : judgePosition p answers s = s := by
  obtain hstate | hstate | hstate | hstate := hstate <;> simp [judgePosition, hstate, h]

theorem judgePosition_retrieve (hstate : s.run.state = .retrieve) :
    judgePosition p answers s =
      if p.winch = .fault then addCause .abortedWinchFault s
      else if s.run.countsHome answers && p.winch == .home then endRetrieval true s else s := by
  simp [judgePosition, hstate, RunState.working, whenever]

theorem judgePosition_close (hstate : s.run.state = .close) :
    judgePosition p answers s = if p.winch = .fault then addCause .abortedWinchFault s else s := by
  simp [judgePosition, hstate, RunState.working, whenever]

theorem judgePosition_idle (hstate : s.run.state = .idle) : judgePosition p answers s = s := by
  simp [judgePosition, hstate, RunState.working]

end

/-! ## Expiries that have come (R151) -/

theorem ExpiriesStand.refl (s : State) : ExpiriesStand s s := ⟨id, id⟩

/-- A state of the run in which the traverse timer is watched. -/
def RunState.traverses : RunState → Bool
  | .traverse | .verify => true
  | _ => false

/-- A state in which the cable timer is watched. -/
def RunState.lowers : RunState → Bool
  | .surfaceSeek | .sound | .pointSeek | .lift => true
  | _ => false

theorem traverseDue_iff (s : State) :
    s.traverseDue = true ↔
      s.run.traverseLapsed = true ∨ s.run.state.traverses = true ∧ dueAt s.run.traverseAt s.now = true := by
  cases h : s.run.state <;> simp [State.traverseDue, RunState.traverses, h]

theorem cableDue_iff (s : State) :
    s.cableDue = true ↔ s.run.cableLapsed = true ∨ s.run.state.lowers = true ∧ dueAt s.run.cableAt s.now = true := by
  cases h : s.run.state <;> simp [State.cableDue, RunState.lowers, h]

/-- R151: the timers of `s` either run on in `t`, in a state that watches them, or have left an expiry that had come. -/
structure TimersLeft (s t : State) : Prop where
  traverse : t.run.traverseLapsed = (s.run.traverseLapsed || dueAt s.run.traverseAt s.now) ∨
    (t.run.traverseLapsed = s.run.traverseLapsed ∧ t.run.traverseAt = s.run.traverseAt ∧
      (t.run.state.traverses = true ∨ s.run.state.traverses = false))
  cable : t.run.cableLapsed = (s.run.cableLapsed || dueAt s.run.cableAt s.now) ∨
    (t.run.cableLapsed = s.run.cableLapsed ∧ t.run.cableAt = s.run.cableAt ∧
      (t.run.state.lowers = true ∨ s.run.state.lowers = false))
  clk : t.clk = s.clk := by simp

theorem TimersLeft.stand {s t : State} (h : TimersLeft s t) : ExpiriesStand s t := by
  obtain ⟨htraverse, hcable, hclk⟩ := h
  have hnow : t.now = s.now := by simp only [State.now, hclk]
  refine ⟨fun hdue => ?_, fun hdue => ?_⟩
  · rw [traverseDue_iff] at hdue ⊢
    obtain hlapsed | ⟨hlapsed, htimer, hstate⟩ := htraverse
    · exact .inl (by rw [hlapsed, Bool.or_eq_true]; exact hdue.imp_right And.right)
    · rw [hlapsed, htimer, hnow]
      exact hdue.imp_right fun ⟨hwas, hpast⟩ => ⟨hstate.resolve_right (by simp [hwas]), hpast⟩
  · rw [cableDue_iff] at hdue ⊢
    obtain hlapsed | ⟨hlapsed, htimer, hstate⟩ := hcable
    · exact .inl (by rw [hlapsed, Bool.or_eq_true]; exact hdue.imp_right And.right)
    · rw [hlapsed, htimer, hnow]
      exact hdue.imp_right fun ⟨hwas, hpast⟩ => ⟨hstate.resolve_right (by simp [hwas]), hpast⟩

theorem enterTraverse_timers (entry x : Nat) (alternate : Bool) (s : State) :
    TimersLeft s (enterTraverse entry x alternate s) where
  traverse := .inl (by simp [enterTraverse, Run.enter, Run.stopTimers, Run.stopTraverse, Run.stopCable])
  cable := .inl (by simp [enterTraverse, Run.enter, Run.stopTimers, Run.stopTraverse, Run.stopCable])

theorem enterVerify_timers (s : State) (h : s.run.state = .traverse) : TimersLeft s (enterVerify s) where
  traverse := .inr (by simp [RunState.traverses])
  cable := .inr (by simp [RunState.lowers, h])

theorem resumeTraverse_timers (s : State) (h : s.run.state = .verify) : TimersLeft s (resumeTraverse s) where
  traverse := .inr (by simp [RunState.traverses])
  cable := .inr (by simp [RunState.lowers, h])

theorem enterSurfaceSeek_timers (s : State) : TimersLeft s (enterSurfaceSeek s) where
  traverse := .inl (by simp [enterSurfaceSeek, Run.enter, Run.stopTimers, Run.stopTraverse, Run.stopCable])
  cable := .inl (by simp [enterSurfaceSeek, Run.enter, Run.stopTimers, Run.stopTraverse, Run.stopCable])

theorem enterSettle_timers (s : State) (h : s.run.state = .pointSeek) : TimersLeft s (enterSettle s) where
  traverse := .inr (by simp [RunState.traverses, h])
  cable := .inl (by
    unfold enterSettle
    dsimp only
    split <;> simp [enterExpose, Run.enter, Run.stopCable, dueAt])

theorem enterRetrieve_timers (s : State) : TimersLeft s (enterRetrieve s) where
  traverse := .inl (by simp [enterRetrieve, Run.enter, Run.stopTimers, Run.stopTraverse, Run.stopCable])
  cable := .inl (by simp [enterRetrieve, Run.enter, Run.stopTimers, Run.stopTraverse, Run.stopCable])

theorem ExpiriesStand.trans {s u t : State} (h : ExpiriesStand s u) (k : ExpiriesStand u t) : ExpiriesStand s t := by
  obtain ⟨htraverse, hcable⟩ := h
  obtain ⟨htraverse', hcable'⟩ := k
  exact ⟨fun hdue => htraverse' (htraverse hdue), fun hdue => hcable' (hcable hdue)⟩

theorem ExpiriesStand.of_start {s u t : State} (h : ExpiriesStand u t) (traverse : u.traverseDue = s.traverseDue)
    (cable : u.cableDue = s.cableDue) : ExpiriesStand s t := by
  obtain ⟨htraverse, hcable⟩ := h
  rw [traverse] at htraverse
  rw [cable] at hcable
  exact ⟨htraverse, hcable⟩

theorem closing_timers (r : RunRec) (s : State) : TimersLeft s (s.setRun (closingRun r s)) where
  traverse := .inl (by simp [closingRun, Run.enter, Run.stopTimers, Run.stopTraverse, Run.stopCable])
  cable := .inl (by simp [closingRun, Run.enter, Run.stopTimers, Run.stopTraverse, Run.stopCable])

theorem endClose_expiries (r : RunRec) (c : Calc) (s : State) (h : (endClose r c s).run.state ≠ .idle) :
    ExpiriesStand s (endClose r c s) := by
  cases ho : r.outcome with
  | none =>
    have heq : endClose r c s =
        enterRetrieve
          (s.setRun { s.run with record := some { r with figures := some c, outcome := some .complete } }) := by
      simp only [endClose, ho]
    rw [heq]
    exact (enterRetrieve_timers _).stand.of_start rfl rfl
  | some o =>
    have heq : endClose r c s = finishRun { r with figures := some c } o s := by simp only [endClose, ho]
    rw [heq, (finishRun_over _ _ _).state] at h
    exact absurd rfl h

theorem enterClose_eq (r : RunRec) (s : State) :
    enterClose r s =
      if r.verticals.isEmpty then
        endClose r (closeFigures (s.planOf r) r.verticals r.startStage) (s.setRun (closingRun r s))
      else s.setRun (closingRun r s) := by
  by_cases h : r.verticals = []
  · have hasked : (closeFigures (s.planOf r) r.verticals r.startStage).asked = none := by
      rw [closeFigures_asked, h]
      rfl
    rw [if_pos (by simp [h])]
    simp only [enterClose, hasked, closingRun]
  · rw [if_neg (by simpa using h), enterClose_of_verticals h]

theorem enterClose_expiries (r : RunRec) (s : State) (h : (enterClose r s).run.state ≠ .idle) :
    ExpiriesStand s (enterClose r s) := by
  rw [enterClose_eq] at h ⊢
  split at h
  · next hnone =>
    rw [if_pos hnone]
    exact (closing_timers r s).stand.trans (endClose_expiries _ _ _ h)
  · next hsome =>
    rw [if_neg hsome]
    exact (closing_timers r s).stand

theorem endRetrieval_expiries {r : RunRec} (home : Bool) {s : State} (hr : s.run.record = some r)
    (h : (endRetrieval home s).run.state ≠ .idle) : ExpiriesStand s (endRetrieval home s) := by
  have hstart : ExpiriesStand s (retrievedState home r s) := ⟨id, id⟩
  have hover {o : RunOutcome} {q : RunRec} {u : State} (hne : (finishRun q o u).run.state ≠ .idle) : False :=
    hne (finishRun_over _ _ _).state
  have hrun (hfrom : endRetrieval home s =
      if r.outcome = some .complete then finishRun (retrievedRec home r) .complete (retrievedState home r s)
      else enterClose (retrievedRec home r) (retrievedState home r s)) : ExpiriesStand s (endRetrieval home s) := by
    rw [hfrom] at h ⊢
    split at h
    · exact (hover h).elim
    · next hother =>
      rw [if_neg hother]
      exact hstart.trans (enterClose_expiries _ _ h)
  cases hfrom : r.fromMarker with
  | false => exact hrun (endRetrieval_of_run hr (.inl hfrom))
  | true =>
    cases hm : s.run.marker with
    | some m =>
      rw [endRetrieval_of_marker hr hfrom hm] at h
      cases hw : m.written with
      | true => exact absurd (endMarkedRetrieval_of_written hw _ _ _).1.state h
      | false =>
        rw [endMarkedRetrieval_of_unwritten hw] at h
        exact (hover h).elim
    | none =>
      exact hrun (endRetrieval_of_run hr (.inr hm))

theorem completeVertical_expiries (r : RunRec) (v : Vertical) (s : State)
    (h : (completeVertical r v s).run.state ≠ .idle) : ExpiriesStand s (completeVertical r v s) := by
  unfold completeVertical at h ⊢
  dsimp only at h ⊢
  cases hnext : nextMeasure s.plan (v.entry + 1) with
  | some i => exact (enterTraverse_timers _ _ _ _).stand.of_start rfl rfl
  | none =>
    rw [hnext] at h
    exact (enterClose_expiries _ _ h).of_start rfl rfl

theorem judgeConfirm_expiries (r : RunRec) (v : Vertical) (p : Position) {s : State} (h : s.run.state = .verify) :
    ExpiriesStand s (judgeConfirm r v p s) := by
  unfold judgeConfirm
  split
  · exact (resumeTraverse_timers s h).stand
  · split
    · exact (enterSurfaceSeek_timers s).stand
    · unfold failTraverse
      split
      · exact (enterTraverse_timers _ _ _ _).stand
      · exact abortRun_expiriesStand ..

/-- R151: an expiry that has come stands after a POSITION that leaves the run going. -/
theorem judgePosition_expiries (p : Position) (answers : Option Nat) (s : State)
    (h : (judgePosition p answers s).run.state ≠ .idle) : ExpiriesStand s (judgePosition p answers s) := by
  by_cases hfault : s.run.state.working = true ∧ p.winch = .fault
  · rw [judgePosition_fault hfault.1 hfault.2]
    exact abortRun_expiriesStand ..
  · unfold judgePosition at h ⊢
    rw [if_neg (by simpa using hfault)] at h ⊢
    unfold whenever at h ⊢
    split at h
    · next hstate =>
      split
      · exact (enterVerify_timers s hstate).stand
      · exact .refl s
    · next r v hstate hr hv => exact judgeConfirm_expiries r v p hstate
    · next hstate =>
      split
      · exact (enterSettle_timers s hstate).stand
      · exact .refl s
    · split
      · next hlifted =>
        rw [if_pos hlifted] at h
        exact completeVertical_expiries _ _ _ h
      · exact .refl s
    · next hstate =>
      split
      · exact ⟨id, id⟩
      · next hnofault =>
        rw [if_neg hnofault] at h
        split
        · next hhome =>
          rw [if_pos hhome] at h
          cases hr : s.run.record with
          | some r => exact endRetrieval_expiries true hr h
          | none =>
            have heq : endRetrieval true s = s := by simp only [endRetrieval, hr]
            rw [heq]
            exact .refl s
        · exact .refl s
    · split
      · exact ⟨id, id⟩
      · exact .refl s
    · exact .refl s

end Sys2Proof.Machine
end

section
/-! The POSITION judged, as the statements say it (R134 to R151). -/

namespace Sys2Proof.Machine

set_option Elab.async false

/-! ## The moves of a run, by the state entered -/

theorem resumeTraverse_obtained {s : State} {v : Vertical} (hv : s.run.vertical = some v) :
    MoveObtained (.traverseTo v.targetX) (ReleaseMode.ofCode s.header.traverseMode) s (resumeTraverse s) := by
  have hmove : (s.setRun { s.run.enter .traverse with enquiryAt := none }).run.moveCommand =
      some (.traverseTo v.targetX) := by simp [Run.moveCommand, Run.enter, hv]
  exact (obtainMove_obtained hmove).of_start rfl

theorem enterSurfaceSeek_obtained (s : State) :
    MoveObtained (.cableTo 60000) (ReleaseMode.ofCode s.header.cableMode) s (enterSurfaceSeek s) :=
  (obtainMove_obtained rfl).of_start rfl

theorem enterNextPoint_obtained {s : State} {v : Vertical} {q : PointSpec} {qs : List PointSpec}
    (hv : s.run.vertical = some v) (hq : v.points = q :: qs) :
    MoveObtained (.cableTo q.cable) (ReleaseMode.ofCode s.header.cableMode) s (enterNextPoint s) := by
  have hmove : (s.setRun
      { (s.run.stopCable s.now).enter .pointSeek with
        cableAt := some (s.now + 1000 * s.header.cableTimeout) }).run.moveCommand = some (.cableTo q.cable) := by
    simp [Run.moveCommand, Run.enter, Run.stopCable, hv, hq]
  exact (obtainMove_obtained hmove).of_start rfl

theorem enterLift_obtained {s : State} {v : Vertical} (hv : s.run.vertical = some v) :
    MoveObtained (.cableTo (max (v.surface.getD 0 - 500) (-1000))) (ReleaseMode.ofCode s.header.cableMode) s
      (enterLift s) := by
  have hmove : (s.setRun
      { (s.run.stopCable s.now).enter .lift with
        cableAt := some (s.now + 1000 * s.header.cableTimeout) }).run.moveCommand =
        some (.cableTo (max (v.surface.getD 0 - 500) (-1000))) := by
    simp [Run.moveCommand, Run.enter, Run.stopCable, hv, liftCount]
  exact (obtainMove_obtained hmove).of_start rfl

theorem enterTraverse_begun (entry x : Nat) (alternate : Bool) (s : State) :
    TraverseBegun entry x alternate s (enterTraverse entry x alternate s) where
  state := by simp
  vertical := by simp
  timer := by simp [enterTraverse, Run.enter, Run.stopTimers, Run.stopCable]

theorem enterVerify_handsPoll {s : State} {a : Nat} (ha : s.run.held = some a) (hfree : s.loop.grantedTo a = false) :
    HandedOver .poll a (enterVerify s) := by
  have hgranted : s.winchGranted = false := by simp [State.winchGranted, ha, hfree]
  have heq : enterVerify s = handRun .poll (s.setRun { s.run.enter .verify with verifyGrant := false }) := by
    unfold enterVerify
    rw [hgranted]
    rfl
  rw [heq]
  exact handRun_handedOver _ ha

/-! ## The confirming frame (R138, R139) -/

theorem natAbs_le_iff_abs {a : Int} {n : Nat} : a.natAbs ≤ n ↔ |a| ≤ (n : Int) := by
  rw [Int.abs_eq_natAbs]
  omega

theorem alternateFor_eq_some {s : State} {r : RunRec} {v : Vertical} {x : Nat} (hr : s.run.record = some r) :
    alternateFor (s.planOf r) r v = some x ↔ SpareTaken s r v x := by
  have hplan : s.plan = s.planOf r := by simp [State.plan, State.planOf, hr]
  unfold alternateFor SpareTaken lastX
  dsimp only
  rw [hplan]
  constructor
  · intro h
    split at h
    · next hspare =>
      obtain ⟨hlink, hfresh, hlast⟩ := hspare
      obtain rfl : _ = x := Option.some.inj h
      exact ⟨hlink, hfresh, rfl, hlast⟩
    · cases h
  · rintro ⟨hlink, hfresh, rfl, hlast⟩
    exact if_pos ⟨hlink, hfresh, hlast⟩

section
variable {s : State} {r : RunRec} {v : Vertical} {p : Position}

theorem judgeConfirm_moving (h : p.winch = .moving) : judgeConfirm r v p s = resumeTraverse s := by
  simp [judgeConfirm, h]

theorem judgeConfirm_reached (h : p.winch = .atTarget ∨ p.winch = .idle ∨ p.winch = .home)
    (hnear : |(p.x : Int) - v.targetX| ≤ (s.header.tolerance : Int)) : judgeConfirm r v p s = enterSurfaceSeek s := by
  rw [← natAbs_le_iff_abs] at hnear
  obtain h | h | h := h <;> simp [judgeConfirm, h, hnear]

theorem judgeConfirm_failed (hmoving : p.winch ≠ .moving)
    (h : p.winch = .obstructed ∨ (s.header.tolerance : Int) < |(p.x : Int) - v.targetX|) :
    judgeConfirm r v p s = failTraverse r v s := by
  unfold judgeConfirm
  rw [if_neg hmoving, if_neg]
  rintro ⟨hclear, hnear⟩
  rw [natAbs_le_iff_abs] at hnear
  exact h.elim hclear (by omega)

theorem failTraverse_spare {x : Nat} (hr : s.run.record = some r) (h : SpareTaken s r v x) :
    failTraverse r v s = enterTraverse v.entry x true s := by
  rw [← alternateFor_eq_some hr] at h
  simp only [failTraverse, h]

theorem failTraverse_none (hr : s.run.record = some r) (h : ∀ x, ¬ SpareTaken s r v x) :
    failTraverse r v s = abortRun .positionError s := by
  have hnone : alternateFor (s.planOf r) r v = none := by
    rw [Option.eq_none_iff_forall_ne_some]
    intro x hx
    exact h x ((alternateFor_eq_some hr).mp hx)
  simp only [failTraverse, hnone]

end

/-! ## A vertical completed (R145) -/

theorem completed_completedVertical (s : State) (v : Vertical) : CompletedVertical s v (completed s v) := by
  refine ⟨rfl, rfl, rfl, rfl, ?_, rfl, rfl, rfl⟩
  have hclamp := clampInt_eq_max_min (lo := 0) (hi := 61000) (by omega) (v.depth.getD 0)
  simp only [completed, recordedDepth, hclamp]
  omega

theorem nextMeasure_eq_some_iff {s : State} {e i : Nat} :
    nextMeasure s.plan (e + 1) = some i ↔ NextMeasure s.plan e i := by
  simp only [nextMeasure, List.head?_filter, List.find?_range_eq_some, NextMeasure, Bool.and_eq_true, decide_eq_true_eq,
    beq_iff_eq, List.mem_range, Bool.not_eq_true', Bool.and_eq_false_iff, decide_eq_false_iff_not, beq_eq_false_iff_ne]
  constructor
  · rintro ⟨⟨hafter, hkind⟩, hcount, hbefore⟩
    exact ⟨hafter, hcount, hkind, fun j hej hji => (hbefore j hji).resolve_left (by omega)⟩
  · rintro ⟨hafter, hcount, hkind, hbefore⟩
    refine ⟨⟨hafter, hkind⟩, hcount, fun j hji => ?_⟩
    by_cases hej : e < j
    · exact .inr (hbefore j hej hji)
    · exact .inl (by omega)

/-- The run with one vertical more. -/
def withVertical (r : RunRec) (v : Vertical) (s : State) : RunRec := { r with verticals := r.verticals ++ [completed s v] }

theorem completeVertical_next {s : State} {r : RunRec} {v : Vertical} {i : Nat} (h : NextMeasure s.plan v.entry i) :
    completeVertical r v s =
      enterTraverse i (planEntry s.plan i).x false (s.setRun { s.run with record := some (withVertical r v s) }) := by
  rw [← nextMeasure_eq_some_iff] at h
  simp only [completeVertical, h, withVertical]

theorem completeVertical_last {s : State} {r : RunRec} {v : Vertical} (h : ∀ i, ¬ NextMeasure s.plan v.entry i) :
    completeVertical r v s =
      enterClose (withVertical r v s) (s.setRun { s.run with record := some (withVertical r v s) }) := by
  have hnone : nextMeasure s.plan (v.entry + 1) = none := by
    rw [Option.eq_none_iff_forall_ne_some]
    exact fun i hi => h i (nextMeasure_eq_some_iff.mp hi)
  simp only [completeVertical, hnone, withVertical]

end Sys2Proof.Machine
end

section
/-! The POSITION judged: each state that RUN may be in, put together (R134 to R151). -/

namespace Sys2Proof.Machine

set_option Elab.async false

theorem positioned_waits (p : Position) (s : State) : RunWaits s (positioned p s) :=
  ⟨rfl, ⟨rfl, rfl⟩, ⟨rfl, rfl⟩, rfl, ⟨rfl, rfl, rfl, rfl⟩, ⟨rfl, rfl, rfl⟩⟩

theorem RunAborted.of_positioned {cause : RunOutcome} {p : Position} {s t : State}
    (h : RunAborted cause (positioned p s) t) : RunAborted cause s t := by
  obtain ⟨hretrieve, hrecord⟩ := h
  exact ⟨hretrieve.of_start rfl rfl rfl rfl, hrecord⟩

/-- R147, R149, R156: what HOME brings, the position taken. -/
theorem endRetrieval_home {p : Position} {s : State} {r : RunRec} (hr : s.run.record = some r) :
    (r.fromMarker = false → r.outcome = some .complete →
      (endRetrieval true (positioned p s)).run.state = .idle ∧ (endRetrieval true (positioned p s)).run.marker = none ∧
      (endRetrieval true (positioned p s)).run.held = none ∧ (endRetrieval true (positioned p s)).run.record = none ∧
      ∃ g : GaugeRec, (endRetrieval true (positioned p s)).store = s.store.append (.gauging g) ∧
        g.outcome = .complete ∧ g.plan = r.plan ∧ g.planId = r.planId ∧ g.start = r.start ∧ g.stop = s.clk.time ∧
        g.flags.retrieveTimeout = r.flags.retrieveTimeout) ∧
    (r.fromMarker = false → r.outcome ≠ some .complete → r.verticals ≠ [] →
      (endRetrieval true (positioned p s)).run.state = .close ∧
      (endRetrieval true (positioned p s)).run.marker = s.run.marker ∧
      (endRetrieval true (positioned p s)).run.held = s.run.held ∧
      (endRetrieval true (positioned p s)).store = s.store ∧
      (endRetrieval true (positioned p s)).run.record =
        some { r with figures := some (closeFigures (s.tbl.plan r.plan) r.verticals r.startStage) }) ∧
    (∀ o, r.fromMarker = false → r.outcome = some o → o ≠ .complete → r.verticals = [] →
      FinishedPoor r o (positioned p s) (endRetrieval true (positioned p s))) ∧
    (∀ m, r.fromMarker = true → s.run.marker = some m → m.written = false →
      FinishedPoor r .abortedPower (positioned p s) (endRetrieval true (positioned p s))) ∧
    (∀ m, r.fromMarker = true → s.run.marker = some m → m.written = true →
      RunOver (positioned p s) (endRetrieval true (positioned p s)) ∧
      (endRetrieval true (positioned p s)).store =
        s.store.append
          (.notice
            { time := s.clk.time, valid := s.clk.valid,
              body := .runRetrieved m.planId m.start m.startValid s.clk.time true })) := by
  have hr' : (positioned p s).run.record = some r := hr
  refine ⟨fun hfrom ho => ?_, fun hfrom ho hsome => ?_, fun o hfrom ho hne hnone => ?_, fun m hfrom hm hw => ?_,
    fun m hfrom hm hw => ?_⟩
  · rw [endRetrieval_of_run hr' (.inl hfrom), if_pos ho]
    obtain ⟨hstate, hmarker, hheld, ⟨hrecord, -⟩, -, -⟩ :=
      finishRun_over (retrievedRec true r) .complete (retrievedState true r (positioned p s))
    exact ⟨hstate, hmarker, hheld, hrecord, _, finishRun_store _ _ _, rfl, rfl, rfl, rfl, rfl, rfl⟩
  · rw [endRetrieval_of_run hr' (.inl hfrom), if_neg ho]
    have hverticals : (retrievedRec true r).verticals ≠ [] := hsome
    rw [enterClose_of_verticals hverticals]
    exact ⟨rfl, rfl, rfl, rfl, rfl⟩
  · rw [endRetrieval_of_run hr' (.inl hfrom), if_neg (by simp [ho, hne])]
    have hverticals : (retrievedRec true r).verticals = [] := hnone
    rw [enterClose_of_aborted hverticals (show (retrievedRec true r).outcome = some o from ho)]
    exact (finishRun_poor hne _).of_start ⟨rfl, rfl, rfl, rfl⟩ rfl rfl rfl rfl
  · rw [endRetrieval_of_marker hr' hfrom hm, endMarkedRetrieval_of_unwritten hw]
    exact (finishRun_poor (by decide) _).of_start ⟨rfl, rfl, rfl, rfl⟩ rfl rfl rfl rfl
  · rw [endRetrieval_of_marker hr' hfrom hm]
    obtain ⟨⟨hstate, hmarker, hheld, hrecord, htimers, hposition⟩, hstore⟩ :=
      endMarkedRetrieval_of_written hw (retrievedRec true r) true (retrievedState true r (positioned p s))
    exact ⟨⟨hstate, hmarker, hheld, hrecord, htimers, hposition⟩, hstore⟩

/-- R134 to R151. -/
theorem judgePosition_judged (p : Position) (answers : Option Nat) (s : State) :
    PositionJudged p answers True s (judgePosition p answers (positioned p s)) := by
  have hcounts : (positioned p s).run.counts answers = true ↔ CountsForMove s.run answers := counts_iff
  have hhome : (positioned p s).run.countsHome answers = true ↔ CountsForHome s.run answers := countsHome_iff
  have hstate (x : RunState) (h : s.run.state = x) : (positioned p s).run.state = x := h
  constructor
  case latest => simp [positioned]
  case fault =>
    intro hwork hfault
    rw [judgePosition_fault (s := positioned p s) hwork hfault]
    exact (abortRun_aborted .abortedWinchFault (s := positioned p s) hwork).of_positioned
  case stopped =>
    intro htraverse hfault hmoving hmove
    rw [judgePosition_traverse (hstate _ htraverse) hfault,
      if_pos (by simp [hcounts.mpr hmove, stopped_iff.mpr ⟨hfault, hmoving⟩])]
    exact ⟨by simp, by simp [positioned], by simp [positioned], by simp [positioned], by simp [positioned],
      fun a ha hfree => enterVerify_handsPoll (s := positioned p s) ha hfree⟩
  case underway =>
    intro htraverse hfault hnot
    rw [judgePosition_traverse (hstate _ htraverse) hfault, if_neg]
    · exact positioned_waits p s
    · rw [Bool.and_eq_true, hcounts, stopped_iff]
      rintro ⟨hmove, -, hmoving⟩
      exact hnot.elim hmoving (· hmove)
  case resumed =>
    intro r v hverify hr hv hmoving
    rw [judgePosition_verify (s := positioned p s) hverify (by simp [hmoving]) hr hv, judgeConfirm_moving hmoving]
    exact ⟨by simp, by simp [positioned], by simp [positioned], by simp [positioned], by simp [positioned],
      fun _ => (resumeTraverse_obtained (s := positioned p s) hv).of_start rfl⟩
  case confirmed =>
    intro r v hverify hr hv hstopped hnear
    rw [judgePosition_verify (s := positioned p s) hverify (by rintro hfault; simp [hfault] at hstopped) hr hv,
      judgeConfirm_reached (s := positioned p s) hstopped hnear]
    exact ⟨by simp, by simp [positioned], by simp [positioned],
      by simp [enterSurfaceSeek, Run.enter, Run.stopTimers, Run.stopTraverse, Run.stopCable],
      by simp [enterSurfaceSeek, positioned, State.now, State.header, State.plan],
      by simp [enterSurfaceSeek, armedLatch, positioned, State.now],
      fun _ => (enterSurfaceSeek_obtained (positioned p s)).of_start rfl⟩
  case spare =>
    intro r v x hverify hr hv hfault hmoving hfailed hspare
    rw [judgePosition_verify (s := positioned p s) hverify hfault hr hv,
      judgeConfirm_failed (s := positioned p s) hmoving hfailed,
      failTraverse_spare (s := positioned p s) hr hspare]
    obtain ⟨hentered, hvertical, htimer⟩ := enterTraverse_begun v.entry x true (positioned p s)
    exact ⟨⟨hentered, hvertical, htimer⟩, by simp [positioned], by simp [positioned],
      fun _ => (enterTraverse_obtained v.entry x true (positioned p s)).of_start rfl⟩
  case failed =>
    intro r v hverify hr hv hfault hmoving hfailed hnone
    rw [judgePosition_verify (s := positioned p s) hverify hfault hr hv,
      judgeConfirm_failed (s := positioned p s) hmoving hfailed,
      failTraverse_none (s := positioned p s) hr hnone]
    exact (abortRun_aborted .positionError (s := positioned p s)
      (by simp [positioned, hverify, RunState.working])).of_positioned
  case reached =>
    intro hseek htarget hmove
    rw [judgePosition_pointSeek (hstate _ hseek) (by simp [htarget]), if_pos (by simp [hcounts.mpr hmove, htarget]),
      enterSettle_state]
    exact ⟨rfl, by simp [positioned], by simp [positioned], by
      unfold enterSettle
      dsimp only
      split <;> simp [enterExpose, Run.enter, Run.stopCable]⟩
  case seeking =>
    intro hseek hfault hnot
    have hneg : ¬ ((positioned p s).run.counts answers && p.winch == .atTarget) = true := by
      rw [Bool.and_eq_true, hcounts, beq_iff_eq]
      rintro ⟨hmove, htarget⟩
      exact hnot.elim (· htarget) (· hmove)
    obtain hseek | hlift := hseek
    · rw [judgePosition_pointSeek (hstate _ hseek) hfault, if_neg hneg]
      exact positioned_waits p s
    · rw [judgePosition_lift_waits (hstate _ hlift) hfault hneg]
      exact positioned_waits p s
  case lifted =>
    intro r v hlift hr hv htarget hmove
    rw [judgePosition_lift (s := positioned p s) hlift (by simp [htarget]) hr hv,
      if_pos (by simp [hcounts.mpr hmove, htarget])]
    refine ⟨completed (positioned p s) v, completed_completedVertical (positioned p s) v, fun i hi => ?_, fun hnone => ?_⟩
    · rw [completeVertical_next (s := positioned p s) hi]
      obtain ⟨hentered, hvertical, htimer⟩ := enterTraverse_begun i (planEntry s.plan i).x false
        ((positioned p s).setRun { (positioned p s).run with record := some (withVertical r v (positioned p s)) })
      have hobtained := enterTraverse_obtained i (planEntry s.plan i).x false
        ((positioned p s).setRun { (positioned p s).run with record := some (withVertical r v (positioned p s)) })
      have hheader : ((positioned p s).setRun
          { (positioned p s).run with record := some (withVertical r v (positioned p s)) }).header = s.header :=
        State.header_congr rfl (by simp [withVertical, hr])
      rw [hheader] at hobtained htimer
      exact ⟨⟨hentered, hvertical, htimer⟩, by simp [withVertical], fun _ => hobtained.of_start rfl⟩
    · have hverticals : (withVertical r v (positioned p s)).verticals ≠ [] := by simp [withVertical]
      have hplan : s.plan = s.tbl.plan r.plan := by simp [State.plan, hr]
      rw [completeVertical_last (s := positioned p s) hnone, enterClose_of_verticals hverticals, hplan]
      exact ⟨rfl, rfl, rfl, rfl⟩
  case still =>
    intro hstill hfault
    rw [judgePosition_still (s := positioned p s) hstill hfault]
    exact positioned_waits p s
  case faultNoted =>
    intro hover hfault
    have heq : judgePosition p answers (positioned p s) = addCause .abortedWinchFault (positioned p s) := by
      obtain h | h := hover
      · rw [judgePosition_retrieve (hstate _ h), if_pos hfault]
      · rw [judgePosition_close (hstate _ h), if_pos hfault]
    rw [heq]
    exact ⟨rfl, rfl, rfl, rfl⟩
  case home =>
    intro r hretrieve hr hwinch hcount
    rw [judgePosition_retrieve (hstate _ hretrieve), if_neg (by simp [hwinch]),
      if_pos (by simp [hhome.mpr hcount, hwinch])]
    exact endRetrieval_home hr
  case waits =>
    intro hover hfault hnot
    obtain h | h := hover
    · rw [judgePosition_retrieve (hstate _ h), if_neg hfault, if_neg]
      · exact positioned_waits p s
      · rw [Bool.and_eq_true, hhome, beq_iff_eq]
        rintro ⟨hcount, hwinch⟩
        obtain hclose | hnothome | hnocount := hnot
        · simp [h] at hclose
        · exact hnothome hwinch
        · exact hnocount hcount
    · rw [judgePosition_close (hstate _ h), if_neg hfault]
      exact positioned_waits p s
  case overdue =>
    intro hgoing
    exact (judgePosition_expiries p answers _ hgoing).of_start rfl rfl

end Sys2Proof.Machine
end

section
/-! A POSITION judged, from the event's start to its end; and the run-engine command that is answered (R73, R83, R134 to
R152). -/

namespace Sys2Proof.Machine

set_option Elab.async false

/-! ## Where the judgement starts -/

/-- The judgement reads of LOOP who holds the grant, and of CHT nothing. -/
theorem PositionJudged.of_setLoop {p : Position} {answers : Option Nat} {obtains : Prop} {s t : State} {l : Loop} {c : Cht}
    (h : PositionJudged p answers obtains ((s.setLoop l).setCht c) t) (granted : ∀ a, l.grantedTo a = s.loop.grantedTo a) :
    PositionJudged p answers obtains s t := by
  have hgranted (a : Nat) : ((s.setLoop l).setCht c).loop.grantedTo a = s.loop.grantedTo a := granted a
  have haborted {cause : RunOutcome} (k : RunAborted cause ((s.setLoop l).setCht c) t) : RunAborted cause s t := by
    obtain ⟨hretrieve, hrecord⟩ := k
    exact ⟨hretrieve.of_start rfl rfl rfl rfl, hrecord⟩
  constructor
  case latest => exact h.latest
  case fault => exact fun hwork hfault => haborted (h.fault hwork hfault)
  case stopped =>
    intro htraverse hfault hmoving hmove
    obtain ⟨hstate, hvertical, hrecord, htimer, hpls, hpoll⟩ := h.stopped htraverse hfault hmoving hmove
    exact ⟨hstate, hvertical, hrecord, htimer, hpls, fun a ha hfree => hpoll a ha (by rw [hgranted, hfree])⟩
  case underway =>
    intro htraverse hfault hnot
    obtain ⟨h1, h2, h3, h4, h5, h6⟩ := h.underway htraverse hfault hnot
    exact ⟨h1, h2, h3, h4, h5, h6⟩
  case resumed =>
    intro r v hverify hr hv hmoving
    obtain ⟨hstate, hvertical, hrecord, htimer, hpls, hmove⟩ := h.resumed r v hverify hr hv hmoving
    exact ⟨hstate, hvertical, hrecord, htimer, hpls, fun ho => (hmove ho).of_granted hgranted⟩
  case confirmed =>
    intro r v hverify hr hv hstopped hnear
    obtain ⟨hstate, hvertical, hrecord, htimer, hcable, hpls, hmove⟩ := h.confirmed r v hverify hr hv hstopped hnear
    exact ⟨hstate, hvertical, hrecord, htimer, hcable, hpls, fun ho => (hmove ho).of_granted hgranted⟩
  case spare =>
    intro r v x hverify hr hv hfault hmoving hfailed hspare
    obtain ⟨⟨hstate, hvertical, htimer⟩, hrecord, hpls, hmove⟩ := h.spare r v x hverify hr hv hfault hmoving hfailed hspare
    exact ⟨⟨hstate, hvertical, htimer⟩, hrecord, hpls, fun ho => (hmove ho).of_granted hgranted⟩
  case failed =>
    exact fun r v hverify hr hv hfault hmoving hfailed hnone =>
      haborted (h.failed r v hverify hr hv hfault hmoving hfailed hnone)
  case reached => exact h.reached
  case seeking =>
    intro hseek hfault hnot
    obtain ⟨h1, h2, h3, h4, h5, h6⟩ := h.seeking hseek hfault hnot
    exact ⟨h1, h2, h3, h4, h5, h6⟩
  case lifted =>
    intro r v hlift hr hv htarget hmove
    obtain ⟨d, hcompleted, hnext, hlast⟩ := h.lifted r v hlift hr hv htarget hmove
    refine ⟨d, hcompleted, fun i hi => ?_, hlast⟩
    obtain ⟨⟨hstate, hvertical, htimer⟩, hrecord, hobtained⟩ := hnext i hi
    exact ⟨⟨hstate, hvertical, htimer⟩, hrecord, fun ho => (hobtained ho).of_granted hgranted⟩
  case still =>
    intro hstill hfault
    obtain ⟨h1, h2, h3, h4, h5, h6⟩ := h.still hstill hfault
    exact ⟨h1, h2, h3, h4, h5, h6⟩
  case faultNoted => exact h.faultNoted
  case home =>
    intro r hretrieve hr hwinch hcount
    obtain ⟨hcomplete, hclose, haborted, hpower, hwritten⟩ := h.home r hretrieve hr hwinch hcount
    refine ⟨hcomplete, hclose, fun o h1 h2 h3 h4 => ?_, fun m h1 h2 h3 => ?_, fun m h1 h2 h3 => ?_⟩
    · exact (haborted o h1 h2 h3 h4).of_start ⟨rfl, rfl, rfl, rfl⟩ rfl rfl rfl rfl
    · exact (hpower m h1 h2 h3).of_start ⟨rfl, rfl, rfl, rfl⟩ rfl rfl rfl rfl
    · obtain ⟨⟨g1, g2, g3, g4, g5, g6⟩, hstore⟩ := hwritten m h1 h2 h3
      exact ⟨⟨g1, g2, g3, g4, g5, g6⟩, hstore⟩
  case waits =>
    intro hover hfault hnot
    obtain ⟨h1, h2, h3, h4, h5, h6⟩ := h.waits hover hfault hnot
    exact ⟨h1, h2, h3, h4, h5, h6⟩
  case overdue => exact fun hgoing => (h.overdue hgoing).of_start rfl rfl

/-! ## Where it ends -/

/-- After a judgement that has left `u`, the event goes on to `t` without touching what was judged; the commands then handed
are still the last ones where the move outlives the event (`obtains`), in RETRIEVE, and in VERIFY without a grant. -/
structure JudgedOn (obtains granted : Prop) (u t : State) : Prop where
  state : t.run.state = u.run.state := by simp
  marker : t.run.marker = u.run.marker := by simp
  held : t.run.held = u.run.held := by simp
  position : t.run.position = u.run.position := by simp
  record : t.run.record = u.run.record := by simp
  cursor : t.run.cursor = u.run.cursor := by simp
  vertical : t.run.vertical = u.run.vertical := by simp
  traverseAt : t.run.traverseAt = u.run.traverseAt := by simp
  traverseLapsed : t.run.traverseLapsed = u.run.traverseLapsed := by simp
  cableAt : t.run.cableAt = u.run.cableAt := by simp
  cableLapsed : t.run.cableLapsed = u.run.cableLapsed := by simp
  settleAt : t.run.settleAt = u.run.settleAt := by simp
  retrieveAt : t.run.retrieveAt = u.run.retrieveAt := by simp
  enquiryAt : u.run.state = .idle → t.run.enquiryAt = u.run.enquiryAt
  clk : t.clk = u.clk := by simp
  tbl : t.tbl = u.tbl := by simp
  pls : t.pls = u.pls := by simp
  rat : t.rat = u.rat := by simp
  store : t.store = u.store := by simp
  handed : obtains ∨ u.run.state = .retrieve ∨ (u.run.state = .verify ∧ ¬ granted) → u.run.state ≠ .pointSeek →
    ∀ k a, HandedOver k a u → HandedOver k a t

section
variable {obtains granted : Prop} {u t : State} (e : JudgedOn obtains granted u t)
include e

theorem JudgedOn.runWaits {s : State} (h : RunWaits s u) : RunWaits s t := by
  obtain ⟨hstate, ⟨hmarker, hheld⟩, ⟨hvertical, hcursor⟩, hrecord, ⟨ht, hc, hs, hr⟩, hpls, hstore, hrat⟩ := h
  exact ⟨e.state.trans hstate, ⟨e.marker.trans hmarker, e.held.trans hheld⟩,
    ⟨e.vertical.trans hvertical, e.cursor.trans hcursor⟩, e.record.trans hrecord,
    ⟨e.traverseAt.trans ht, e.cableAt.trans hc, e.settleAt.trans hs, e.retrieveAt.trans hr⟩,
    e.pls.trans hpls, e.store.trans hstore, e.rat.trans hrat⟩

theorem JudgedOn.runAborted {cause : RunOutcome} {s : State} (h : RunAborted cause s u) : RunAborted cause s t := by
  obtain ⟨⟨hstate, ⟨hvertical, hcursor⟩, ⟨ht, hc, hs⟩, hretrieve, hrotor, hlatches, hmarker, hheld, hcommand⟩, hrecord⟩ := h
  have hhanded := e.handed (.inr (.inl hstate)) (by simp [hstate])
  rw [← e.pls] at hrotor hlatches
  exact ⟨⟨e.state.trans hstate, ⟨e.vertical.trans hvertical, e.cursor.trans hcursor⟩,
    ⟨e.traverseAt.trans ht, e.cableAt.trans hc, e.settleAt.trans hs⟩, e.retrieveAt.trans hretrieve, hrotor, hlatches,
    e.marker.trans hmarker, e.held.trans hheld, fun a ha => hhanded _ _ (hcommand a ha)⟩, e.record.trans hrecord⟩

theorem JudgedOn.moveObtained {k : CmdKind} {m : ReleaseMode} {s : State} (ho : obtains)
    (hstate : u.run.state ≠ .pointSeek) (h : MoveObtained k m s u) : MoveObtained k m s t := by
  intro a ha
  have hu := h a (e.held.symm.trans ha)
  rw [State.header_congr e.tbl (by rw [e.record])]
  split at hu
  · rw [if_pos ‹_›]
    exact e.handed (.inl ho) hstate _ _ hu
  · rw [if_neg ‹_›]
    exact e.handed (.inl ho) hstate _ _ hu

theorem JudgedOn.runOver {s : State} (h : RunOver s u) : RunOver s t := by
  obtain ⟨hstate, hmarker, hheld, ⟨hrecord, hvertical⟩, ⟨ht, hc, hs, hr, he⟩, hposition⟩ := h
  exact ⟨e.state.trans hstate, e.marker.trans hmarker, e.held.trans hheld,
    ⟨e.record.trans hrecord, e.vertical.trans hvertical⟩,
    ⟨e.traverseAt.trans ht, e.cableAt.trans hc, e.settleAt.trans hs, e.retrieveAt.trans hr,
      (e.enquiryAt hstate).trans he⟩, e.position.trans hposition⟩

theorem JudgedOn.finishedPoor {r : RunRec} {o : RunOutcome} {s : State} (h : FinishedPoor r o s u) :
    FinishedPoor r o s t := by
  obtain ⟨hover, hrat, g, hstore, hgauge⟩ := h
  exact ⟨e.runOver hover, e.rat.trans hrat, g, e.store.trans hstore, hgauge⟩

theorem JudgedOn.traverseBegun {n x : Nat} {alternate : Bool} {s : State} (h : TraverseBegun n x alternate s u) :
    TraverseBegun n x alternate s t := by
  obtain ⟨⟨hstate, hcursor⟩, hvertical, ht, hc, hs⟩ := h
  exact ⟨⟨e.state.trans hstate, e.cursor.trans hcursor⟩, e.vertical.trans hvertical,
    e.traverseAt.trans ht, e.cableAt.trans hc, e.settleAt.trans hs⟩

theorem JudgedOn.expiriesStand {s : State} (h : ExpiriesStand s u) : ExpiriesStand s t := by
  have hnow : t.now = u.now := by simp only [State.now, e.clk]
  refine h.trans ⟨fun hdue => ?_, fun hdue => ?_⟩
  · rw [traverseDue_iff] at hdue ⊢
    rwa [e.traverseLapsed, e.state, e.traverseAt, hnow]
  · rw [cableDue_iff] at hdue ⊢
    rwa [e.cableLapsed, e.state, e.cableAt, hnow]

/-- A judgement stands to the end of its event. -/
theorem PositionJudged.on {p : Position} {answers : Option Nat} {s : State} (h : PositionJudged p answers True s u)
    (hgranted : granted → ∃ a, s.run.held = some a ∧ s.loop.grantedTo a = true) :
    PositionJudged p answers obtains s t := by
  constructor
  case latest => exact e.position.trans h.latest
  case fault => exact fun hwork hfault => e.runAborted (h.fault hwork hfault)
  case stopped =>
    intro htraverse hfault hmoving hmove
    obtain ⟨hstate, hvertical, hrecord, htimer, hpls, hpoll⟩ := h.stopped htraverse hfault hmoving hmove
    refine ⟨e.state.trans hstate, e.vertical.trans hvertical, e.record.trans hrecord, e.traverseAt.trans htimer,
      e.pls.trans hpls, fun a ha hfree => e.handed (.inr (.inr ⟨hstate, fun hgrant => ?_⟩)) (by simp [hstate]) _ _
        (hpoll a ha hfree)⟩
    obtain ⟨b, hb, hgrantedTo⟩ := hgranted hgrant
    obtain rfl : a = b := by simpa [ha] using hb
    simp [hfree] at hgrantedTo
  case underway => exact fun htraverse hfault hnot => e.runWaits (h.underway htraverse hfault hnot)
  case resumed =>
    intro r v hverify hr hv hmoving
    obtain ⟨hstate, hvertical, hrecord, htimer, hpls, hmove⟩ := h.resumed r v hverify hr hv hmoving
    exact ⟨e.state.trans hstate, e.vertical.trans hvertical, e.record.trans hrecord, e.traverseAt.trans htimer,
      e.pls.trans hpls, fun ho => e.moveObtained ho (by simp [hstate]) (hmove trivial)⟩
  case confirmed =>
    intro r v hverify hr hv hstopped hnear
    obtain ⟨hstate, hvertical, hrecord, htimer, hcable, hpls, hmove⟩ := h.confirmed r v hverify hr hv hstopped hnear
    exact ⟨e.state.trans hstate, e.vertical.trans hvertical, e.record.trans hrecord, e.traverseAt.trans htimer,
      e.cableAt.trans hcable, e.pls.trans hpls, fun ho => e.moveObtained ho (by simp [hstate]) (hmove trivial)⟩
  case spare =>
    intro r v x hverify hr hv hfault hmoving hfailed hspare
    obtain ⟨hbegun, hrecord, hpls, hmove⟩ := h.spare r v x hverify hr hv hfault hmoving hfailed hspare
    obtain ⟨hstate, -⟩ := hbegun.state
    exact ⟨e.traverseBegun hbegun, e.record.trans hrecord, e.pls.trans hpls,
      fun ho => e.moveObtained ho (by simp [hstate]) (hmove trivial)⟩
  case failed =>
    exact fun r v hverify hr hv hfault hmoving hfailed hnone =>
      e.runAborted (h.failed r v hverify hr hv hfault hmoving hfailed hnone)
  case reached =>
    intro hseek htarget hmove
    obtain ⟨hstate, hvertical, hrecord, htimer⟩ := h.reached hseek htarget hmove
    exact ⟨e.state.trans hstate, e.vertical.trans hvertical, e.record.trans hrecord, e.cableAt.trans htimer⟩
  case seeking => exact fun hseek hfault hnot => e.runWaits (h.seeking hseek hfault hnot)
  case lifted =>
    intro r v hlift hr hv htarget hmove
    obtain ⟨d, hcompleted, hnext, hlast⟩ := h.lifted r v hlift hr hv htarget hmove
    refine ⟨d, hcompleted, fun i hi => ?_, fun hnone => ?_⟩
    · obtain ⟨hbegun, hrecord, hobtained⟩ := hnext i hi
      obtain ⟨hstate, -⟩ := hbegun.state
      exact ⟨e.traverseBegun hbegun, e.record.trans hrecord,
        fun ho => e.moveObtained ho (by simp [hstate]) (hobtained trivial)⟩
    · obtain ⟨hstate, hvertical, hcable, hrecord⟩ := hlast hnone
      exact ⟨e.state.trans hstate, e.vertical.trans hvertical, e.cableAt.trans hcable, e.record.trans hrecord⟩
  case still => exact fun hstill hfault => e.runWaits (h.still hstill hfault)
  case faultNoted =>
    intro hover hfault
    obtain ⟨hstate, hmarker, hstore, hrecord⟩ := h.faultNoted hover hfault
    exact ⟨e.state.trans hstate, e.marker.trans hmarker, e.store.trans hstore, e.record.trans hrecord⟩
  case home =>
    intro r hretrieve hr hwinch hcount
    obtain ⟨hcomplete, hclose, haborted, hpower, hwritten⟩ := h.home r hretrieve hr hwinch hcount
    refine ⟨fun h1 h2 => ?_, fun h1 h2 h3 => ?_, fun o h1 h2 h3 h4 => e.finishedPoor (haborted o h1 h2 h3 h4),
      fun m h1 h2 h3 => e.finishedPoor (hpower m h1 h2 h3), fun m h1 h2 h3 => ?_⟩
    · obtain ⟨hstate, hmarker, hheld, hrecord, g, hstore, hgauge⟩ := hcomplete h1 h2
      exact ⟨e.state.trans hstate, e.marker.trans hmarker, e.held.trans hheld, e.record.trans hrecord, g,
        e.store.trans hstore, hgauge⟩
    · obtain ⟨hstate, hmarker, hheld, hstore, hrecord⟩ := hclose h1 h2 h3
      exact ⟨e.state.trans hstate, e.marker.trans hmarker, e.held.trans hheld, e.store.trans hstore,
        e.record.trans hrecord⟩
    · obtain ⟨hover, hstore⟩ := hwritten m h1 h2 h3
      exact ⟨e.runOver hover, e.store.trans hstore⟩
  case waits => exact fun hover hfault hnot => e.runWaits (h.waits hover hfault hnot)
  case overdue => exact fun hgoing => e.expiriesStand (h.overdue (by rwa [e.state] at hgoing))

end

theorem JudgedOn.trans {obtains granted : Prop} {u v t : State} (h : JudgedOn obtains granted u v)
    (k : JudgedOn obtains granted v t) : JudgedOn obtains granted u t where
  state := k.state.trans h.state
  marker := k.marker.trans h.marker
  held := k.held.trans h.held
  position := k.position.trans h.position
  record := k.record.trans h.record
  cursor := k.cursor.trans h.cursor
  vertical := k.vertical.trans h.vertical
  traverseAt := k.traverseAt.trans h.traverseAt
  traverseLapsed := k.traverseLapsed.trans h.traverseLapsed
  cableAt := k.cableAt.trans h.cableAt
  cableLapsed := k.cableLapsed.trans h.cableLapsed
  settleAt := k.settleAt.trans h.settleAt
  retrieveAt := k.retrieveAt.trans h.retrieveAt
  enquiryAt hidle := (k.enquiryAt (h.state.trans hidle)).trans (h.enquiryAt hidle)
  clk := k.clk.trans h.clk
  tbl := k.tbl.trans h.tbl
  pls := k.pls.trans h.pls
  rat := k.rat.trans h.rat
  store := k.store.trans h.store
  handed hwhen hstate n a hn := by
    refine k.handed ?_ ?_ n a (h.handed hwhen hstate n a hn)
    · rwa [h.state]
    · rwa [h.state]

theorem settle_judgedOn {obtains granted : Prop} (s : State) : JudgedOn obtains granted s (settle s) where
  enquiryAt _ := by simp
  handed _ _ _ _ h := h.carriedOn (settle_carriedOn s)

theorem runOutcome_idle {s : State} (id : Nat) (o : CmdOutcome) (h : s.run.state = .idle) :
    runOutcome id o s = s.setRun (s.run.note id o) := by
  simp [runOutcome, h]

theorem runOutcome_judgedOn {obtains granted : Prop} (id : Nat) (o : CmdOutcome) (s : State) :
    JudgedOn obtains granted s (runOutcome id o s) where
  enquiryAt hidle := by
    rw [runOutcome_idle id o hidle]
    rfl
  handed _ hstate k a := by
    rintro ⟨c, hkind, haddr, hlast, hhanded⟩
    obtain ⟨sent, e, heq⟩ := runOutcome_notSeeking (s := s) id o (.inl hstate)
    rw [heq]
    exact ⟨c, hkind, haddr, (Run.note_lastCmd s.run id o).trans hlast, hhanded⟩

end Sys2Proof.Machine
end

section
/-! A run-engine command to the held winch: failed, or answered by a POSITION (R73, R83, R95, R134 to R152). -/

namespace Sys2Proof.Machine

set_option Elab.async false

/-! ## A POSITION in the place of the held winch address (R89, R95) -/

theorem positionOf_of_holds {payload : List Byte} {addr : Nat} {s : State} {p : Position}
    (h : HoldsPosition payload addr s p) : positionOf payload addr s.now = some p := by
  obtain ⟨hlength, ⟨hx, hpx⟩, ⟨hlow, hhigh, hpc⟩, hwinch, haddr, harrived⟩ := h
  unfold positionOf
  dsimp only
  rw [if_pos ⟨hlength, hx, hlow, hhigh⟩, hwinch, ← hpx, ← hpc, ← haddr, ← harrived]
  rfl

/-- CHT with one more frame of the held winch address. -/
def Cht.winchMore (c : Cht) : Cht := { c with winchClassified := inc16 c.winchClassified }

theorem classify_of_held {f : GoodFrame} {s : State} (hkind : f.kind = 18 ∨ f.kind = 19)
    (hheld : s.run.held = some f.addr.toNat) : classify f s = handleWinch .held f (s.setCht s.cht.winchMore) := by
  have hplace : s.placeOf f = .held := if_pos ⟨hkind, hheld⟩
  rw [classify, hplace]
  rfl

theorem classify_held_position {f : GoodFrame} {s : State} {p : Position} (hkind : f.kind = 18)
    (hheld : s.run.held = some f.addr.toNat) (hnow : f.arrival = s.now)
    (hp : HoldsPosition f.payload f.addr.toNat s p) :
    classify f s = judgePosition p f.answering (positioned p (s.setCht s.cht.winchMore)) := by
  have haddr : p.addr = f.addr.toNat := hp.origin.1
  have hposition := positionOf_of_holds hp
  rw [← hnow] at hposition
  have hwinch : handleWinch .held f (s.setCht s.cht.winchMore) =
      runPosition p f.answering (countDelivered .held (s.setCht s.cht.winchMore)) := by
    have hkind : f.kind = kindPosition := hkind
    rw [handleWinch, if_pos hkind, hposition]
  rw [classify_of_held (.inl hkind) hheld, hwinch]
  exact runPosition_eq (s := s.setCht s.cht.winchMore) (hheld.trans (congrArg some haddr.symm)) f.answering

/-! ## The answered command (R73) -/

/-- An event that LOOP takes part in. -/
theorem EventFrame.of_loop {bs : List Block} {s t : State} (others : ChangesOnly (.loop :: .ctl :: bs) s t)
    (hloop : .loop ∈ bs) (ctl : s.ctl.QueueKept t.ctl := by constructor <;> simp) : EventFrame bs s t :=
  ⟨others, fun _ => ctl, fun h => absurd hloop h⟩

/-- The reply pair free after a good reply of the node `a`. -/
def nodeHeard (a : Nat) (s : State) : State :=
  s.setLoop ((s.loop.highFrom s.fineNow).dropTxn.setNodeCount a 0)

/-- The good reply as CHT is handed it. -/
def answerFrame (a : Nat) (b : FrameBody) (polled answering : Option Nat) (s : State) : GoodFrame :=
  { addr := BitVec.ofNat 8 a, kind := b.kind, payload := b.payload, arrival := s.now, polled := polled,
    answering := answering }

theorem node_toNat {a : Nat} (h : a ≤ 30) : (BitVec.ofNat 8 a).toNat = a := by
  rw [BitVec.toNat_ofNat]
  omega

section
variable {c : RunCmd} {a : Nat} {b : FrameBody} {s : State}

theorem replyReceived_answers_command (hawake : s.resetLine = false) (hnode : a ≤ 30)
    (htxn : s.loop.txn = some { asker := .run c, addr := a, phase := .replying })
    (hrx : s.loop.rx = some { addr := BitVec.ofNat 8 a, context := .reply }) (hgood : BodyGood b) :
    exec (.replyReceived b) s =
      .next (settle (runOutcome c.id .answered (classify (answerFrame a b none (some c.id) s) (nodeHeard a s)))) := by
  have hrow : exec (.replyReceived b) s = execReplyReceived b s := rfl
  have hreply : s.loop.inReply = true := by simp [Loop.inReply, htxn, hrx]
  have htxn' : (seenHigh s).loop.txn = some { asker := .run c, addr := a, phase := .replying } := htxn
  have hrx' : (seenHigh s).loop.rx = some { addr := BitVec.ofNat 8 a, context := .reply } := hrx
  have hend : endReply b (seenHigh s) =
      runOutcome c.id .answered (classify (answerFrame a b none (some c.id) s) (nodeHeard a s)) := by
    simp only [endReply, htxn', hrx', bodyFault_of_good hgood, endTxnGood, node_toNat hnode, if_true]
    rfl
  rw [hrow, execReplyReceived, taken_of_awake hawake, if_pos hreply, hend]

end

/-- Settles O33: the failures of a command to the held winch, the third one aborting the run, and the POSITION that answers
one, judged by the state RUN is in. -/
theorem thirdFailureOfTheWinchAbortsTheRun : Obligations.ThirdFailureOfTheWinchAbortsTheRun := by
  unfold Obligations.ThirdFailureOfTheWinchAbortsTheRun
  refine ⟨fun s c a ph hawake hpos hle hcounts htxn hheld => ?_,
    fun s c a b p hawake hpos hle hcounts htxn hrx hheld hgood hkind hp => ?_⟩
  · have hnode : 1 ≤ a ∧ a ≤ s.loop.nodeFail.length := ⟨hpos, by omega⟩
    refine ⟨fun e hwaits hpast => ?_, fun e hwaits hfree => ?_, fun x hreplying hrx =>
      ⟨fun f hstray => ?_, ?_, fun b k hfails => ?_⟩⟩
    · subst hwaits
      exact ⟨_, replyTimeout_fails_command hawake htxn hpast, commandFailed .crc .timeout _ hnode hheld⟩
    · subst hwaits
      exact ⟨_, receptionFailure_fails_command hawake htxn (Loop.mayFail_of_waiting htxn rfl hfree),
        commandFailed .framing .framing _ hnode hheld⟩
    · subst hreplying
      exact ⟨_, receptionFailure_fails_command hawake htxn (Loop.mayFail_of_reply htxn rfl hrx hstray),
        commandFailed f _ _ hnode hheld⟩
    · exact ⟨_, receptionGap_fails_command hawake htxn hrx, commandFailed .crc .gap _ hnode hheld⟩
    · subst hreplying
      exact ⟨_, replyReceived_fails_command hawake htxn hrx hfails, commandFailed .crc k _ hnode hheld⟩
  · have hframe : (answerFrame a b none (some c.id) s).addr.toNat = a := node_toNat hle
    have hclassify : classify (answerFrame a b none (some c.id) s) (nodeHeard a s) =
        judgePosition p (some c.id) (positioned p ((nodeHeard a s).setCht s.cht.winchMore)) :=
      classify_held_position hkind (by rw [hframe]; exact hheld) rfl
        (by rw [hframe]; exact ⟨hp.length, hp.x, hp.cable, hp.winch, hp.origin⟩)
    have hjudged := (judgePosition_judged p (some c.id) ((nodeHeard a s).setCht s.cht.winchMore)).of_setLoop (s := s)
      (by simp [Loop.grantedTo, Loop.highFrom])
    have hzero := Loop.nodeCount_setNodeCount_same (l := (s.loop.highFrom s.fineNow).dropTxn) 0
      (show 1 ≤ a ∧ a ≤ s.loop.nodeFail.length from ⟨hpos, by omega⟩)
    refine ⟨_, replyReceived_answers_command hawake hle htxn hrx hgood, ?_⟩
    rw [hclassify]
    unfold positioned nodeHeard Cht.winchMore Loop.highFrom at hjudged ⊢
    refine ⟨EventFrame.of_loop .of_blocks (by simp), by constructor <;> simp, by simp [Loop.dropTxn, hrx], by simp,
      ?_, by simp, hjudged.on ((runOutcome_judgedOn (granted := False) _ _ _).trans (settle_judgedOn _)) False.elim⟩
    exact (Loop.nodeCount_congr (by simp [Loop.highFrom]) a).trans hzero

end Sys2Proof.Machine
end

section
/-! What a stage sample does is the same whatever the reply line has at hand and whatever CHT has counted (R3, R92). -/

namespace Sys2Proof.Machine

set_option Elab.async false

/-! ## The reply line (4.3 to 4.6) -/

/-- What LOOP keeps of the reply line and of the polls, and that neither a claim nor a command of RUN touches. -/
structure ReplySide where
  txn : Option Txn
  rx : Option RxFrame
  highSince : Nat
  sched : List (Option Poll)
  nodeFail : List Nat
  wait : Option ClaimWait

def Loop.withSide (w : ReplySide) (l : Loop) : Loop :=
  { l with
    txn := w.txn, rx := w.rx, highSince := w.highSince, sched := w.sched, nodeFail := w.nodeFail,
    grant := { l.grant with wait := w.wait } }

/-- The state with another reply line and other counts of CHT. -/
def State.withSide (w : ReplySide) (c : Cht) (s : State) : State := (s.setLoop (s.loop.withSide w)).setCht c

theorem ite_eq_apply_ite {α β : Type} {p q : Prop} [Decidable p] [Decidable q] {g : α → β} {a b : α} {a' b' : β}
    (hpq : p ↔ q) (ha : a' = g a) (hb : b' = g b) : (if p then a' else b') = g (if q then a else b) := by
  rw [apply_ite g]
  exact if_congr hpq ha hb

section
variable {w : ReplySide} {c : Cht} {s : State}

theorem Loop.claim_withSide (cause : ClaimCause) (l : Loop) :
    (l.withSide w).claim cause = (l.claim cause).withSide w := by
  unfold Loop.claim
  cases hstate : l.grant.state <;> cases cause <;> simp [Loop.withSide, hstate]

theorem Loop.hand_withSide (k : RunCmd) (l : Loop) : (l.withSide w).hand k = (l.hand k).withSide w :=
  ite_eq_apply_ite Iff.rfl rfl rfl

theorem tellReplaced_withSide (old : Option RunCmd) :
    tellReplaced old (s.withSide w c) = (tellReplaced old s).withSide w c := by
  cases old <;> rfl

theorem handRun_withSide (k : CmdKind) : handRun k (s.withSide w c) = (handRun k s).withSide w c := by
  have hheld : (s.withSide w c).run = s.run := rfl
  unfold handRun
  rw [hheld]
  cases s.run.held with
  | none => rfl
  | some a =>
    dsimp only
    rw [← tellReplaced_withSide]
    exact congrArg (tellReplaced _) (congrArg (fun l => (s.setLoop l).setCht c |>.setRun _) (Loop.hand_withSide _ s.loop))

theorem enterRetrieve_withSide : enterRetrieve (s.withSide w c) = (enterRetrieve s).withSide w c :=
  handRun_withSide (s := (s.setPls s.pls.release).setRun _) .retrieve

theorem setLoop_claim_withSide (cause : ClaimCause) :
    (s.withSide w c).setLoop ((s.withSide w c).loop.claim cause) = (s.setLoop (s.loop.claim cause)).withSide w c :=
  congrArg (fun l => (s.setLoop l).setCht c) (Loop.claim_withSide cause s.loop)

theorem abortRun_withSide (cause : RunOutcome) :
    abortRun cause (s.withSide w c) = (abortRun cause s).withSide w c := by
  refine ite_eq_apply_ite Iff.rfl ?_ (ite_eq_apply_ite Iff.rfl rfl rfl)
  rw [← enterRetrieve_withSide, ← setLoop_claim_withSide]
  rfl

theorem imposeInterlock_withSide : imposeInterlock (s.withSide w c) = (imposeInterlock s).withSide w c := by
  rw [imposeInterlock, setLoop_claim_withSide, abortRun_withSide]
  rfl

theorem append_withSide (x : Content) : append x (s.withSide w c) = (append x s).withSide w c :=
  ite_eq_apply_ite Iff.rfl rfl rfl

theorem rise_withSide (target : Nat) : rise target (s.withSide w c) = (rise target s).withSide w c := by
  have hwarn (old : Nat) (cause : WarnCause) (u : State) :
      drive (warnRecord old target cause (u.withSide w c)) = (drive (warnRecord old target cause u)).withSide w c :=
    congrArg drive (append_withSide _)
  unfold rise
  refine ite_eq_apply_ite (by simp [State.withSide]) ?_ (hwarn _ _ (s.setWrn _))
  rw [← imposeInterlock_withSide, ← hwarn]
  rfl

theorem standDownFall_withSide : standDownFall (s.withSide w c) = (standDownFall s).withSide w c :=
  congrArg drive (append_withSide (s := s.setWrn _) _)

theorem startStandDown_withSide : startStandDown (s.withSide w c) = (startStandDown s).withSide w c :=
  ite_eq_apply_ite Iff.rfl rfl (ite_eq_apply_ite Iff.rfl standDownFall_withSide rfl)

theorem applyTarget_withSide : applyTarget (s.withSide w c) = (applyTarget s).withSide w c :=
  ite_eq_apply_ite Iff.rfl (rise_withSide (s := s.setWrn _) _)
    (ite_eq_apply_ite Iff.rfl (startStandDown_withSide (s := s.setWrn _)) rfl)

theorem wrnStage_withSide (stage : Int) (discharge : Option Nat) :
    wrnStage stage discharge (s.withSide w c) = (wrnStage stage discharge s).withSide w c :=
  applyTarget_withSide (s := (s.setWrn _).setWrn _)

theorem publish_withSide : publish (s.withSide w c) = (publish s).withSide w c := by
  have hstg : (s.withSide w c).stg = s.stg := rfl
  have htbl : (s.withSide w c).tbl = s.tbl := rfl
  unfold publish
  rw [hstg, htbl]
  cases s.stg.selectedValue (cfgAlignLimit s.tbl.config) with
  | none => rfl
  | some v =>
    exact congrArg (fun u : State => u.setStg { u.stg with acc := u.stg.acc.add v (s.discharge v.mm) })
      (wrnStage_withSide (s := (s.setStg _).setRat _) v.mm (s.discharge v.mm).discharge)

theorem restoreStage_withSide (src : Source) :
    restoreStage src (s.withSide w c) = (restoreStage src s).withSide w c :=
  append_withSide (s := s.setStg _) _

theorem selectAfter_withSide (src : Source) : selectAfter src (s.withSide w c) = (selectAfter src s).withSide w c := by
  have hstg : (s.withSide w c).stg = s.stg := rfl
  unfold selectAfter
  rw [hstg]
  cases s.stg.selection with
  | none => exact restoreStage_withSide src
  | primary => rfl
  | secondary =>
    cases src with
    | primary => exact ite_eq_apply_ite Iff.rfl rfl rfl
    | secondary => rfl

theorem acceptedState_withSide (src : Source) (v : Sample) (t : Nat) :
    acceptedState src v t (s.withSide w c) = (acceptedState src v t s).withSide w c := by
  have haligned (u : State) : (if src = .secondary then (u.withSide w c).setStg ((u.withSide w c).stg.align v)
      else u.withSide w c) = (if src = .secondary then u.setStg (u.stg.align v) else u).withSide w c :=
    ite_eq_apply_ite Iff.rfl rfl rfl
  have hselected := selectAfter_withSide (w := w) (c := c)
    (s := s.setStg (s.stg.setSource src (acceptedSource src v t s))) src
  unfold acceptedState
  dsimp only
  rw [← haligned, ← hselected]
  rfl

theorem accept_withSide (src : Source) (v : Sample) (t : Nat) :
    accept src v t (s.withSide w c) = (accept src v t s).withSide w c := by
  rw [accept_eq, acceptedState_withSide, accept_eq]
  exact ite_eq_apply_ite Iff.rfl publish_withSide rfl

theorem judgeSample_withSide (src : Source) (v : Sample) (t : Nat) :
    judgeSample src v t (s.withSide w c) = (judgeSample src v t s).withSide w c := by
  have hstg : (s.withSide w c).stg = s.stg := rfl
  have hdrop : dropSuspect src (s.withSide w c) = (dropSuspect src s).withSide w c := rfl
  have hsuspect : becomeSuspect src v (s.withSide w c) = (becomeSuspect src v s).withSide w c := rfl
  unfold judgeSample
  dsimp only
  rw [hstg]
  cases (s.stg.source src).last with
  | none => exact accept_withSide src v t
  | some l =>
    cases (s.stg.source src).suspect with
    | none => exact ite_eq_apply_ite Iff.rfl (accept_withSide src v t) hsuspect
    | some q =>
      refine ite_eq_apply_ite Iff.rfl ?_ (ite_eq_apply_ite Iff.rfl ?_ hsuspect)
      · rw [hdrop, accept_withSide, accept_withSide]
      · rw [hdrop, accept_withSide]

end

end Sys2Proof.Machine
end

section
/-! Where a good frame belongs and what its role makes of it (R89 to R97). -/

namespace Sys2Proof.Machine

set_option Elab.async false

/-! ## Where a frame belongs (R89) -/

section
variable {f : GoodFrame} {s : State} {i ch : Nat}

theorem names_iff (s : State) (i addr : Nat) :
    Names s i addr ↔ i < 24 ∧ (activeIn s.cht.view i && (s.chan i).addr == addr) = true := by
  simp [Names, State.chan]

theorem polledEntry_of_names (hpolled : f.polled = some ch) (h : Names s ch f.addr.toNat) :
    s.polledEntry f = some ch := by
  obtain ⟨-, hnames⟩ := (names_iff _ _ _).mp h
  simp only [State.polledEntry, hpolled, Option.filter_some, hnames, if_true]

theorem polledEntry_of_not_names (hpolled : f.polled = some ch) (hch : ch < 24) (h : ¬ Names s ch f.addr.toNat) :
    s.polledEntry f = none := by
  rw [names_iff, not_and] at h
  simp only [State.polledEntry, hpolled, Option.filter_some, if_neg (h hch)]

theorem polledEntry_of_unpolled (hpolled : f.polled = none) : s.polledEntry f = none := by
  simp [State.polledEntry, hpolled]

theorem lowestEntry_of_names {addr : Nat} (h : Names s i addr) (hlow : ∀ j, j < i → ¬ Names s j addr) :
    s.lowestEntry addr = some i := by
  obtain ⟨hi, hnames⟩ := (names_iff _ _ _).mp h
  refine List.find?_range_eq_some.mpr ⟨hnames, List.mem_range.mpr hi, fun j hj => ?_⟩
  have hnot := hlow j hj
  rw [names_iff, not_and] at hnot
  rw [Bool.not_eq_true']
  exact Bool.eq_false_iff.mpr (hnot (by omega))

theorem lowestEntry_of_unnamed {addr : Nat} (h : ∀ i, ¬ Names s i addr) : s.lowestEntry addr = none := by
  refine List.find?_eq_none.mpr fun i hi => ?_
  have hnot := h i
  rw [names_iff, not_and] at hnot
  exact hnot (List.mem_range.mp hi)

theorem placeOf_of_lowest (hheld : ¬ InHeldPlace s f.addr.toNat f.kind) (hpolled : s.polledEntry f = none)
    (h : Names s i f.addr.toNat) (hlow : ∀ j, j < i → ¬ Names s j f.addr.toNat) : s.placeOf f = .entry i := by
  unfold State.placeOf
  refine (if_neg hheld).trans ?_
  rw [hpolled, lowestEntry_of_names h hlow]

theorem placeOf_of_belongs (hheld : ¬ InHeldPlace s f.addr.toNat f.kind) (hpolled : f.polled = some ch) (hch : ch < 24)
    (h : BelongsTo s ch f.addr.toNat i) : s.placeOf f = .entry i := by
  obtain ⟨hnames, rfl | ⟨hnot, hlow⟩⟩ := h
  · unfold State.placeOf
    refine (if_neg hheld).trans ?_
    rw [polledEntry_of_names hpolled hnames]
  · exact placeOf_of_lowest hheld (polledEntry_of_not_names hpolled hch hnot) hnames hlow

theorem placeOf_of_unknown (hheld : ¬ InHeldPlace s f.addr.toNat f.kind) (hpolled : s.polledEntry f = none)
    (h : ∀ i, ¬ Names s i f.addr.toNat) : s.placeOf f = .unknown := by
  unfold State.placeOf
  refine (if_neg hheld).trans ?_
  rw [hpolled, lowestEntry_of_unnamed h]

/-! ## The frame under its entry (R91 to R96) -/

@[simp] theorem State.onStats_onStats (s : State) (i : Nat) (g g' : EntryStats → EntryStats) :
    (s.onStats i g).onStats i g' = s.onStats i (g' ∘ g) := by
  simp [State.onStats, State.setCht, List.modify_modify_eq]

/-- R97: an unknown frame counts alone. -/
theorem classify_unknown (h : s.placeOf f = .unknown) : classify f s = unknownFrame f s := by rw [classify, h]

theorem classify_entry (h : s.placeOf f = .entry i) : classify f s = handleEntry i f s := by rw [classify, h]

/-- R91: an EMPTY counts alone, whatever the role. -/
theorem handleEntry_empty (hkind : f.kind = 17) :
    handleEntry i f s = s.onStats i fun e => e.after false false none := by
  have hempty : f.kind = kindEmpty := hkind
  have hsample : f.kind ≠ kindSample := by rw [hkind]; decide
  have hposition : f.kind ≠ kindPosition := by rw [hkind]; decide
  have hburst : f.kind ≠ kindBurstEnd := by rw [hkind]; decide
  have hservice : f.kind ≠ kindServiceIn := by rw [hkind]; decide
  unfold handleEntry
  dsimp only
  split
  · rw [handleStage, if_neg hsample, if_pos hempty]; rfl
  · rw [handleStage, if_neg hsample, if_pos hempty]; rfl
  · rw [handleWinch, if_neg hposition, if_neg hburst, if_pos hempty]; rfl
  · rw [handleForward, if_pos hempty]; rfl
  · rw [handleService, if_neg hservice, if_pos hempty]; rfl
  · rfl

/-- R91, R94: a FORWARD entry. -/
theorem handleEntry_forward (hrole : (chanEntry s.tbl.channels i).role = 3) (hkind : f.kind ≠ 17) :
    handleEntry i f s =
      forwardAdd i f.addr f.kind f.payload (s.onStats i fun e => e.after false true none) := by
  have hcode : (s.chan i).role = 3 := hrole
  have hempty : ¬ f.kind = kindEmpty := hkind
  simp only [handleEntry, hcode, Role.ofCode, handleForward, if_neg hempty, forwardFrom, State.onStats_onStats]
  rfl

/-- R91: the kinds that a role does not take. -/
theorem handleEntry_kind (hkind : f.kind ≠ 17)
    (h : ((chanEntry s.tbl.channels i).role ≤ 1 ∧ f.kind ≠ 16) ∨
      ((chanEntry s.tbl.channels i).role = 2 ∧ f.kind ≠ 18 ∧ f.kind ≠ 19) ∨
      ((chanEntry s.tbl.channels i).role = 4 ∧ f.kind ≠ 20)) :
    handleEntry i f s = s.onStats i fun e => e.after false false (some .kind) := by
  have hempty : ¬ f.kind = kindEmpty := hkind
  obtain ⟨hrole, hnot⟩ | ⟨hrole, hnot, hnot'⟩ | ⟨hrole, hnot⟩ := h
  · have hsample : ¬ f.kind = kindSample := hnot
    have hcode : (s.chan i).role = 0 ∨ (s.chan i).role = 1 := Nat.le_one_iff_eq_zero_or_eq_one.mp hrole
    obtain hcode | hcode := hcode
    · simp only [handleEntry, hcode, Role.ofCode, handleStage, if_neg hsample, if_neg hempty, discard,
        State.onStats_onStats]
      rfl
    · simp only [handleEntry, hcode, Role.ofCode, handleStage, if_neg hsample, if_neg hempty, discard,
        State.onStats_onStats]
      rfl
  · have hcode : (s.chan i).role = 2 := hrole
    have hposition : ¬ f.kind = kindPosition := hnot
    have hburst : ¬ f.kind = kindBurstEnd := hnot'
    simp only [handleEntry, hcode, Role.ofCode, handleWinch, if_neg hposition, if_neg hburst, if_neg hempty, discard,
      State.onStats_onStats]
    rfl
  · have hcode : (s.chan i).role = 4 := hrole
    have hservice : ¬ f.kind = kindServiceIn := hnot
    simp only [handleEntry, hcode, Role.ofCode, handleService, if_neg hservice, if_neg hempty, discard,
      State.onStats_onStats]
    rfl

/-! ## A SAMPLE of a stage entry (R92) -/

/-- The item of the frame goes to the office where that is wanted. -/
def forwardIf (wanted : Bool) (i : Nat) (f : GoodFrame) (s : State) : State :=
  if wanted then forwardAdd i f.addr f.kind f.payload s else s

/-- R92: the source that a stage role names. -/
def stageSource (role : Nat) : Source := if role = 0 then .primary else .secondary

/-- The reply line that LOOP has. -/
def Loop.side (l : Loop) : ReplySide := { l with wait := l.grant.wait }

theorem Loop.withSide_side {l : Loop} {w : ReplySide} (h : l.side = w) : l.withSide w = l := by
  subst h
  rfl

theorem judgeSample_side (src : Source) (v : Sample) (t : Nat) (s : State) :
    (judgeSample src v t s).loop.side = s.loop.side := by
  simp [Loop.side]

theorem judgeSample_setCht (src : Source) (v : Sample) (t : Nat) (s : State) (c : Cht) :
    judgeSample src v t (s.setCht c) = (judgeSample src v t s).setCht c := by
  have hcommutes := judgeSample_withSide (s := s) (c := c) (w := s.loop.side) src v t
  rw [State.withSide, State.withSide, Loop.withSide_side rfl, Loop.withSide_side (judgeSample_side src v t s)] at hcommutes
  exact hcommutes

theorem handleEntry_stage (hrole : (chanEntry s.tbl.channels i).role ≤ 1) (hkind : f.kind = 16) :
    handleEntry i f s =
      if (chanEntry s.tbl.channels i).alsoForward = 1 then
        forwardFrom i f (deliverStage i (stageSource (chanEntry s.tbl.channels i).role) f
          (s.onStats i fun e => e.after false false none))
      else deliverStage i (stageSource (chanEntry s.tbl.channels i).role) f
        (s.onStats i fun e => e.after false false none) := by
  have hsample : f.kind = kindSample := hkind
  have hcode : (s.chan i).role = 0 ∨ (s.chan i).role = 1 := Nat.le_one_iff_eq_zero_or_eq_one.mp hrole
  have hchan : (chanEntry s.tbl.channels i).role = (s.chan i).role := rfl
  obtain hcode | hcode := hcode
  · simp only [handleEntry, hchan, hcode, Role.ofCode, handleStage, if_pos hsample]
    rfl
  · simp only [handleEntry, hchan, hcode, Role.ofCode, handleStage, if_pos hsample]
    rfl

theorem deliverStage_bad {src : Source} {d : DiscardReason}
    (hfault : sampleFault (chanEntry s.tbl.channels i).index f.payload = some d) :
    deliverStage i src f s =
      s.onStats i fun e => { e.discard d with nodeStatus := if d = .nodeFault then f.payload.head? else e.nodeStatus } := by
  have hindex : (chanEntry s.tbl.channels i).index = (s.chan i).index := rfl
  rw [hindex] at hfault
  unfold sampleFault at hfault
  unfold deliverStage
  split at hfault
  · next hlength =>
    obtain rfl : DiscardReason.form = d := by simpa using hfault
    rw [if_pos (by omega)]
    rfl
  · next hlength =>
    rw [if_neg (by omega)]
    split at hfault
    · next hstatus =>
      obtain rfl : DiscardReason.nodeFault = d := by simpa using hfault
      rw [if_pos hstatus]
      rfl
    · next hstatus =>
      rw [if_neg hstatus]
      split at hfault
      · next hshort =>
        obtain rfl : DiscardReason.shortSample = d := by simpa using hfault
        rw [if_pos hshort]
        rfl
      · simp at hfault

theorem deliverStage_good {src : Source} (hfault : sampleFault (chanEntry s.tbl.channels i).index f.payload = none) :
    deliverStage i src f s =
      stageSample src (u16 f.payload (2 * (chanEntry s.tbl.channels i).index - 1)) (chanEntry s.tbl.channels i).gain
        (chanEntry s.tbl.channels i).offset f.arrival
        (s.onStats i fun e =>
          { e with delivered := inc16 e.delivered, nodeStatus := some 0, lastDelivery := some f.arrival }) := by
  have hindex : (chanEntry s.tbl.channels i).index = (s.chan i).index := rfl
  rw [hindex] at hfault
  unfold sampleFault at hfault
  unfold deliverStage
  split at hfault
  · simp at hfault
  · next hlength =>
    rw [if_neg (by omega)]
    split at hfault
    · simp at hfault
    · next hstatus =>
      rw [if_neg hstatus]
      split at hfault
      · simp at hfault
      · next hshort =>
        rw [if_neg hshort]
        rfl

/-- R92: a SAMPLE with a fault is discarded, and goes to the office where the entry also forwards. -/
theorem handleEntry_sample_bad {d : DiscardReason} (hrole : (chanEntry s.tbl.channels i).role ≤ 1) (hkind : f.kind = 16)
    (hfault : sampleFault (chanEntry s.tbl.channels i).index f.payload = some d) :
    handleEntry i f s =
      forwardIf ((chanEntry s.tbl.channels i).alsoForward == 1) i f
        (s.onStats i fun e =>
          { e.after false ((chanEntry s.tbl.channels i).alsoForward == 1) (some d) with
            nodeStatus := if d = .nodeFault then f.payload.head? else e.nodeStatus }) := by
  have hbad := deliverStage_bad (s := s.onStats i fun e => e.after false false none)
    (src := stageSource (chanEntry s.tbl.channels i).role) hfault
  rw [handleEntry_stage hrole hkind, hbad, State.onStats_onStats]
  by_cases halso : (chanEntry s.tbl.channels i).alsoForward = 1
  · rw [if_pos halso, halso, forwardFrom, State.onStats_onStats]
    rfl
  · rw [if_neg halso, beq_eq_false_iff_ne.mpr halso]
    rfl

/-- R92: a good SAMPLE is judged now for the source of its entry's role, and goes to the office where the entry also
forwards. -/
theorem handleEntry_sample_good (hrole : (chanEntry s.tbl.channels i).role ≤ 1) (hkind : f.kind = 16)
    (hfault : sampleFault (chanEntry s.tbl.channels i).index f.payload = none) :
    handleEntry i f s =
      forwardIf ((chanEntry s.tbl.channels i).alsoForward == 1) i f
        ((judgeSample (stageSource (chanEntry s.tbl.channels i).role)
            (scaleSample (u16 f.payload (2 * (chanEntry s.tbl.channels i).index - 1)) (chanEntry s.tbl.channels i).gain
              (chanEntry s.tbl.channels i).offset) f.arrival s).onStats i fun e =>
          { e.after true ((chanEntry s.tbl.channels i).alsoForward == 1) none with
            nodeStatus := some 0, lastDelivery := some f.arrival }) := by
  have hgood := deliverStage_good (s := s.onStats i fun e => e.after false false none)
    (src := stageSource (chanEntry s.tbl.channels i).role) hfault
  have hjudged (g : EntryStats → EntryStats) (src : Source) (v : Sample) (t : Nat) :
      judgeSample src v t (s.onStats i g) = (judgeSample src v t s).onStats i g := by
    have hcht : (judgeSample src v t s).cht = s.cht := by simp
    rw [State.onStats, judgeSample_setCht, State.onStats, hcht]
  rw [handleEntry_stage hrole hkind, hgood, State.onStats_onStats, stageSample, hjudged]
  by_cases halso : (chanEntry s.tbl.channels i).alsoForward = 1
  · rw [if_pos halso, halso, forwardFrom, State.onStats_onStats]
    rfl
  · rw [if_neg halso, beq_eq_false_iff_ne.mpr halso]
    rfl

/-! ## The WINCH and the SERVICE role, and the held winch address (R91, R95, R96) -/

theorem holds_of_positionOf {payload : List Byte} {addr : Nat} {p : Position}
    (h : positionOf payload addr s.now = some p) : HoldsPosition payload addr s p := by
  unfold positionOf at h
  dsimp only at h
  split at h
  · next hbounds =>
    obtain ⟨hlength, hx, hlow, hhigh⟩ := hbounds
    obtain ⟨w, hw, rfl⟩ := Option.map_eq_some_iff.mp h
    exact ⟨hlength, ⟨hx, rfl⟩, ⟨hlow, hhigh, rfl⟩, hw, rfl, rfl⟩
  · simp at h

theorem positionOf_eq_none {payload : List Byte} {addr : Nat} (h : ∀ p, ¬ HoldsPosition payload addr s p) :
    positionOf payload addr s.now = none := by
  cases hp : positionOf payload addr s.now with
  | none => rfl
  | some p => exact absurd (holds_of_positionOf hp) (h p)

/-- RUN with a position that no winch it holds has sent. -/
def Run.hears (r : Run) (p : Position) : Run := if r.held = none then { r with position := some p } else r

theorem runPosition_of_other {p : Position} (h : s.run.held ≠ some p.addr) (answers : Option Nat) :
    runPosition p answers s = s.setRun (s.run.hears p) := by
  cases hheld : s.run.held with
  | none => simp [runPosition, Run.hears, hheld]
  | some a =>
    have hne : p.addr ≠ a := fun heq => h (by rw [hheld, heq])
    simp only [runPosition, Run.hears, hheld, if_neg hne]
    rfl

theorem handleWinch_form {p : Placing} (hkind : f.kind = 18)
    (h : positionOf f.payload f.addr.toNat f.arrival = none) : handleWinch p f s = discard p .form s := by
  have hposition : f.kind = kindPosition := hkind
  rw [handleWinch, if_pos hposition, h]

theorem handleWinch_burst {p : Placing} (hkind : f.kind = 19) :
    handleWinch p f s = if f.payload = [] then s else discard p .form s := by
  have hposition : ¬ f.kind = kindPosition := by rw [hkind]; decide
  have hburst : f.kind = kindBurstEnd := hkind
  rw [handleWinch, if_neg hposition, if_pos hburst]

theorem handleEntry_winch (hrole : (chanEntry s.tbl.channels i).role = 2) :
    handleEntry i f s = handleWinch (.entry i) f (s.onStats i fun e => e.after false false none) := by
  have hcode : (s.chan i).role = 2 := hrole
  simp only [handleEntry, hcode, Role.ofCode]
  rfl

/-- R95: a POSITION of a WINCH entry with a fault. -/
theorem handleEntry_position_bad (hrole : (chanEntry s.tbl.channels i).role = 2) (hkind : f.kind = 18)
    (hnow : f.arrival = s.now) (h : ∀ x, ¬ HoldsPosition f.payload f.addr.toNat s x) :
    handleEntry i f s = s.onStats i fun e => e.after false false (some .form) := by
  rw [handleEntry_winch hrole, handleWinch_form hkind (hnow ▸ positionOf_eq_none h), discard, State.onStats_onStats]
  rfl

/-- R95: a good POSITION of a WINCH entry, of another node than the held winch. -/
theorem handleEntry_position_good {p : Position} (hrole : (chanEntry s.tbl.channels i).role = 2) (hkind : f.kind = 18)
    (hnow : f.arrival = s.now) (hheld : s.run.held ≠ some f.addr.toNat)
    (h : HoldsPosition f.payload f.addr.toNat s p) :
    handleEntry i f s = (s.onStats i fun e => e.after true false none).setRun (s.run.hears p) := by
  have hposition : f.kind = kindPosition := hkind
  have haddr : p.addr = f.addr.toNat := h.origin.1
  have hread := positionOf_of_holds h
  rw [← hnow] at hread
  rw [handleEntry_winch hrole, handleWinch, if_pos hposition, hread]
  dsimp only
  rw [countDelivered, State.onStats_onStats]
  exact runPosition_of_other (s := s.onStats i fun e => e.after true false none) (by rwa [haddr]) _

/-- R95: a BURST-END of a WINCH entry. -/
theorem handleEntry_burst (hrole : (chanEntry s.tbl.channels i).role = 2) (hkind : f.kind = 19) :
    handleEntry i f s =
      s.onStats i fun e => e.after false false (if f.payload = [] then none else some .form) := by
  rw [handleEntry_winch hrole, handleWinch_burst hkind]
  split
  · rfl
  · rw [discard, State.onStats_onStats]
    rfl

/-- R96: a SERVICE-IN of a SERVICE entry. -/
theorem handleEntry_service (hrole : (chanEntry s.tbl.channels i).role = 4) (hkind : f.kind = 20) :
    handleEntry i f s =
      if f.payload = [] then s.onStats i fun e => e.after false false (some .form)
      else
        enqueue { origin := .service f.addr.toNat, payload := f.payload }
          (s.onStats i fun e => e.after true false none) := by
  have hcode : (s.chan i).role = 4 := hrole
  have hservice : f.kind = kindServiceIn := hkind
  simp only [handleEntry, hcode, Role.ofCode, handleService, if_pos hservice, countDelivered, discard,
    State.onStats_onStats]
  rfl

/-- CHT with one more frame of the held winch address discarded as FORM. -/
def Cht.winchFormLess (c : Cht) : Cht :=
  { c.winchMore with winchDiscarded := inc16 c.winchDiscarded, winchReason := some .form }

theorem classify_held_form (hkind : f.kind = 18) (hheld : s.run.held = some f.addr.toNat) (hnow : f.arrival = s.now)
    (h : ∀ p, ¬ HoldsPosition f.payload f.addr.toNat s p) : classify f s = s.setCht s.cht.winchFormLess := by
  rw [classify_of_held (.inl hkind) hheld, handleWinch_form hkind (hnow ▸ positionOf_eq_none h)]
  rfl

theorem classify_held_burst (hkind : f.kind = 19) (hheld : s.run.held = some f.addr.toNat) :
    classify f s = s.setCht (if f.payload = [] then s.cht.winchMore else s.cht.winchFormLess) := by
  rw [classify_of_held (.inr hkind) hheld, handleWinch_burst hkind]
  split
  · rfl
  · rfl

end

end Sys2Proof.Machine
end

section
/-! What a classified frame brings the office and CTL, to the end of its event (R92 to R96, R175, R188). -/

namespace Sys2Proof.Machine

set_option Elab.async false

/-! ## The item in UPL's buffer stays where nothing ends it (R174) -/

section
variable {s : State} {it : TxItem}

@[simp] theorem uplinkSelect_buffer (h : s.upl.buffer = some it) : (uplinkSelect s).upl.buffer = some it := by
  rw [uplinkSelect, if_neg (by simp [h]), h]

@[simp] theorem append_buffer (x : Content) (h : s.upl.buffer = some it) : (append x s).upl.buffer = some it :=
  uplinkSelect_buffer (s := s.setStore (s.store.append x)) h

@[simp] theorem warnRecord_buffer (old new : Nat) (cause : WarnCause) (h : s.upl.buffer = some it) :
    (warnRecord old new cause s).upl.buffer = some it := append_buffer _ h

theorem rise_buffer (target : Nat) (h : s.upl.buffer = some it) : (rise target s).upl.buffer = some it := by
  unfold rise
  dsimp only
  split
  · simp [h]
  · simp [h]

theorem standDownFall_buffer (h : s.upl.buffer = some it) : (standDownFall s).upl.buffer = some it := by
  simp [standDownFall, h]

theorem startStandDown_buffer (h : s.upl.buffer = some it) : (startStandDown s).upl.buffer = some it := by
  unfold startStandDown
  split
  · exact h
  · dsimp only
    split
    · exact standDownFall_buffer h
    · exact h

@[simp] theorem applyTarget_buffer (h : s.upl.buffer = some it) : (applyTarget s).upl.buffer = some it := by
  unfold applyTarget
  dsimp only
  split
  · exact rise_buffer _ h
  · split
    · exact startStandDown_buffer h
    · exact h

theorem publish_buffer (h : s.upl.buffer = some it) : (publish s).upl.buffer = some it := by
  unfold publish
  split
  · exact h
  · simp [wrnStage, endEvaluation, h]

theorem selectAfter_buffer (src : Source) (h : s.upl.buffer = some it) :
    (selectAfter src s).upl.buffer = some it := by
  unfold selectAfter
  split
  · simp [restoreStage, appendNotice, h]
  · split
    · exact h
    · exact h
  · exact h

theorem acceptedState_buffer (src : Source) (v : Sample) (t : Nat) (h : s.upl.buffer = some it) :
    (acceptedState src v t s).upl.buffer = some it := by
  have hselected := selectAfter_buffer (s := s.setStg (s.stg.setSource src (acceptedSource src v t s))) src h
  unfold acceptedState
  dsimp only
  split
  · exact hselected
  · exact hselected

theorem accept_buffer (src : Source) (v : Sample) (t : Nat) (h : s.upl.buffer = some it) :
    (accept src v t s).upl.buffer = some it := by
  rw [accept_eq]
  split
  · exact publish_buffer (acceptedState_buffer src v t h)
  · exact acceptedState_buffer src v t h

theorem judgeSample_buffer (src : Source) (v : Sample) (t : Nat) (h : s.upl.buffer = some it) :
    (judgeSample src v t s).upl.buffer = some it := by
  have hdropped : (dropSuspect src s).upl.buffer = some it := h
  have hsuspect : (becomeSuspect src v s).upl.buffer = some it := h
  unfold judgeSample
  dsimp only
  split
  · exact accept_buffer src v t h
  · split
    · exact accept_buffer src v t h
    · exact hsuspect
  · split
    · exact accept_buffer src v t (accept_buffer src _ t hdropped)
    · split
      · exact accept_buffer src v t hdropped
      · exact hsuspect

end

/-! ## The forward queue (R93, R94, R175) -/

section
variable {s t u : State} {i : Nat} {f : GoodFrame} {b : FrameBody} {wanted : Bool} {addr : Nat}

/-- R175: the item that the frame becomes. -/
def GoodFrame.item (f : GoodFrame) (i : Nat) (s : State) : FwdItem :=
  { number := s.upl.nextFwd, channel := i, addr := f.addr.toNat, time := s.clk.time, valid := s.clk.valid, kind := f.kind,
    payload := f.payload }

theorem forwardAdd_of_room (h : u.upl.fwdQ.length < 8) :
    forwardAdd i f.addr f.kind f.payload u =
      uplinkSelect
        (u.setUpl { u.upl with fwdQ := u.upl.fwdQ ++ [f.item i u], nextFwd := (u.upl.nextFwd + 1) % 65536 }) := by
  simp only [forwardAdd, if_pos h]
  rfl

theorem forwardAdd_of_full {x : FwdItem} {rest : List FwdItem} (h : ¬ u.upl.fwdQ.length < 8)
    (hqueue : u.upl.fwdQ = x :: rest) :
    forwardAdd i f.addr f.kind f.payload u =
      uplinkSelect
        (u.setUpl
          { u.upl with
            fwdQ := rest ++ [f.item i u], nextFwd := (u.upl.nextFwd + 1) % 65536,
            buffer := u.upl.buffer.map fun it =>
              { it with dropped := it.dropped || (it.cls == .forward && it.number == x.number) } }) := by
  have hdrop : u.upl.dropOldest =
      { u.upl with
        fwdQ := rest,
        buffer := u.upl.buffer.map fun it =>
          { it with dropped := it.dropped || (it.cls == .forward && it.number == x.number) } } := by
    simp [Upl.dropOldest, hqueue]
  simp only [forwardAdd, if_neg h, hdrop]
  rfl

theorem forwardAdd_forwarded (hkind : f.kind = b.kind) (hpayload : f.payload = b.payload) :
    Forwarded true i f.addr.toNat b u (forwardAdd i f.addr f.kind f.payload u) := by
  by_cases hroom : u.upl.fwdQ.length < 8
  · rw [forwardAdd_of_room hroom]
    refine ⟨by simp [GoodFrame.item, hroom, hkind, hpayload], by simp, fun it hit => ?_⟩
    rw [uplinkSelect_buffer (it := it) (by simp [hit])]
    simp [Nat.not_le.mpr hroom]
  · obtain ⟨x, rest, hqueue⟩ := List.exists_cons_of_length_pos (l := u.upl.fwdQ) (by omega)
    rw [forwardAdd_of_full hroom hqueue]
    have hlong : 7 ≤ rest.length := by
      rw [hqueue, List.length_cons] at hroom
      omega
    refine ⟨by simp [GoodFrame.item, hkind, hpayload, hqueue, hlong], by simp, fun it hit => ?_⟩
    rw [uplinkSelect_buffer (it := { it with dropped := it.dropped || (it.cls == .forward && it.number == x.number) })
      (by simp [hit])]
    simp [hqueue, hlong, BEq.comm (a := it.number)]

/-- A frame is forwarded the same from any state with the same clock, queue and buffer. -/
theorem Forwarded.of_start (h : Forwarded wanted i addr b u t) (hclk : u.clk = s.clk)
    (hqueue : u.upl.fwdQ = s.upl.fwdQ) (hnext : u.upl.nextFwd = s.upl.nextFwd)
    (hbuffer : ∀ it, s.upl.buffer = some it → u.upl.buffer = some it) : Forwarded wanted i addr b s t := by
  obtain ⟨hfwd, hnumber, hitem⟩ := h
  rw [hclk, hqueue, hnext] at hfwd
  rw [hnext] at hnumber
  rw [hqueue] at hitem
  exact ⟨hfwd, hnumber, fun it hit => hitem it (hbuffer it hit)⟩

theorem forwardIf_forwarded (hkind : f.kind = b.kind) (hpayload : f.payload = b.payload) :
    Forwarded wanted i f.addr.toNat b u (forwardIf wanted i f u) := by
  cases wanted with
  | false => exact ⟨rfl, rfl, fun it hit => by simpa [forwardIf] using hit⟩
  | true => exact forwardAdd_forwarded hkind hpayload

theorem Forwarded.settle (h : Forwarded wanted i addr b s u) : Forwarded wanted i addr b s (settle u) := by
  obtain ⟨hqueue, hnext, hbuffer⟩ := h
  exact ⟨by simpa using hqueue, by simpa using hnext, fun it hit => by simpa using hbuffer it hit⟩

/-! ## A SERVICE request (R96, R188, R189) -/

theorem enqueue_service_of_room (addr : Nat) (payload : List Byte) (h : u.ctl.queue.length < 4) :
    enqueue { origin := .service addr, payload := payload } u =
      setQueue (u.ctl.queue ++ [{ origin := .service addr, payload := payload }]) u := by
  rw [enqueue, if_pos h]

theorem enqueue_service_of_full (addr : Nat) {payload : List Byte} (hpayload : payload ≠ [])
    (h : ¬ u.ctl.queue.length < 4) :
    enqueue { origin := .service addr, payload := payload } u =
      if u.loop.serviceQ.length < 4 then
        u.setLoop
          { u.loop with
            serviceQ := u.loop.serviceQ ++
              [({ addr := addr, payload := [0x80, payload.headD 0, 1], resets := false }, u.loop.handNo)],
            handNo := u.loop.handNo + 1 }
      else u.setLoop { u.loop with droppedService := u.loop.droppedService + 1 } := by
  obtain ⟨x, rest, rfl⟩ := List.exists_cons_of_ne_nil hpayload
  rw [enqueue, if_neg h]
  rfl

@[simp] theorem forwardIf_frame (wanted : Bool) (i : Nat) (f : GoodFrame) (s : State) :
    (forwardIf wanted i f s).clk = s.clk ∧ (forwardIf wanted i f s).tbl = s.tbl ∧ (forwardIf wanted i f s).stg = s.stg ∧
      (forwardIf wanted i f s).rat = s.rat ∧ (forwardIf wanted i f s).wrn = s.wrn ∧
      (forwardIf wanted i f s).pls = s.pls ∧ (forwardIf wanted i f s).run = s.run ∧
      (forwardIf wanted i f s).loop = s.loop ∧ (forwardIf wanted i f s).cht = s.cht ∧
      (forwardIf wanted i f s).store = s.store ∧ (forwardIf wanted i f s).ctl = s.ctl ∧
      (forwardIf wanted i f s).lines = s.lines ∧ (forwardIf wanted i f s).resetLine = s.resetLine ∧
      (forwardIf wanted i f s).lastReset = s.lastReset ∧ (forwardIf wanted i f s).pending = s.pending := by
  cases wanted <;> simp [forwardIf]

@[simp] theorem State.onStats_cht (s : State) (i : Nat) (g : EntryStats → EntryStats) :
    (s.onStats i g).cht = { s.cht with stats := s.cht.stats.modify i g } := rfl

/-- R96: a SERVICE-IN at its end, the event having begun in `s` with the loop at `l`. -/
theorem handleEntry_serviceAsked {l : Loop} (hrole : (chanEntry s.tbl.channels i).role = 4) (hfkind : f.kind = 20)
    (hpayload : f.payload = b.payload) (hqueue : l.serviceQ = s.loop.serviceQ)
    (hdropped : l.droppedService = s.loop.droppedService) :
    ServiceAsked i f.addr.toNat b s (settle (handleEntry i f (s.setLoop l))) := by
  rw [handleEntry_service (s := s.setLoop l) hrole hfkind, hpayload]
  unfold ServiceAsked
  by_cases hempty : b.payload = []
  · simp only [if_pos hempty]
    refine ⟨by simp, by constructor <;> simp, ?_, by simp⟩
    simp [Counted]
  · simp only [if_neg hempty]
    by_cases hroom : s.ctl.queue.length < 4
    · rw [enqueue_service_of_room (u := (s.setLoop l).onStats i fun e => e.after true false none) _ _ hroom]
      simp only [if_pos hroom]
      refine ⟨by simp, by constructor <;> simp, by simp [Counted],
        by simp [setQueue], by simp [hdropped], ?_⟩
      simp [setQueue, readyAfter]
    · rw [enqueue_service_of_full (u := (s.setLoop l).onStats i fun e => e.after true false none) _ hempty hroom]
      simp only [if_neg hroom]
      by_cases hservice : s.loop.serviceQ.length < 4
      · rw [if_pos (by exact hqueue ▸ hservice), if_pos hservice]
        refine ⟨by simp, by constructor <;> simp, by simp [Counted],
          by simp, by simp, by simp [hdropped], ?_⟩
        rw [serviceOut_settle, serviceOut_eq]
        simp
      · rw [if_neg (by exact hqueue ▸ hservice), if_neg hservice]
        refine ⟨by simp, by constructor <;> simp, by simp [Counted],
          by simp, by simp, by simp [hdropped]⟩

/-! ## A stage sample (R92) -/

theorem Block.same_trans {p : Block} (h : p.same s u) (k : p.same u t) : p.same s t := by
  cases p
  all_goals exact Eq.trans k h

/-- What a sample's judgement does outside the reply line and CHT is the same from any of both. -/
theorem judgeSample_same {src : Source} {v : Sample} {x : Nat} {l : Loop} {w : ReplySide}
    (hside : l = s.loop.withSide w) {p : Block} (hp : p ∈ [Block.stg, .rat, .wrn, .run, .pls, .store]) :
    p.same (judgeSample src v x s) (judgeSample src v x (s.setLoop l)) := by
  have hcommutes := judgeSample_withSide (s := s) (w := w) (c := s.cht) src v x
  have hstart : s.withSide w s.cht = s.setLoop l := by rw [hside]; rfl
  rw [hstart] at hcommutes
  rw [hcommutes]
  simp only [List.mem_cons, List.not_mem_nil, or_false] at hp
  obtain rfl | rfl | rfl | rfl | rfl | rfl := hp
  all_goals rfl

theorem scaleSample_spec (raw : Nat) (gain offset : Int) :
    (scaleSample raw gain offset).mm = max (-2000) (min 20000 (offset + roundDiv ((raw : Int) * gain) 65536)) ∧
      ((scaleSample raw gain offset).clamped = true ↔
        offset + roundDiv ((raw : Int) * gain) 65536 < -2000 ∨ 20000 < offset + roundDiv ((raw : Int) * gain) 65536) :=
  ⟨clampInt_eq_max_min (by decide) _, decide_eq_true_iff⟩

/-- R92: a good SAMPLE at its end, the event having begun in `s` with the loop at `l`. -/
theorem handleEntry_sampleDelivered {l : Loop} {w : ReplySide} (hside : l = s.loop.withSide w)
    (hrole : (chanEntry s.tbl.channels i).role ≤ 1) (hfkind : f.kind = 16) (hnow : f.arrival = s.now)
    (hfault : sampleFault (chanEntry s.tbl.channels i).index f.payload = none) :
    SampleDelivered i f.payload s (settle (handleEntry i f (s.setLoop l))) := by
  have hspec := scaleSample_spec (u16 f.payload (2 * (chanEntry s.tbl.channels i).index - 1))
    (chanEntry s.tbl.channels i).gain (chanEntry s.tbl.channels i).offset
  have hhandled := handleEntry_sample_good (s := s.setLoop l) hrole hfkind hfault
  simp only [State.setLoop_tbl, hnow] at hhandled
  rw [hhandled]
  generalize scaleSample _ _ _ = c at hspec
  obtain ⟨hmm, hclamped⟩ := hspec
  refine ⟨_, c, rfl, hmm, hclamped, fun p hp => ?_⟩
  have hsame := judgeSample_same (s := s) (src := stageSource (chanEntry s.tbl.channels i).role) (v := c) (x := s.now)
    hside hp
  generalize judgeSample _ c s.now (s.setLoop l) = u at hsame ⊢
  have hend (wanted : Bool) (g : EntryStats → EntryStats) :
      ChangesOnly [.loop, .ctl, .cht, .upl] u (settle (forwardIf wanted i f (u.onStats i g))) := .of_blocks
  refine Block.same_trans hsame (hend _ _ p ?_)
  simp only [List.mem_cons, List.not_mem_nil, or_false] at hp
  obtain rfl | rfl | rfl | rfl | rfl | rfl := hp
  all_goals decide

end

end Sys2Proof.Machine
end

section
/-! A poll that has its good reply (R73, R74, R89 to R98). -/

namespace Sys2Proof.Machine

set_option Elab.async false

/-! ## The answered poll (R73) -/

/-- LOOP after the good reply `b` of the node `addr` to the poll of channel `ch`. -/
def answeredLoop (ch addr : Nat) (b : FrameBody) (s : State) : Loop :=
  let l := ((s.loop.highFrom s.fineNow).dropTxn.setNodeCount addr 0).pollOutcome ch .good
  if b.kind = 16 then l.clearMissed ch else l

/-- The state in which the good reply to a poll is classified. -/
def answeredState (ch addr : Nat) (b : FrameBody) (s : State) : State := s.setLoop (answeredLoop ch addr b s)

section
variable {s v : State} {ch addr : Nat} {b : FrameBody}

theorem answeredLoop_frame (ch addr : Nat) (b : FrameBody) (s : State) :
    (answeredLoop ch addr b s).rx = s.loop.dropTxn.rx ∧ (answeredLoop ch addr b s).faults = s.loop.faults ∧
      (answeredLoop ch addr b s).serviceQ = s.loop.serviceQ ∧
      (answeredLoop ch addr b s).droppedService = s.loop.droppedService ∧
      (answeredLoop ch addr b s).grant = s.loop.grant ∧
      (answeredLoop ch addr b s).nodeFail = ((s.loop.highFrom s.fineNow).dropTxn.setNodeCount addr 0).nodeFail := by
  unfold answeredLoop
  dsimp only
  split
  · simp [Loop.highFrom, Loop.dropTxn]
  · simp [Loop.highFrom, Loop.dropTxn]

theorem answeredLoop_poll {p : Poll} (h : s.loop.poll? ch = some p) :
    (answeredLoop ch addr b s).poll? ch =
      some { p with last := some .good, missed := if b.kind = 16 then false else p.missed } := by
  have hpoll : (((s.loop.highFrom s.fineNow).dropTxn.setNodeCount addr 0).pollOutcome ch .good).poll? ch =
      some { p with last := some .good } :=
    Loop.pollOutcome_poll _ (by rw [Loop.poll?_congr (l := s.loop) (by simp [Loop.highFrom]), h])
  unfold answeredLoop
  dsimp only
  split
  · simp [Loop.clearMissed, hpoll, Loop.poll?_setPoll_same _ hpoll]
  · exact hpoll

/-- R72, R73: the good reply `b` of the node `addr` to the poll of channel `ch` comes to its end. -/
structure AnswerArrives (s : State) (ch addr : Nat) (b : FrameBody) : Prop where
  awake : s.resetLine = false
  channel : ch < 24
  node : addr ≤ 30
  txn : s.loop.txn = some { asker := .poll ch, addr := addr, phase := .replying }
  rx : s.loop.rx = some { addr := BitVec.ofNat 8 addr, context := .reply }
  good : BodyGood b

theorem GoodReply.arrives (h : GoodReply s ch addr b) : AnswerArrives s ch addr b :=
  ⟨h.awake, h.channel, h.node.2, h.txn, h.rx, h.good⟩

theorem replyReceived_answers_poll (h : AnswerArrives s ch addr b) :
    exec (.replyReceived b) s =
      .next (settle (classify (answerFrame addr b (some ch) none s) (answeredState ch addr b s))) := by
  obtain ⟨hawake, -, hnode, htxn, hrx, hgood⟩ := h
  have hrow : exec (.replyReceived b) s = execReplyReceived b s := rfl
  have hreply : s.loop.inReply = true := by simp [Loop.inReply, htxn, hrx]
  have htxn' : (seenHigh s).loop.txn = some { asker := .poll ch, addr := addr, phase := .replying } := htxn
  have hrx' : (seenHigh s).loop.rx = some { addr := BitVec.ofNat 8 addr, context := .reply } := hrx
  have hend : endReply b (seenHigh s) =
      classify (answerFrame addr b (some ch) none s) (answeredState ch addr b s) := by
    simp only [endReply, htxn', hrx', bodyFault_of_good hgood, endTxnGood, node_toNat hnode, if_true]
    rfl
  rw [hrow, execReplyReceived, taken_of_awake hawake, if_pos hreply, hend]

/-- What the frame of an answered poll leaves of LOOP and CTL as the answer itself has left them. -/
structure AnsweredOn (ch addr : Nat) (b : FrameBody) (s v : State) : Prop where
  resetWait : v.ctl.resetWait = s.ctl.resetWait := by simp
  lastRefusal : v.ctl.lastRefusal = s.ctl.lastRefusal := by simp
  rx : v.loop.rx = (answeredLoop ch addr b s).rx := by simp
  faults : v.loop.faults = (answeredLoop ch addr b s).faults := by simp
  nodeFail : v.loop.nodeFail = (answeredLoop ch addr b s).nodeFail := by simp
  sched : v.loop.sched = (answeredLoop ch addr b s).sched := by simp

theorem AnsweredOn.pollAnswered (e : AnsweredOn ch addr b s v) (h : GoodReply s ch addr b) :
    PollAnswered ch addr b s (settle v) := by
  obtain ⟨hrx, hfaults, -, -, -, hfail⟩ := answeredLoop_frame ch addr b s
  have hfails : (settle v).loop.nodeFail = ((s.loop.highFrom s.fineNow).dropTxn.setNodeCount addr 0).nodeFail := by
    simp [e.nodeFail, hfail]
  have hnode : 1 ≤ addr ∧ addr ≤ s.loop.nodeFail.length := ⟨h.node.1, h.counts ▸ h.node.2⟩
  constructor
  case ctl => simp [e.resetWait, e.lastRefusal]
  case rx => simpa [e.rx, hrx] using Loop.dropTxn_rx (.inr ⟨_, h.rx⟩)
  case faults => simp [e.faults, hfaults]
  case node => exact (Loop.nodeCount_congr hfails addr).trans (Loop.nodeCount_setNodeCount_same 0 hnode)
  case nodes => exact fun x hx => (Loop.nodeCount_congr hfails x).trans (Loop.nodeCount_setNodeCount_ne 0 hx)
  case outcome =>
    intro p hp
    have hpoll : v.loop.poll? ch = some { p with last := some .good, missed := if b.kind = 16 then false else p.missed } := by
      rw [Loop.poll?_congr e.sched, answeredLoop_poll hp]
    obtain hsame | ⟨-, hmoved, -⟩ := settleFrom_poll v.fineNow hpoll
    · exact ⟨_, hsame, rfl, rfl, rfl⟩
    · exact ⟨_, hmoved, rfl, rfl, rfl⟩

/-! ## The answer touches the reply line alone -/

/-- Of LOOP the reply line alone has changed. -/
def Loop.SideOnly (l l' : Loop) : Prop := l' = l.withSide l'.side

theorem Loop.SideOnly.trans {l l' l'' : Loop} (h : l.SideOnly l') (k : l'.SideOnly l'') : l.SideOnly l'' := by
  unfold Loop.SideOnly at *
  rw [k, h]
  rfl

theorem Loop.setNodeCount_sideOnly (l : Loop) (addr n : Nat) : l.SideOnly (l.setNodeCount addr n) := by
  unfold Loop.setNodeCount
  split
  · rfl
  · rfl

theorem Loop.pollOutcome_sideOnly (l : Loop) (ch : Nat) (o : PollOutcome) : l.SideOnly (l.pollOutcome ch o) := by
  unfold Loop.pollOutcome
  split
  · rfl
  · rfl

theorem Loop.clearMissed_sideOnly (l : Loop) (ch : Nat) : l.SideOnly (l.clearMissed ch) := by
  unfold Loop.clearMissed
  split
  · rfl
  · rfl

theorem answeredLoop_sideOnly (ch addr : Nat) (b : FrameBody) (s : State) :
    s.loop.SideOnly (answeredLoop ch addr b s) := by
  have hpolled : s.loop.SideOnly (((s.loop.highFrom s.fineNow).dropTxn.setNodeCount addr 0).pollOutcome ch .good) :=
    Loop.SideOnly.trans (Loop.SideOnly.trans (l' := (s.loop.highFrom s.fineNow).dropTxn) rfl
      (Loop.setNodeCount_sideOnly _ _ _)) (Loop.pollOutcome_sideOnly _ _ _)
  unfold answeredLoop
  dsimp only
  split
  · exact hpolled.trans (Loop.clearMissed_sideOnly _ _)
  · exact hpolled

/-! ## Where the answer's frame belongs -/

theorem answerFrame_addr {a : Nat} (h : a ≤ 30) (b : FrameBody) (polled answering : Option Nat) (s : State) :
    (answerFrame a b polled answering s).addr.toNat = a := node_toNat h

/-- R89: the answer of an entry's node. -/
theorem classify_answer_entry {i : Nat} (h : AnswerArrives s ch addr b) (hheld : ¬ InHeldPlace s addr b.kind)
    (hbelongs : BelongsTo s ch addr i) :
    classify (answerFrame addr b (some ch) none s) (answeredState ch addr b s) =
      handleEntry i (answerFrame addr b (some ch) none s) (answeredState ch addr b s) := by
  have haddr := answerFrame_addr h.node b (some ch) none s
  refine classify_entry (placeOf_of_belongs (ch := ch) ?_ rfl h.channel ?_)
  · rwa [haddr]
  · rwa [haddr]

end

section
variable {s : State} {ch addr i : Nat} {b : FrameBody}

/-- The frames that the answer to a poll leaves with one count of their entry. -/
theorem answer_counted {g : EntryStats → EntryStats} (h : GoodReply s ch addr b) (hheld : ¬ InHeldPlace s addr b.kind)
    (hbelongs : BelongsTo s ch addr i)
    (hhandled : handleEntry i (answerFrame addr b (some ch) none s) (answeredState ch addr b s) =
      (answeredState ch addr b s).onStats i g) :
    ∃ t, exec (.replyReceived b) s = .next t ∧ ChangesOnly [.loop, .ctl, .cht] s t ∧ s.ctl.QueueKept t.ctl ∧
      PollAnswered ch addr b s t ∧ Counted i g s t := by
  refine ⟨_, replyReceived_answers_poll h.arrives, ?_⟩
  rw [classify_answer_entry h.arrives hheld hbelongs, hhandled]
  unfold answeredState
  exact ⟨.of_blocks, by constructor <;> simp, AnsweredOn.pollAnswered {} h, by simp [Counted]⟩

/-- The frames that the answer to a poll leaves with one count of their entry, and the office as it is wanted. -/
theorem answer_forwarded {g : EntryStats → EntryStats} {wanted : Bool} (h : GoodReply s ch addr b)
    (hheld : ¬ InHeldPlace s addr b.kind) (hbelongs : BelongsTo s ch addr i)
    (hhandled : handleEntry i (answerFrame addr b (some ch) none s) (answeredState ch addr b s) =
      forwardIf wanted i (answerFrame addr b (some ch) none s) ((answeredState ch addr b s).onStats i g)) :
    ∃ t, exec (.replyReceived b) s = .next t ∧ ChangesOnly [.loop, .ctl, .cht, .upl] s t ∧ s.ctl.QueueKept t.ctl ∧
      PollAnswered ch addr b s t ∧ Counted i g s t ∧ Forwarded wanted i addr b s t := by
  have hforwarded := forwardIf_forwarded (i := i) (wanted := wanted) (b := b)
    (f := answerFrame addr b (some ch) none s) (u := (answeredState ch addr b s).onStats i g) rfl rfl
  rw [answerFrame_addr h.node.2] at hforwarded
  refine ⟨_, replyReceived_answers_poll h.arrives, ?_⟩
  rw [classify_answer_entry h.arrives hheld hbelongs, hhandled]
  refine ⟨?_, ?_, ?_, ?_, (hforwarded.of_start rfl rfl rfl fun _ => id).settle⟩
  all_goals unfold answeredState
  · exact .of_blocks
  · constructor <;> simp
  · exact AnsweredOn.pollAnswered {} h
  · simp [Counted]

end

end Sys2Proof.Machine
end

section
/-! The good replies to polls, by where they belong (R89 to R98). -/

namespace Sys2Proof.Machine

set_option Elab.async false

section
variable {s : State} {ch addr i : Nat} {b : FrameBody}

theorem not_inHeldPlace_of_kind {kind : Byte} (h : kind ≠ 18 ∧ kind ≠ 19) : ¬ InHeldPlace s addr kind := by
  rintro ⟨rfl | rfl, -⟩
  · exact h.1 rfl
  · exact h.2 rfl

theorem not_inHeldPlace_of_held {kind : Byte} (h : s.run.held ≠ some addr) : ¬ InHeldPlace s addr kind :=
  fun ⟨_, hheld⟩ => h hheld

/-- R92: the answer of a stage entry with a good SAMPLE. -/
theorem answer_delivers_sample (h : GoodReply s ch addr b) (hkind : b.kind = 16) (hbelongs : BelongsTo s ch addr i)
    (hrole : (chanEntry s.tbl.channels i).role ≤ 1)
    (hfault : sampleFault (chanEntry s.tbl.channels i).index b.payload = none) :
    ∃ t, exec (.replyReceived b) s = .next t ∧
      EventFrame [.loop, .cht, .stg, .rat, .wrn, .run, .pls, .store, .upl] s t ∧ PollAnswered ch addr b s t ∧
      Counted i
        (fun e =>
          { e.after true ((chanEntry s.tbl.channels i).alsoForward == 1) none with
            nodeStatus := some 0, lastDelivery := some s.now }) s t ∧
      SampleDelivered i b.payload s t ∧ Forwarded ((chanEntry s.tbl.channels i).alsoForward == 1) i addr b s t := by
  have hdelivered := handleEntry_sampleDelivered (f := answerFrame addr b (some ch) none s)
    (answeredLoop_sideOnly ch addr b s) hrole hkind rfl hfault
  have hhandled := handleEntry_sample_good (s := answeredState ch addr b s)
    (f := answerFrame addr b (some ch) none s) hrole hkind hfault
  rw [← answeredState] at hdelivered
  refine ⟨_, replyReceived_answers_poll h.arrives, ?_⟩
  rw [classify_answer_entry h.arrives (not_inHeldPlace_of_kind (by rw [hkind]; decide)) hbelongs]
  refine ⟨?_, ?_, ?_, hdelivered, ?_⟩
  all_goals rw [hhandled]
  all_goals generalize scaleSample _ _ _ = c
  · unfold answeredState
    exact .of_loop .of_blocks (by simp)
  · unfold answeredState
    exact AnsweredOn.pollAnswered {} h
  · unfold answeredState
    simp [Counted, answerFrame]
  · have hforwarded := forwardIf_forwarded (i := i) (wanted := (chanEntry s.tbl.channels i).alsoForward == 1) (b := b)
      (f := answerFrame addr b (some ch) none s)
      (u := (judgeSample (stageSource (chanEntry s.tbl.channels i).role) c s.now (answeredState ch addr b s)).onStats i
        fun e =>
          { e.after true ((chanEntry s.tbl.channels i).alsoForward == 1) none with
            nodeStatus := some 0, lastDelivery := some s.now }) rfl rfl
    rw [answerFrame_addr h.node.2] at hforwarded
    refine (hforwarded.of_start ?_ ?_ ?_ fun it hit => ?_).settle
    · simp [answeredState]
    · simp [answeredState]
    · simp [answeredState]
    · exact judgeSample_buffer _ _ _ (s := answeredState ch addr b s) hit

/-- R95: the answer of a WINCH entry with a good POSITION. -/
theorem answer_delivers_position {p : Position} (h : GoodReply s ch addr b) (hkind : b.kind = 18)
    (hheld : s.run.held ≠ some addr) (hbelongs : BelongsTo s ch addr i)
    (hrole : (chanEntry s.tbl.channels i).role = 2) (hp : HoldsPosition b.payload addr s p) :
    ∃ t, exec (.replyReceived b) s = .next t ∧ ChangesOnly [.loop, .ctl, .cht, .run] s t ∧
      s.ctl.QueueKept t.ctl ∧ PollAnswered ch addr b s t ∧ Counted i (fun e => e.after true false none) s t ∧
      t.run = if s.run.held = none then { s.run with position := some p } else s.run := by
  have haddr := answerFrame_addr h.node.2 b (some ch) none s
  have hhandled := handleEntry_position_good (s := answeredState ch addr b s) (i := i)
    (f := answerFrame addr b (some ch) none s) (p := p) hrole hkind rfl (by rwa [haddr])
    (by rw [haddr]; exact ⟨hp.length, hp.x, hp.cable, hp.winch, hp.origin⟩)
  refine ⟨_, replyReceived_answers_poll h.arrives, ?_⟩
  rw [classify_answer_entry h.arrives (not_inHeldPlace_of_held hheld) hbelongs, hhandled]
  unfold answeredState
  have hrun (u : State) : (settle (u.setRun (s.run.hears p))).run = s.run.hears p := by simp
  exact ⟨.of_blocks, by constructor <;> simp, AnsweredOn.pollAnswered {} h, by simp [Counted], hrun _⟩

/-- R96: the answer of a SERVICE entry with a SERVICE-IN. -/
theorem answer_asks_service (h : GoodReply s ch addr b) (hkind : b.kind = 20) (hbelongs : BelongsTo s ch addr i)
    (hrole : (chanEntry s.tbl.channels i).role = 4) :
    ∃ t, exec (.replyReceived b) s = .next t ∧ ChangesOnly [.loop, .ctl, .cht, .upl] s t ∧
      PollAnswered ch addr b s t ∧ ServiceAsked i addr b s t := by
  obtain ⟨-, -, hqueue, hdropped, -, -⟩ := answeredLoop_frame ch addr b s
  have hasked := handleEntry_serviceAsked (s := s) (l := answeredLoop ch addr b s) (i := i) (b := b)
    (f := answerFrame addr b (some ch) none s) hrole hkind rfl hqueue hdropped
  rw [answerFrame_addr h.node.2, ← answeredState] at hasked
  refine ⟨_, replyReceived_answers_poll h.arrives, ?_⟩
  rw [classify_answer_entry h.arrives (not_inHeldPlace_of_kind (by rw [hkind]; decide)) hbelongs]
  refine ⟨?_, ?_, hasked⟩
  all_goals rw [handleEntry_service (s := answeredState ch addr b s) hrole hkind]
  all_goals unfold answeredState
  · split
    · exact .of_blocks
    · exact .of_blocks
  · split
    · exact AnsweredOn.pollAnswered {} h
    · exact AnsweredOn.pollAnswered {} h

/-- The answers that change CHT alone. -/
theorem answer_setCht {c : Cht} (h : GoodReply s ch addr b)
    (hclassified : classify (answerFrame addr b (some ch) none s) (answeredState ch addr b s) =
      (answeredState ch addr b s).setCht c) :
    ∃ t, exec (.replyReceived b) s = .next t ∧ ChangesOnly [.loop, .ctl, .cht] s t ∧ s.ctl.QueueKept t.ctl ∧
      PollAnswered ch addr b s t ∧ t.cht = c := by
  refine ⟨_, replyReceived_answers_poll h.arrives, ?_⟩
  rw [hclassified]
  unfold answeredState
  exact ⟨.of_blocks, by constructor <;> simp, AnsweredOn.pollAnswered {} h, by simp⟩

/-- R95, R134: the answer of the held winch with a good POSITION. -/
theorem answer_judges_position {p : Position} (h : GoodReply s ch addr b) (hkind : b.kind = 18)
    (hheld : s.run.held = some addr) (hp : HoldsPosition b.payload addr s p) :
    ∃ t, exec (.replyReceived b) s = .next t ∧ EventFrame [.loop, .cht, .run, .pls, .rat, .store, .upl] s t ∧
      PollAnswered ch addr b s t ∧ t.cht = { s.cht with winchClassified := inc16 s.cht.winchClassified } ∧
      PositionJudged p none True s t := by
  have haddr := answerFrame_addr h.node.2 b (some ch) none s
  obtain ⟨-, -, -, -, hgrant, -⟩ := answeredLoop_frame ch addr b s
  have hclassified : classify (answerFrame addr b (some ch) none s) (answeredState ch addr b s) =
      judgePosition p none (positioned p ((answeredState ch addr b s).setCht s.cht.winchMore)) :=
    classify_held_position hkind (by rwa [haddr]) rfl
      (by rw [haddr]; exact ⟨hp.length, hp.x, hp.cable, hp.winch, hp.origin⟩)
  have hjudged : PositionJudged p none True s
      (judgePosition p none (positioned p ((answeredState ch addr b s).setCht s.cht.winchMore))) :=
    (judgePosition_judged p none ((answeredState ch addr b s).setCht s.cht.winchMore)).of_setLoop (s := s)
      fun a => by simp [Loop.grantedTo, hgrant]
  refine ⟨_, replyReceived_answers_poll h.arrives, ?_⟩
  rw [hclassified]
  refine ⟨?_, ?_, ?_, hjudged.on (settle_judgedOn (granted := False) _) False.elim⟩
  all_goals unfold positioned answeredState Cht.winchMore
  · exact .of_loop .of_blocks (by simp)
  · exact AnsweredOn.pollAnswered {} h
  · simp

end

/-- Settles O34: a poll's good reply by its place, role and kind. -/
theorem goodEmptyReplyEndsThePoll : Obligations.GoodEmptyReplyEndsThePoll := by
  unfold Obligations.GoodEmptyReplyEndsThePoll
  intro s ch addr b h
  have haddr := answerFrame_addr h.node.2 b (some ch) none s
  refine ⟨fun i hkind hbelongs => ?_, fun i hkind hheld hbelongs hrole => ?_, fun i hkind hheld hbelongs hrole => ?_,
    fun i d hkind hbelongs hrole hfault => ?_, fun i hkind hbelongs hrole hfault => ?_,
    fun i hkind hheld hbelongs hrole => ⟨fun hform => ?_, fun p hp => ?_⟩, fun i hkind hheld hbelongs hrole => ?_,
    fun i hkind hbelongs hrole => ?_, fun hkind hheld => ?_, fun hkind hheld => ⟨fun hform => ?_, fun p hp => ?_⟩,
    fun hheld hunknown => ?_⟩
  · exact answer_counted h (not_inHeldPlace_of_kind (by rw [hkind]; decide)) hbelongs (handleEntry_empty hkind)
  · exact answer_forwarded h hheld hbelongs (wanted := true) (handleEntry_forward hrole hkind)
  · exact answer_counted h hheld hbelongs (handleEntry_kind hkind hrole)
  · exact answer_forwarded h (not_inHeldPlace_of_kind (by rw [hkind]; decide)) hbelongs
      (handleEntry_sample_bad hrole hkind hfault)
  · exact answer_delivers_sample h hkind hbelongs hrole hfault
  · refine answer_counted h (not_inHeldPlace_of_held hheld) hbelongs (handleEntry_position_bad hrole hkind rfl ?_)
    rw [haddr]
    exact fun p hp => hform p ⟨hp.length, hp.x, hp.cable, hp.winch, hp.origin⟩
  · exact answer_delivers_position h hkind hheld hbelongs hrole hp
  · exact answer_counted h (not_inHeldPlace_of_held hheld) hbelongs (handleEntry_burst hrole hkind)
  · exact answer_asks_service h hkind hbelongs hrole
  · obtain ⟨t, hrow, hframe, hctl, hanswered, hcht⟩ := answer_setCht h (classify_held_burst hkind (by rwa [haddr]))
    refine ⟨t, hrow, hframe, hctl, hanswered, hcht.trans ?_⟩
    rfl
  · exact answer_setCht h (classify_held_form hkind (by rwa [haddr]) rfl (by
      rw [haddr]
      exact fun p hp => hform p ⟨hp.length, hp.x, hp.cable, hp.winch, hp.origin⟩))
  · exact answer_judges_position h hkind hheld hp
  · refine answer_setCht h (classify_unknown (placeOf_of_unknown ?_ (polledEntry_of_not_names rfl h.channel ?_) ?_))
    · rwa [haddr]
    · rw [haddr]
      exact hunknown ch
    · rw [haddr]
      exact hunknown

end Sys2Proof.Machine
end

section
/-! The first good SAMPLE of the STAGE-PRIMARY channel (R2 to R4, R9, R12, R36, R44). -/

namespace Sys2Proof.Machine

set_option Elab.async false

section
variable {s t : State}

/-- The level writes at most one warning record. -/
theorem LevelMoved.store_eq (h : LevelMoved s t) :
    t.store = s.store ∨ ∃ w, t.store = s.store.append (.warning w) := by
  obtain ⟨⟨hrise, -, hstill, habove, -⟩, hstart, hfall⟩ := h
  obtain hlow | heq | hhigh := Nat.lt_trichotomy s.wrn.level t.wrn.target
  · obtain ⟨-, -, -, -, c, -, hstore⟩ := hrise hlow
    exact .inr ⟨_, hstore⟩
  · obtain ⟨-, -, -, -, hstore⟩ := hstill heq.symm
    exact .inl hstore
  · cases hrunning : s.wrn.standDown with
    | some d =>
      obtain ⟨-, -, -, hstore⟩ := habove hhigh (by simp [hrunning])
      exact .inl hstore
    | none =>
      by_cases hzero : cfgStandDown s.tbl.config s.wrn.level = 0
      · obtain ⟨-, -, -, -, hstore⟩ := hfall hhigh hrunning hzero
        exact .inr ⟨_, hstore⟩
      · obtain ⟨-, hstore, -, -⟩ := hstart hhigh hrunning hzero
        exact .inl hstore

/-- The evaluation is the same from a state with another loop. -/
theorem StageEvaluated.of_setLoop {st : Store} {l : Loop} (h : StageEvaluated st (s.setLoop l) t)
    (grant : l.grant = s.loop.grant) : StageEvaluated st s t := by
  obtain ⟨hrules, htarget, hhold, hlost, hlevel⟩ := h
  exact ⟨hrules, htarget, hhold, hlost, hlevel.of_levelStart
    ⟨rfl, rfl, rfl, rfl, rfl, rfl, rfl, rfl, rfl, rfl, grant.symm, rfl⟩⟩

end

theorem setCht_levelEnd (s : State) (c : Cht) : LevelEnd s (s.setCht c) := ⟨rfl, rfl, rfl, .of_places, id⟩

/-- Settles O35, through R9's acceptance that restores stage by PRIMARY. -/
theorem firstSampleRestoresStage : Obligations.FirstSampleRestoresStage := by
  unfold Obligations.FirstSampleRestoresStage
  intro s ch addr a b hawake hnode htxn hrx haddr hkind hgood hch hactive hentry hrole halso hlength hstatus hindex hfits
    hunheard hnone
  have ha : a = BitVec.ofNat 8 addr := by rw [← haddr, BitVec.ofNat_toNat, BitVec.setWidth_eq]
  have harrives : AnswerArrives s ch addr b := ⟨hawake, hch, hnode, htxn, by rw [hrx, ha], hgood⟩
  have hbelongs : BelongsTo s ch addr ch := ⟨⟨hch, hactive, hentry⟩, .inl rfl⟩
  have hfault : sampleFault (chanEntry s.tbl.channels ch).index b.payload = none := by
    simp only [List.mem_cons, List.not_mem_nil, or_false] at hlength
    rw [sampleFault, if_neg (by omega), if_neg (by simp [hstatus]), if_neg (by omega)]
  obtain ⟨hmm, hclamped⟩ := scaleSample_spec (u16 b.payload (2 * (chanEntry s.tbl.channels ch).index - 1))
    (chanEntry s.tbl.channels ch).gain (chanEntry s.tbl.channels ch).offset
  generalize hc : scaleSample _ _ _ = c at hmm hclamped
  obtain ⟨g, hhandled⟩ : ∃ g, handleEntry ch (answerFrame addr b (some ch) none s) (answeredState ch addr b s) =
      (accept .primary c s.now (answeredState ch addr b s)).onStats ch g := by
    have hgood := handleEntry_sample_good (s := answeredState ch addr b s) (i := ch)
      (f := answerFrame addr b (some ch) none s) (by exact hrole ▸ Nat.zero_le 1) hkind hfault
    have htbl : (answeredState ch addr b s).tbl = s.tbl := rfl
    have hpayload : (answerFrame addr b (some ch) none s).payload = b.payload := rfl
    have hprimary : stageSource 0 = .primary := rfl
    rw [htbl, halso, hrole, hpayload, hc, hprimary,
      judgeSample_of_unheard (s := answeredState ch addr b s) (src := .primary) hunheard] at hgood
    exact ⟨_, hgood⟩
  have hpublished := accept_primary_restores (v := c) (t := s.now) (s := answeredState ch addr b s) hnone
  obtain ⟨-, -, -, -, hgrant, -⟩ := answeredLoop_frame ch addr b s
  refine ⟨_, replyReceived_answers_poll harrives, ?_⟩
  rw [classify_answer_entry harrives (not_inHeldPlace_of_kind (by rw [hkind]; decide)) hbelongs, hhandled]
  generalize hu : accept .primary c s.now (answeredState ch addr b s) = u at hpublished
  obtain ⟨-, hport, hstage, hdischarge, hevaluated⟩ := hpublished
  have hends : StageEvaluated (restoredStore .primary s) s (settle (u.onStats ch g)) :=
    (StageEvaluated.of_setLoop hevaluated hgrant).of_levelEnd
      ((setCht_levelEnd u _).trans (settle_levelEnd _)) (by simp) (by simp)
  have hstg : (settle (u.onStats ch g)).stg = u.stg := by simp
  have hrat : (settle (u.onStats ch g)).rat = u.rat := by simp
  refine ⟨?_, ?_, ⟨c, hmm, hclamped, ?_, ?_⟩, ?_, ?_, ?_, ?_, ?_, ?_, hends.stageLost, hends.resetHold, hends.target,
    restoredStore .primary s, rfl, hends.level.store_eq, hends⟩
  · rw [← hu]
    unfold answeredState
    exact .of_loop .of_blocks (by simp)
  · exact hport.trans (by constructor <;> simp)
  · rw [hstg, hstage]
    rfl
  · rw [hstg, hstage, ← hmm]
    rfl
  · rw [hstg, hstage]
    rfl
  · rw [hstg, hstage]
  · rw [hstg, hstage, ← hmm]
    rfl
  · rw [hstg, hstage]
    rfl
  · rw [hrat, hdischarge, ← hmm]
    rfl
  · rw [hrat, hdischarge]
    rfl

end Sys2Proof.Machine
end

section
/-! A frame of the command pair that has been sent whole (R70, R71, R83, R110, R136, R142, R147, R195). -/

namespace Sys2Proof.Machine

set_option Elab.async false

/-! ## What the end of an event leaves of a transaction, a grant and a claim -/

section
variable {s : State} (t : Nat)

theorem settleFrom_carriedOn (s : State) : CarriedOn s (settleFrom t s) :=
  CarriedOn.trans (.of_places (t := rateEffect s)) ((choose_carriedOn _).trans (kickFrom_carriedOn _ _))

theorem settleFrom_grant_of_held (h : s.loop.grant.held = true) : (settleFrom t s).loop.grant = s.loop.grant := by
  have hrate : (rateEffect s).loop.grant.held = true := by simpa using h
  simp [settleFrom, choose_of_held hrate]

/-- R71: a transaction whose opening frame has gone stays as it is. -/
theorem settleFrom_txn_of_gone {x : Txn} (h : s.loop.txn = some x) (hgone : x.phase ≠ .queued) :
    (settleFrom t s).loop.txn = some x := by
  have hmay : s.loop.mayChoose = false := by simp [Loop.mayChoose, Loop.pairFree, h]
  obtain ⟨-, hchosen⟩ | ⟨hmay', -⟩ | ⟨hmay', -⟩ := settleFrom_chosen t s
  · have htxn := hchosen.txn
    rw [h] at htxn
    obtain ⟨ph, heq, rfl | ⟨hqueued, -⟩⟩ := htxn.of_some
    · exact heq
    · exact absurd hqueued hgone
  · simp [hmay] at hmay'
  · simp [hmay] at hmay'

/-- R70: a CLAIM that waits is the next frame of an idle transmitter. -/
theorem settleFrom_claim (hclaim : s.loop.claimPlace = true) (hidle : s.loop.tx = none) :
    (settleFrom t s).loop.claimPlace = false ∧
      (settleFrom t s).loop.tx = some { frame := .claim, doneAt := t + loopChar (settleFrom t s).loop.rate } := by
  generalize hu : choose (rateEffect s) = u
  have hplace : u.loop.claimPlace = true := by simpa [← hu] using hclaim
  have htx : u.loop.tx = none := by simpa [← hu] using hidle
  have hkick : settleFrom t s =
      feedService
        (u.setLoop { u.loop with claimPlace := false, tx := some { frame := .claim, doneAt := u.charsFrom t 1 } }) := by
    rw [settleFrom, hu]
    simp [kickFrom, htx, Loop.takeNext, hplace, CmdFrame.chars]
  rw [hkick]
  simp [State.charsFrom]

end

/-! ## The row (R70) -/

/-- The frame has gone: the transmitter is idle. -/
def idleSent (s : State) : State := s.setLoop { s.loop with tx := none }

section
variable {s : State} {f : CmdFrame} {d : Nat}

theorem commandFrameSent_row (hawake : s.resetLine = false) (htx : s.loop.tx = some { frame := f, doneAt := d })
    (hpast : d ≤ s.fineNow) (hgrant : f.isGrant = false) :
    exec .commandFrameSent s = .next (settleFrom d (afterSent f d (idleSent s))) := by
  have hrow : exec .commandFrameSent s = execCommandFrameSent s := rfl
  have hsent : s.frameSent = some { frame := f, doneAt := d } := by simp [State.frameSent, htx, hpast]
  rw [hrow, execCommandFrameSent, taken_of_awake hawake]
  simp only [hsent, hgrant]
  rfl

/-- What every frame sent leaves as it was. -/
theorem afterSent_frames (f : CmdFrame) (d : Nat) (s : State) :
    ChangesOnly [.loop, .ctl, .run] s (settleFrom d (afterSent f d (idleSent s))) ∧
      s.loop.LineKept (settleFrom d (afterSent f d (idleSent s))).loop ∧
      (settleFrom d (afterSent f d (idleSent s))).ctl.queue = s.ctl.queue ∧
      (settleFrom d (afterSent f d (idleSent s))).run.state = s.run.state := by
  unfold idleSent
  exact ⟨.of_blocks, by constructor <;> simp, by simp, by simp⟩

theorem afterSent_claim (h : s.loop.claimPlace = true) :
    (settleFrom d (afterSent f d (idleSent s))).loop.claimPlace = false ∧
      (settleFrom d (afterSent f d (idleSent s))).loop.tx =
        some { frame := .claim, doneAt := d + loopChar (settleFrom d (afterSent f d (idleSent s))).loop.rate } :=
  settleFrom_claim d (by simpa [idleSent] using h) (by simp [idleSent])

/-! ## Each frame (R71, R110, R136, R142, R147, R195) -/

theorem opening_sent {a : Nat} {k : CmdKind} {x : Txn} (h : s.loop.txn = some x) :
    (settleFrom d (afterSent (.opening a k) d (idleSent s))).loop.txn =
      some { x with phase := .waiting (d + cfgReplyTimeout s.tbl.config * loopChar s.loop.rate) } :=
  settleFrom_txn_of_gone (x := { x with phase := .waiting (d + cfgReplyTimeout s.tbl.config * loopChar s.loop.rate) }) d
    (by simp [afterSent, startReplyTimeout, idleSent, h, State.charsFrom]) (by simp)

theorem claim_sent (h : s.loop.grant.state = .claiming) :
    (settleFrom d (afterSent .claim d (idleSent s))).loop.grant =
      { s.loop.grant with
        wait := some
          { length := cfgReplyTimeout s.tbl.config,
            expiry := if s.loop.rx = none then some (d + cfgReplyTimeout s.tbl.config * loopChar s.loop.rate)
              else none } } := by
  have hstate : (idleSent s).loop.grant.state = .claiming := h
  have hafter : afterSent .claim d (idleSent s) = startClaimWait d (idleSent s) := if_pos hstate
  rw [hafter, settleFrom_grant_of_held d (by simp [hstate, Grant.held])]
  cases hrx : s.loop.rx with
  | none => simp [startClaimWait, idleSent, hrx, State.charsFrom]
  | some r => simp [startClaimWait, idleSent, hrx]

/-- R110, R195: a CLAIM or a SERVICE-OUT frame that has gone does not reach RUN. -/
theorem afterSent_claim_run (d : Nat) (s : State) :
    (afterSent .claim d s).run = s.run ∧ (afterSent .claim d s).ctl = s.ctl := by
  unfold afterSent
  dsimp only
  split
  · simp
  · exact ⟨rfl, rfl⟩

theorem afterSent_service (g : SvcFrame) (d : Nat) (s : State) :
    (afterSent (.service g) d s).run = s.run ∧
      (afterSent (.service g) d s).ctl.resetWait =
        if g.resets then s.ctl.resetWait.map (fun w => { w with gone := true }) else s.ctl.resetWait := by
  unfold afterSent
  dsimp only
  split
  · exact ⟨rfl, rfl⟩
  · exact ⟨rfl, rfl⟩

theorem afterSent_winch (c : RunCmd) (d : Nat) (s : State) :
    afterSent (.winch c) d s = runOutcome c.id .sent s := rfl

theorem winch_sent_told {c : RunCmd} (h : s.run.state ≠ .pointSeek ∨ s.run.haltId ≠ some c.id) :
    (runOutcome c.id .sent s).run.told = some (c.id, .sent) ∧ (runOutcome c.id .sent s).run.moveId = s.run.moveId ∧
      (runOutcome c.id .sent s).run.moveSent = (s.run.moveSent || s.run.moveId == some c.id) := by
  obtain ⟨sent, e, heq⟩ := runOutcome_notSeeking c.id .sent h
  rw [heq]
  simp [Run.note, CmdOutcome.reached]

theorem winch_sent_retrieve {c x : RunCmd} {w : Bool} (hstate : s.run.state = .retrieve)
    (hlast : s.run.lastCmd = some (x, w)) (hid : x.id = c.id) :
    (runOutcome c.id .sent s).run.retrieveSent = (s.run.retrieveSent || x.kind == .retrieve) ∧
      (runOutcome c.id .sent s).run.enquiryAt = some (s.now + 1000) := by
  have hlatest : s.run.isLast c.id = some x := by simp [Run.isLast, hlast, Option.filter, hid]
  simp [runOutcome, hstate, hlatest, Run.note, CmdOutcome.reached]

theorem winch_sent_halt {c : RunCmd} {v : Vertical} {q : PointSpec} {qs : List PointSpec} (hstate : s.run.state = .pointSeek)
    (hhalt : s.run.haltId = some c.id) (hv : s.run.vertical = some v) (hpoints : v.points = q :: qs) :
    (runOutcome c.id .sent s).run.haltId = none ∧
      MoveObtained (.cableTo q.cable) (ReleaseMode.ofCode s.header.cableMode) s (runOutcome c.id .sent s) := by
  have houtcome : runOutcome c.id .sent s = obtainMove (s.setRun { s.run.note c.id .sent with haltId := none }) := by
    simp only [runOutcome, hstate, hhalt, if_true]
    rfl
  have hobtained := obtainMove_obtained (s := s.setRun { s.run.note c.id .sent with haltId := none })
    (k := .cableTo q.cable) (by simp [Run.moveCommand, Run.note, hstate, hv, hpoints])
  have hmode : (s.setRun { s.run.note c.id .sent with haltId := none }).moveMode =
      ReleaseMode.ofCode s.header.cableMode := by
    simp [State.moveMode, State.header, State.plan, Run.note, hstate]
  rw [hmode] at hobtained
  rw [houtcome]
  exact ⟨by simp, hobtained.of_start rfl⟩

end

/-- Settles O31, frame by frame. -/
theorem sentFrameBringsItsSequel : Obligations.SentFrameBringsItsSequel := by
  unfold Obligations.SentFrameBringsItsSequel
  intro s f d hawake htx hpast hgrant
  obtain ⟨hframe, hline, hqueue, hstate⟩ := afterSent_frames f d s
  refine ⟨_, commandFrameSent_row hawake htx hpast hgrant, hframe, hline, hqueue, hstate,
    fun hclaim _ => afterSent_claim hclaim, ?_⟩
  have hrun (u : State) : (settleFrom d u).run = u.run := by simp
  have hwait (u : State) : (settleFrom d u).ctl.resetWait = u.ctl.resetWait := by simp
  cases f with
  | opening a k =>
    exact ⟨by simp [afterSent, startReplyTimeout, idleSent], by simp [afterSent, startReplyTimeout, idleSent],
      fun x hx => opening_sent hx⟩
  | claim =>
    obtain ⟨hsame, hctl⟩ := afterSent_claim_run d (idleSent s)
    exact ⟨(hrun _).trans hsame, (hwait _).trans (congrArg Ctl.resetWait hctl), claim_sent⟩
  | winch c =>
    rw [hrun, hwait, afterSent_winch]
    refine ⟨by simp [idleSent], fun h => winch_sent_told (s := idleSent s) h, fun x w hretrieve hlast hid => ?_,
      fun v q qs hseek hhalt hv hpoints => ?_⟩
    · obtain ⟨hsent, henquiry⟩ := winch_sent_retrieve (s := idleSent s) hretrieve hlast hid
      exact ⟨hsent, henquiry, by simp [idleSent]⟩
    · obtain ⟨hnone, hobtained⟩ := winch_sent_halt (s := idleSent s) hseek hhalt hv hpoints
      exact ⟨hnone, (hobtained.of_start rfl).carriedOn (settleFrom_carriedOn d _) (by simp)⟩
  | service g =>
    rw [hrun, hwait]
    exact afterSent_service g d (idleSent s)

end Sys2Proof.Machine
end

section
/-! What the reply pair receives: the beginnings of frames, and unsolicited frames (R71, R72, R75, R104, R110). -/

namespace Sys2Proof.Machine

set_option Elab.async false

/-! ## A frame that begins (R71, R75, R104) -/

section
variable {s : State} {a : Byte}

theorem beginFrame_of_held (a : Byte) (h : s.loop.grant.held = true) :
    beginFrame a s =
      s.setLoop { s.loop with rx := some { addr := a, context := .granted }, grant := s.loop.grant.holdWait } := by
  simp [beginFrame, h]

theorem beginFrame_of_waiting {x : Txn} {e : Nat} (a : Byte) (hopen : s.loop.grant.held = false)
    (htxn : s.loop.txn = some x) (hwaits : x.phase = .waiting e) :
    beginFrame a s =
      s.setLoop
        { s.loop with
          rx := some { addr := a, context := .reply }, txn := some { x with phase := .replying } } := by
  simp [beginFrame, hopen, htxn, hwaits]

theorem beginFrame_of_unawaited (a : Byte) (hopen : s.loop.grant.held = false)
    (hnot : ∀ x e, s.loop.txn = some x → x.phase ≠ .waiting e) :
    beginFrame a s = s.setLoop { s.loop with rx := some { addr := a, context := .unsolicited } } := by
  cases htxn : s.loop.txn with
  | none => simp [beginFrame, hopen, htxn]
  | some x =>
    cases hphase : x.phase with
    | waiting e => exact absurd hphase (hnot x e htxn)
    | queued => simp [beginFrame, hopen, htxn, hphase]
    | sending => simp [beginFrame, hopen, htxn, hphase]
    | replying => simp [beginFrame, hopen, htxn, hphase]

theorem nextContext_of_held (h : s.loop.grant.held = true) : NextContext s = .granted := if_pos h

theorem nextContext_of_waiting {x : Txn} {e : Nat} (hopen : s.loop.grant.held = false) (htxn : s.loop.txn = some x)
    (hwaits : x.phase = .waiting e) : NextContext s = .reply := by
  obtain ⟨asker, addr, phase⟩ := x
  obtain rfl : phase = .waiting e := hwaits
  simp [NextContext, hopen, htxn]

theorem nextContext_of_unawaited (hopen : s.loop.grant.held = false)
    (hnot : ∀ x e, s.loop.txn = some x → x.phase ≠ .waiting e) : NextContext s = .unsolicited := by
  cases htxn : s.loop.txn with
  | none => simp [NextContext, hopen, htxn]
  | some x =>
    obtain ⟨asker, addr, phase⟩ := x
    cases phase with
    | waiting e => exact absurd rfl (hnot _ e htxn)
    | queued => simp [NextContext, hopen, htxn]
    | sending => simp [NextContext, hopen, htxn]
    | replying => simp [NextContext, hopen, htxn]

theorem waiting_or_unawaited (l : Loop) :
    (∃ x e, l.txn = some x ∧ x.phase = .waiting e) ∨ ∀ x e, l.txn = some x → x.phase ≠ .waiting e := by
  by_cases h : ∃ x e, l.txn = some x ∧ x.phase = .waiting e
  · exact .inl h
  · exact .inr fun x e hx hphase => h ⟨x, e, hx, hphase⟩

/-- A frame is received as the reply pair stands. -/
theorem beginFrame_rx (a : Byte) (s : State) :
    (beginFrame a s).loop.rx = some { addr := a, context := NextContext s } := by
  cases hheld : s.loop.grant.held with
  | true => rw [beginFrame_of_held a hheld, nextContext_of_held hheld]; rfl
  | false =>
    obtain ⟨x, e, htxn, hwaits⟩ | hnot := waiting_or_unawaited s.loop
    · rw [beginFrame_of_waiting a hheld htxn hwaits, nextContext_of_waiting hheld htxn hwaits]; rfl
    · rw [beginFrame_of_unawaited a hheld hnot, nextContext_of_unawaited hheld hnot]; rfl

/-! ## A marked character (R71, R78) -/

/-- The state in which a marked character is received: the line high since now. -/
def markedStart (s : State) : State := setReplyLow false (s.setLoop { s.loop with lowSince := none })

theorem frameBegins_row (hawake : s.resetLine = false) (hbreak : s.loop.lineBreak = none) (hrx : s.loop.rx = none) :
    exec (.frameBegins (.marked a)) s = .next (beginFrame a (heardFrom s.fineNow (markedStart s))) := by
  have hrow : exec (.frameBegins (.marked a)) s = taken s (markedCharacter a) := rfl
  rw [hrow, taken_of_awake hawake, markedCharacter, if_neg (by simp [hbreak])]
  simp only [hrx]
  rfl

theorem frameBegins_cuts_row {r : RxFrame} (hawake : s.resetLine = false) (hbreak : s.loop.lineBreak = none)
    (hrx : s.loop.rx = some r) :
    exec (.frameBegins (.marked a)) s = .next (settle (cutFrame a r (heardFrom s.fineNow (markedStart s)))) := by
  have hrow : exec (.frameBegins (.marked a)) s = taken s (markedCharacter a) := rfl
  rw [hrow, taken_of_awake hawake, markedCharacter, if_neg (by simp [hbreak])]
  dsimp only
  split
  · next hnone => simp [hrx] at hnone
  · next r' hsome =>
    obtain rfl : r = r' := by simpa [hrx] using hsome
    rfl

/-- What changes from the moment of a marked character changes, with LOOP and the line's level, from before it. -/
theorem ChangesOnly.of_markedStart {bs cs : List Block} {t : State} (h : ChangesOnly bs (markedStart s) t)
    (hsub : ∀ b ∈ bs, b ∈ cs) (hloop : .loop ∈ cs) (hlines : .lines ∈ cs) : ChangesOnly cs s t := by
  intro b hb
  have hsame := h b fun hmem => hb (hsub b hmem)
  cases b
  case loop => exact absurd hloop hb
  case lines => exact absurd hlines hb
  all_goals exact hsame

/-! ## An unsolicited frame (R75) -/

/-- An unsolicited frame over, if one was in progress, its fault counted. -/
def unsolicitedFault (k : RxFault) (s : State) : State :=
  (endUnsolicitedRx s).setLoop ((endUnsolicitedRx s).loop.countFault k)

theorem endUnsolicited_failed {f : FrameFault} (h : f ≠ .stray) (s : State) :
    endUnsolicited (.failed f) s = afterFault f (unsolicitedFault (faultKind f) s) := by
  cases f
  case stray => exact absurd rfl h
  all_goals rfl

theorem endUnsolicited_bad {b : FrameBody} (h : ¬ BodyGood b) (s : State) :
    endUnsolicited (.complete b) s = unsolicitedFault (bodyFailure b) s := by
  simp only [endUnsolicited, bodyFault_of_bad h]
  rfl

theorem endUnsolicited_good {b : FrameBody} (h : BodyGood b) (s : State) :
    endUnsolicited (.complete b) s =
      (endUnsolicitedRx s).setLoop
        { (endUnsolicitedRx s).loop with unsolicited := inc16 (endUnsolicitedRx s).loop.unsolicited } := by
  simp only [endUnsolicited, bodyFault_of_good h]

theorem endUnsolicitedRx_of_none (h : s.loop.rx = none) : endUnsolicitedRx s = s := by
  simp [endUnsolicitedRx, h]

/-- R110: the claim wait that the end of a frame restarts. -/
theorem endUnsolicitedRx_wait {r : RxFrame} (h : s.loop.rx = some r) :
    (endUnsolicitedRx s).loop.grant.wait =
      s.loop.grant.wait.map fun w => { w with expiry := some (s.fineNow + w.length * loopChar s.loop.rate) } := by
  simp [endUnsolicitedRx, h, restartClaimWait, State.charsFrom, State.fineNow]

/-- R110: with a grant held its claim wait stays, to the end of the event, as the end of the frame has left it. -/
theorem ClaimWaitRestarted.settle {u : State} (hgrant : u.loop.grant.state = s.loop.grant.state)
    (hwait : u.loop.grant.wait =
      s.loop.grant.wait.map fun w => { w with expiry := some (s.fineNow + w.length * loopChar s.loop.rate) }) :
    ClaimWaitRestarted s (settle u) := by
  intro hheld
  have hu : u.loop.grant.held = true := by rwa [Grant.held, hgrant]
  rw [settle_grant_of_held hu, hwait]

theorem unsolicitedFrame_row {fin : FrameEnd} (hawake : s.resetLine = false) (hmay : s.loop.mayUnsolicited fin = true) :
    exec (.unsolicitedFrame fin) s = .next (settle (endUnsolicited fin (heardFrom s.fineNow s))) := by
  have hrow : exec (.unsolicitedFrame fin) s = execUnsolicitedFrame fin s := rfl
  rw [hrow, execUnsolicitedFrame, taken_of_awake hawake, if_pos hmay]
  rfl

theorem Loop.mayUnsolicited_of_unsolicited {l : Loop} (fin : FrameEnd)
    (h : l.rx = some { addr := a, context := .unsolicited }) : l.mayUnsolicited fin = true := by
  simp [Loop.mayUnsolicited, Loop.inUnsolicited, h]

theorem Loop.mayUnsolicited_of_free {l : Loop} (h : l.rx = none)
    (hnot : ∀ x e, l.txn = some x → x.phase ≠ .waiting e) : l.mayUnsolicited (.failed .framing) = true := by
  have hwaits : l.waits = false := by
    unfold Loop.waits
    split
    · next x hx =>
      split
      · next e hphase => exact absurd hphase (hnot x e hx)
      · rfl
    · rfl
  simp [Loop.mayUnsolicited, h, hwaits]

end

end Sys2Proof.Machine
end

section
/-! The frames that the reply pair receives outside a grant's own (R71, R72, R75, R110). -/

namespace Sys2Proof.Machine

set_option Elab.async false

section
variable {s : State} {a m : Byte}

theorem nextContext_congr {u : State} (hgrant : u.loop.grant.state = s.loop.grant.state)
    (htxn : u.loop.txn = s.loop.txn) : NextContext u = NextContext s := by
  have hheld : u.loop.grant.held = s.loop.grant.held := by simp only [Grant.held, hgrant]
  unfold NextContext
  rw [hheld, htxn]

theorem afterFault_mark (m : Byte) (s : State) : afterFault (.mark m) s = beginFrame m s := rfl

theorem afterFault_of_uncut {f : FrameFault} (h : cutBy f = none) (s : State) : afterFault f s = s := by
  simp [afterFault, h]

theorem cutBy_eq_none {f : FrameFault} (h : ∀ m, f ≠ .mark m) : cutBy f = none := by
  cases f with
  | mark m => exact absurd rfl (h m)
  | framing => rfl
  | length => rfl
  | crc => rfl
  | stray => rfl

/-- R71, R75, R104, R110: a frame begins, as what the reply pair stands for. -/
theorem frameBegins_begins (hawake : s.resetLine = false) (hbreak : s.loop.lineBreak = none) (hrx : s.loop.rx = none) :
    ∃ t, exec (.frameBegins (.marked a)) s = .next t ∧ ChangesOnly [.loop, .lines] s t ∧
      t.lines = { s.lines with replyLow := false } ∧
      t.loop = { s.loop with
        rx := t.loop.rx, txn := t.loop.txn, grant := t.loop.grant, highSince := s.fineNow, lowSince := none } ∧
      (s.loop.grant.held = true →
        t.loop.rx = some { addr := a, context := .granted } ∧ t.loop.txn = s.loop.txn ∧
        t.loop.grant =
          { s.loop.grant with wait := s.loop.grant.wait.map fun w => { w with expiry := none } }) ∧
      (s.loop.grant.held = false → t.loop.grant = s.loop.grant ∧
        ((∀ x e, s.loop.txn = some x → x.phase = .waiting e →
          t.loop.rx = some { addr := a, context := .reply } ∧ t.loop.txn = some { x with phase := .replying }) ∧
        ((∀ x e, s.loop.txn = some x → x.phase ≠ .waiting e) →
          t.loop.rx = some { addr := a, context := .unsolicited } ∧ t.loop.txn = s.loop.txn))) := by
  refine ⟨_, frameBegins_row hawake hbreak hrx, ?_, ?_, ?_, fun hheld => ?_,
    fun hopen => ⟨?_, fun x e htxn hwaits => ?_, fun hnot => ?_⟩⟩
  · unfold heardFrom markedStart setReplyLow
    exact .of_blocks
  · simp [heardFrom, markedStart, setReplyLow]
  · cases hheld : s.loop.grant.held with
    | true => rw [beginFrame_of_held a (by exact hheld)]; rfl
    | false =>
      obtain ⟨x, e, htxn, hwaits⟩ | hnot := waiting_or_unawaited s.loop
      · rw [beginFrame_of_waiting a (by exact hheld) (by exact htxn) hwaits]; rfl
      · rw [beginFrame_of_unawaited a (by exact hheld) (by exact hnot)]; rfl
  · rw [beginFrame_of_held a (by exact hheld)]
    exact ⟨rfl, rfl, rfl⟩
  · obtain ⟨x, e, htxn, hwaits⟩ | hnot := waiting_or_unawaited s.loop
    · rw [beginFrame_of_waiting a (by exact hopen) (by exact htxn) hwaits]; rfl
    · rw [beginFrame_of_unawaited a (by exact hopen) (by exact hnot)]; rfl
  · rw [beginFrame_of_waiting a (by exact hopen) (by exact htxn) hwaits]
    exact ⟨rfl, rfl⟩
  · rw [beginFrame_of_unawaited a (by exact hopen) (by exact hnot)]
    exact ⟨rfl, rfl⟩

/-- R72: a marked character cuts the reply to a poll. -/
theorem frameBegins_cuts_reply {ch addr : Nat} (hawake : s.resetLine = false) (hbreak : s.loop.lineBreak = none)
    (hnode : 1 ≤ addr ∧ addr ≤ s.loop.nodeFail.length) (hopen : s.loop.grant.held = false)
    (hother : s.run.held ≠ some addr)
    (htxn : s.loop.txn = some { asker := .poll ch, addr := addr, phase := .replying })
    (hrx : s.loop.rx = some { addr := a, context := .reply }) :
    ∃ t, exec (.frameBegins (.marked m)) s = .next t ∧ PollFailed [.lines] .mark ch addr s t ∧
      t.lines = { s.lines with replyLow := false } ∧ t.loop.rx = some { addr := m, context := .unsolicited } := by
  have htxn' : (markedStart s).loop.txn = some { asker := .poll ch, addr := addr, phase := .replying } := htxn
  have hcut : cutFrame m { addr := a, context := .reply } (heardFrom s.fineNow (markedStart s)) =
      pollFailedState .mark ch addr s.fineNow (cutFrameOf (.mark m)) (markedStart s) := by
    have hrx' : (markedStart s).loop.dropTxn.rx = none := Loop.dropTxn_rx (.inr ⟨a, hrx⟩)
    have hfail := failTxn_poll_heard (k := .mark) s.fineNow htxn'
    rw [hrx'] at hfail
    have hafter := afterFault_pollFailed (k := .mark) (ch := ch) (addr := addr) (s := markedStart s) (.mark m) s.fineNow
      hopen
    rw [← hafter, ← hfail]
    rfl
  have hfailed := pollFailed_other (k := .mark) (ch := ch) (x := s.fineNow) (cutFrameOf (.mark m))
    (s := markedStart s) hnode hother
  refine ⟨_, frameBegins_cuts_row hawake hbreak hrx, ?_⟩
  rw [hcut]
  refine ⟨⟨hfailed.others.of_markedStart (by simp) (by simp) (by simp), hfailed.ctl, hfailed.line, hfailed.counts,
    hfailed.faults, hfailed.node, hfailed.nodes, hfailed.outcome, hfailed.missing, hfailed.ended⟩, ?_, ?_⟩
  · simp [pollFailedState, failedState, heardFrom, markedStart, setReplyLow]
  · simp [pollFailedState_loop, cutFrameOf, cutBy]

/-- R72, R75: a marked character cuts an unsolicited frame. -/
theorem frameBegins_cuts_unsolicited (hawake : s.resetLine = false) (hbreak : s.loop.lineBreak = none)
    (hrx : s.loop.rx = some { addr := a, context := .unsolicited }) :
    ∃ t, exec (.frameBegins (.marked m)) s = .next t ∧ EventFrame [.loop, .lines] s t ∧
      t.lines = { s.lines with replyLow := false } ∧ t.loop.nodeFail = s.loop.nodeFail ∧
      t.loop.unsolicited = s.loop.unsolicited ∧ t.loop.faults = s.loop.faults.count .mark ∧
      t.loop.rx = some { addr := m, context := NextContext s } := by
  have hcut : cutFrame m { addr := a, context := .unsolicited } (heardFrom s.fineNow (markedStart s)) =
      beginFrame m (unsolicitedFault .mark (heardFrom s.fineNow (markedStart s))) := rfl
  have hcontext := nextContext_congr (s := s) (u := unsolicitedFault .mark (heardFrom s.fineNow (markedStart s)))
    (by simp [unsolicitedFault, Loop.countFault, heardFrom, Loop.highFrom, markedStart, setReplyLow])
    (by simp [unsolicitedFault, Loop.countFault, heardFrom, Loop.highFrom, markedStart, setReplyLow])
  have hbegins := beginFrame_rx m (unsolicitedFault .mark (heardFrom s.fineNow (markedStart s)))
  rw [hcontext] at hbegins
  refine ⟨_, frameBegins_cuts_row hawake hbreak hrx, ?_⟩
  rw [hcut]
  refine ⟨?_, ?_, ?_, ?_, ?_, by simpa using hbegins⟩
  all_goals unfold unsolicitedFault Loop.countFault heardFrom Loop.highFrom markedStart setReplyLow
  · exact .of_loop .of_blocks (by simp)
  · simp
  · simp
  · simp
  · simp

/-- R71, R75, R76: a low stop bit with no frame begun and no reply awaited. -/
theorem unsolicitedFrame_framing (hawake : s.resetLine = false) (hrx : s.loop.rx = none)
    (hnot : ∀ x e, s.loop.txn = some x → x.phase ≠ .waiting e) :
    ∃ t, exec (.unsolicitedFrame (.failed .framing)) s = .next t ∧ EventFrame [.loop] s t ∧ t.loop.rx = none ∧
      t.loop.nodeFail = s.loop.nodeFail ∧ t.loop.unsolicited = s.loop.unsolicited ∧
      t.loop.faults = s.loop.faults.count .framing ∧ (s.loop.grant.held = true → t.loop.grant = s.loop.grant) := by
  have hsame : endUnsolicitedRx (heardFrom s.fineNow s) = heardFrom s.fineNow s := endUnsolicitedRx_of_none hrx
  have hended : endUnsolicited (.failed .framing) (heardFrom s.fineNow s) =
      (heardFrom s.fineNow s).setLoop ((heardFrom s.fineNow s).loop.countFault .framing) := by
    rw [endUnsolicited_failed (by simp), unsolicitedFault, hsame]
    rfl
  refine ⟨_, unsolicitedFrame_row hawake (Loop.mayUnsolicited_of_free hrx hnot), ?_⟩
  rw [hended]
  unfold heardFrom Loop.highFrom Loop.countFault
  exact ⟨.of_loop .of_blocks (by simp), by simpa using hrx, by simp, by simp, by simp,
    fun hheld => settle_grant_of_held (s := s.setLoop _) hheld⟩

/-- R75, R110: what every failed unsolicited frame does before a marked character begins the next. -/
theorem unsolicitedFault_heard (k : RxFault) (hrx : s.loop.rx = some { addr := a, context := .unsolicited }) :
    ChangesOnly [.loop, .ctl] s (settle (unsolicitedFault k (heardFrom s.fineNow s))) ∧
      (unsolicitedFault k (heardFrom s.fineNow s)).loop.rx = none ∧
      ClaimWaitRestarted s (settle (unsolicitedFault k (heardFrom s.fineNow s))) := by
  refine ⟨?_, ?_, .settle ?_ ?_⟩
  all_goals unfold unsolicitedFault Loop.countFault
  · unfold heardFrom
    exact .of_blocks
  · simp
  · simp [heardFrom, Loop.highFrom]
  · exact endUnsolicitedRx_wait (s := heardFrom s.fineNow s) hrx

/-- R75: a good unsolicited frame counts. -/
theorem unsolicitedFrame_good {b : FrameBody} (hawake : s.resetLine = false)
    (hrx : s.loop.rx = some { addr := a, context := .unsolicited }) (hgood : BodyGood b) :
    ∃ t, exec (.unsolicitedFrame (.complete b)) s = .next t ∧ EventFrame [.loop] s t ∧ t.loop.rx = none ∧
      ClaimWaitRestarted s t ∧ t.loop.nodeFail = s.loop.nodeFail ∧ t.loop.faults = s.loop.faults ∧
      t.loop.unsolicited = if s.loop.unsolicited < 65535 then s.loop.unsolicited + 1 else 65535 := by
  refine ⟨_, unsolicitedFrame_row hawake (Loop.mayUnsolicited_of_unsolicited _ hrx), ?_⟩
  rw [endUnsolicited_good hgood]
  refine ⟨?_, ?_, .settle ?_ ?_, ?_, ?_, ?_⟩
  · unfold heardFrom
    exact .of_loop .of_blocks (by simp)
  · simp
  · simp [heardFrom, Loop.highFrom]
  · exact endUnsolicitedRx_wait (s := heardFrom s.fineNow s) hrx
  · simp [heardFrom, Loop.highFrom]
  · simp [heardFrom, Loop.highFrom]
  · simp [heardFrom, Loop.highFrom, inc16]

/-- R75: one with a bad body counts its fault. -/
theorem unsolicitedFrame_bad {b : FrameBody} (hawake : s.resetLine = false)
    (hrx : s.loop.rx = some { addr := a, context := .unsolicited }) (hbad : ¬ BodyGood b) :
    ∃ t, exec (.unsolicitedFrame (.complete b)) s = .next t ∧ EventFrame [.loop] s t ∧ t.loop.rx = none ∧
      ClaimWaitRestarted s t ∧ t.loop.nodeFail = s.loop.nodeFail ∧ t.loop.unsolicited = s.loop.unsolicited ∧
      t.loop.faults = s.loop.faults.count (bodyFailure b) := by
  obtain ⟨hframe, hover, hwait⟩ := unsolicitedFault_heard (bodyFailure b) hrx
  refine ⟨_, unsolicitedFrame_row hawake (Loop.mayUnsolicited_of_unsolicited _ hrx), ?_⟩
  rw [endUnsolicited_bad hbad]
  refine ⟨.of_loop ?_ (by simp) ?_, by simpa using hover, hwait, ?_, ?_, ?_⟩
  · exact fun b hb => hframe b (by simp at hb ⊢; tauto)
  all_goals unfold unsolicitedFault Loop.countFault heardFrom Loop.highFrom
  · constructor <;> simp
  · simp
  · simp
  · simp

/-- R72, R75: one that fails counts its fault; a marked character that cut it begins the next. -/
theorem unsolicitedFrame_failed {f : FrameFault} (hawake : s.resetLine = false)
    (hrx : s.loop.rx = some { addr := a, context := .unsolicited }) (hf : f ≠ .stray) :
    ∃ t, exec (.unsolicitedFrame (.failed f)) s = .next t ∧ EventFrame [.loop] s t ∧
      t.loop.nodeFail = s.loop.nodeFail ∧ t.loop.unsolicited = s.loop.unsolicited ∧
      t.loop.faults = s.loop.faults.count (faultKind f) ∧
      ((∀ m, f ≠ .mark m) → t.loop.rx = none ∧ ClaimWaitRestarted s t) ∧
      ∀ m, f = .mark m → t.loop.rx = some { addr := m, context := NextContext s } := by
  obtain ⟨-, hover, hwait⟩ := unsolicitedFault_heard (faultKind f) hrx
  have hcontext := nextContext_congr (s := s) (u := unsolicitedFault (faultKind f) (heardFrom s.fineNow s))
    (by simp [unsolicitedFault, Loop.countFault, heardFrom, Loop.highFrom])
    (by simp [unsolicitedFault, Loop.countFault, heardFrom, Loop.highFrom])
  refine ⟨_, unsolicitedFrame_row hawake (Loop.mayUnsolicited_of_unsolicited _ hrx), ?_⟩
  rw [endUnsolicited_failed hf]
  refine ⟨?_, ?_, ?_, ?_, fun huncut => ?_, fun m hm => ?_⟩
  · unfold unsolicitedFault Loop.countFault heardFrom
    exact .of_loop .of_blocks (by simp)
  · simp [unsolicitedFault, Loop.countFault, heardFrom, Loop.highFrom]
  · simp [unsolicitedFault, Loop.countFault, heardFrom, Loop.highFrom]
  · simp [unsolicitedFault, Loop.countFault, heardFrom, Loop.highFrom]
  · rw [afterFault_of_uncut (cutBy_eq_none huncut)]
    exact ⟨by simpa using hover, hwait⟩
  · subst hm
    have hbegins := beginFrame_rx m (unsolicitedFault (faultKind (.mark m)) (heardFrom s.fineNow s))
    rw [hcontext] at hbegins
    rw [afterFault_mark]
    simpa using hbegins

end

/-- Settles O37. -/
theorem framesAreReceivedByTheReplyPair : Obligations.FramesAreReceivedByTheReplyPair := by
  unfold Obligations.FramesAreReceivedByTheReplyPair
  refine ⟨fun s a hawake hbreak hrx => frameBegins_begins hawake hbreak hrx,
    fun s ch addr a m hawake hbreak hpos hle hcounts hopen hother htxn hrx =>
      frameBegins_cuts_reply hawake hbreak ⟨hpos, hcounts ▸ hle⟩ hopen hother htxn hrx,
    fun s a m hawake hbreak hrx => frameBegins_cuts_unsolicited hawake hbreak hrx,
    fun s hawake hrx hnot => unsolicitedFrame_framing hawake hrx hnot, fun s a hawake hrx => ?_⟩
  exact ⟨fun b hgood => unsolicitedFrame_good hawake hrx hgood, fun b hbad => unsolicitedFrame_bad hawake hrx hbad,
    fun f hf => unsolicitedFrame_failed hawake hrx hf⟩

end Sys2Proof.Machine
end

section
/-! Breaks and jams (R76 to R78), and the end of a grant (R111). -/

namespace Sys2Proof.Machine

set_option Elab.async false

/-! ## The end of a grant (R111) -/

section
variable {s u : State}

theorem runGrantEnded_grantKnown (s : State) : (runGrantEnded s).run.grantKnown = none := by
  unfold runGrantEnded
  dsimp only
  split
  · simp
  · split
    · simp
    · rfl

theorem closeGrant_grant (cause : GrantEnd) (s : State) :
    (closeGrant cause s).loop.grant = (s.loop.endGrant cause (cfgInterleave s.tbl.config) s.now).grant := by
  simp [closeGrant]

theorem closeGrant_ended (cause : GrantEnd) (s : State) :
    GrantEnded cause s.loop.grant.count s (closeGrant cause s) := by
  have hgrant := closeGrant_grant cause s
  exact ⟨by rw [hgrant]; rfl, by rw [hgrant]; rfl, by rw [hgrant]; exact ⟨rfl, rfl⟩, by rw [hgrant]; rfl,
    runGrantEnded_grantKnown _⟩

/-- A grant that has been opened is not yet held. -/
theorem Loop.openCommand_ended {l : Loop} (c : RunCmd)
    (h : l.grant.held = false ∧ l.grant.timerAt = none ∧ l.grant.wait = none) :
    (l.openCommand c).grant.held = false ∧ (l.openCommand c).grant.timerAt = none ∧ (l.openCommand c).grant.wait = none := by
  unfold Loop.openCommand
  dsimp only
  split
  · exact ⟨rfl, rfl, rfl⟩
  · exact h

theorem GrantEnded.settleFrom {cause : GrantEnd} {count : Nat} (t : Nat) (h : GrantEnded cause count s u) :
    GrantEnded cause count s (settleFrom t u) := by
  obtain ⟨hreleased, hcause, ⟨htimer, hwait⟩, hinterleave, htold⟩ := h
  obtain ⟨hheld, htimers⟩ : (Machine.settleFrom t u).loop.grant.held = false ∧
      (Machine.settleFrom t u).loop.grant.timerAt = none ∧ (Machine.settleFrom t u).loop.grant.wait = none := by
    obtain ⟨-, hchosen⟩ | ⟨-, c, hchosen⟩ | ⟨-, k, q, -, hchosen⟩ := settleFrom_chosen t u
    · rw [hchosen.grant]
      exact ⟨hreleased, htimer, hwait⟩
    · rw [hchosen.grant]
      exact Loop.openCommand_ended c ⟨hreleased, htimer, hwait⟩
    · rw [hchosen.grant]
      exact ⟨hreleased, htimer, hwait⟩
  exact ⟨hheld, by simpa using hcause, htimers, by simpa using hinterleave, by simpa using htold⟩

theorem GrantEnded.congr {cause : GrantEnd} {count : Nat} {s' u' : State} (h : GrantEnded cause count s u)
    (tbl : s'.tbl = s.tbl := by simp) (clk : s'.clk = s.clk := by simp)
    (grant : u'.loop.grant = u.loop.grant := by simp) (known : u'.run.grantKnown = u.run.grantKnown := by simp) :
    GrantEnded cause count s' u' := by
  obtain ⟨hreleased, hcause, htimers, hinterleave, htold⟩ := h
  have hnow : s'.now = s.now := by simp only [State.now, clk]
  rw [← grant] at hreleased hcause htimers hinterleave
  rw [← known] at htold
  exact ⟨hreleased, hcause, htimers, by rw [hinterleave, tbl, hnow], htold⟩

theorem settleFrom_grant_of_closed (t : Nat) (h : s.loop.mayChoose = false) :
    (settleFrom t s).loop.grant = s.loop.grant := by
  obtain ⟨-, hchosen⟩ | ⟨hmay, -⟩ | ⟨hmay, -⟩ := settleFrom_chosen t s
  · exact hchosen.grant
  · simp [h] at hmay
  · simp [h] at hmay

theorem kickFrom_claimPlace (t : Nat) (h : s.loop.claimPlace = false) : (kickFrom t s).loop.claimPlace = false := by
  obtain hidle | ⟨f, l, d, -, htake, hkick⟩ := kickFrom_cases t s
  · rw [hidle, h]
  · have hplace : l.claimPlace = false := by
      obtain ⟨hclaim, -, -⟩ | ⟨c, n, -, -, rfl⟩ | ⟨g, rest, -, rfl⟩ | ⟨x, -, -, -, rfl⟩ := Loop.takeNext_cases htake
      · simp [h] at hclaim
      · exact h
      · exact h
      · exact h
    simpa [hkick] using hplace

theorem settleFrom_claimPlace (t : Nat) (h : s.loop.claimPlace = false) :
    (settleFrom t s).loop.claimPlace = false :=
  kickFrom_claimPlace t (by simpa using h)

/-! ## Breaks (R76) -/

theorem breakDetected_begins (hawake : s.resetLine = false) (hbreak : s.loop.lineBreak = none)
    (hlow : ∀ e, s.loop.lowSince = some e → e + 2 * loopChar s.loop.rate ≤ s.fineNow) :
    ∃ t, exec .breakDetected s = .next t ∧ ChangesOnly [.loop, .lines] s t ∧
      t.lines = { s.lines with replyLow := true } ∧
      t.loop = { s.loop with lineBreak := t.loop.lineBreak, lowSince := none, faults := t.loop.faults } ∧
      t.loop.faults = (if s.loop.lowSince = none then s.loop.faults else s.loop.faults.count .framing) ∧
      t.loop.lineBreak = some (s.loop.lowSince.getD (s.fineNow - 2 * loopChar s.loop.rate)) := by
  have hmay : s.mayBreak = true := by
    cases hsince : s.loop.lowSince with
    | none => simp [State.mayBreak, hbreak, hsince]
    | some e => simpa [State.mayBreak, hbreak, hsince] using hlow e hsince
  have hrow : exec .breakDetected s = .next (setReplyLow true (beginBreak s)) := by
    have hexec : exec .breakDetected s = execBreakDetected s := rfl
    rw [hexec, execBreakDetected, if_neg (by simp [hawake]), if_pos hmay]
  refine ⟨_, hrow, ?_⟩
  unfold beginBreak setReplyLow
  cases hsince : s.loop.lowSince with
  | none => exact ⟨.of_blocks, rfl, rfl, rfl, rfl⟩
  | some e => exact ⟨.of_blocks, rfl, rfl, rfl, rfl⟩

theorem breakEnd_ends (hawake : s.resetLine = false) :
    ∃ t, exec .breakEnd s = .next t ∧ EventFrame [.loop, .lines] s t ∧ t.lines = { s.lines with replyLow := false } ∧
      t.loop.lineBreak = none ∧ t.loop.lowSince = none ∧ t.loop.highSince = s.fineNow ∧ t.loop.jam = s.loop.jam ∧
      t.loop.rx = s.loop.rx ∧ t.loop.nodeFail = s.loop.nodeFail ∧ t.loop.faults = s.loop.faults := by
  have hrow : exec .breakEnd s = .next (settle (setReplyLow false
      (s.setLoop { s.loop with lineBreak := none, lowSince := none, highSince := s.fineNow }))) := by
    have hexec : exec .breakEnd s = execBreakEnd s := rfl
    rw [hexec, execBreakEnd, if_neg (by simp [hawake])]
  refine ⟨_, hrow, ?_⟩
  unfold setReplyLow
  exact ⟨.of_loop .of_blocks (by simp), by simp, by simp, by simp, by simp, by simp, by simp, by simp, by simp⟩

/-! ## The jam (R77, R78) -/

/-- The loop marked as JAMMED from now. -/
def jammedState (s : State) : State := s.setLoop { s.loop with jam := some { entered := s.now, skipped := 0 } }

theorem enterJam_of_held (h : s.loop.grant.held = true) :
    enterJam s = appendNotice .loopJammed (closeGrant .jammed (jammedState s)) :=
  congrArg (appendNotice .loopJammed) (if_pos h)

theorem enterJam_of_free (h : s.loop.grant.held = false) : enterJam s = appendNotice .loopJammed (jammedState s) :=
  congrArg (appendNotice .loopJammed) (if_neg (by simp [h]))

theorem closeGrant_claimPlace (cause : GrantEnd) (s : State) : (closeGrant cause s).loop.claimPlace = false := by
  simp [closeGrant, Loop.endGrant]

theorem loopJammed_enters {e : Nat} (hawake : s.resetLine = false) (hopen : s.loop.jam = none)
    (hbreak : s.loop.lineBreak = some e) (hlong : e + 96000 ≤ s.fineNow) :
    ∃ t, exec .loopJammed s = .next t ∧ EventFrame [.loop, .run, .store, .upl] s t ∧ s.upl.PortKept t.upl ∧
      t.loop.jam = some { entered := s.now, skipped := 0 } ∧ t.loop.lineBreak = s.loop.lineBreak ∧
      t.loop.nodeFail = s.loop.nodeFail ∧ t.run.state = s.run.state ∧
      t.store = s.store.append (.notice { time := s.clk.time, valid := s.clk.valid, body := .loopJammed }) ∧
      (s.loop.grant.held = true → GrantEnded .jammed s.loop.grant.count s t ∧ t.loop.claimPlace = false) ∧
      (s.loop.grant.held = false → t.loop.grant = s.loop.grant ∧ t.run = s.run) := by
  have hdue : s.jamDue = true := by
    simp [State.jamDue, hbreak, Loop.jammed, hopen, fineSecond, hlong]
  have hrow : exec .loopJammed s = .next (settle (enterJam s)) := by
    have hexec : exec .loopJammed s = execLoopJammed s := rfl
    rw [hexec, execLoopJammed, taken_of_awake hawake, if_pos hdue]
  refine ⟨_, hrow, .of_loop .of_blocks (by simp), by constructor <;> simp, ?_, by simp, by simp, by simp, ?_,
    fun hheld => ?_, fun hfree => ?_⟩
  · cases hheld : s.loop.grant.held with
    | true => simp [enterJam_of_held hheld, jammedState]
    | false => simp [enterJam_of_free hheld, jammedState]
  · cases hheld : s.loop.grant.held with
    | true => simp [enterJam_of_held hheld, jammedState, appendNotice]
    | false => simp [enterJam_of_free hheld, jammedState, appendNotice]
  · rw [enterJam_of_held hheld]
    have hended : GrantEnded .jammed s.loop.grant.count s
        (appendNotice .loopJammed (closeGrant .jammed (jammedState s))) :=
      (closeGrant_ended .jammed (jammedState s)).congr rfl rfl
    exact ⟨hended.settleFrom _,
      settleFrom_claimPlace _ (by simp [closeGrant_claimPlace])⟩
  · rw [enterJam_of_free hfree]
    refine ⟨(settleFrom_grant_of_closed _ ?_).trans (by simp [jammedState]), by simp [jammedState]⟩
    simp [Loop.mayChoose, Loop.jammed, jammedState]

/-- R78: the loop is RUNNING again. -/
theorem loopCleared_leaves {j : Jam} (hawake : s.resetLine = false) (hjam : s.loop.jam = some j)
    (hbreak : s.loop.lineBreak = none) (hlines : s.lines.replyLow = false) (hlow : s.loop.lowSince = none)
    (hrx : s.loop.rx = none) (hhigh : s.loop.highSince + 10 * loopChar s.loop.rate ≤ s.fineNow) :
    ∃ t, exec .loopCleared s = .next t ∧ EventFrame [.loop, .store, .upl] s t ∧ s.upl.PortKept t.upl ∧
      t.loop.jam = none ∧ t.loop.nodeFail = s.loop.nodeFail ∧ t.loop.faults = s.loop.faults ∧
      t.store = s.store.append
        (.notice { time := s.clk.time, valid := s.clk.valid, body := .loopCleared (s.now - j.entered) j.skipped }) := by
  have hdue : s.clearDue = true := by
    simpa [State.clearDue, Loop.jammed, hjam, hbreak, hlines, hlow, hrx] using hhigh
  have hrow : exec .loopCleared s = .next (settle (leaveJam j s)) := by
    have hexec : exec .loopCleared s = execLoopCleared s := rfl
    rw [hexec, execLoopCleared, taken_of_awake hawake]
    simp only [hjam, hdue, if_true]
  refine ⟨_, hrow, .of_loop .of_blocks (by simp), by constructor <;> simp, ?_, by simp, by simp, ?_⟩
  · simp [leaveJam]
  · simp [leaveJam, appendNotice]

end

/-- Settles O38. -/
theorem breaksJamAndClearTheLoop : Obligations.BreaksJamAndClearTheLoop := by
  unfold Obligations.BreaksJamAndClearTheLoop
  exact ⟨fun s hawake hbreak hlow => breakDetected_begins hawake hbreak hlow, fun _ => rfl,
    fun s hawake => breakEnd_ends hawake,
    fun s e hawake hopen hbreak hlong => loopJammed_enters hawake hopen hbreak hlong,
    fun s j hawake hjam hbreak hlines hlow hrx hhigh => loopCleared_leaves hawake hjam hbreak hlines hlow hrx hhigh⟩

end Sys2Proof.Machine
end

section
/-! A grant begins (R77, R103). -/

namespace Sys2Proof.Machine

set_option Elab.async false

/-- R103 steps 1 to 3: the grant is HELD and RUN knows of it. -/
def grantTold (c : RunCmd) (s : State) : State := runGrantBegun (runOutcome c.id .answered (holdGrant s))

/-- R103: the grant as it has begun, before the loop's jam may end it. -/
def grantBegun (c : RunCmd) (s : State) : State := makeRecorded (movePending (grantTold c s))

section
variable {s : State} {c : RunCmd} {a : Nat} {d : Nat}

theorem beginGrant_eq (h : s.loop.txn = some { asker := .run c, addr := a, phase := .sending }) :
    beginGrant s = if (grantBegun c s).loop.jammed then closeGrant .jammed (grantBegun c s) else grantBegun c s := by
  simp only [beginGrant, h]
  rfl

theorem grantBegin_row {l : Nat} {m : ReleaseMode} (hawake : s.resetLine = false)
    (htx : s.loop.tx = some { frame := .opening a (.grant l m), doneAt := d }) (hpast : d ≤ s.fineNow) :
    exec .grantBegin s = .next (settleFrom d (beginGrant s)) := by
  have hrow : exec .grantBegin s = execGrantBegin s := rfl
  have hsent : s.frameSent = some { frame := .opening a (.grant l m), doneAt := d } := by
    simp [State.frameSent, htx, hpast]
  rw [hrow, execGrantBegin, taken_of_awake hawake]
  simp only [hsent, CmdFrame.isGrant, if_true]

/-! ## The grant at LOOP (R103) -/

theorem grantTold_grant (c : RunCmd) (s : State) : (grantTold c s).loop.grant = (holdGrant s).loop.grant := by
  simp [grantTold]

theorem grantTold_frame (c : RunCmd) (s : State) :
    (grantTold c s).loop.jam = s.loop.jam ∧ (grantTold c s).loop.rx = s.loop.rx ∧ (grantTold c s).loop.txn = none ∧
      (grantTold c s).run.held = s.run.held ∧ (grantTold c s).run.grantKnown = some s.loop.grant.node := by
  have hknown (u : State) : (runGrantBegun u).run.grantKnown = some u.loop.grant.node := by
    unfold runGrantBegun
    dsimp only
    split
    · simp
    · rfl
  refine ⟨by simp [grantTold], by simp [grantTold], by simp [grantTold, holdGrant], by simp [grantTold], ?_⟩
  rw [grantTold, hknown]
  simp

theorem makeRecorded_of_none (h : s.loop.grant.recorded = none) : makeRecorded s = s := by
  simp [makeRecorded, h]

/-- R103 step 5: the claim recorded in OPENING is made. -/
theorem makeRecorded_of_held {x : ClaimCause} (h : s.loop.grant.recorded = some x) (hheld : s.loop.grant.state = .held) :
    (makeRecorded s).loop.grant =
        { s.loop.grant with state := .claiming, timerAt := none, cause := some x, recorded := none } ∧
      (makeRecorded s).loop.claimPlace = true := by
  simp [makeRecorded, h, Loop.claim, hheld]

theorem grantBegun_frame (c : RunCmd) (s : State) :
    (grantBegun c s).loop.jam = s.loop.jam ∧ (grantBegun c s).loop.rx = s.loop.rx ∧ (grantBegun c s).loop.txn = none ∧
      (grantBegun c s).run.grantKnown = some s.loop.grant.node ∧ (grantBegun c s).tbl = s.tbl ∧
      (grantBegun c s).clk = s.clk ∧ (grantBegun c s).loop.grant.count = 0 ∧
      (grantBegun c s).loop.grant.node = s.loop.grant.node ∧ (grantBegun c s).loop.grant.began = s.now ∧
      (grantBegun c s).loop.grant.begun = s.loop.grant.begun + 1 := by
  obtain ⟨hjam, hrx, htxn, -, hknown⟩ := grantTold_frame c s
  have htbl : (grantTold c s).tbl = s.tbl := by simp [grantTold]
  have hclk : (grantTold c s).clk = s.clk := by simp [grantTold]
  simp [grantBegun, hjam, hrx, htxn, hknown, htbl, hclk, grantTold_grant, holdGrant]

/-- R103: with no claim recorded the grant is HELD, its timer running. -/
theorem grantBegun_held (h : s.loop.grant.recorded = none) :
    (grantBegun c s).loop.grant.state = .held ∧
      (grantBegun c s).loop.grant.timerAt = some (s.now + cfgGrantTimeout s.tbl.config) := by
  have hrecorded : (movePending (grantTold c s)).loop.grant.recorded = none := by
    simp [grantTold_grant, h]
  rw [grantBegun, makeRecorded_of_none hrecorded]
  simp [grantTold_grant, holdGrant]

theorem grantBegun_claims {x : ClaimCause} (h : s.loop.grant.recorded = some x) :
    (grantBegun c s).loop.grant.state = .claiming ∧ (grantBegun c s).loop.grant.cause = some x ∧
      (grantBegun c s).loop.grant.recorded = none ∧ (grantBegun c s).loop.claimPlace = true := by
  have hrecorded : (movePending (grantTold c s)).loop.grant.recorded = some x := by simp [grantTold_grant, h]
  have hheld : (movePending (grantTold c s)).loop.grant.state = .held := by simp [grantTold_grant, holdGrant]
  obtain ⟨hgrant, hplace⟩ := makeRecorded_of_held hrecorded hheld
  rw [grantBegun, hgrant]
  exact ⟨rfl, rfl, rfl, hplace⟩

theorem grantBegun_isHeld (c : RunCmd) (s : State) : (grantBegun c s).loop.grant.held = true := by
  cases hrecorded : s.loop.grant.recorded with
  | none => simp [Grant.held, (grantBegun_held (c := c) hrecorded).1]
  | some x => simp [Grant.held, (grantBegun_claims (c := c) hrecorded).1]

/-! ## The commands with LOOP (R103 step 4, R135) -/

theorem movePending_of_none (h : s.loop.pendingCmd = none) : movePending s = s := by
  simp [movePending, Loop.movedOver, Loop.movePending, h, tellReplaced]

theorem makeRecorded_carriedOn (s : State) : CarriedOn s (makeRecorded s) := .of_places

theorem Run.moveCommand_moves {r : Run} {k : CmdKind} (h : r.moveCommand = some k) :
    r.state.moves = true ∧ k.isWinch = true := by
  unfold Run.moveCommand at h
  split at h
  · next v hstate _ => cases h; simp [hstate, RunState.moves, CmdKind.isWinch]
  · next hstate => cases h; simp [hstate, RunState.moves, CmdKind.isWinch]
  · next hstate => cases h; simp [hstate, RunState.moves, CmdKind.isWinch]
  · next v hstate _ =>
    obtain ⟨p, -, rfl⟩ := Option.map_eq_some_iff.mp h
    simp [hstate, RunState.moves, CmdKind.isWinch]
  · next v hstate _ => cases h; simp [hstate, RunState.moves, CmdKind.isWinch]
  · cases h

/-- R70: a move command under the winch's grant goes to the winch command place. -/
theorem handMove_pendingCmd {k : CmdKind} (hmove : s.run.moveCommand = some k) (hheld : s.run.held = some a)
    (hgranted : s.loop.grantedTo a = true) : (handMove s).loop.pendingCmd = s.loop.pendingCmd := by
  obtain ⟨-, hwinch⟩ := Run.moveCommand_moves hmove
  simp [handMove, hmove, handRun, hheld, Loop.hand, hwinch, hgranted, Loop.placeWinch]

/-- R83: the answered GRANT, as RUN notes it, changes no place of LOOP. -/
theorem grantTold_eq (hnot : s.run.state ≠ .pointSeek ∨ s.run.haltId ≠ some c.id) :
    ∃ sent e, grantTold c s =
      runGrantBegun ((holdGrant s).setRun { s.run.note c.id .answered with retrieveSent := sent, enquiryAt := e }) := by
  obtain ⟨sent, e, heq⟩ := runOutcome_notSeeking (s := holdGrant s) c.id .answered (by simpa using hnot)
  exact ⟨sent, e, by rw [grantTold, heq]; rfl⟩

/-- R135: RUN knows of the grant. -/
def knowsGrant (s : State) : State := s.setRun { s.run with grantKnown := some s.loop.grant.node }

theorem runGrantBegun_moves (h : s.run.state.moves = true) (hhalt : s.run.haltId = none) :
    runGrantBegun s = handMove (knowsGrant s) :=
  if_pos (by simp [h, hhalt])

theorem runGrantBegun_still (h : s.run.state.moves = false) : runGrantBegun s = knowsGrant s :=
  if_neg (by simp [h])

/-- R135: the grant of RUN's winch takes its move. -/
theorem grantBegun_handedOver {k : CmdKind} (hheld : s.run.held = some s.loop.grant.node)
    (hhalt : s.run.haltId = none) (hfree : s.loop.pendingCmd = none) (hmove : s.run.moveCommand = some k) :
    HandedOver k s.loop.grant.node (grantBegun c s) := by
  obtain ⟨sent, e, htold⟩ := grantTold_eq (s := s) (c := c) (.inr (by simp [hhalt]))
  obtain ⟨hmoves, -⟩ := Run.moveCommand_moves hmove
  rw [runGrantBegun_moves (by exact hmoves) (by exact hhalt)] at htold
  generalize hw : knowsGrant _ = w at htold
  have hwmove : w.run.moveCommand = some k := by rw [← hw]; exact hmove
  have hwheld : w.run.held = some s.loop.grant.node := by rw [← hw]; exact hheld
  have hgranted : w.loop.grantedTo s.loop.grant.node = true := by
    simp [← hw, knowsGrant, Loop.grantedTo, Grant.held, holdGrant]
  have hpending := handMove_pendingCmd hwmove hwheld hgranted
  have hnone : (grantTold c s).loop.pendingCmd = none := by
    rw [htold, hpending, ← hw]
    exact hfree
  rw [grantBegun, movePending_of_none hnone, htold]
  exact (handMove_handedOver hwmove hwheld).carriedOn (makeRecorded_carriedOn _)

/-- R103 step 4: in RETRIEVE a pending winch command for the granted node goes to the winch command place. -/
theorem grantBegun_moves_pending {x : RunCmd} (hpending : s.loop.pendingCmd = some x) (hwinch : x.kind.isWinch = true)
    (haddr : x.addr = s.loop.grant.node) (hstate : s.run.state = .retrieve) :
    (grantBegun c s).loop.pendingCmd = none ∧ Handed x (grantBegun c s).loop := by
  obtain ⟨sent, e, htold⟩ := grantTold_eq (s := s) (c := c) (.inl (by simp [hstate]))
  rw [runGrantBegun_still (by simp [Run.note, hstate, RunState.moves])] at htold
  have hplace : (grantTold c s).loop = (holdGrant s).loop := by rw [htold]; rfl
  have hgranted : (holdGrant s).loop.grantedTo x.addr = true := by
    simp [Loop.grantedTo, Grant.held, holdGrant, haddr]
  have hmoved : (movePending (grantTold c s)).loop = { (holdGrant s).loop.placeWinch x with pendingCmd := none } := by
    simp [movePending, Loop.movePending, hplace, hpending, hwinch, hgranted]
  refine ⟨by simp [grantBegun, hmoved], ?_⟩
  refine (makeRecorded_carriedOn (movePending (grantTold c s))).handed x ?_
  rw [hmoved]
  exact .inr (.inl ⟨_, rfl⟩)

/-- R77: in a jam the grant ends at once. -/
theorem grantBegun_jammed (hjam : s.loop.jam ≠ none) : (grantBegun c s).loop.jammed = true := by
  simpa [Loop.jammed, (grantBegun_frame c s).1, Option.isSome_iff_ne_none] using hjam

theorem beginGrant_jammed (h : s.loop.txn = some { asker := .run c, addr := a, phase := .sending })
    (hjam : s.loop.jam ≠ none) : beginGrant s = closeGrant .jammed (grantBegun c s) := by
  rw [beginGrant_eq h, if_pos (grantBegun_jammed hjam)]

theorem beginGrant_running (h : s.loop.txn = some { asker := .run c, addr := a, phase := .sending })
    (hjam : s.loop.jam = none) : beginGrant s = grantBegun c s := by
  rw [beginGrant_eq h, if_neg (by simp [Loop.jammed, (grantBegun_frame c s).1, hjam])]

theorem beginGrant_ended (h : s.loop.txn = some { asker := .run c, addr := a, phase := .sending })
    (hjam : s.loop.jam ≠ none) : GrantEnded .jammed 0 s (beginGrant s) := by
  obtain ⟨-, -, -, -, htbl, hclk, hcount, -⟩ := grantBegun_frame c s
  have hended := closeGrant_ended .jammed (grantBegun c s)
  rw [hcount] at hended
  rw [beginGrant_jammed h hjam]
  exact hended.congr htbl.symm hclk.symm rfl rfl

theorem settleFrom_grant_of_begun (h : s.loop.txn = some { asker := .run c, addr := a, phase := .sending }) (t : Nat) :
    (settleFrom t (beginGrant s)).loop.grant = (beginGrant s).loop.grant := by
  cases hjam : s.loop.jam with
  | none =>
    rw [beginGrant_running h hjam]
    exact settleFrom_grant_of_held t (grantBegun_isHeld c s)
  | some j =>
    refine settleFrom_grant_of_closed t ?_
    have hjammed : (grantBegun c s).loop.jam = some j := by rw [(grantBegun_frame c s).1, hjam]
    rw [beginGrant_jammed h (by simp [hjam])]
    simp [Loop.mayChoose, Loop.jammed, hjammed]

theorem beginGrant_begun (h : s.loop.txn = some { asker := .run c, addr := a, phase := .sending }) :
    (beginGrant s).loop.grant.begun = s.loop.grant.begun + 1 := by
  obtain ⟨-, -, -, -, -, -, -, -, -, hbegun⟩ := grantBegun_frame c s
  cases hjam : s.loop.jam with
  | none => rw [beginGrant_running h hjam, hbegun]
  | some j =>
    rw [beginGrant_jammed h (by simp [hjam])]
    simpa using hbegun

/-- R77: the frame in progress under a grant that ends is unsolicited. -/
theorem beginGrant_rx (h : s.loop.txn = some { asker := .run c, addr := a, phase := .sending }) :
    (beginGrant s).loop.rx = s.loop.rx.map (fun r =>
      if r.context = .granted ∧ s.loop.jam ≠ none then { r with context := .unsolicited } else r) := by
  obtain ⟨-, hrx, -⟩ := grantBegun_frame c s
  cases hjam : s.loop.jam with
  | none => simp [beginGrant_running h hjam, hrx]
  | some j =>
    have hclosed : (closeGrant .jammed (grantBegun c s)).loop.rx = s.loop.rx.map RxFrame.orphan := by
      simp [closeGrant, Loop.endGrant, hrx]
    rw [beginGrant_jammed h (by simp [hjam]), hclosed]
    simp only [ne_eq, reduceCtorEq, not_false_eq_true, and_true]
    rfl

/-- R82: under a held grant nothing is chosen. -/
theorem settleFrom_of_held (t : Nat) (h : s.loop.grant.held = true) : NothingChosen s.loop (settleFrom t s).loop := by
  have hmay : s.loop.mayChoose = false := Loop.mayChoose_of_held h
  obtain ⟨-, hchosen⟩ | ⟨hmay', -⟩ | ⟨hmay', -⟩ := settleFrom_chosen t s
  · exact hchosen
  · simp [hmay] at hmay'
  · simp [hmay] at hmay'

end

/-- Settles O39: the grant as it has begun is held or, in a jam, ended; what is then taken up at the end of the event
changes no held grant, and opens none in a jam. -/
theorem grantBeginsWhenItsFrameIsSent : Obligations.GrantBeginsWhenItsFrameIsSent := by
  unfold Obligations.GrantBeginsWhenItsFrameIsSent
  intro s a l d m c hawake htx hpast htxn hopening hnode hheld hhalt
  subst hnode
  refine ⟨_, grantBegin_row hawake htx hpast, .of_loop .of_blocks (by simp), by simp, ?_, by simp, ?_, ?_, ?_⟩
  · rw [settleFrom_grant_of_begun htxn, beginGrant_begun htxn]
  · simpa using beginGrant_rx htxn
  · exact fun hjammed => (beginGrant_ended htxn hjammed).settleFrom d
  · intro hrunning
    obtain ⟨-, -, htxn', hknown, -, -, hcount, hnode, hbegan, -⟩ := grantBegun_frame c s
    have hgrant := settleFrom_grant_of_begun htxn d
    rw [beginGrant_running htxn hrunning] at hgrant ⊢
    have hnothing := settleFrom_of_held d (grantBegun_isHeld c s)
    have hon := hnothing.txn
    rw [htxn'] at hon
    have hcarried := settleFrom_carriedOn (t := d) (grantBegun c s)
    refine ⟨hon.of_none, by rw [hgrant, hnode], by rw [hgrant, hcount], by rw [hgrant, hbegan], by simpa using hknown,
      fun hnone => ?_, fun x hx => ?_, fun k hfree hmove => ?_, fun x hpending hwinch haddr hstate => ?_⟩
    · rw [hgrant]
      exact grantBegun_held hnone
    · obtain ⟨hclaiming, hcause, hrecorded, hplace⟩ := grantBegun_claims (c := c) hx
      rw [hgrant]
      exact ⟨hclaiming, hcause, hrecorded, ClaimOnItsWay.settleFrom d (.inl hplace)⟩
    · exact (grantBegun_handedOver hheld hhalt hfree hmove).carriedOn hcarried
    · obtain ⟨hpending', hhanded⟩ := grantBegun_moves_pending hpending hwinch haddr hstate
      exact ⟨hnothing.pending.trans hpending', hcarried.handed x hhanded⟩

end Sys2Proof.Machine
end

section
/-! The timers of a grant: the grant time, the claim wait and the interleave (R82, R108, R110, R111). -/

namespace Sys2Proof.Machine

set_option Elab.async false

section
variable {s t u : State}

/-! ## The grant timer (R108) -/

theorem Loop.claim_of_held {l : Loop} (cause : ClaimCause) (h : l.grant.state = .held ∨ l.grant.state = .closing) :
    l.claim cause =
      { l with claimPlace := true, grant := { l.grant with state := .claiming, timerAt := none, cause := some cause } } := by
  unfold Loop.claim
  obtain h | h := h <;> rw [h]

theorem grantTimeout_claims {e : Nat} (hawake : s.resetLine = false)
    (hstate : s.loop.grant.state = .held ∨ s.loop.grant.state = .closing) (htimer : s.loop.grant.timerAt = some e)
    (hpast : e ≤ s.now) :
    ∃ t, exec .grantTimeout s = .next t ∧ EventFrame [] s t ∧
      t.loop.grant = { s.loop.grant with state := .claiming, timerAt := none, cause := some .timeout } ∧
      ClaimOnItsWay t := by
  have hdue : s.grantTimerDue = true := by
    simpa [State.grantTimerDue, htimer, dueAt, hpast] using hstate
  have hrow : exec .grantTimeout s = .next (settle (s.setLoop (s.loop.claim .timeout))) := by
    have hexec : exec .grantTimeout s = execGrantTimeout s := rfl
    rw [hexec, execGrantTimeout, taken_of_awake hawake, if_pos hdue]
  rw [Loop.claim_of_held .timeout hstate] at hrow
  exact ⟨_, hrow, (EventFrame.of_changes .of_blocks).settle, settle_grant_of_held rfl, ClaimOnItsWay.settleFrom _ (.inl rfl)⟩

/-! ## The claim wait (R110, R111) -/

theorem closeGrant_idle (cause : GrantEnd) (s : State) : (closeGrant cause s).loop.grant.state = .idle := by
  rw [closeGrant_grant]
  rfl

theorem Loop.claim_of_idle {l : Loop} (cause : ClaimCause) (h : l.grant.state = .idle) : l.claim cause = l := by
  simp [Loop.claim, h]

theorem abortRun_grant_of_idle (cause : RunOutcome) (h : s.loop.grant.state = .idle) :
    (abortRun cause s).loop.grant = s.loop.grant ∧ (abortRun cause s).loop.claimPlace = s.loop.claimPlace := by
  unfold abortRun
  split
  · simp [Loop.claim_of_idle .runEngine h]
  · split
    · exact ⟨rfl, rfl⟩
    · simp

/-- Without a grant the failure of a node reaches neither the grant nor the CLAIM place. -/
theorem nodeFailure_grant_of_idle {a : Nat} (h : 1 ≤ a ∧ a ≤ s.loop.nodeFail.length) (hidle : s.loop.grant.state = .idle) :
    (nodeFailure a s).loop.grant = s.loop.grant ∧ (nodeFailure a s).loop.claimPlace = s.loop.claimPlace := by
  have hfailed : (s.setLoop (s.loop.failNode a)).loop.grant = s.loop.grant ∧
      (s.setLoop (s.loop.failNode a)).loop.claimPlace = s.loop.claimPlace := by simp
  rw [nodeFailure_eq h]
  split
  · obtain ⟨hgrant, hplace⟩ := abortRun_grant_of_idle (s := s.setLoop (s.loop.failNode a)) .abortedLoop (by simpa using hidle)
    exact ⟨hgrant.trans hfailed.1, hplace.trans hfailed.2⟩
  · exact hfailed

/-- The failure of RUN's winch, said from before its grant ended. -/
theorem WinchFailed.of_closed {a : Nat} {cause : GrantEnd} (h : WinchFailed a (closeGrant cause s) t) :
    WinchFailed a s t := by
  have hcount : (closeGrant cause s).loop.nodeCount a = s.loop.nodeCount a := by simp [Loop.nodeCount]
  have hheader : (closeGrant cause s).header = s.header := State.header_congr (by simp) (by simp)
  obtain ⟨haborted, hnoted, hkept⟩ := h
  simp only [hcount, closeGrant_frame] at haborted hnoted hkept
  refine ⟨fun h2 h255 hwork => ?_, fun h2 h255 hwork => ?_, hkept⟩
  · obtain ⟨hretrieve, hrecord⟩ := haborted h2 h255 hwork
    exact ⟨hretrieve.of_start (by simp [State.now]) hheader (by simp) (by simp), by simpa using hrecord⟩
  · obtain ⟨hstate, hmarker, hpls, hrecord⟩ := hnoted h2 h255 hwork
    exact ⟨by simpa using hstate, by simpa using hmarker, by simpa using hpls, by simpa using hrecord⟩

theorem endedNoBurstEnd_settle (s : State) :
    (settle s).loop.grant.endedNoBurstEnd = s.loop.grant.endedNoBurstEnd := by
  obtain ⟨-, hchosen⟩ | ⟨-, c, hchosen⟩ | ⟨-, k, q, -, hchosen⟩ := settleFrom_chosen s.fineNow s
  · rw [settle, hchosen.grant]
  · rw [settle, hchosen.grant]
    unfold Loop.openCommand
    dsimp only
    split <;> rfl
  · rw [settle, hchosen.grant]

theorem claimWait_ends {e n : Nat} (hawake : s.resetLine = false)
    (hstate : s.loop.grant.state = .closing ∨ s.loop.grant.state = .claiming)
    (hwait : s.loop.grant.wait = some { length := n, expiry := some e }) (hpast : e ≤ s.fineNow)
    (hlow : 1 ≤ s.loop.grant.node) (hhigh : s.loop.grant.node ≤ 30) (hlength : s.loop.nodeFail.length = 30) :
    ∃ t, exec .claimWaitExpiry s = .next t ∧ EventFrame [.loop, .run, .pls] s t ∧
      t.loop.nodeCount s.loop.grant.node = min (s.loop.nodeCount s.loop.grant.node + 1) 255 ∧
      (∀ x, x ≠ s.loop.grant.node → t.loop.nodeCount x = s.loop.nodeCount x) ∧
      (s.run.held = some s.loop.grant.node → WinchFailed s.loop.grant.node s t) ∧
      (s.run.held ≠ some s.loop.grant.node →
        t.run.state = s.run.state ∧ t.run.record = s.run.record ∧ t.run.vertical = s.run.vertical ∧
        t.run.marker = s.run.marker ∧ t.pls = s.pls) ∧
      t.loop.claimPlace = false ∧ GrantEnded .noBurstEnd s.loop.grant.count s t ∧
      t.loop.grant.endedNoBurstEnd = inc16 s.loop.grant.endedNoBurstEnd := by
  generalize hnode : s.loop.grant.node = a at *
  have hdue : s.waitDue = true := by
    simpa [State.waitDue, hwait, dueAt, hpast] using hstate
  have hrow : exec .claimWaitExpiry s = .next (settle (nodeFailure a (closeGrant .noBurstEnd s))) := by
    have hexec : exec .claimWaitExpiry s = execClaimWaitExpiry s := rfl
    rw [hexec, execClaimWaitExpiry, taken_of_awake hawake, if_pos hdue, endUnanswered, hnode]
  have hin : 1 ≤ a ∧ a ≤ (closeGrant .noBurstEnd s).loop.nodeFail.length := by simp [hlow, hhigh, hlength]
  obtain ⟨hgrant, hplace⟩ := nodeFailure_grant_of_idle hin (closeGrant_idle .noBurstEnd s)
  have hended : GrantEnded .noBurstEnd s.loop.grant.count s (nodeFailure a (closeGrant .noBurstEnd s)) :=
    (closeGrant_ended .noBurstEnd s).congr rfl rfl hgrant (by simp)
  have hcount (x : Nat) : (settle (nodeFailure a (closeGrant .noBurstEnd s))).loop.nodeCount x =
      ((closeGrant .noBurstEnd s).loop.failNode a).nodeCount x :=
    Loop.nodeCount_congr (by simp [settle, nodeFailure_nodeFail hin]) x
  have hclosed (x : Nat) : (closeGrant .noBurstEnd s).loop.nodeCount x = s.loop.nodeCount x :=
    Loop.nodeCount_congr (by simp) x
  refine ⟨_, hrow, .of_loop .of_blocks (by simp), ?_, fun x hx => ?_, fun hheld => ?_, fun hother => ?_, ?_,
    hended.settleFrom _, ?_⟩
  · rw [hcount, Loop.nodeCount_failNode_same hin, hclosed]
  · rw [hcount, Loop.nodeCount_failNode_ne hx, hclosed]
  · have hfailed := nodeFailure_winch (s := closeGrant .noBurstEnd s) hin (by simpa using hheld)
    exact hfailed.of_closed.carriedOn (settle_carriedOn _) (by simp)
  · rw [nodeFailure_of_other hin (by simpa using hother)]
    simp
  · exact settleFrom_claimPlace _ (hplace.trans (closeGrant_claimPlace .noBurstEnd s))
  · rw [endedNoBurstEnd_settle, hgrant, closeGrant_grant]
    rfl

/-! ## The end of the interleave (R82, R111) -/

theorem interleaveEnd_opens {e l : Nat} {m : ReleaseMode} {c : RunCmd} (hawake : s.resetLine = false)
    (hinterleave : s.loop.grant.interleaveAt = some e) (hpast : e ≤ s.now) (htxn : s.loop.txn = none)
    (hopen : s.loop.grant.held = false) (hjam : s.loop.jam = none) (hbreak : s.loop.lineBreak = none)
    (hpending : s.loop.pendingCmd = some c) (hkind : c.kind = .grant l m) :
    ∃ t, exec .interleaveEnd s = .next t ∧ EventFrame [] s t ∧ t.loop.grant.interleaveAt = none ∧
      t.loop.grant.state = .opening ∧ t.loop.grant.node = c.addr ∧ t.loop.grant.mode = m ∧
      t.loop.grant.limit = min (max l 1) 32 ∧ t.loop.pendingCmd = none ∧
      ∃ ph, t.loop.txn = some { asker := .run c, addr := c.addr, phase := ph } := by
  have hdue : s.interleaveDue = true := by simpa [State.interleaveDue, hinterleave, dueAt] using hpast
  have hrow : exec .interleaveEnd s =
      .next (settle (s.setLoop { s.loop with grant := { s.loop.grant with interleaveAt := none } })) := by
    have hexec : exec .interleaveEnd s = execInterleaveEnd s := rfl
    rw [hexec, execInterleaveEnd, taken_of_awake hawake, if_pos hdue]
  refine ⟨_, hrow, (EventFrame.of_changes .of_blocks).settle, ?_⟩
  generalize hu : s.setLoop { s.loop with grant := { s.loop.grant with interleaveAt := none } } = u
  have hmay : u.loop.mayChoose = true := by
    have hopen' : { s.loop.grant with interleaveAt := none }.held = false := hopen
    simp [← hu, Loop.mayChoose, Loop.pairFree, Loop.jammed, htxn, hjam, hbreak, hopen']
  have hwaits : u.loop.pendingCmd = some c := by rw [← hu]; exact hpending
  have hfree : u.loop.grant.interleaveAt = none := by rw [← hu]; rfl
  have hsendable : u.loop.sendable c = true := by simp [Loop.sendable, hkind, hfree]
  obtain ⟨hnot | ⟨hnot, -⟩, -⟩ | ⟨-, c', hchosen⟩ | ⟨-, _, _, -, hchosen⟩ := settleFrom_chosen u.fineNow u
  · simp [hmay] at hnot
  · simp [hnot c hwaits] at hsendable
  · obtain rfl : c = c' := by simpa [hwaits] using hchosen.waited
    obtain ⟨ph, hph, -⟩ := hchosen.txn.of_some
    obtain ⟨hstate, hnode, hlimit, hmode⟩ := Loop.openCommand_opening (l := u.loop) hkind
    rw [settle, hchosen.grant]
    exact ⟨by simp [Loop.openCommand, hkind, hfree], hstate, hnode, hmode, hlimit, hchosen.pending, ph, hph⟩
  · have hnot := hchosen.unsendable c hwaits
    simp [hnot] at hsendable

end

/-- Settles O41. -/
theorem grantTimersClaimEndAndRelease : Obligations.GrantTimersClaimEndAndRelease := by
  unfold Obligations.GrantTimersClaimEndAndRelease
  exact ⟨fun s e hawake hstate htimer hpast => grantTimeout_claims hawake hstate htimer hpast,
    fun s e n hawake hstate hwait hpast hlow hhigh hlength => claimWait_ends hawake hstate hwait hpast hlow hhigh hlength,
    fun s e l m c hawake hinterleave hpast htxn hopen hjam hbreak hpending hkind =>
      interleaveEnd_opens hawake hinterleave hpast htxn hopen hjam hbreak hpending hkind⟩

end Sys2Proof.Machine
end

section
/-! The frames of a grant that fail (R72, R104, R110, R152). -/

namespace Sys2Proof.Machine

set_option Elab.async false

section
variable {s t u : State} {k : RxFault}

/-! ## An abort under a held grant (R109, R150) -/

theorem Grant.held_iff (g : Grant) : g.held = true ↔ g.state = .held ∨ g.state = .closing ∨ g.state = .claiming := by
  simp [Grant.held, or_assoc]

/-- R109: an abort of a working run claims the held grant back. -/
theorem abortRun_grant_state (cause : RunOutcome) (h : s.loop.grant.held = true) :
    (abortRun cause s).loop.grant.state = if s.run.state.working = true then .claiming else s.loop.grant.state := by
  unfold abortRun
  by_cases hwork : s.run.state.working = true
  · rw [if_pos hwork, if_pos hwork]
    simpa using Loop.claim_claiming .runEngine ((Grant.held_iff _).mp h)
  · rw [if_neg hwork, if_neg hwork]
    split
    · rfl
    · simp

theorem nodeFailure_grant_state {a : Nat} (h : 1 ≤ a ∧ a ≤ s.loop.nodeFail.length) (hheld : s.loop.grant.held = true) :
    (nodeFailure a s).loop.grant.state =
      if s.run.held = some a ∧ 2 ≤ s.loop.nodeCount a ∧ s.loop.nodeCount a < 255 ∧ s.run.state.working = true then
        .claiming
      else s.loop.grant.state := by
  have hfailed : (s.setLoop (s.loop.failNode a)).loop.grant = s.loop.grant := by simp
  have haborted := abortRun_grant_state (s := s.setLoop (s.loop.failNode a)) .abortedLoop (by rwa [hfailed])
  rw [nodeFailure_eq h]
  by_cases hthird : s.run.held = some a ∧ 2 ≤ s.loop.nodeCount a ∧ s.loop.nodeCount a < 255
  · rw [if_pos hthird, haborted, hfailed]
    obtain ⟨hwinch, h2, h255⟩ := hthird
    refine if_congr ?_ rfl rfl
    simp [hwinch, h2, h255]
  · rw [if_neg hthird, if_neg (fun ⟨hwinch, h2, h255, _⟩ => hthird ⟨hwinch, h2, h255⟩), hfailed]

/-! ## The failed frame at its end (R72, R104) -/

/-- The grant's frame over, its failure counted by its kind. -/
def grantFaultCounted (k : RxFault) (s : State) : State := endGrantRx (s.setLoop (s.loop.countFault k))

theorem failGrantFrame_eq (k : RxFault) (s : State) :
    failGrantFrame k s = nodeFailure s.loop.grant.node (grantFaultCounted k s) := by
  rw [failGrantFrame, grantFaultCounted]
  simp

theorem grantFaultCounted_frame (k : RxFault) (s : State) :
    (grantFaultCounted k s).loop.rx = none ∧ (grantFaultCounted k s).loop.faults = s.loop.faults.count k ∧
      (grantFaultCounted k s).loop.nodeFail = s.loop.nodeFail ∧
      (grantFaultCounted k s).loop.grant.held = s.loop.grant.held ∧
      (grantFaultCounted k s).loop.grant.wait =
        s.loop.grant.wait.map fun w => { w with expiry := some (s.fineNow + w.length * loopChar s.loop.rate) } := by
  simp [grantFaultCounted, endGrantRx, Loop.countFault, restartClaimWait, State.charsFrom, State.fineNow, Grant.held]

/-- A held grant whose node is one of the 30. -/
structure GrantHeld (s : State) : Prop where
  held : s.loop.grant.held = true
  node : 1 ≤ s.loop.grant.node ∧ s.loop.grant.node ≤ s.loop.nodeFail.length

/-- R104: what the failure of a frame under a held grant leaves, before the event ends. -/
structure FrameCounted (k : RxFault) (s t : State) : Prop where
  rx : t.loop.rx = none
  faults : t.loop.faults = s.loop.faults.count k
  count : t.loop.grant.count = s.loop.grant.count ∧ t.loop.grant.node = s.loop.grant.node
  node : t.loop.nodeCount s.loop.grant.node = min (s.loop.nodeCount s.loop.grant.node + 1) 255
  wait : t.loop.grant.wait = s.loop.grant.wait.map fun w =>
    { w with expiry := some (s.fineNow + w.length * loopChar s.loop.rate) }
  winch : s.run.held = some s.loop.grant.node → WinchFailed s.loop.grant.node s t
  other : s.run.held ≠ some s.loop.grant.node → t.run = s.run ∧ t.pls = s.pls
  state : t.loop.grant.state =
    if s.run.held = some s.loop.grant.node ∧ 2 ≤ s.loop.nodeCount s.loop.grant.node ∧
        s.loop.nodeCount s.loop.grant.node < 255 ∧ s.run.state.working = true then .claiming
    else s.loop.grant.state

theorem failGrantFrame_counted (k : RxFault) (h : GrantHeld s) : FrameCounted k s (failGrantFrame k s) := by
  obtain ⟨hrx, hfaults, hfail, hheld, hwait⟩ := grantFaultCounted_frame k s
  have hcount (x : Nat) : (grantFaultCounted k s).loop.nodeCount x = s.loop.nodeCount x := Loop.nodeCount_congr hfail x
  have hin : 1 ≤ s.loop.grant.node ∧ s.loop.grant.node ≤ (grantFaultCounted k s).loop.nodeFail.length := by
    rw [hfail]; exact h.node
  have hstart : (grantFaultCounted k s).run = s.run ∧ (grantFaultCounted k s).pls = s.pls ∧
      (grantFaultCounted k s).tbl = s.tbl ∧ (grantFaultCounted k s).clk = s.clk ∧
      (grantFaultCounted k s).loop.grant.state = s.loop.grant.state ∧
      (grantFaultCounted k s).loop.grant.count = s.loop.grant.count ∧
      (grantFaultCounted k s).loop.grant.node = s.loop.grant.node := by simp [grantFaultCounted]
  have hstate := nodeFailure_grant_state hin (hheld.trans h.held)
  rw [failGrantFrame_eq]
  generalize grantFaultCounted k s = v at *
  obtain ⟨hrun, hpls, htbl, hclk, hgstate, hgcount, hgnode⟩ := hstart
  rw [hrun, hcount, hgstate] at hstate
  constructor
  case rx => simpa using hrx
  case faults => simpa using hfaults
  case count => simp [hgcount, hgnode]
  case node => rw [Loop.nodeCount_congr (nodeFailure_nodeFail hin), Loop.nodeCount_failNode_same hin, hcount]
  case wait => simpa using hwait
  case winch =>
    exact fun hwinch => (nodeFailure_winch hin (by rwa [hrun])).of_start
      { count := (hcount _).symm, run := hrun.symm, pls := hpls.symm, tbl := htbl.symm, clk := hclk.symm }
  case other =>
    intro hother
    rw [nodeFailure_of_other hin (by rwa [hrun])]
    exact ⟨hrun, hpls⟩
  case state => exact hstate

theorem FrameCounted.held (h : FrameCounted k s t) (hheld : s.loop.grant.held = true) : t.loop.grant.held = true := by
  rw [Grant.held_iff, h.state]
  split
  · simp
  · exact (Grant.held_iff _).mp hheld

/-- The failed frame at the end of its event. -/
theorem FrameCounted.failed {bs : List Block} (h : FrameCounted k s u) (hheld : s.loop.grant.held = true)
    (frame : EventFrame (.loop :: bs) s (settle u)) : GrantFrameFailed bs k none s (settle u) := by
  have hgrant := settle_grant_of_held (h.held hheld)
  have hpls : (settle u).pls = u.pls := by simp
  obtain ⟨hrx, hfaults, hcount, hnode, hwait, hwinch, hother, hstate⟩ := h
  refine ⟨frame, by simpa using hrx, by simpa using hfaults, by rwa [hgrant], ?_, by rw [hgrant, hwait]; rfl,
    fun hheld => (hwinch hheld).carriedOn (settle_carriedOn u) hpls, fun hnot => by simpa using hother hnot,
    by rw [hgrant, hstate]⟩
  rw [← hnode]
  exact Loop.nodeCount_congr (by simp) _

/-- R104, R110: a frame that begins under a held grant. -/
theorem beginFrame_granted (m : Byte) (h : u.loop.grant.held = true) :
    CarriedOn u (beginFrame m u) ∧ (beginFrame m u).pls = u.pls ∧
      (beginFrame m u).loop.rx = some { addr := m, context := .granted } ∧
      (beginFrame m u).loop.grant = u.loop.grant.holdWait := by
  rw [beginFrame_of_held m h]
  exact ⟨.of_places, rfl, rfl, rfl⟩

/-- The failed frame, cut by a marked character that began the next one, at the end of its event. -/
theorem FrameCounted.cut {bs : List Block} {m : Byte} (h : FrameCounted k s u) (hheld : s.loop.grant.held = true)
    (frame : EventFrame (.loop :: bs) s (settle (beginFrame m u))) :
    GrantFrameFailed bs k (some m) s (settle (beginFrame m u)) := by
  obtain ⟨hcarried, hpls, hrx, hgrant⟩ := beginFrame_granted m (h.held hheld)
  have hstands := settle_grant_of_held (s := beginFrame m u) (by rw [hgrant]; exact h.held hheld)
  rw [hgrant] at hstands
  obtain ⟨-, hfaults', hcount, hnode, hwait, hwinch, hother, hstate⟩ := h
  refine ⟨frame, by simp [hrx], by simp [hfaults'], by rw [hstands]; exact hcount, ?_, ?_,
    fun hheld => (hwinch hheld).carriedOn (hcarried.trans (settle_carriedOn _)) (by simp), fun hnot => ?_,
    by rw [hstands]; exact hstate⟩
  · rw [← hnode]
    exact Loop.nodeCount_congr (by simp) _
  · rw [hstands, Grant.holdWait, hwait, Option.map_map]
    rfl
  · simpa [hcarried.run, hpls] using hother hnot

/-- Two states from which the failure of a grant's frame does the same. -/
structure FrameStart (s s' : State) : Prop where
  grant : s'.loop.grant = s.loop.grant := by rfl
  nodeFail : s'.loop.nodeFail = s.loop.nodeFail := by rfl
  faults : s'.loop.faults = s.loop.faults := by rfl
  rate : s'.loop.rate = s.loop.rate := by rfl
  run : s'.run = s.run := by rfl
  pls : s'.pls = s.pls := by rfl
  tbl : s'.tbl = s.tbl := by rfl
  clk : s'.clk = s.clk := by rfl

theorem FrameCounted.of_start {s' : State} (h : FrameCounted k s' t) (e : FrameStart s s') : FrameCounted k s t := by
  have hcount (x : Nat) : s'.loop.nodeCount x = s.loop.nodeCount x := Loop.nodeCount_congr e.nodeFail x
  have hfine : s'.fineNow = s.fineNow := by simp only [State.fineNow, e.clk]
  obtain ⟨hrx, hfaults, hgcount, hnode, hwait, hwinch, hother, hstate⟩ := h
  rw [e.faults] at hfaults
  rw [e.grant] at hgcount
  rw [e.grant, hcount] at hnode
  rw [e.grant, hfine, e.rate] at hwait
  rw [e.run, e.grant] at hwinch hother
  rw [e.pls] at hother
  rw [e.run, e.grant, hcount] at hstate
  exact ⟨hrx, hfaults, hgcount, hnode, hwait,
    fun hheld => (hwinch hheld).of_start
      { count := (hcount _).symm, run := e.run.symm, pls := e.pls.symm, tbl := e.tbl.symm, clk := e.clk.symm },
    hother, hstate⟩

theorem heardFrom_frameStart (x : Nat) (s : State) : FrameStart s (heardFrom x s) := {}

theorem markedStart_frameStart (s : State) : FrameStart s (heardFrom s.fineNow (markedStart s)) := {}

theorem FrameCounted.heard (x : Nat) (k : RxFault) (h : GrantHeld s) :
    FrameCounted k s (failGrantFrame k (heardFrom x s)) :=
  (failGrantFrame_counted (s := heardFrom x s) k ⟨h.held, h.node⟩).of_start (heardFrom_frameStart x s)

theorem FrameCounted.marked (h : GrantHeld s) :
    FrameCounted .mark s (failGrantFrame .mark (heardFrom s.fineNow (markedStart s))) :=
  (failGrantFrame_counted (s := heardFrom s.fineNow (markedStart s)) .mark ⟨h.held, h.node⟩).of_start
    (markedStart_frameStart s)

/-! ## The rows -/

section
variable {a m : Byte} {f : FrameFault} {b : FrameBody} {fin : FrameEnd}

theorem grantFrameReceived_row (hawake : s.resetLine = false) (hheld : s.loop.grant.held = true)
    (hrx : s.loop.rx = some { addr := a, context := .granted }) :
    exec (.grantFrameReceived fin) s = .next (settle (endGrantFrame fin (heardFrom s.fineNow s))) := by
  have hrow : exec (.grantFrameReceived fin) s = execGrantFrameReceived fin s := rfl
  have hin : s.loop.inGrantFrame = true := by simp [Loop.inGrantFrame, hheld, hrx]
  rw [hrow, execGrantFrameReceived, taken_of_awake hawake, if_pos hin]
  rfl

theorem endGrantFrame_failed (hrx : s.loop.rx = some { addr := a, context := .granted }) (h : f ≠ .stray) :
    endGrantFrame (.failed f) s = afterFault f (failGrantFrame (faultKind f) s) := by
  unfold endGrantFrame
  rw [hrx]
  cases f
  case stray => exact absurd rfl h
  all_goals rfl

theorem endGrantFrame_bad (hrx : s.loop.rx = some { addr := a, context := .granted }) (h : ¬ BodyGood b) :
    endGrantFrame (.complete b) s = failGrantFrame (bodyFailure b) s := by
  simp only [endGrantFrame, hrx, bodyFault_of_bad h]

theorem endGrantFrame_good (hrx : s.loop.rx = some { addr := a, context := .granted }) (h : BodyGood b) :
    endGrantFrame (.complete b) s = goodGrantFrame a b s := by
  simp only [endGrantFrame, hrx, bodyFault_of_good h]

theorem failGrantFrame_eventFrame (x : Nat) (k : RxFault) :
    EventFrame [.loop, .run, .pls] s (settle (failGrantFrame k (heardFrom x s))) := by
  unfold heardFrom
  exact .of_loop .of_blocks (by simp)

/-- A failure of the grant's frame that nothing cuts. -/
theorem grantFrame_fails (hawake : s.resetLine = false) (hgrant : GrantHeld s)
    (hrx : s.loop.rx = some { addr := a, context := .granted }) (hstray : f ≠ .stray) (huncut : cutBy f = none) :
    ∃ t, exec (.grantFrameReceived (.failed f)) s = .next t ∧ GrantFrameFailed [.run, .pls] (faultKind f) none s t := by
  refine ⟨_, grantFrameReceived_row hawake hgrant.held hrx, ?_⟩
  rw [endGrantFrame_failed (s := heardFrom s.fineNow s) hrx hstray, afterFault_of_uncut huncut]
  exact (FrameCounted.heard s.fineNow _ hgrant).failed hgrant.held (failGrantFrame_eventFrame _ _)

theorem grantFrame_fails_bad (hawake : s.resetLine = false) (hgrant : GrantHeld s)
    (hrx : s.loop.rx = some { addr := a, context := .granted }) (hbad : ¬ BodyGood b) :
    ∃ t, exec (.grantFrameReceived (.complete b)) s = .next t ∧ GrantFrameFailed [.run, .pls] (bodyFailure b) none s t := by
  refine ⟨_, grantFrameReceived_row hawake hgrant.held hrx, ?_⟩
  rw [endGrantFrame_bad (s := heardFrom s.fineNow s) hrx hbad]
  exact (FrameCounted.heard s.fineNow _ hgrant).failed hgrant.held (failGrantFrame_eventFrame _ _)

theorem grantFrame_gap (hawake : s.resetLine = false) (hgrant : GrantHeld s)
    (hrx : s.loop.rx = some { addr := a, context := .granted }) :
    ∃ t, exec .receptionGap s = .next t ∧ GrantFrameFailed [.run, .pls] .gap none s t := by
  have hrow : exec .receptionGap s =
      .next (settle (failGrantFrame .gap (heardFrom (s.fineNow - 4 * loopChar s.loop.rate) s))) := by
    have hexec : exec .receptionGap s = execReceptionGap s := rfl
    rw [hexec, execReceptionGap, taken_of_awake hawake]
    simp only [hrx]
    rfl
  exact ⟨_, hrow, (FrameCounted.heard _ _ hgrant).failed hgrant.held (failGrantFrame_eventFrame _ _)⟩

theorem grantFrame_cut (hawake : s.resetLine = false) (hgrant : GrantHeld s)
    (hrx : s.loop.rx = some { addr := a, context := .granted }) (m : Byte) :
    ∃ t, exec (.grantFrameReceived (.failed (.mark m))) s = .next t ∧
      GrantFrameFailed [.run, .pls] .mark (some m) s t := by
  refine ⟨_, grantFrameReceived_row hawake hgrant.held hrx, ?_⟩
  rw [endGrantFrame_failed (s := heardFrom s.fineNow s) (f := .mark m) hrx (by simp), afterFault_mark]
  refine (FrameCounted.heard s.fineNow .mark hgrant).cut hgrant.held ?_
  unfold heardFrom
  exact .of_loop .of_blocks (by simp)

theorem grantFrame_cut_by_begin (hawake : s.resetLine = false) (hgrant : GrantHeld s)
    (hrx : s.loop.rx = some { addr := a, context := .granted }) (m : Byte) (hbreak : s.loop.lineBreak = none) :
    ∃ t, exec (.frameBegins (.marked m)) s = .next t ∧
      GrantFrameFailed [.run, .pls, .lines] .mark (some m) s t := by
  refine ⟨_, frameBegins_cuts_row hawake hbreak hrx, ?_⟩
  have hcut : cutFrame m { addr := a, context := .granted } (heardFrom s.fineNow (markedStart s)) =
      beginFrame m (failGrantFrame .mark (heardFrom s.fineNow (markedStart s))) :=
    endGrantFrame_failed (s := heardFrom s.fineNow (markedStart s)) (f := .mark m) hrx (by simp)
  rw [hcut]
  refine (FrameCounted.marked hgrant).cut hgrant.held ?_
  unfold heardFrom markedStart setReplyLow
  exact .of_loop .of_blocks (by simp)

end

end

end Sys2Proof.Machine
end

section
/-! The good frames of a grant, as the grant watches them (R104 to R107, R110, R111). -/

namespace Sys2Proof.Machine

set_option Elab.async false

/-! ## The frame heard -/

/-- LOOP with the good frame from `a` over, the granted node's count cleared where the frame is its own. -/
def grantHeardLoop (a : Byte) (s : State) : Loop :=
  let l := (endGrantRx (seenHigh s)).loop
  if a.toNat = s.loop.grant.node then l.setNodeCount s.loop.grant.node 0 else l

/-- The state in which a good frame of a grant is classified. -/
def grantHeardState (a : Byte) (s : State) : State := s.setLoop (grantHeardLoop a s)

/-- The good frame as CHT is handed it. -/
def grantFrame (a : Byte) (b : FrameBody) (s : State) : GoodFrame :=
  { addr := a, kind := b.kind, payload := b.payload, arrival := s.now, polled := none, answering := none }

/-- R104 to R107: what the grant itself makes of a classified frame, its own one or another's, which may be the BURST-END
that CHT hands on. -/
def watchGrant (own ends : Bool) (b : FrameBody) (s : State) : State :=
  if own = false then s
  else if b.kind = kindPosition then countPosition b.payload s
  else if ends = true then burstEnd s
  else s

section
variable {s u v : State} {a : Byte} {b : FrameBody}

theorem grantHeardLoop_frame (a : Byte) (s : State) :
    (grantHeardLoop a s).rx = none ∧ (grantHeardLoop a s).faults = s.loop.faults ∧
      (grantHeardLoop a s).jam = s.loop.jam ∧ (grantHeardLoop a s).lineBreak = s.loop.lineBreak ∧
      (grantHeardLoop a s).unsolicited = s.loop.unsolicited ∧ (grantHeardLoop a s).rate = s.loop.rate ∧
      (grantHeardLoop a s).serviceQ = s.loop.serviceQ ∧ (grantHeardLoop a s).droppedService = s.loop.droppedService ∧
      (grantHeardLoop a s).grant =
        { s.loop.grant with
          wait := s.loop.grant.wait.map fun w =>
            { w with expiry := some (s.fineNow + w.length * loopChar s.loop.rate) } } := by
  have hover : (endGrantRx (seenHigh s)).loop.rx = none ∧ (endGrantRx (seenHigh s)).loop.grant =
      { s.loop.grant with
        wait := s.loop.grant.wait.map fun w =>
          { w with expiry := some (s.fineNow + w.length * loopChar s.loop.rate) } } := ⟨rfl, rfl⟩
  unfold grantHeardLoop
  dsimp only
  split
  · simp [hover]
  · simp [hover]

theorem grantHeardLoop_sideOnly (a : Byte) (s : State) : s.loop.SideOnly (grantHeardLoop a s) := by
  have hover : s.loop.SideOnly (endGrantRx (seenHigh s)).loop := rfl
  unfold grantHeardLoop
  dsimp only
  split
  · exact hover.trans (Loop.setNodeCount_sideOnly _ _ _)
  · exact hover

/-- R74: the counts of the nodes after a good frame. -/
theorem grantHeardLoop_nodes (h : GrantHeld s) :
    (a.toNat = s.loop.grant.node → (grantHeardLoop a s).nodeCount s.loop.grant.node = 0) ∧
      (∀ x, x ≠ a.toNat ∨ x ≠ s.loop.grant.node → (grantHeardLoop a s).nodeCount x = s.loop.nodeCount x) ∧
      (a.toNat ≠ s.loop.grant.node → (grantHeardLoop a s).nodeFail = s.loop.nodeFail) := by
  unfold grantHeardLoop
  dsimp only
  refine ⟨fun hown => ?_, fun x hx => ?_, fun hother => ?_⟩
  · rw [if_pos hown]
    exact Loop.nodeCount_setNodeCount_same 0 h.node
  · split
    · next hown => exact Loop.nodeCount_setNodeCount_ne 0 (by omega)
    · rfl
  · rw [if_neg hother]
    rfl

theorem goodGrantFrame_row (hawake : s.resetLine = false) (hheld : s.loop.grant.held = true)
    (hrx : s.loop.rx = some { addr := a, context := .granted }) (hgood : BodyGood b) :
    exec (.grantFrameReceived (.complete b)) s =
      .next (settle (watchGrant (decide (a.toNat = s.loop.grant.node)) (s.endsBurst (grantFrame a b s)) b
        (classify (grantFrame a b s) (grantHeardState a s)))) := by
  have hends : (seenHigh s).endsBurst (grantFrame a b s) = s.endsBurst (grantFrame a b s) := rfl
  have hstart : (if decide (a.toNat = s.loop.grant.node) = true then
        (endGrantRx (seenHigh s)).setLoop ((endGrantRx (seenHigh s)).loop.setNodeCount s.loop.grant.node 0)
      else endGrantRx (seenHigh s)) = grantHeardState a s := by
    unfold grantHeardState grantHeardLoop
    simp only [decide_eq_true_eq]
    split
    · rfl
    · rfl
  have hgoodFrame : goodGrantFrame a b (seenHigh s) =
      watchGrant (decide (a.toNat = s.loop.grant.node)) (s.endsBurst (grantFrame a b s)) b
        (classify (grantFrame a b s) (grantHeardState a s)) := by
    rw [← hstart, ← hends]
    unfold goodGrantFrame watchGrant
    simp only [Bool.not_eq_true']
    rfl
  rw [grantFrameReceived_row hawake hheld hrx, endGrantFrame_good (s := heardFrom s.fineNow s) hrx hgood]
  exact congrArg (fun t => Host.Outcome.next (settle t)) hgoodFrame

/-! ## What the grant makes of it -/

theorem watchGrant_position {ends : Bool} (hkind : b.kind = 18) : watchGrant true ends b s = countPosition b.payload s := by
  have hposition : b.kind = kindPosition := hkind
  rw [watchGrant, if_neg (by simp), if_pos hposition]

theorem watchGrant_burst (hkind : b.kind ≠ 18) : watchGrant true true b s = burstEnd s := by
  have hposition : ¬ b.kind = kindPosition := hkind
  rw [watchGrant, if_neg (by simp), if_neg hposition, if_pos rfl]

theorem watchGrant_kept {own ends : Bool} (h : own = false ∨ (b.kind ≠ 18 ∧ ends = false)) :
    watchGrant own ends b s = s := by
  unfold watchGrant
  obtain rfl | ⟨hkind, rfl⟩ := h
  · exact if_pos rfl
  · have hposition : ¬ b.kind = kindPosition := hkind
    rw [if_neg hposition]
    simp

/-- R104: one POSITION more of the granted node. -/
def positionAdded (s : State) : State :=
  s.setLoop { s.loop with grant := { s.loop.grant with count := s.loop.grant.count + 1 } }

/-- R104, R106: one POSITION more, watched for the end of the move. -/
def positionWatched (payload : List Byte) (s : State) : State :=
  if reportsDone payload = true then grantDone (positionAdded s) else positionAdded s

theorem countPosition_eq (payload : List Byte) (s : State) :
    countPosition payload s =
      if s.loop.grant.limit ≤ s.loop.grant.count + 1 then closeGrant .limit (positionWatched payload s)
      else positionWatched payload s := by
  have hlimit : (positionWatched payload s).loop.grant.limit = s.loop.grant.limit ∧
      (positionWatched payload s).loop.grant.count = s.loop.grant.count + 1 := by
    unfold positionWatched positionAdded
    split <;> simp
  rw [← hlimit.1, ← hlimit.2]
  rfl

@[simp] theorem positionWatched_frame (payload : List Byte) (s : State) :
    (positionWatched payload s).clk = s.clk ∧ (positionWatched payload s).tbl = s.tbl ∧
      (positionWatched payload s).pls = s.pls ∧ (positionWatched payload s).rat = s.rat ∧
      (positionWatched payload s).store = s.store ∧
      (positionWatched payload s).run = s.run ∧ (positionWatched payload s).loop.rx = s.loop.rx ∧
      (positionWatched payload s).loop.pendingCmd = s.loop.pendingCmd ∧
      (positionWatched payload s).loop.winchPlace = s.loop.winchPlace ∧
      (positionWatched payload s).loop.tx = s.loop.tx ∧ (positionWatched payload s).loop.txn = s.loop.txn ∧
      (positionWatched payload s).loop.grant.node = s.loop.grant.node ∧
      (positionWatched payload s).loop.grant.count = s.loop.grant.count + 1 ∧
      (positionWatched payload s).loop.grant.timerAt = s.loop.grant.timerAt ∧
      (positionWatched payload s).loop.grant.cause = s.loop.grant.cause := by
  unfold positionWatched positionAdded
  split <;> simp

@[simp] theorem watchGrant_frame (own ends : Bool) (b : FrameBody) (s : State) :
    (watchGrant own ends b s).clk = s.clk ∧ (watchGrant own ends b s).tbl = s.tbl ∧
      (watchGrant own ends b s).stg = s.stg ∧ (watchGrant own ends b s).rat = s.rat ∧
      (watchGrant own ends b s).wrn = s.wrn ∧ (watchGrant own ends b s).pls = s.pls ∧
      (watchGrant own ends b s).cht = s.cht ∧ (watchGrant own ends b s).store = s.store ∧
      (watchGrant own ends b s).upl = s.upl ∧ (watchGrant own ends b s).ctl = s.ctl ∧
      (watchGrant own ends b s).lines = s.lines ∧ (watchGrant own ends b s).resetLine = s.resetLine ∧
      (watchGrant own ends b s).lastReset = s.lastReset ∧ (watchGrant own ends b s).pending = s.pending ∧
      (watchGrant own ends b s).loop.faults = s.loop.faults ∧ (watchGrant own ends b s).loop.jam = s.loop.jam ∧
      (watchGrant own ends b s).loop.lineBreak = s.loop.lineBreak ∧
      (watchGrant own ends b s).loop.unsolicited = s.loop.unsolicited ∧
      (watchGrant own ends b s).loop.nodeFail = s.loop.nodeFail := by
  unfold watchGrant
  split
  · simp
  · split
    · simp
    · split
      · simp
      · simp

theorem closeGrant_rx_of_none (cause : GrantEnd) (h : s.loop.rx = none) : (closeGrant cause s).loop.rx = none := by
  simp [closeGrant, Loop.endGrant, h]

theorem countPosition_rx (payload : List Byte) (h : s.loop.rx = none) : (countPosition payload s).loop.rx = none := by
  have hwatched : (positionWatched payload s).loop.rx = none := by simpa using h
  rw [countPosition_eq]
  split
  · exact closeGrant_rx_of_none _ hwatched
  · exact hwatched

theorem watchGrant_rx (own ends : Bool) (b : FrameBody) (h : s.loop.rx = none) :
    (watchGrant own ends b s).loop.rx = none := by
  unfold watchGrant
  split
  · exact h
  · split
    · exact countPosition_rx _ h
    · split
      · exact closeGrant_rx_of_none _ h
      · exact h

/-- A classified frame leaves of LOOP's reply line what it found. -/
structure HeardOn (a : Byte) (s v : State) : Prop where
  rx : v.loop.rx = (grantHeardLoop a s).rx := by simp
  faults : v.loop.faults = (grantHeardLoop a s).faults := by simp
  jam : v.loop.jam = (grantHeardLoop a s).jam := by simp
  lineBreak : v.loop.lineBreak = (grantHeardLoop a s).lineBreak := by simp
  unsolicited : v.loop.unsolicited = (grantHeardLoop a s).unsolicited := by simp
  nodeFail : v.loop.nodeFail = (grantHeardLoop a s).nodeFail := by simp

theorem classify_heardOn (f : GoodFrame) (a : Byte) (s : State) : HeardOn a s (classify f (grantHeardState a s)) := by
  unfold grantHeardState
  exact {}

theorem HeardOn.heard (e : HeardOn a s v) (h : GrantHeld s) (own ends : Bool) :
    GrantFrameHeard a s (settle (watchGrant own ends b v)) := by
  obtain ⟨hrx, hfaults, hjam, hbreak, hunsolicited, -⟩ := grantHeardLoop_frame a s
  obtain ⟨hown, hnodes, hother⟩ := grantHeardLoop_nodes (a := a) h
  have hfail : (settle (watchGrant own ends b v)).loop.nodeFail = (grantHeardLoop a s).nodeFail := by simp [e.nodeFail]
  have hcount (x : Nat) : (settle (watchGrant own ends b v)).loop.nodeCount x = (grantHeardLoop a s).nodeCount x :=
    Loop.nodeCount_congr hfail x
  exact {
    rx := by simpa using watchGrant_rx own ends b (e.rx.trans hrx)
    faults := by simp [e.faults, hfaults]
    line := by simp [e.jam, e.lineBreak, e.unsolicited, hjam, hbreak, hunsolicited]
    node := fun h => (hcount _).trans (hown h)
    nodes := fun x hx => (hcount x).trans (hnodes x hx)
    others := fun h => hfail.trans (hother h) }

/-! ## A POSITION watched (R104 to R106) -/

theorem reportsDone_iff (payload : List Byte) :
    reportsDone payload = true ↔
      payload.length = 9 ∧ ∃ w, WinchState.ofCode (u8 payload 8) = some w ∧ w ≠ .moving := by
  unfold reportsDone
  cases WinchState.ofCode (u8 payload 8) with
  | none => simp
  | some w => simp

/-- R106: the move is done. -/
theorem positionWatched_of_done {payload : List Byte} (hrx : s.loop.rx = none) (hdone : reportsDone payload = true)
    (hmode : s.loop.grant.mode ≠ .hold) (hstate : s.loop.grant.state = .held) :
    (positionWatched payload s).loop.grant.state = .closing ∧
      (positionWatched payload s).loop.grant.wait =
        some
          { length := cfgReplyTimeout s.tbl.config,
            expiry := some (s.fineNow + cfgReplyTimeout s.tbl.config * loopChar s.loop.rate) } := by
  have hcloses : (positionAdded s).loop.grant.state = .held ∧ (positionAdded s).loop.grant.mode ≠ .hold := ⟨hstate, hmode⟩
  rw [positionWatched, if_pos hdone, grantDone, if_pos hcloses]
  refine ⟨rfl, ?_⟩
  simp [startClaimWait, positionAdded, hrx, State.charsFrom, State.fineNow]

theorem positionWatched_of_going {payload : List Byte}
    (h : reportsDone payload = false ∨ s.loop.grant.mode = .hold ∨ s.loop.grant.state ≠ .held) :
    positionWatched payload s = positionAdded s := by
  unfold positionWatched
  split
  · next hdone =>
    refine if_neg fun ⟨hstate, hmode⟩ => ?_
    obtain h | h | h := h
    · simp [h] at hdone
    · exact hmode h
    · exact h hstate
  · rfl

theorem positionWatched_state (payload : List Byte) (hrx : s.loop.rx = none) :
    (positionWatched payload s).loop.grant.state =
      if reportsDone payload = true ∧ s.loop.grant.mode ≠ .hold ∧ s.loop.grant.state = .held then .closing
      else s.loop.grant.state := by
  split
  · next h => exact (positionWatched_of_done hrx h.1 h.2.1 h.2.2).1
  · next h =>
    rw [positionWatched_of_going]
    · rfl
    · by_contra hnot
      simp only [not_or, Bool.not_eq_false, not_not] at hnot
      exact h hnot

theorem positionWatched_held (payload : List Byte) (hrx : s.loop.rx = none) (h : s.loop.grant.held = true) :
    (positionWatched payload s).loop.grant.held = true := by
  rw [Grant.held_iff, positionWatched_state payload hrx]
  split
  · simp
  · exact (Grant.held_iff _).mp h

/-! ## The grant after the frame -/

/-- CHT leaves the grant, and what its handling reads, as it found them, and RUN as `r`. -/
structure WatchStart (a : Byte) (r : Run) (s u : State) : Prop where
  grant : u.loop.grant = (grantHeardLoop a s).grant := by simp
  rx : u.loop.rx = (grantHeardLoop a s).rx := by simp
  rate : u.loop.rate = (grantHeardLoop a s).rate := by simp
  tbl : u.tbl = s.tbl := by simp
  clk : u.clk = s.clk := by simp
  run : u.run = r := by simp

section
variable {r : Run} (e : WatchStart a r s u) (h : GrantHeld s)
include e

theorem WatchStart.grant_eq :
    u.loop.grant =
      { s.loop.grant with
        wait := s.loop.grant.wait.map fun w =>
          { w with expiry := some (s.fineNow + w.length * loopChar s.loop.rate) } } := by
  obtain ⟨-, -, -, -, -, -, -, -, hgrant⟩ := grantHeardLoop_frame a s
  exact e.grant.trans hgrant

theorem WatchStart.rx_none : u.loop.rx = none := e.rx.trans (grantHeardLoop_frame a s).1

theorem WatchStart.rate_eq : u.loop.rate = s.loop.rate := by
  obtain ⟨-, -, -, -, -, hrate, -⟩ := grantHeardLoop_frame a s
  exact e.rate.trans hrate

theorem WatchStart.fineNow_eq : u.fineNow = s.fineNow := by simp only [State.fineNow, e.clk]

/-- R111: the grant that the frame ends. -/
theorem WatchStart.closed (cause : GrantEnd) :
    GrantEnded cause s.loop.grant.count s (settle (closeGrant cause u)) ∧
      (settle (closeGrant cause u)).run.state = r.state ∧ (settle (closeGrant cause u)).run.position = r.position ∧
      (settle (closeGrant cause u)).run.record = r.record ∧ (settle (closeGrant cause u)).run.vertical = r.vertical ∧
      (settle (closeGrant cause u)).run.marker = r.marker := by
  have hended := closeGrant_ended cause u
  rw [e.grant_eq] at hended
  exact ⟨(hended.congr e.tbl.symm e.clk.symm rfl rfl).settleFrom _, by simp [e.run]⟩

include h

theorem WatchStart.held : u.loop.grant.held = true := by
  rw [e.grant_eq]
  exact h.held

/-- R104 to R107: the frame leaves the grant. -/
theorem WatchStart.kept :
    (settle u).run = r ∧ (settle u).loop.grant.state = s.loop.grant.state ∧
      (settle u).loop.grant.count = s.loop.grant.count ∧ (settle u).loop.grant.timerAt = s.loop.grant.timerAt ∧
      ClaimWaitRestarted s (settle u) := by
  have hstands := settle_grant_of_held (e.held h)
  exact ⟨by simp [e.run], by rw [hstands, e.grant_eq], by rw [hstands, e.grant_eq], by rw [hstands, e.grant_eq],
    .settle (by rw [e.grant_eq]) (by rw [e.grant_eq])⟩

/-- R104 to R106, R111: a POSITION of the granted node. -/
theorem WatchStart.counted (payload : List Byte) : PositionCounted payload r s (settle (countPosition payload u)) := by
  have hgrant := e.grant_eq
  have hcount : u.loop.grant.count = s.loop.grant.count := by rw [hgrant]
  have hlimit : u.loop.grant.limit = s.loop.grant.limit := by rw [hgrant]
  have hmode : u.loop.grant.mode = s.loop.grant.mode := by rw [hgrant]
  have hstate : u.loop.grant.state = s.loop.grant.state := by rw [hgrant]
  have hbelow (hroom : s.loop.grant.count + 1 < s.loop.grant.limit) :
      countPosition payload u = positionWatched payload u := by
    rw [countPosition_eq, if_neg (by omega)]
  have hstands := settle_grant_of_held (positionWatched_held payload e.rx_none (e.held h))
  constructor
  case counted =>
    intro hroom
    rw [hbelow hroom, hstands]
    simp [e.run, hgrant]
  case done =>
    intro hroom hdone hhold hheld
    rw [hbelow hroom, hstands, ← e.tbl, ← e.fineNow_eq, ← e.rate_eq]
    exact positionWatched_of_done e.rx_none ((reportsDone_iff _).mpr hdone) (by rwa [hmode]) (by rwa [hstate])
  case goesOn =>
    intro hroom hgoing
    rw [← reportsDone_iff, Bool.not_eq_true] at hgoing
    have hsame := positionWatched_of_going (s := u) (payload := payload) (by rwa [hmode, hstate])
    rw [hsame] at hstands
    rw [hbelow hroom, hsame]
    exact ⟨by rw [hstands]; exact hstate, .settle hstate (congrArg Grant.wait hgrant)⟩
  case limit =>
    intro hfull
    have hended := closeGrant_ended .limit (positionWatched payload u)
    simp only [positionWatched_frame, hcount] at hended
    rw [countPosition_eq, if_pos (by omega)]
    exact ⟨(hended.congr (by simp [e.tbl]) (by simp [e.clk]) rfl rfl).settleFrom _, by simp [e.run]⟩

/-- R104 to R107, R111: what the grant makes of a good frame. -/
theorem WatchStart.watches {own ends : Bool} {handed : Prop} (hown : own = decide (a.toNat = s.loop.grant.node))
    (hends : ends = true ↔ handed) (hkind : handed → b.kind ≠ 18) :
    GrantWatches a b handed r s (settle (watchGrant own ends b u)) := by
  constructor
  case counted =>
    intro hsame hposition
    rw [hown, decide_eq_true hsame, watchGrant_position hposition]
    exact e.counted h b.payload
  case ended =>
    intro hsame hburst
    have hstate : u.loop.grant.state = s.loop.grant.state := by rw [e.grant_eq]
    rw [hown, decide_eq_true hsame, hends.mpr hburst, watchGrant_burst (hkind hburst), burstEnd, hstate]
    exact e.closed _
  case kept =>
    intro hnot
    rw [watchGrant_kept]
    · exact e.kept h
    · exact hnot.imp (fun hother => by rw [hown, decide_eq_false hother])
        fun ⟨hposition, hnone⟩ => ⟨hposition, Bool.eq_false_iff.mpr (mt hends.mp hnone)⟩

end

end

end Sys2Proof.Machine
end

section
/-! The good frames of a grant (R89 to R98, R104 to R107, R134 to R151). -/

namespace Sys2Proof.Machine

set_option Elab.async false

/-! ## The judgement of a POSITION and the grant (R109) -/

/-- The judgement claims a held grant exactly where it has aborted a working run. -/
structure ClaimedByAbort (s u : State) : Prop where
  claimed : s.run.state.working = true → u.run.state = .retrieve →
    u.loop.grant.state = .claiming ∧ u.loop.grant.cause = some .runEngine
  kept : s.run.state.working = false ∨ u.run.state ≠ .retrieve → u.loop.grant = s.loop.grant

section
variable {s u : State} {p : Position} {answers : Option Nat}

theorem ClaimedByAbort.of_kept (state : s.run.state.working = false ∨ u.run.state ≠ .retrieve)
    (grant : u.loop.grant = s.loop.grant := by simp) : ClaimedByAbort s u where
  claimed hwork hretrieve := by
    obtain hnot | hnot := state
    · simp [hwork] at hnot
    · exact absurd hretrieve hnot
  kept _ := grant

theorem Loop.claim_runEngine {l : Loop} (h : l.grant.held = true) :
    (l.claim .runEngine).grant.state = .claiming ∧ (l.claim .runEngine).grant.cause = some .runEngine := by
  unfold Loop.claim
  obtain h | h | h := (Grant.held_iff _).mp h <;> simp [h]

theorem abortRun_claims (cause : RunOutcome) (hheld : s.loop.grant.held = true) (hwork : s.run.state.working = true) :
    ClaimedByAbort s (abortRun cause s) where
  claimed _ _ := by
    rw [abortRun, if_pos hwork]
    simpa using Loop.claim_runEngine hheld
  kept hnot := by
    obtain ⟨hretrieve, -⟩ := abortRun_aborted cause hwork
    obtain hnot | hnot := hnot
    · simp [hwork] at hnot
    · exact absurd hretrieve.state hnot

theorem judgeConfirm_claims {r : RunRec} {v : Vertical} (hheld : s.loop.grant.held = true)
    (hwork : s.run.state.working = true) : ClaimedByAbort s (judgeConfirm r v p s) := by
  unfold judgeConfirm
  split
  · exact .of_kept (.inr (by simp [resumeTraverse, Run.enter]))
  · split
    · exact .of_kept (.inr (by simp [enterSurfaceSeek, Run.enter]))
    · unfold failTraverse
      split
      · exact .of_kept (.inr (by simp [enterTraverse, Run.enter]))
      · exact abortRun_claims _ hheld hwork

theorem completeVertical_claims {r : RunRec} {v : Vertical} : ClaimedByAbort s (completeVertical r v s) := by
  refine .of_kept (.inr ?_)
  unfold completeVertical
  dsimp only
  split
  · simp [enterTraverse, Run.enter]
  · rw [enterClose_of_verticals (by simp)]
    simp [closingRun, Run.enter]

theorem ClaimedByAbort.refl (s : State) : ClaimedByAbort s s := by
  refine .of_kept ?_ rfl
  by_cases hretrieve : s.run.state = .retrieve
  · exact .inl (by simp [hretrieve, RunState.working])
  · exact .inr hretrieve

theorem ClaimedByAbort.whenever {f : State → State} (b : Bool) (h : ClaimedByAbort s (f s)) :
    ClaimedByAbort s (Machine.whenever b f s) := by
  cases b
  · exact .refl s
  · exact h

theorem judgePosition_claims (hheld : s.loop.grant.held = true) : ClaimedByAbort s (judgePosition p answers s) := by
  by_cases hfault : (s.run.state.working && p.winch == .fault) = true
  · obtain ⟨hwork, -⟩ := Bool.and_eq_true_iff.mp hfault
    rw [judgePosition, if_pos hfault]
    exact abortRun_claims _ hheld hwork
  · rw [judgePosition, if_neg hfault]
    split
    · exact .whenever _ (.of_kept (.inr (by simp)))
    · next hstate _ _ => exact judgeConfirm_claims hheld (by simp [hstate, RunState.working])
    · exact .whenever _ (.of_kept (.inr (by rw [enterSettle_state]; split <;> simp)))
    · exact .whenever _ completeVertical_claims
    · next hstate =>
      split
      · exact .of_kept (.inl (by simp [hstate, RunState.working]))
      · exact .whenever _ (.of_kept (.inl (by simp [hstate, RunState.working])))
    · next hstate => exact .whenever _ (.of_kept (.inl (by simp [hstate, RunState.working])))
    · exact .refl s

/-! ## The judged POSITION of the granted node, counted (R104 to R106) -/

/-- A state in which what was judged stands, with the places of LOOP. -/
theorem JudgedOn.of_carriedOn {obtains granted : Prop} {t : State} (e : CarriedOn u t) (clk : t.clk = u.clk := by simp)
    (tbl : t.tbl = u.tbl := by simp) (pls : t.pls = u.pls := by simp) (rat : t.rat = u.rat := by simp)
    (store : t.store = u.store := by simp) : JudgedOn obtains granted u t := by
  have hrun := e.run
  constructor
  case handed => exact fun _ _ k a h => h.carriedOn e
  case enquiryAt => exact fun _ => by rw [hrun]
  case clk => exact clk
  case tbl => exact tbl
  case pls => exact pls
  case rat => exact rat
  case store => exact store
  all_goals rw [hrun]

theorem runGrantEnded_still (h : u.run.state = .idle ∨ u.run.state = .retrieve) :
    runGrantEnded u = u.setRun { u.run with grantKnown := none } := by
  have hmoves : u.run.state.moves = false := by obtain h | h := h <;> rw [h] <;> rfl
  have hverify : u.run.state ≠ .verify := by obtain h | h := h <;> simp [h]
  rw [runGrantEnded, if_neg (by simp [hmoves]), if_neg fun ⟨h, _⟩ => hverify h]

/-- LOOP with the grant ended. -/
def closedLoop (cause : GrantEnd) (u : State) : Loop :=
  { u.loop.endGrant cause (cfgInterleave u.tbl.config) u.now with rx := u.loop.rx.map RxFrame.orphan }

theorem closeGrant_still (cause : GrantEnd) (h : u.run.state = .idle ∨ u.run.state = .retrieve) :
    closeGrant cause u = (u.setLoop (closedLoop cause u)).setRun { u.run with grantKnown := none } :=
  runGrantEnded_still (u := u.setLoop (closedLoop cause u)) h

/-- R111: the end of a grant hands nothing that could replace a RETRIEVE. -/
theorem closeGrant_judgedOn (cause : GrantEnd) (u : State) : JudgedOn False True u (closeGrant cause u) where
  enquiryAt hidle := by
    rw [closeGrant_still cause (.inl hidle)]
    rfl
  handed hwhen _ k a := by
    obtain hno | hretrieve | ⟨-, hno⟩ := hwhen
    · exact hno.elim
    · rw [closeGrant_still cause (.inr hretrieve)]
      exact id
    · exact (hno trivial).elim

theorem positionWatched_carriedOn (payload : List Byte) (u : State) : CarriedOn u (positionWatched payload u) := .of_places

/-- The count of a POSITION at the burst limit ends the grant, which the run outlives only by its move. -/
theorem countPosition_judgedOn (payload : List Byte) (u : State) :
    JudgedOn (u.loop.grant.count + 1 < u.loop.grant.limit) True u (countPosition payload u) := by
  rw [countPosition_eq]
  split
  · next hfull =>
    have hroom : (u.loop.grant.count + 1 < u.loop.grant.limit) = False := eq_false (by omega)
    rw [hroom]
    exact .trans (.of_carriedOn (positionWatched_carriedOn payload u)) (closeGrant_judgedOn .limit _)
  · exact .of_carriedOn (positionWatched_carriedOn payload u)

end

end Sys2Proof.Machine
end

section
/-! A grant while stage samples are judged (R55, R92, R109), and where a grant's frame belongs (R89 to R97). -/

namespace Sys2Proof.Machine

set_option Elab.async false

/-! ## A held grant under the evaluation of a sample -/

/-- A held grant stays in its state or is claimed. -/
structure GrantStands (s t : State) : Prop where
  stands : s.loop.grant.held = true → t.loop.grant.state = s.loop.grant.state ∨ t.loop.grant.state = .claiming

section
variable {s t u : State}

theorem GrantStands.of_loop (loop : t.loop = s.loop := by simp) : GrantStands s t := ⟨fun _ => .inl (by rw [loop])⟩

theorem GrantStands.held (h : GrantStands s t) (hheld : s.loop.grant.held = true) : t.loop.grant.held = true := by
  rw [Grant.held_iff]
  obtain hsame | hclaiming := h.stands hheld
  · rw [hsame]
    exact (Grant.held_iff _).mp hheld
  · exact .inr (.inr hclaiming)

theorem GrantStands.trans (h : GrantStands s u) (k : GrantStands u t) : GrantStands s t where
  stands hheld := (k.stands (h.held hheld)).elim (fun hsame => hsame ▸ h.stands hheld) .inr

/-- What goes before leaves LOOP. -/
theorem GrantStands.after (k : GrantStands u t) (loop : u.loop = s.loop := by simp) : GrantStands s t :=
  .trans (.of_loop loop) k

theorem imposeInterlock_grantStands (s : State) : GrantStands s (imposeInterlock s) where
  stands hheld := by
    have hclaiming := Loop.claim_claiming .warning ((Grant.held_iff _).mp hheld)
    rw [imposeInterlock, abortRun_claiming .abortedWarning (by simpa using hclaiming)]
    exact .inr rfl

theorem rise_grantStands (target : Nat) (s : State) : GrantStands s (rise target s) := by
  unfold rise
  dsimp only
  split
  · exact (imposeInterlock_grantStands _).after
  · exact .of_loop

theorem applyTarget_grantStands (s : State) : GrantStands s (applyTarget s) := by
  unfold applyTarget
  dsimp only
  split
  · exact (rise_grantStands _ _).after
  · split
    · exact .of_loop
    · exact .of_loop

theorem wrnStage_grantStands (stage : Int) (discharge : Option Nat) (s : State) :
    GrantStands s (wrnStage stage discharge s) := by
  unfold wrnStage endEvaluation
  exact (applyTarget_grantStands _).after

theorem publish_grantStands (s : State) : GrantStands s (publish s) := by
  unfold publish
  split
  · exact .of_loop
  · dsimp only
    generalize hw : wrnStage _ _ _ = w
    have hstands : GrantStands s w := by
      rw [← hw]
      exact (wrnStage_grantStands _ _ _).after
    exact ⟨hstands.stands⟩

theorem acceptedState_loop (src : Source) (v : Sample) (t : Nat) (s : State) :
    (acceptedState src v t s).loop = s.loop := by
  unfold acceptedState
  dsimp only
  split
  · simp
  · simp

theorem accept_grantStands (src : Source) (v : Sample) (t : Nat) (s : State) : GrantStands s (accept src v t s) := by
  rw [accept_eq]
  split
  · exact (publish_grantStands _).after (acceptedState_loop src v t s)
  · exact .of_loop (acceptedState_loop src v t s)

theorem judgeSample_grantStands (src : Source) (v : Sample) (t : Nat) (s : State) :
    GrantStands s (judgeSample src v t s) := by
  unfold judgeSample
  dsimp only
  split
  · exact accept_grantStands ..
  · split
    · exact accept_grantStands ..
    · exact .of_loop
  · split
    · exact .after (.trans (accept_grantStands ..) (accept_grantStands ..))
    · split
      · exact (accept_grantStands ..).after
      · exact .of_loop

/-! ## The entry's handling of a grant's frame -/

variable {i : Nat} {a : Byte} {b : FrameBody} {f : GoodFrame} {r : Run}

theorem handleEntry_norole (h : 5 ≤ (chanEntry s.tbl.channels i).role) :
    handleEntry i f s = s.onStats i fun e => e.after false false none := by
  have hcode : Role.ofCode (s.chan i).role = none := by
    obtain ⟨n, hn⟩ := Nat.exists_eq_add_of_le' h
    have hrole : (s.chan i).role = n + 5 := hn
    rw [hrole]
    rfl
  simp only [handleEntry, hcode]
  rfl

/-- A service request leaves RUN and the grant. -/
theorem handleEntry_service_grant (hrole : (chanEntry s.tbl.channels i).role = 4) (hkind : f.kind = 20) :
    (handleEntry i f s).loop.grant = s.loop.grant ∧ (handleEntry i f s).run = s.run := by
  rw [handleEntry_service hrole hkind]
  split
  · exact ⟨rfl, rfl⟩
  · simp

/-- R91 to R96: a frame other than a stage sample leaves the grant, and RUN as it hears the frame. -/
theorem handleEntry_hears (hnow : f.arrival = s.now) (hkind : f.kind = b.kind) (hpayload : f.payload = b.payload)
    (hnot : b.kind ≠ 16 ∨ 2 ≤ (chanEntry s.tbl.channels i).role) (hheld : ¬ InHeldPlace s f.addr.toNat b.kind)
    (hears : RunHears i f.addr.toNat b s r) :
    (handleEntry i f s).loop.grant = s.loop.grant ∧ (handleEntry i f s).run = r := by
  obtain ⟨hposition, hother⟩ := hears
  have hcounts {g : EntryStats → EntryStats} (hrun : r = s.run) (h : handleEntry i f s = s.onStats i g) :
      (handleEntry i f s).loop.grant = s.loop.grant ∧ (handleEntry i f s).run = r := by
    rw [h, hrun]
    exact ⟨rfl, rfl⟩
  by_cases hempty : b.kind = 17
  · exact hcounts (hother (.inl (by rw [hempty]; decide))) (handleEntry_empty (hkind.trans hempty))
  · have hfempty : f.kind ≠ 17 := by rwa [hkind]
    obtain hrole | hrole | hrole | hrole | hrole : (chanEntry s.tbl.channels i).role ≤ 1 ∨
        (chanEntry s.tbl.channels i).role = 2 ∨ (chanEntry s.tbl.channels i).role = 3 ∨
        (chanEntry s.tbl.channels i).role = 4 ∨ 5 ≤ (chanEntry s.tbl.channels i).role := by omega
    · have hsample : b.kind ≠ 16 := hnot.resolve_right (by omega)
      exact hcounts (hother (.inr (.inl (by omega)))) (handleEntry_kind hfempty (.inl ⟨hrole, by rwa [hkind]⟩))
    · by_cases h18 : b.kind = 18
      · have hfree : s.run.held ≠ some f.addr.toNat := fun h => hheld ⟨.inl h18, h⟩
        by_cases hp : ∃ p, HoldsPosition b.payload f.addr.toNat s p
        · obtain ⟨p, hp⟩ := hp
          rw [handleEntry_position_good hrole (hkind.trans h18) hnow hfree (hpayload ▸ hp)]
          refine ⟨rfl, ?_⟩
          by_cases hnone : s.run.held = none
          · rw [hposition p h18 hrole hnone hp]
            exact if_pos hnone
          · rw [hother (.inr (.inr (.inl hnone)))]
            exact if_neg hnone
        · rw [not_exists] at hp
          exact hcounts (hother (.inr (.inr (.inr hp))))
            (handleEntry_position_bad hrole (hkind.trans h18) hnow (hpayload ▸ hp))
      · have hrun := hother (.inl h18)
        by_cases h19 : b.kind = 19
        · exact hcounts hrun (handleEntry_burst hrole (hkind.trans h19))
        · exact hcounts hrun (handleEntry_kind hfempty (.inr (.inl ⟨hrole, by rwa [hkind], by rwa [hkind]⟩)))
    · rw [handleEntry_forward hrole hfempty, hother (.inr (.inl (by omega)))]
      simp
    · have hrun := hother (.inr (.inl (by omega)))
      by_cases h20 : b.kind = 20
      · rw [hrun]
        exact handleEntry_service_grant hrole (hkind.trans h20)
      · exact hcounts hrun (handleEntry_kind hfempty (.inr (.inr ⟨hrole, by rwa [hkind]⟩)))
    · exact hcounts (hother (.inr (.inl (by omega)))) (handleEntry_norole hrole)

/-- R92: a stage sample leaves a held grant, or claims it. -/
theorem handleEntry_sample_grantStands (hrole : (chanEntry s.tbl.channels i).role ≤ 1) (hkind : f.kind = 16) :
    GrantStands s (handleEntry i f s) := by
  cases hfault : sampleFault (chanEntry s.tbl.channels i).index f.payload with
  | none =>
    rw [handleEntry_sample_good hrole hkind hfault]
    generalize hw : judgeSample _ _ _ s = w
    have hstands : GrantStands s w := by
      rw [← hw]
      exact judgeSample_grantStands ..
    exact hstands.trans .of_loop
  | some d =>
    rw [handleEntry_sample_bad hrole hkind hfault]
    exact .of_loop

end

end Sys2Proof.Machine
end

section
/-! The good frames of a grant, by where they belong (R89 to R98, R104 to R107, R134 to R151). -/

namespace Sys2Proof.Machine

set_option Elab.async false

/-- An event that LOOP and CTL take part in. -/
theorem EventFrame.of_loop_ctl {bs : List Block} {s t : State} (others : ChangesOnly (.loop :: .ctl :: bs) s t)
    (hloop : .loop ∈ bs) (hctl : .ctl ∈ bs) : EventFrame bs s t :=
  ⟨others, fun h => absurd hctl h, fun h => absurd hloop h⟩

section
variable {s u : State} {a : Byte} {b : FrameBody} {i : Nat} {r : Run} {p : Position}

/-! ## The BURST-END that CHT hands on (R95, R107) -/

theorem endsBurst_of_other (hkind : b.kind ≠ 19) : s.endsBurst (grantFrame a b s) = false := by
  have hburst : ¬ (grantFrame a b s).kind = kindBurstEnd := hkind
  simp [State.endsBurst, hburst]

theorem endsBurst_of_payload (h : b.payload ≠ []) : s.endsBurst (grantFrame a b s) = false := by
  have hpayload : (grantFrame a b s).payload ≠ [] := h
  simp [State.endsBurst, hpayload]

theorem endsBurst_held (hheld : InHeldPlace s a.toNat b.kind) (hkind : b.kind = 19) (hpayload : b.payload = []) :
    s.endsBurst (grantFrame a b s) = true := by
  have hburst : (grantFrame a b s).kind = kindBurstEnd := hkind
  have hempty : (grantFrame a b s).payload = [] := hpayload
  have hplace : s.placeOf (grantFrame a b s) = .held := if_pos hheld
  simp [State.endsBurst, hburst, hempty, hplace]

theorem endsBurst_entry (hplace : s.placeOf (grantFrame a b s) = .entry i) :
    s.endsBurst (grantFrame a b s) = true ↔
      b.kind = 19 ∧ b.payload = [] ∧ (chanEntry s.tbl.channels i).role = 2 := by
  have hrole : Role.ofCode (s.chan i).role = some .winch ↔ (s.chan i).role = 2 := by
    constructor
    · intro h
      unfold Role.ofCode at h
      split at h <;> simp_all
    · intro h
      rw [h]
      rfl
  unfold State.endsBurst
  rw [hplace]
  simp only [Bool.and_eq_true, beq_iff_eq, hrole, List.isEmpty_iff, and_assoc]
  rfl

theorem endsBurst_unknown (hplace : s.placeOf (grantFrame a b s) = .unknown) :
    s.endsBurst (grantFrame a b s) = false := by
  simp [State.endsBurst, hplace]

/-! ## Where the grant's frame belongs -/

theorem placeOf_grantFrame (hheld : ¬ InHeldPlace s a.toNat b.kind) (hnames : Names s i a.toNat)
    (hlow : ∀ j, j < i → ¬ Names s j a.toNat) : s.placeOf (grantFrame a b s) = .entry i :=
  placeOf_of_lowest hheld (polledEntry_of_unpolled rfl) hnames hlow

theorem classify_grantFrame (hheld : ¬ InHeldPlace s a.toNat b.kind) (hnames : Names s i a.toNat)
    (hlow : ∀ j, j < i → ¬ Names s j a.toNat) :
    classify (grantFrame a b s) (grantHeardState a s) = handleEntry i (grantFrame a b s) (grantHeardState a s) :=
  classify_entry (placeOf_grantFrame hheld hnames hlow)

theorem grantHeardState_holds {payload : List Byte} {addr : Nat} :
    HoldsPosition payload addr (grantHeardState a s) p ↔ HoldsPosition payload addr s p :=
  ⟨fun ⟨h1, h2, h3, h4, h5⟩ => ⟨h1, h2, h3, h4, h5⟩, fun ⟨h1, h2, h3, h4, h5⟩ => ⟨h1, h2, h3, h4, h5⟩⟩

/-! ## The frame handled by its role -/

theorem Forwarded.watched {wanted own ends : Bool} {addr : Nat} {b' : FrameBody} (h : Forwarded wanted i addr b s u) :
    Forwarded wanted i addr b s (Machine.settle (watchGrant own ends b' u)) := by
  obtain ⟨hqueue, hnext, hbuffer⟩ := h
  exact Forwarded.settle ⟨by simpa using hqueue, by simpa using hnext, fun it hit => by simpa using hbuffer it hit⟩

theorem watchGrant_counted (own ends : Bool) (b : FrameBody) (g : EntryStats → EntryStats) (a : Byte) :
    EventFrame [.loop, .cht, .run] s (settle (watchGrant own ends b ((grantHeardState a s).onStats i g))) ∧
      Counted i g s (settle (watchGrant own ends b ((grantHeardState a s).onStats i g))) := by
  unfold grantHeardState
  exact ⟨.of_loop .of_blocks (by simp), by simp [Counted]⟩

theorem settle_counted (g : EntryStats → EntryStats) (a : Byte) :
    EventFrame [.loop, .cht] s (settle ((grantHeardState a s).onStats i g)) ∧
      Counted i g s (settle ((grantHeardState a s).onStats i g)) := by
  unfold grantHeardState
  exact ⟨.of_loop .of_blocks (by simp), by simp [Counted]⟩

/-- The frame under its entry, the grant having been told of it. -/
def grantHandled (i : Nat) (a : Byte) (b : FrameBody) (s : State) : State :=
  settle (watchGrant (decide (a.toNat = s.loop.grant.node)) (s.endsBurst (grantFrame a b s)) b
    (handleEntry i (grantFrame a b s) (grantHeardState a s)))

theorem grantHandled_unwatched (h18 : b.kind ≠ 18) (h19 : b.kind ≠ 19) :
    grantHandled i a b s = settle (handleEntry i (grantFrame a b s) (grantHeardState a s)) := by
  rw [grantHandled, endsBurst_of_other h19, watchGrant_kept (.inr ⟨h18, rfl⟩)]

theorem grantHandled_sample (hkind : b.kind = 16) (hrole : (chanEntry s.tbl.channels i).role ≤ 1)
    (hfault : sampleFault (chanEntry s.tbl.channels i).index b.payload = none) :
    EventFrame [.loop, .cht, .stg, .rat, .wrn, .run, .pls, .store, .upl] s (grantHandled i a b s) ∧
      Forwarded ((chanEntry s.tbl.channels i).alsoForward == 1) i a.toNat b s (grantHandled i a b s) ∧
      SampleDelivered i b.payload s (grantHandled i a b s) ∧
      Counted i
        (fun e =>
          { e.after true ((chanEntry s.tbl.channels i).alsoForward == 1) none with
            nodeStatus := some 0, lastDelivery := some s.now }) s (grantHandled i a b s) := by
  have hdelivered := handleEntry_sampleDelivered (f := grantFrame a b s) (grantHeardLoop_sideOnly a s) hrole hkind rfl
    hfault
  have hhandled := handleEntry_sample_good (s := grantHeardState a s) (f := grantFrame a b s) hrole hkind hfault
  rw [← grantHeardState] at hdelivered
  rw [grantHandled_unwatched (by rw [hkind]; decide) (by rw [hkind]; decide)]
  refine ⟨?_, ?_, hdelivered, ?_⟩
  all_goals rw [hhandled]
  all_goals generalize scaleSample _ _ _ = c
  · unfold grantHeardState
    exact .of_loop .of_blocks (by simp)
  · have hforwarded := forwardIf_forwarded (i := i) (wanted := (chanEntry s.tbl.channels i).alsoForward == 1) (b := b)
      (f := grantFrame a b s)
      (u := (judgeSample (stageSource (chanEntry s.tbl.channels i).role) c s.now (grantHeardState a s)).onStats i
        fun e =>
          { e.after true ((chanEntry s.tbl.channels i).alsoForward == 1) none with
            nodeStatus := some 0, lastDelivery := some s.now }) rfl rfl
    refine (hforwarded.of_start ?_ ?_ ?_ fun it hit => ?_).settle
    · simp [grantHeardState]
    · simp [grantHeardState]
    · simp [grantHeardState]
    · exact judgeSample_buffer _ _ _ (s := grantHeardState a s) hit
  · unfold grantHeardState
    simp [Counted, grantFrame]

theorem grantHandled_byRole (hheld : ¬ InHeldPlace s a.toNat b.kind) :
    HandledByRole i a.toNat b s (grantHandled i a b s) where
  empty hkind := by
    rw [grantHandled_unwatched (by rw [hkind]; decide) (by rw [hkind]; decide), handleEntry_empty hkind]
    exact settle_counted _ a
  forward hkind hrole := by
    have hforwarded := forwardAdd_forwarded (i := i) (b := b) (f := grantFrame a b s)
      (u := (grantHeardState a s).onStats i fun e => e.after false true none) rfl rfl
    rw [grantHandled, handleEntry_forward (s := grantHeardState a s) hrole hkind]
    refine ⟨?_, ?_, (hforwarded.of_start rfl rfl rfl fun _ => id).watched⟩
    all_goals unfold grantHeardState
    · exact .of_loop .of_blocks (by simp)
    · simp [Counted]
  kind hkind hrole := by
    rw [grantHandled, handleEntry_kind hkind hrole]
    exact watchGrant_counted ..
  sampleBad d hkind hrole hfault := by
    have hforwarded := forwardIf_forwarded (i := i) (wanted := (chanEntry s.tbl.channels i).alsoForward == 1) (b := b)
      (f := grantFrame a b s)
      (u := (grantHeardState a s).onStats i fun e =>
        { e.after false ((chanEntry s.tbl.channels i).alsoForward == 1) (some d) with
          nodeStatus := if d = .nodeFault then b.payload.head? else e.nodeStatus }) rfl rfl
    rw [grantHandled_unwatched (by rw [hkind]; decide) (by rw [hkind]; decide),
      handleEntry_sample_bad (s := grantHeardState a s) (f := grantFrame a b s) hrole hkind hfault]
    refine ⟨?_, (hforwarded.of_start rfl rfl rfl fun _ => id).settle, ?_⟩
    all_goals unfold grantHeardState
    · exact .of_loop .of_blocks (by simp)
    · simp [Counted, grantFrame]
  sample hkind hrole hfault := grantHandled_sample hkind hrole hfault
  position hkind hrole := by
    have hfree : s.run.held ≠ some a.toNat := fun h => hheld ⟨.inl hkind, h⟩
    by_cases hp : ∃ p, HoldsPosition b.payload a.toNat s p
    · obtain ⟨p, hp⟩ := hp
      have hhandled := handleEntry_position_good (s := grantHeardState a s) (f := grantFrame a b s) hrole hkind rfl hfree
        (grantHeardState_holds.mpr hp)
      rw [grantHandled, hhandled]
      have hcounted : Counted i (fun e => e.after true false none) s
          (settle (watchGrant (decide (a.toNat = s.loop.grant.node)) (s.endsBurst (grantFrame a b s)) b
            (((grantHeardState a s).onStats i fun e => e.after true false none).setRun
              ((grantHeardState a s).run.hears p)))) := by
        unfold grantHeardState
        simp [Counted]
      refine ⟨?_, fun hnone => absurd hp (hnone p), fun _ _ => hcounted⟩
      unfold grantHeardState
      exact .of_loop .of_blocks (by simp)
    · rw [not_exists] at hp
      rw [grantHandled, handleEntry_position_bad (s := grantHeardState a s) (f := grantFrame a b s) hrole hkind rfl
        fun p h => hp p (grantHeardState_holds.mp h)]
      obtain ⟨hframe, hcounted⟩ := watchGrant_counted (s := s) (i := i) (decide (a.toNat = s.loop.grant.node))
        (s.endsBurst (grantFrame a b s)) b (fun e => e.after false false (some .form)) a
      exact ⟨hframe, fun _ => hcounted, fun p h => absurd h (hp p)⟩
  burstEnd hkind hrole := by
    rw [grantHandled, handleEntry_burst (s := grantHeardState a s) (f := grantFrame a b s) hrole hkind]
    exact watchGrant_counted ..
  service hkind hrole := by
    obtain ⟨-, -, -, -, -, -, hqueue, hdropped, -⟩ := grantHeardLoop_frame a s
    have hasked := handleEntry_serviceAsked (s := s) (l := grantHeardLoop a s) (i := i) (b := b)
      (f := grantFrame a b s) hrole hkind rfl hqueue hdropped
    rw [grantHandled_unwatched (by rw [hkind]; decide) (by rw [hkind]; decide)]
    refine ⟨?_, ?_, ?_, hasked⟩
    all_goals rw [handleEntry_service (s := grantHeardState a s) (f := grantFrame a b s) hrole hkind]
    all_goals unfold grantHeardState
    · split
      · exact .of_loop_ctl .of_blocks (by simp) (by simp)
      · exact .of_loop_ctl .of_blocks (by simp) (by simp)
    · split <;> simp
    · split <;> simp

end

end Sys2Proof.Machine
end

section
/-! The frames of a grant: its own POSITIONs and BURST-ENDs, and the other good frames (R89, R95, R104 to R107, R109, R134). -/

namespace Sys2Proof.Machine

set_option Elab.async false

section
variable {s u : State} {a : Byte} {b : FrameBody} {i : Nat} {r : Run} {p : Position}

/-! ## A POSITION of the held winch under a grant -/

/-- The state in which the POSITION `p` of the held winch is judged. -/
def grantPositioned (a : Byte) (p : Position) (s : State) : State :=
  positioned p ((grantHeardState a s).setCht s.cht.winchMore)

/-- The POSITION judged, before the grant counts it. -/
def grantJudged (a : Byte) (p : Position) (s : State) : State := judgePosition p none (grantPositioned a p s)

theorem classify_grantJudged (hkind : b.kind = 18) (hheld : s.run.held = some a.toNat)
    (hp : HoldsPosition b.payload a.toNat s p) :
    classify (grantFrame a b s) (grantHeardState a s) = grantJudged a p s :=
  classify_held_position hkind hheld rfl (grantHeardState_holds.mpr hp)

theorem grantJudged_judged (a : Byte) (p : Position) (s : State) : PositionJudged p none True s (grantJudged a p s) := by
  obtain ⟨-, -, -, -, -, -, -, -, hgrant⟩ := grantHeardLoop_frame a s
  exact (judgePosition_judged p none ((grantHeardState a s).setCht s.cht.winchMore)).of_setLoop (s := s)
    fun x => by simp only [Loop.grantedTo, hgrant]; rfl

theorem grantJudged_frame (a : Byte) (p : Position) (s : State) :
    (grantJudged a p s).tbl = s.tbl ∧ (grantJudged a p s).clk = s.clk ∧ (grantJudged a p s).loop.rx = none ∧
      (grantJudged a p s).cht = { s.cht with winchClassified := inc16 s.cht.winchClassified } ∧
      (grantJudged a p s).loop.grant.limit = s.loop.grant.limit ∧
      (grantJudged a p s).loop.grant.mode = s.loop.grant.mode ∧
      (grantJudged a p s).loop.grant.count = s.loop.grant.count ∧
      (grantJudged a p s).loop.grant.wait =
        s.loop.grant.wait.map fun w => { w with expiry := some (s.fineNow + w.length * loopChar s.loop.rate) } := by
  obtain ⟨hrx, -, -, -, -, -, -, -, hgrant⟩ := grantHeardLoop_frame a s
  simp [grantJudged, grantPositioned, positioned, grantHeardState, Cht.winchMore, hrx, hgrant]

/-- R109: the judged POSITION claims the grant exactly where it has aborted a working run. -/
theorem grantJudged_claims (a : Byte) (p : Position) (hheld : s.loop.grant.held = true) :
    (s.run.state.working = true → (grantJudged a p s).run.state = .retrieve →
      (grantJudged a p s).loop.grant.state = .claiming ∧ (grantJudged a p s).loop.grant.cause = some .runEngine) ∧
    (¬ (s.run.state.working = true ∧ (grantJudged a p s).run.state = .retrieve) →
      (grantJudged a p s).loop.grant.state = s.loop.grant.state ∧
      (grantJudged a p s).loop.grant.timerAt = s.loop.grant.timerAt) := by
  obtain ⟨-, -, -, -, -, -, -, -, hgrant⟩ := grantHeardLoop_frame a s
  have hstart : (grantPositioned a p s).loop.grant = (grantHeardLoop a s).grant := rfl
  obtain ⟨hclaimed, hkept⟩ := judgePosition_claims (s := grantPositioned a p s) (p := p) (answers := none)
    (by rw [hstart, hgrant]; exact hheld)
  refine ⟨hclaimed, fun hnot => ?_⟩
  have hsame : (grantJudged a p s).loop.grant = (grantHeardLoop a s).grant := by
    refine (hkept ?_).trans hstart
    by_cases hwork : s.run.state.working = true
    · exact .inr fun hretrieve => hnot ⟨hwork, hretrieve⟩
    · exact .inl (Bool.not_eq_true _ ▸ hwork)
  rw [hsame, hgrant]
  exact ⟨rfl, rfl⟩

theorem grantJudged_held (a : Byte) (p : Position) (hheld : s.loop.grant.held = true) :
    (grantJudged a p s).loop.grant.held = true := by
  obtain ⟨hclaimed, hkept⟩ := grantJudged_claims a p hheld
  rw [Grant.held_iff]
  by_cases haborts : s.run.state.working = true ∧ (grantJudged a p s).run.state = .retrieve
  · exact .inr (.inr (hclaimed haborts.1 haborts.2).1)
  · rw [(hkept haborts).1]
    exact (Grant.held_iff _).mp hheld

theorem reportsDone_of_holds {payload : List Byte} {addr : Nat} (hp : HoldsPosition payload addr s p) :
    reportsDone payload = true ↔ p.winch ≠ .moving := by
  rw [reportsDone_iff]
  constructor
  · rintro ⟨-, w, hw, hmoving⟩
    obtain rfl : p.winch = w := by simpa [hp.winch] using hw
    exact hmoving
  · exact fun hmoving => ⟨hp.length, p.winch, hp.winch, hmoving⟩

theorem grantJudged_eventFrame (own ends : Bool) :
    EventFrame [.loop, .cht, .run, .pls, .rat, .store, .upl] s (settle (watchGrant own ends b (grantJudged a p s))) ∧
      s.upl.PortKept (settle (watchGrant own ends b (grantJudged a p s))).upl := by
  unfold grantJudged grantPositioned positioned grantHeardState Cht.winchMore
  exact ⟨.of_loop .of_blocks (by simp), by constructor <;> simp⟩

theorem grantJudged_heardOn (a : Byte) (p : Position) (s : State) : HeardOn a s (grantJudged a p s) := by
  unfold grantJudged grantPositioned positioned grantHeardState
  exact {}

theorem judgePosition_row (hawake : s.resetLine = false) (hheld : s.loop.grant.held = true)
    (hrx : s.loop.rx = some { addr := a, context := .granted }) (hgood : BodyGood b)
    (hwinch : s.run.held = some a.toNat) (hkind : b.kind = 18) (hp : HoldsPosition b.payload a.toNat s p) :
    exec (.grantFrameReceived (.complete b)) s =
      .next (settle (watchGrant (decide (a.toNat = s.loop.grant.node)) (s.endsBurst (grantFrame a b s)) b
        (grantJudged a p s))) := by
  rw [goodGrantFrame_row hawake hheld hrx hgood, classify_grantJudged hkind hwinch hp]

/-- R104 to R106, R134: a good POSITION of the granted node, which is the held winch. -/
theorem ownPosition_counted (hawake : s.resetLine = false) (hgrant : GrantHeld s)
    (hrx : s.loop.rx = some { addr := a, context := .granted }) (hgood : BodyGood b)
    (hown : a.toNat = s.loop.grant.node) (hwinch : s.run.held = some a.toNat) (hkind : b.kind = 18)
    (hp : HoldsPosition b.payload a.toNat s p) :
    ∃ t, exec (.grantFrameReceived (.complete b)) s = .next t ∧
      EventFrame [.loop, .cht, .run, .pls, .rat, .store, .upl] s t ∧ s.upl.PortKept t.upl ∧
      t.loop.rx = none ∧ t.loop.nodeCount s.loop.grant.node = 0 ∧
      t.cht = { s.cht with winchClassified := inc16 s.cht.winchClassified } ∧
      PositionJudged p none (s.loop.grant.count + 1 < s.loop.grant.limit) s t ∧
      (s.loop.grant.limit ≤ s.loop.grant.count + 1 → GrantEnded .limit (s.loop.grant.count + 1) s t) ∧
      (s.loop.grant.count + 1 < s.loop.grant.limit →
        t.loop.grant.count = s.loop.grant.count + 1 ∧
        if s.run.state.working = true ∧ t.run.state = .retrieve then
          t.loop.grant.state = .claiming ∧ t.loop.grant.cause = some .runEngine
        else
          t.loop.grant.timerAt = s.loop.grant.timerAt ∧
          t.loop.grant.state =
            if p.winch ≠ .moving ∧ s.loop.grant.mode ≠ .hold ∧ s.loop.grant.state = .held then .closing
            else s.loop.grant.state) := by
  have hheard := (grantJudged_heardOn a p s).heard (b := b) hgrant (decide (a.toNat = s.loop.grant.node))
    (s.endsBurst (grantFrame a b s))
  obtain ⟨hframe, hport⟩ := grantJudged_eventFrame (s := s) (a := a) (p := p) (b := b)
    (decide (a.toNat = s.loop.grant.node)) (s.endsBurst (grantFrame a b s))
  obtain ⟨htbl, hclk, hrxnone, hcht, hlimit, hmode, hcount, -⟩ := grantJudged_frame a p s
  obtain ⟨hclaimed, hkept⟩ := grantJudged_claims a p hgrant.held
  have hstands := settle_grant_of_held (positionWatched_held b.payload hrxnone (grantJudged_held a p hgrant.held))
  have hwatchedState := positionWatched_state b.payload hrxnone
  refine ⟨_, judgePosition_row hawake hgrant.held hrx hgood hwinch hkind hp, hframe, hport, hheard.rx, hheard.node hown,
    by simpa using hcht, ?_⟩
  rw [decide_eq_true hown, watchGrant_position hkind]
  have hjudged := (grantJudged_judged a p s).on
    ((countPosition_judgedOn b.payload (grantJudged a p s)).trans (settle_judgedOn _))
    fun _ => ⟨_, hwinch, by simp [Loop.grantedTo, hgrant.held, hown]⟩
  rw [hcount, hlimit] at hjudged
  refine ⟨hjudged, fun hfull => ?_, fun hroom => ?_⟩
  · have hended := closeGrant_ended .limit (positionWatched b.payload (grantJudged a p s))
    simp only [positionWatched_frame, hcount] at hended
    rw [countPosition_eq, if_pos (by omega)]
    exact (hended.congr (by simp [htbl]) (by simp [hclk]) rfl rfl).settleFrom _
  · rw [countPosition_eq, if_neg (by omega), hstands]
    refine ⟨by simp [hcount], ?_⟩
    have hstate : (settle (positionWatched b.payload (grantJudged a p s))).run.state = (grantJudged a p s).run.state := by
      simp
    rw [hstate]
    split
    · next haborts =>
      obtain ⟨hclaiming, hcause⟩ := hclaimed haborts.1 haborts.2
      rw [hwatchedState, hclaiming]
      exact ⟨by simp, by simpa using hcause⟩
    · next hnot =>
      obtain ⟨hsame, htimer⟩ := hkept hnot
      rw [hwatchedState, hsame, hmode]
      refine ⟨by simpa using htimer, if_congr ?_ rfl rfl⟩
      rw [reportsDone_of_holds hp]

/-- R134: a good POSITION of the held winch, which is not the granted node. -/
theorem otherPosition_judged (hawake : s.resetLine = false) (hgrant : GrantHeld s)
    (hrx : s.loop.rx = some { addr := a, context := .granted }) (hgood : BodyGood b)
    (hother : a.toNat ≠ s.loop.grant.node) (hwinch : s.run.held = some a.toNat) (hkind : b.kind = 18)
    (hp : HoldsPosition b.payload a.toNat s p) :
    ∃ t, exec (.grantFrameReceived (.complete b)) s = .next t ∧
      EventFrame [.loop, .cht, .run, .pls, .rat, .store, .upl] s t ∧ s.upl.PortKept t.upl ∧ GrantFrameHeard a s t ∧
      ClaimWaitRestarted s t ∧ t.cht = { s.cht with winchClassified := inc16 s.cht.winchClassified } ∧
      PositionJudged p none True s t ∧ t.loop.grant.count = s.loop.grant.count ∧
      if s.run.state.working = true ∧ t.run.state = .retrieve then t.loop.grant.state = .claiming
      else t.loop.grant.state = s.loop.grant.state ∧ t.loop.grant.timerAt = s.loop.grant.timerAt := by
  have hheard := (grantJudged_heardOn a p s).heard (b := b) hgrant (decide (a.toNat = s.loop.grant.node))
    (s.endsBurst (grantFrame a b s))
  obtain ⟨hframe, hport⟩ := grantJudged_eventFrame (s := s) (a := a) (p := p) (b := b)
    (decide (a.toNat = s.loop.grant.node)) (s.endsBurst (grantFrame a b s))
  obtain ⟨-, -, -, hcht, -, -, hcount, hwait⟩ := grantJudged_frame a p s
  obtain ⟨hclaimed, hkept⟩ := grantJudged_claims a p hgrant.held
  have hheld := grantJudged_held a p hgrant.held
  have hstands := settle_grant_of_held hheld
  refine ⟨_, judgePosition_row hawake hgrant.held hrx hgood hwinch hkind hp, hframe, hport, hheard, ?_,
    by simpa using hcht, ?_⟩
  all_goals rw [watchGrant_kept (.inl (decide_eq_false hother))]
  · intro _
    rw [hstands, hwait]
  · refine ⟨(grantJudged_judged a p s).on (settle_judgedOn (granted := False) _) False.elim, by rw [hstands, hcount], ?_⟩
    have hstate : (settle (grantJudged a p s)).run.state = (grantJudged a p s).run.state := by simp
    rw [hstands, hstate]
    split
    · next haborts => exact (hclaimed haborts.1 haborts.2).1
    · next hnot => exact hkept hnot

/-! ## The frames that CHT counts alone -/

theorem setCht_watchStart (c : Cht) (a : Byte) (s : State) : WatchStart a s.run s ((grantHeardState a s).setCht c) := by
  unfold grantHeardState
  exact {}

/-- A good frame that changes CHT alone, under the grant. -/
theorem grantFrame_setCht {c : Cht} (hawake : s.resetLine = false) (hgrant : GrantHeld s)
    (hrx : s.loop.rx = some { addr := a, context := .granted }) (hgood : BodyGood b)
    (hclassified : classify (grantFrame a b s) (grantHeardState a s) = (grantHeardState a s).setCht c)
    (hends : a.toNat ≠ s.loop.grant.node ∨ s.endsBurst (grantFrame a b s) = false) :
    ∃ t, exec (.grantFrameReceived (.complete b)) s = .next t ∧ EventFrame [.loop, .cht, .run] s t ∧
      GrantFrameHeard a s t ∧ GrantWatches a b False s.run s t ∧ t.cht = c := by
  have hwatch : watchGrant (decide (a.toNat = s.loop.grant.node)) (s.endsBurst (grantFrame a b s)) b
        ((grantHeardState a s).setCht c) =
      watchGrant (decide (a.toNat = s.loop.grant.node)) false b ((grantHeardState a s).setCht c) := by
    obtain hother | hends := hends
    · rw [decide_eq_false hother, watchGrant_kept (.inl rfl), watchGrant_kept (.inl rfl)]
    · rw [hends]
  have hheardOn : HeardOn a s ((grantHeardState a s).setCht c) := by
    unfold grantHeardState
    exact {}
  refine ⟨_, goodGrantFrame_row hawake hgrant.held hrx hgood, ?_⟩
  rw [hclassified, hwatch]
  refine ⟨?_, hheardOn.heard hgrant _ _, (setCht_watchStart c a s).watches hgrant rfl (by simp) False.elim, by simp⟩
  unfold grantHeardState
  exact .of_loop .of_blocks (by simp)

/-- R107, R111: a good BURST-END of the granted node, which is the held winch. -/
theorem ownBurst_ends (hawake : s.resetLine = false) (hgrant : GrantHeld s)
    (hrx : s.loop.rx = some { addr := a, context := .granted }) (hgood : BodyGood b)
    (hown : a.toNat = s.loop.grant.node) (hwinch : s.run.held = some a.toNat) (hkind : b.kind = 19)
    (hpayload : b.payload = []) :
    ∃ t, exec (.grantFrameReceived (.complete b)) s = .next t ∧ EventFrame [.loop, .cht, .run] s t ∧
      t.loop.rx = none ∧ t.loop.nodeCount s.loop.grant.node = 0 ∧ t.run.state = s.run.state ∧
      GrantEnded (if s.loop.grant.state = .claiming then .claimAnswered else .burstEnd) s.loop.grant.count s t ∧
      t.cht = { s.cht with winchClassified := inc16 s.cht.winchClassified } := by
  have hclassified : classify (grantFrame a b s) (grantHeardState a s) =
      (grantHeardState a s).setCht s.cht.winchMore :=
    (classify_held_burst hkind hwinch).trans (by rw [if_pos (by exact hpayload)]; rfl)
  have hends := endsBurst_held (s := s) ⟨.inr hkind, hwinch⟩ hkind hpayload
  have hstart := setCht_watchStart s.cht.winchMore a s
  have hstate : ((grantHeardState a s).setCht s.cht.winchMore).loop.grant.state = s.loop.grant.state := by
    rw [hstart.grant_eq]
  have hheardOn : HeardOn a s ((grantHeardState a s).setCht s.cht.winchMore) := by
    unfold grantHeardState
    exact {}
  have hheard := hheardOn.heard (b := b) hgrant true true
  refine ⟨_, goodGrantFrame_row hawake hgrant.held hrx hgood, ?_⟩
  rw [hclassified, hends, decide_eq_true hown]
  refine ⟨?_, hheard.rx, hheard.node hown, ?_, ?_, by simp [Cht.winchMore]⟩
  · unfold grantHeardState
    exact .of_loop .of_blocks (by simp)
  all_goals rw [watchGrant_burst (by rw [hkind]; decide), burstEnd, hstate]
  · simp [grantHeardState]
  · exact (hstart.closed _).1

/-- R95: a frame in the held place that is discarded, or is a BURST-END of another node. -/
theorem heldForm_watched (hawake : s.resetLine = false) (hgrant : GrantHeld s)
    (hrx : s.loop.rx = some { addr := a, context := .granted }) (hgood : BodyGood b)
    (hheld : InHeldPlace s a.toNat b.kind) (hnot : b.kind = 18 ∨ a.toNat ≠ s.loop.grant.node ∨ b.payload ≠ [])
    (hform : b.kind = 18 → ∀ p, ¬ HoldsPosition b.payload a.toNat s p) :
    ∃ t, exec (.grantFrameReceived (.complete b)) s = .next t ∧ EventFrame [.loop, .cht, .run] s t ∧
      GrantFrameHeard a s t ∧ GrantWatches a b False s.run s t ∧
      t.cht =
        if b.kind = 19 ∧ b.payload = [] then { s.cht with winchClassified := inc16 s.cht.winchClassified }
        else
          { s.cht with
            winchClassified := inc16 s.cht.winchClassified, winchDiscarded := inc16 s.cht.winchDiscarded,
            winchReason := some .form } := by
  obtain ⟨hkind, hwinch⟩ := hheld
  obtain h18 | h19 := hkind
  · have hclassified : classify (grantFrame a b s) (grantHeardState a s) =
        (grantHeardState a s).setCht s.cht.winchFormLess :=
      classify_held_form h18 hwinch rfl fun p h => hform h18 p (grantHeardState_holds.mp h)
    obtain ⟨t, hrow, hframe, hheard, hwatches, hcht⟩ := grantFrame_setCht hawake hgrant hrx hgood hclassified
      (.inr (endsBurst_of_other (by rw [h18]; decide)))
    refine ⟨t, hrow, hframe, hheard, hwatches, ?_⟩
    rw [hcht, if_neg (by rw [h18]; rintro ⟨h, -⟩; exact absurd h (by decide))]
    rfl
  · have hclassified : classify (grantFrame a b s) (grantHeardState a s) =
        (grantHeardState a s).setCht (if b.payload = [] then s.cht.winchMore else s.cht.winchFormLess) :=
      classify_held_burst h19 hwinch
    have hends : a.toNat ≠ s.loop.grant.node ∨ s.endsBurst (grantFrame a b s) = false := by
      obtain h18 | hother | hpayload := hnot
      · rw [h18] at h19
        exact absurd h19 (by decide)
      · exact .inl hother
      · exact .inr (endsBurst_of_payload hpayload)
    obtain ⟨t, hrow, hframe, hheard, hwatches, hcht⟩ := grantFrame_setCht hawake hgrant hrx hgood hclassified hends
    refine ⟨t, hrow, hframe, hheard, hwatches, ?_⟩
    rw [hcht]
    exact if_congr (by simp [h19]) rfl rfl

/-! ## The frames under an entry -/

/-- R89 to R98, R104 to R107: a good frame outside the held place, under the lowest entry that names its node. -/
theorem entryFrame_watched (hawake : s.resetLine = false) (hgrant : GrantHeld s)
    (hrx : s.loop.rx = some { addr := a, context := .granted }) (hgood : BodyGood b)
    (hheld : ¬ InHeldPlace s a.toNat b.kind) (hnames : Names s i a.toNat) (hlow : ∀ j, j < i → ¬ Names s j a.toNat)
    (hears : RunHears i a.toNat b s r) :
    ∃ t, exec (.grantFrameReceived (.complete b)) s = .next t ∧ HandledByRole i a.toNat b s t ∧
      GrantFrameHeard a s t ∧
      (b.kind = 16 → (chanEntry s.tbl.channels i).role ≤ 1 →
        ClaimWaitRestarted s t ∧ t.loop.grant.count = s.loop.grant.count ∧
        (t.loop.grant.state = s.loop.grant.state ∨ t.loop.grant.state = .claiming)) ∧
      (b.kind ≠ 16 ∨ 2 ≤ (chanEntry s.tbl.channels i).role →
        GrantWatches a b (b.kind = 19 ∧ b.payload = [] ∧ (chanEntry s.tbl.channels i).role = 2) r s t) := by
  have hrow := goodGrantFrame_row hawake hgrant.held hrx hgood
  have hclassified := classify_grantFrame hheld hnames hlow
  rw [hclassified, ← grantHandled] at hrow
  obtain ⟨-, -, -, -, -, -, -, -, hgrantLoop⟩ := grantHeardLoop_frame a s
  have hheardOn := classify_heardOn (grantFrame a b s) a s
  rw [hclassified] at hheardOn
  refine ⟨_, hrow, grantHandled_byRole hheld, hheardOn.heard hgrant _ _, fun hkind hrole => ?_, fun hnot => ?_⟩
  · have hstands := handleEntry_sample_grantStands (s := grantHeardState a s) (f := grantFrame a b s) hrole hkind
    have hstart : (grantHeardState a s).loop.grant = (grantHeardLoop a s).grant := rfl
    have hheld : (grantHeardState a s).loop.grant.held = true := by
      rw [hstart, hgrantLoop]
      exact hgrant.held
    have hsettled := settle_grant_of_held (hstands.held hheld)
    rw [grantHandled_unwatched (by rw [hkind]; decide) (by rw [hkind]; decide), hsettled]
    refine ⟨fun _ => ?_, ?_, ?_⟩
    · rw [hsettled]
      simp [hstart, hgrantLoop]
    · simp [hstart, hgrantLoop]
    · have hstate := hstands.stands hheld
      rwa [hstart, hgrantLoop] at hstate
  · obtain ⟨hkept, hrun⟩ := handleEntry_hears (s := grantHeardState a s) (f := grantFrame a b s) (r := r) rfl rfl rfl hnot
      hheld ⟨fun p h18 hrole hnone hp => hears.1 p h18 hrole hnone (grantHeardState_holds.mp hp),
        fun h => hears.2 (h.imp_right (Or.imp_right (Or.imp_right fun hno p hp => hno p (grantHeardState_holds.mpr hp))))⟩
    have hstart : WatchStart a r s (handleEntry i (grantFrame a b s) (grantHeardState a s)) :=
      { grant := hkept, run := hrun, rx := by simp [grantHeardState], rate := by simp [grantHeardState],
        tbl := by simp [grantHeardState], clk := by simp [grantHeardState] }
    exact hstart.watches hgrant rfl (endsBurst_entry (placeOf_grantFrame hheld hnames hlow))
      fun ⟨h19, _⟩ => by rw [h19]; decide

end

/-- Settles O40: a grant's frame by whether it is good, where it belongs, and whose it is. -/
theorem grantFramesAreCountedAndEndTheGrant : Obligations.GrantFramesAreCountedAndEndTheGrant := by
  unfold Obligations.GrantFramesAreCountedAndEndTheGrant
  intro s a hawake hheld hlow hhigh hlength hrx htxn
  have hgrant : GrantHeld s := ⟨hheld, hlow, by omega⟩
  refine ⟨fun fin k hfin => ?_, fun b hbad => grantFrame_fails_bad hawake hgrant hrx hbad,
    grantFrame_gap hawake hgrant hrx, fun m => grantFrame_cut hawake hgrant hrx m,
    fun m hbreak => grantFrame_cut_by_begin hawake hgrant hrx m hbreak,
    fun b hgood hown hwinch hkind hpayload => ownBurst_ends hawake hgrant hrx hgood hown hwinch hkind hpayload,
    fun b p hgood hown hwinch hkind hp => ownPosition_counted hawake hgrant hrx hgood hown hwinch hkind hp,
    fun b hgood hplace hnot hform => heldForm_watched hawake hgrant hrx hgood hplace hnot hform,
    fun b p hgood hother hwinch hkind hp => otherPosition_judged hawake hgrant hrx hgood hother hwinch hkind hp,
    fun b i r hgood hplace hnames hlow hears =>
      entryFrame_watched hawake hgrant hrx hgood hplace hnames hlow hears, fun b hgood hplace hunknown => ?_⟩
  · obtain ⟨rfl, rfl⟩ | ⟨rfl, rfl⟩ | ⟨rfl, rfl⟩ := hfin
    · exact grantFrame_fails (f := .framing) hawake hgrant hrx (by simp) rfl
    · exact grantFrame_fails (f := .length) hawake hgrant hrx (by simp) rfl
    · exact grantFrame_fails (f := .crc) hawake hgrant hrx (by simp) rfl
  · have hplaced : s.placeOf (grantFrame a b s) = .unknown :=
      placeOf_of_unknown hplace (polledEntry_of_unpolled rfl) hunknown
    exact grantFrame_setCht hawake hgrant hrx hgood (classify_unknown (s := grantHeardState a s) hplaced)
      (.inr (endsBurst_unknown hplaced))

end Sys2Proof.Machine
end

section
/-! The contacts and the rotor measurement (R115 to R123, R144). -/

namespace Sys2Proof.Machine

set_option Elab.async false

/-! ## An input (R115) -/

section
variable {s u : State} {c : Contact}

theorem Pls.input_setInput_same (p : Pls) (c : Contact) (i : Input) : (p.setInput c i).input c = i := by
  cases c <;> rfl

theorem Pls.input_setInput_ne (p : Pls) {c o : Contact} (i : Input) (h : o ≠ c) : (p.setInput c i).input o = p.input o := by
  revert h
  cases c <;> cases o <;> simp [Pls.input, Pls.setInput]

theorem accepts_iff : (s.pls.input c).accepts (cfgDebounce s.tbl.config c) s.now = true ↔ ClosureAccepted s c := by
  unfold Input.accepts ClosureAccepted
  cases (s.pls.input c).lastAccepted <;> simp

/-- The input after a closure, before the mechanism behind it. -/
def contactClosed (c : Contact) (i : Input) (s : State) : State :=
  (s.setLines (withContact s.lines c true)).setPls (s.pls.setInput c i)

theorem contactClosure_row (hawake : s.resetLine = false) (hopen : (s.pls.input c).closed = false) :
    exec (.contactClosure c) s = .next (settle (closeContact c s)) := by
  have hrow : exec (.contactClosure c) s = execContactClosure c s := rfl
  rw [hrow, execContactClosure, if_neg (by simp [hawake]), if_neg (by simp [hopen])]

theorem closeContact_accepted (h : ClosureAccepted s c) :
    closeContact c s =
      acceptedClosure c (contactClosed c
        { closed := true, lastAccepted := some s.now, accepted := inc16 (s.pls.input c).accepted,
          ignored := (s.pls.input c).ignored } s) := by
  have haccepts := accepts_iff.mpr h
  simp only [closeContact, Input.closure, haccepts, if_true]
  rfl

theorem closeContact_ignored (h : ¬ ClosureAccepted s c) :
    closeContact c s =
      contactClosed c { s.pls.input c with closed := true, ignored := inc16 (s.pls.input c).ignored } s := by
  have haccepts : (s.pls.input c).accepts (cfgDebounce s.tbl.config c) s.now = false :=
    Bool.eq_false_iff.mpr (mt accepts_iff.mp h)
  simp only [closeContact, Input.closure, haccepts]
  rfl

theorem acceptedClosure_input (c o : Contact) (s : State) : (acceptedClosure c s).pls.input o = s.pls.input o := by
  cases o <;> simp [Pls.input]

theorem contactClosed_frame (c : Contact) (i : Input) (s : State) :
    (contactClosed c i s).lines = withContact s.lines c true ∧ (contactClosed c i s).pls.input c = i ∧
      ∀ o, o ≠ c → (contactClosed c i s).pls.input o = s.pls.input o :=
  ⟨rfl, Pls.input_setInput_same _ _ _, fun _ h => Pls.input_setInput_ne _ _ h⟩

theorem acceptedClosure_eventFrame (c : Contact) (i : Input) (s : State) :
    EventFrame [.pls, .lines, .run] s (settle (acceptedClosure c (contactClosed c i s))) := by
  unfold contactClosed
  exact EventFrame.settle (.of_changes .of_blocks)

/-- Settles O42: an accepted closure, an ignored one, and an opening. -/
theorem contactsAreDebounced : Obligations.ContactsAreDebounced := by
  unfold Obligations.ContactsAreDebounced
  intro s c hawake
  have hpls (u : State) : (settle u).pls = u.pls := by simp
  refine ⟨fun hopen haccepted => ?_, fun hopen hearly => ?_, ?_⟩
  · refine ⟨_, contactClosure_row hawake hopen, ?_⟩
    rw [closeContact_accepted haccepted]
    obtain ⟨hlines, hinput, hothers⟩ := contactClosed_frame c
      { closed := true, lastAccepted := some s.now, accepted := inc16 (s.pls.input c).accepted,
        ignored := (s.pls.input c).ignored } s
    refine ⟨acceptedClosure_eventFrame .., by simpa using hlines, ?_, fun o ho => ?_⟩
    · rw [hpls, acceptedClosure_input, hinput]
    · rw [hpls, acceptedClosure_input, hothers o ho]
  · refine ⟨_, contactClosure_row hawake hopen, ?_⟩
    rw [closeContact_ignored hearly]
    obtain ⟨hlines, hinput, hothers⟩ := contactClosed_frame c
      { s.pls.input c with closed := true, ignored := inc16 (s.pls.input c).ignored } s
    refine ⟨?_, by simpa using hlines, ?_⟩
    · unfold contactClosed
      exact EventFrame.settle (.of_changes .of_blocks)
    · rw [hpls]
      exact ⟨by simp [contactClosed], by simp [contactClosed], by simp [contactClosed], hinput, hothers⟩
  · have hrow : exec (.contactOpening c) s =
        .next ((s.setLines (withContact s.lines c false)).setPls
          (s.pls.setInput c { s.pls.input c with closed := false })) := by
      have hexec : exec (.contactOpening c) s = execContactOpening c s := rfl
      rw [hexec, execContactOpening, if_neg (by simp [hawake])]
    exact ⟨_, hrow, .of_blocks, rfl, by simp, by simp, by simp, Pls.input_setInput_same _ _ _,
      fun o ho => Pls.input_setInput_ne _ _ ho⟩

end

end Sys2Proof.Machine
end

section
/-! The rotor measurement and what RUN takes of it (R116 to R123, R144). -/

namespace Sys2Proof.Machine

set_option Elab.async false

section
variable {s u : State} {res : RotorResult} {before : Rotor}

/-! ## The result handed to RUN (R123, R144) -/

theorem handRotor_ended (hbefore : before.state ≠ .done) (hdone : u.pls.rotor.state = .done)
    (hres : u.pls.rotor.result = some res) : handRotor before u = runRotorResult res u := by
  have hhanded : rotorHanded before u.pls.rotor = some res := by
    simp [rotorHanded, hbefore, hdone, hres]
  simp only [handRotor, hhanded]

theorem handRotor_going (h : before.state = .done ∨ u.pls.rotor.state ≠ .done) : handRotor before u = u := by
  have hhanded : rotorHanded before u.pls.rotor = none := by
    unfold rotorHanded
    refine if_neg ?_
    simpa using fun hbefore => h.resolve_left hbefore
  simp only [handRotor, hhanded]

theorem runRotorResult_aside (h : u.run.state ≠ .expose) : runRotorResult res u = u := by
  unfold runRotorResult
  split
  · next hstate _ => exact absurd hstate h
  · rfl

/-- The vertical with one point more measured. -/
def pointTaken (res : RotorResult) (v : Vertical) (p : PointSpec) (rest : List PointSpec) (s : State) : State :=
  s.setRun { s.run with vertical := some { v with points := rest, results := v.results ++ [pointResult s.header p res] } }

theorem runRotorResult_last {v : Vertical} {p : PointSpec} (hstate : u.run.state = .expose)
    (hv : u.run.vertical = some v) (hpoints : v.points = [p]) :
    runRotorResult res u = enterLift (pointTaken res v p [] u) := by
  simp only [runRotorResult, hstate, hv, hpoints]
  rfl

theorem runRotorResult_more {v : Vertical} {p q : PointSpec} {rest : List PointSpec} (hstate : u.run.state = .expose)
    (hv : u.run.vertical = some v) (hpoints : v.points = p :: q :: rest) :
    runRotorResult res u = enterNextPoint (pointTaken res v p (q :: rest) u) := by
  simp only [runRotorResult, hstate, hv, hpoints]
  rfl

/-- A state with the measurement ended, from which RUN takes the result. -/
structure RotorStopped (res : RotorResult) (s u : State) : Prop where
  rotor : u.pls.rotor =
    { s.pls.rotor with state := .done, count := res.n, exposureAt := none, missAt := none, result := some res }
  run : u.run = s.run := by rfl
  tbl : u.tbl = s.tbl := by rfl
  clk : u.clk = s.clk := by rfl
  loop : u.loop = s.loop := by rfl

theorem enterLift_taken (s : State) :
    (enterLift s).run.state = .lift ∧ (enterLift s).run.cableAt = some (s.now + 1000 * s.header.cableTimeout) := by
  simp [enterLift, Run.enter]

theorem enterNextPoint_taken (s : State) :
    (enterNextPoint s).run.state = .pointSeek ∧
      (enterNextPoint s).run.cableAt = some (s.now + 1000 * s.header.cableTimeout) := by
  simp [enterNextPoint, Run.enter]

theorem RotorStopped.ended (e : RotorStopped res s u) (hbefore : s.pls.rotor.state ≠ .done) :
    RotorEnded res s (settle (handRotor s.pls.rotor u)) := by
  have hnow : u.now = s.now := by simp only [State.now, e.clk]
  have hheader : u.header = s.header := State.header_congr e.tbl (by rw [e.run])
  rw [handRotor_ended hbefore (by rw [e.rotor]) (by rw [e.rotor])]
  constructor
  case rotor => simpa using e.rotor
  case aside =>
    intro haside
    rw [runRotorResult_aside (by rwa [e.run])]
    simpa using e.run
  case taken =>
    intro v p rest hstate hv hpoints
    have hustate : u.run.state = .expose := by rw [e.run, hstate]
    have huv : u.run.vertical = some v := by rw [e.run, hv]
    have hcarried := settle_carriedOn (runRotorResult res u)
    have htbl : (settle (runRotorResult res u)).tbl = (runRotorResult res u).tbl := by simp
    rw [hcarried.run]
    have hgrant (w : PointSpec) (ws : List PointSpec) : (pointTaken res v w ws u).loop.grant = s.loop.grant := by
      rw [← e.loop]; rfl
    have htaken (w : PointSpec) (ws : List PointSpec) : (pointTaken res v w ws u).header = s.header := hheader
    have hrun (w : PointSpec) (ws : List PointSpec) : (pointTaken res v w ws u).run =
        { s.run with vertical := some { v with points := ws, results := v.results ++ [pointResult s.header w res] } } := by
      rw [← hheader, ← e.run]; rfl
    have htime (w : PointSpec) (ws : List PointSpec) : (pointTaken res v w ws u).now = s.now := hnow
    cases rest with
    | nil =>
      have heq := runRotorResult_last (res := res) hustate huv hpoints
      have hobtained := enterLift_obtained (s := pointTaken res v p [] u) rfl
      obtain ⟨hlift, hcable⟩ := enterLift_taken (pointTaken res v p [] u)
      rw [htaken] at hobtained hcable
      rw [htime] at hcable
      rw [heq] at hcarried htbl ⊢
      exact ⟨by simp [hrun], hcable, by simp [hrun], by simp [hrun], hlift,
        (hobtained.of_start (hgrant p [])).carriedOn hcarried htbl⟩
    | cons q rest =>
      have heq := runRotorResult_more (res := res) hustate huv hpoints
      have hobtained := enterNextPoint_obtained (s := pointTaken res v p (q :: rest) u) (q := q) rfl rfl
      obtain ⟨hseek, hcable⟩ := enterNextPoint_taken (pointTaken res v p (q :: rest) u)
      rw [htaken] at hobtained hcable
      rw [htime] at hcable
      rw [heq] at hcarried htbl ⊢
      exact ⟨by simp [hrun], hcable, by simp [hrun], by simp [hrun], hseek,
        (hobtained.of_start (hgrant p (q :: rest))).carriedOn hcarried htbl⟩

theorem handRotor_eventFrame (before : Rotor) (r : Rotor) (s : State) :
    EventFrame [.pls, .run] s (settle (handRotor before (s.setPls { s.pls with rotor := r }))) ∧
      (settle (handRotor before (s.setPls { s.pls with rotor := r }))).pls = { s.pls with rotor := r } :=
  ⟨EventFrame.settle (.of_changes .of_blocks), by simp⟩

/-! ## The timers (R118, R120, R121) -/

theorem exposure_ends {e : Nat} (hawake : s.resetLine = false) (hstate : s.pls.rotor.state = .counting)
    (hexposure : s.pls.rotor.exposureAt = some e) (hpast : e ≤ s.now) :
    exec (if s.pls.rotor.mode = .gate then .exposureExpiry else .timeLimitExpiry) s =
      .next (settle (handRotor s.pls.rotor (s.setPls
        { s.pls with rotor := s.pls.rotor.finish (1000 * s.pls.rotor.exposure) e (s.pls.rotor.mode == .period) false }))) := by
  have hdue : dueAt (some e) s.now = true := by simpa [dueAt] using hpast
  cases hmode : s.pls.rotor.mode with
  | gate =>
    have hexec : exec .exposureExpiry s = execExposureExpiry s := rfl
    have htimer : s.pls.rotor.exposureDue s.now = true := by simp [Rotor.exposureDue, hstate, hmode, hexposure, hdue]
    rw [if_pos rfl, hexec, execExposureExpiry, taken_of_awake hawake, if_pos htimer, Rotor.exposureEnd, hexposure]
    rfl
  | period =>
    have hexec : exec .timeLimitExpiry s = execTimeLimitExpiry s := rfl
    have htimer : s.pls.rotor.limitDue s.now = true := by simp [Rotor.limitDue, hstate, hmode, hexposure, hdue]
    rw [if_neg (by simp), hexec, execTimeLimitExpiry, taken_of_awake hawake, if_pos htimer, Rotor.limitEnd, hexposure]
    rfl

theorem missingPulse_row {e : Nat} (hawake : s.resetLine = false)
    (hstate : s.pls.rotor.state = .armed ∨ s.pls.rotor.state = .counting) (hmiss : s.pls.rotor.missAt = some e)
    (hpast : e ≤ s.now) :
    exec .missingPulseExpiry s =
      .next (settle (handRotor s.pls.rotor (s.setPls { s.pls with rotor := s.pls.rotor.missingEnd s.now }))) := by
  have hexec : exec .missingPulseExpiry s = execMissingPulseExpiry s := rfl
  have htimer : s.pls.rotor.missingDue s.now = true := by
    simpa [Rotor.missingDue, hmiss, dueAt, hpast] using hstate
  rw [hexec, execMissingPulseExpiry, taken_of_awake hawake, if_pos htimer]

/-! ## A closure (R116, R118, R119) -/

/-- R119: the closure that reaches R × P. -/
theorem periodPulse_reached {r : Rotor} {now : Nat} (hmode : r.mode = .period) (h : r.count + 1 = r.revs * r.p) :
    r.periodPulse now =
      { r with
        state := .done, count := r.revs * r.p, exposureAt := none, missAt := none,
        result := some
          { mode := .period, n := r.revs * r.p, t := now - r.start.getD now, countClamped := r.clamped,
            periodShort := false, noRotation := false, p := r.p, start := r.start, stop := now } } := by
  have hended : r.periodPulse now =
      { r with count := r.count + 1, missAt := some (now + r.missTimeout) }.finish (now - r.start.getD now) now false
        false := if_pos h
  rw [hended, Rotor.finish]
  simp [hmode, h]

theorem rotorClosure_row (hawake : s.resetLine = false) (hopen : s.pls.rotorIn.closed = false)
    (haccepted : ClosureAccepted s .rotor) :
    ∃ i, exec (.contactClosure .rotor) s =
      .next (settle (handRotor s.pls.rotor ((contactClosed .rotor i s).setPls
        { (contactClosed .rotor i s).pls with rotor := s.pls.rotor.pulse s.now }))) := by
  refine ⟨{ closed := true, lastAccepted := some s.now, accepted := inc16 s.pls.rotorIn.accepted,
            ignored := s.pls.rotorIn.ignored }, ?_⟩
  rw [contactClosure_row (c := .rotor) hawake hopen, closeContact_accepted haccepted]
  rfl

theorem rotorClosure_frame (i : Input) (s : State) :
    EventFrame [.pls, .lines, .run] s (settle (handRotor s.pls.rotor ((contactClosed .rotor i s).setPls
        { (contactClosed .rotor i s).pls with rotor := s.pls.rotor.pulse s.now }))) ∧
      (settle (handRotor s.pls.rotor ((contactClosed .rotor i s).setPls
        { (contactClosed .rotor i s).pls with rotor := s.pls.rotor.pulse s.now }))).pls.surface = s.pls.surface ∧
      (settle (handRotor s.pls.rotor ((contactClosed .rotor i s).setPls
        { (contactClosed .rotor i s).pls with rotor := s.pls.rotor.pulse s.now }))).pls.bottom = s.pls.bottom := by
  unfold contactClosed
  exact ⟨EventFrame.settle (.of_changes .of_blocks), by simp, by simp⟩

/-- A closure that ends nothing. -/
theorem rotorClosure_going (i : Input) (h : s.pls.rotor.state = .done ∨ (s.pls.rotor.pulse s.now).state ≠ .done) :
    (settle (handRotor s.pls.rotor ((contactClosed .rotor i s).setPls
        { (contactClosed .rotor i s).pls with rotor := s.pls.rotor.pulse s.now }))).run = s.run ∧
      (settle (handRotor s.pls.rotor ((contactClosed .rotor i s).setPls
        { (contactClosed .rotor i s).pls with rotor := s.pls.rotor.pulse s.now }))).pls.rotor =
        s.pls.rotor.pulse s.now := by
  rw [handRotor_going (by exact h)]
  simp [contactClosed]

end

/-- Settles O43: a closure by the state and mode of the measurement, and its three timers. -/
theorem rotorMeasurementCountsAndEnds : Obligations.RotorMeasurementCountsAndEnds := by
  unfold Obligations.RotorMeasurementCountsAndEnds
  refine ⟨fun s hawake hopen haccepted => ?_, fun s e hawake hstate hexposure hpast => ?_,
    fun s e hawake hstate hmiss hpast => ?_⟩
  · obtain ⟨i, hrow⟩ := rotorClosure_row hawake hopen haccepted
    obtain ⟨hframe, hsurface, hbottom⟩ := rotorClosure_frame i s
    have hgoing := rotorClosure_going (s := s) i
    refine ⟨_, hrow, hframe, hsurface, hbottom, ?_⟩
    cases hstate : s.pls.rotor.state with
    | idle =>
      have hpulse : s.pls.rotor.pulse s.now = s.pls.rotor := by simp [Rotor.pulse, hstate]
      rw [hpulse] at hgoing ⊢
      exact hgoing (.inr (by simp [hstate]))
    | done =>
      have hpulse : s.pls.rotor.pulse s.now = s.pls.rotor := by simp [Rotor.pulse, hstate]
      rw [hpulse] at hgoing ⊢
      exact hgoing (.inl hstate)
    | armed =>
      have hpulse : s.pls.rotor.pulse s.now = s.pls.rotor.periodStart s.now := by simp [Rotor.pulse, hstate]
      rw [hpulse] at hgoing ⊢
      exact hgoing (.inr (by simp [Rotor.periodStart]))
    | counting =>
      cases hmode : s.pls.rotor.mode with
      | gate =>
        have hpulse : s.pls.rotor.pulse s.now = s.pls.rotor.gatePulse s.now := by simp [Rotor.pulse, hstate, hmode]
        rw [hpulse] at hgoing ⊢
        exact hgoing (.inr (by simp [Rotor.gatePulse, hstate]))
      | period =>
        have hpulse : s.pls.rotor.pulse s.now = s.pls.rotor.periodPulse s.now := by simp [Rotor.pulse, hstate, hmode]
        rw [hpulse] at hgoing ⊢
        dsimp only
        split
        · next hreached =>
          exact RotorStopped.ended { rotor := periodPulse_reached hmode hreached } (by simp [hstate])
        · next hgoes =>
          have hcounts : s.pls.rotor.periodPulse s.now =
              { s.pls.rotor with
                count := s.pls.rotor.count + 1, missAt := some (s.now + s.pls.rotor.missTimeout) } := if_neg hgoes
          rw [hcounts] at hgoing ⊢
          exact hgoing (.inr (by simp [hstate]))
  · have hrow := exposure_ends hawake hstate hexposure hpast
    obtain ⟨hframe, hpls⟩ := handRotor_eventFrame s.pls.rotor
      (s.pls.rotor.finish (1000 * s.pls.rotor.exposure) e (s.pls.rotor.mode == .period) false) s
    refine ⟨_, hrow, hframe, by rw [hpls], by rw [hpls], ?_⟩
    exact RotorStopped.ended { rotor := rfl } (by simp [hstate])
  · have hrow := missingPulse_row hawake hstate hmiss hpast
    obtain ⟨hframe, hpls⟩ := handRotor_eventFrame s.pls.rotor (s.pls.rotor.missingEnd s.now) s
    refine ⟨_, hrow, hframe, by rw [hpls], by rw [hpls], ?_⟩
    refine RotorStopped.ended { rotor := ?_ } (by obtain h | h := hstate <;> simp [h])
    cases hstart : s.pls.rotor.start <;> simp [Rotor.missingEnd, Rotor.finish, hstart, hmiss]

end Sys2Proof.Machine
end

section
/-! The latches and what RUN does with the count they take (R125, R126, R140 to R142). -/

namespace Sys2Proof.Machine

set_option Elab.async false

section
variable {s u : State} {l : Latch} {cable : Option (Int × Nat)}

/-! ## The latch (R126) -/

/-- An ARMED latch after its closure. -/
def latchedWith (l : Latch) (cable : Option (Int × Nat)) (now : Nat) : Latch :=
  { l with state := .latched, value := some { cable := cable, closedAt := now } }

theorem Latch.closure_of_armed (harmed : l.state = .armed) (htakes : LatchTakes l s cable) :
    l.closure s.run.position s.now = latchedWith l cable s.now := by
  obtain ⟨htaken, hnone⟩ := htakes
  unfold Latch.closure latchedWith
  rw [harmed]
  cases hp : s.run.position with
  | none => rw [hnone fun p hp' => by simp [hp] at hp']
  | some p =>
    by_cases hlate : l.armTime.getD 0 ≤ p.arrived
    · rw [htaken p hp hlate]
      simp [hlate]
    · have hcable : cable = none := hnone fun q hq => by
        obtain rfl : p = q := by simpa [hp] using hq
        omega
      simp [hlate, hcable]

theorem Latch.closure_of_unarmed (h : l.state ≠ .armed) (pos : Option Position) (now : Nat) : l.closure pos now = l := by
  unfold Latch.closure
  split
  · next harmed => exact absurd harmed h
  · rfl

theorem latchHanded_armed (harmed : l.state = .armed) (cable : Option (Int × Nat)) (now : Nat) :
    latchHanded l (latchedWith l cable now) = some { cable := cable, closedAt := now } := by
  simp [latchHanded, latchedWith, harmed]

theorem latchHanded_unarmed (h : l.state ≠ .armed) (l' : Latch) : latchHanded l l' = none := by
  simp [latchHanded, h]

/-! ## The surface latch (R140) -/

/-- PLS with the surface latch taken. -/
def surfaceTaken (i : Input) (cable : Option (Int × Nat)) (s : State) : State :=
  (contactClosed .surface i s).setPls
    { (contactClosed .surface i s).pls with surface := latchedWith s.pls.surface cable s.now }

theorem surfaceClosure_armed (i : Input) (harmed : s.pls.surface.state = .armed) (htakes : LatchTakes s.pls.surface s cable) :
    acceptedClosure .surface (contactClosed .surface i s) =
      runSurfaceLatch { cable := cable, closedAt := s.now } (surfaceTaken i cable s) := by
  have hclosure := Latch.closure_of_armed harmed htakes
  have hlatch : (contactClosed .surface i s).pls.surface = s.pls.surface := rfl
  have hrun : (contactClosed .surface i s).run.position = s.run.position := rfl
  have hnow : (contactClosed .surface i s).now = s.now := rfl
  simp only [acceptedClosure, hlatch, hrun, hnow, hclosure, latchHanded_armed harmed]
  rfl

theorem surfaceClosure_unarmed (i : Input) (h : s.pls.surface.state ≠ .armed) :
    acceptedClosure .surface (contactClosed .surface i s) = contactClosed .surface i s := by
  have hlatch : (contactClosed .surface i s).pls.surface = s.pls.surface := rfl
  simp only [acceptedClosure, hlatch, Latch.closure_of_unarmed h, latchHanded_unarmed h]
  rfl

theorem runSurfaceLatch_aside {v : LatchVal} (h : u.run.state ≠ .surfaceSeek) : runSurfaceLatch v u = u := by
  unfold runSurfaceLatch
  split
  · next hstate _ => exact absurd hstate h
  · rfl

theorem runBottomLatch_aside {v : LatchVal} (h : u.run.state ≠ .sound) : runBottomLatch v u = u := by
  unfold runBottomLatch
  split
  · next hstate _ => exact absurd hstate h
  · rfl

theorem runSurfaceLatch_seeking {v : Vertical} {now : Nat} (hstate : u.run.state = .surfaceSeek)
    (hv : u.run.vertical = some v) :
    (∀ n age, cable = some (n, age) → runSurfaceLatch { cable := cable, closedAt := now } u = enterSound v n u) ∧
      (cable = none → runSurfaceLatch { cable := cable, closedAt := now } u = abortRun .positionError u) := by
  refine ⟨?_, ?_⟩
  · rintro n age rfl
    simp only [runSurfaceLatch, hstate, hv]
  · rintro rfl
    simp only [runSurfaceLatch, hstate, hv]

theorem runBottomLatch_sounding {v : Vertical} {now : Nat} (hstate : u.run.state = .sound)
    (hv : u.run.vertical = some v) :
    (∀ n age, cable = some (n, age) → runBottomLatch { cable := cable, closedAt := now } u = enterFirstPoint v n u) ∧
      (cable = none → runBottomLatch { cable := cable, closedAt := now } u = abortRun .positionError u) := by
  refine ⟨?_, ?_⟩
  · rintro n age rfl
    simp only [runBottomLatch, hstate, hv]
  · rintro rfl
    simp only [runBottomLatch, hstate, hv]

/-- R150: the abort of a working run, the event having begun in `s`. -/
theorem abortRun_settled (cause : RunOutcome) (hwork : s.run.state.working = true)
    (state : u.run.state = s.run.state := by rfl) (marker : u.run.marker = s.run.marker := by rfl)
    (held : u.run.held = s.run.held := by rfl) (record : u.run.record = s.run.record := by rfl)
    (tbl : u.tbl = s.tbl := by rfl) (clk : u.clk = s.clk := by rfl) :
    RunAborted cause s (settle (abortRun cause u)) := by
  have hnow : u.now = s.now := by simp only [State.now, clk]
  obtain ⟨hretrieve, hrecord⟩ := abortRun_aborted cause (s := u) (by rwa [state])
  exact RunAborted.carriedOn ⟨hretrieve.of_start hnow (State.header_congr tbl (by rw [record])) marker held,
    by rw [hrecord, record]⟩ (settle_carriedOn _) (by simp)

/-! ## The bottom latch (R141, R142) -/

/-- PLS with the bottom latch taken. -/
def bottomTaken (i : Input) (cable : Option (Int × Nat)) (s : State) : State :=
  (contactClosed .bottom i s).setPls
    { (contactClosed .bottom i s).pls with bottom := latchedWith s.pls.bottom cable s.now }

theorem bottomClosure_armed (i : Input) (harmed : s.pls.bottom.state = .armed) (htakes : LatchTakes s.pls.bottom s cable) :
    acceptedClosure .bottom (contactClosed .bottom i s) =
      runBottomLatch { cable := cable, closedAt := s.now } (bottomTaken i cable s) := by
  have hclosure := Latch.closure_of_armed harmed htakes
  have hlatch : (contactClosed .bottom i s).pls.bottom = s.pls.bottom := rfl
  have hrun : (contactClosed .bottom i s).run.position = s.run.position := rfl
  have hnow : (contactClosed .bottom i s).now = s.now := rfl
  simp only [acceptedClosure, hlatch, hrun, hnow, hclosure, latchHanded_armed harmed]
  rfl

theorem bottomClosure_unarmed (i : Input) (h : s.pls.bottom.state ≠ .armed) :
    acceptedClosure .bottom (contactClosed .bottom i s) = contactClosed .bottom i s := by
  have hlatch : (contactClosed .bottom i s).pls.bottom = s.pls.bottom := rfl
  simp only [acceptedClosure, hlatch, Latch.closure_of_unarmed h, latchHanded_unarmed h]
  rfl

/-! ## The points of a vertical (R141, R142) -/

theorem pointAt_eq (bottom : Int) (kind : PointKind) (c : Int) : pointAt bottom kind c = placedAt bottom kind c := by
  unfold pointAt placedAt
  split
  · next h => simp [min_eq_right h.le, h]
  · next h => simp [min_eq_left (not_lt.mp h), h]

theorem roundDiv_ten {n : Int} (h : 0 ≤ n) : roundDiv n 10 = (n + 5) / 10 := by
  unfold roundDiv
  rw [if_pos h]
  omega

theorem pointsOf_shallow (m : Method) (surface bottom d : Int) :
    pointsOf m surface bottom d true = [{ kind := .bottom, cable := bottom, shallow := false }] := rfl

theorem pointsOf_deep (m : Method) (surface bottom : Int) {d : Int} (hd : 0 ≤ d) :
    pointsOf m surface bottom d false = placedPoints m surface bottom d := by
  cases m <;> simp [pointsOf, placedPoints, pointAt_eq, roundDiv_ten, hd]

theorem placedPoints_cable {m : Method} {surface bottom d : Int} {q : PointSpec}
    (hq : q ∈ placedPoints m surface bottom d) : q.cable ≤ bottom := by
  have hplaced (kind : PointKind) (c : Int) : (placedAt bottom kind c).cable ≤ bottom := min_le_right c bottom
  cases m with
  | onePoint =>
    obtain rfl := List.mem_singleton.mp hq
    exact hplaced _ _
  | twoPoint =>
    obtain rfl | hq := List.mem_cons.mp hq
    · exact hplaced _ _
    · obtain rfl := List.mem_singleton.mp hq
      exact hplaced _ _
  | threePoint =>
    obtain rfl | hq := List.mem_cons.mp hq
    · exact hplaced _ _
    · obtain rfl | hq := List.mem_cons.mp hq
      · exact hplaced _ _
      · obtain rfl := List.mem_singleton.mp hq
        exact hplaced _ _
  | surface =>
    obtain rfl := List.mem_singleton.mp hq
    exact hplaced _ _

/-- R141: POINT-SEEK with its HALT handed. -/
theorem enterFirstPoint_entered (v : Vertical) (n : Int) (u : State) :
    (enterFirstPoint v n u).run.state = .pointSeek ∧ (enterFirstPoint v n u).pls.surface.state = .idle ∧
      (enterFirstPoint v n u).pls.bottom.state = .idle ∧
      (enterFirstPoint v n u).run.cableAt = some (u.now + 1000 * u.header.cableTimeout) := by
  simp [enterFirstPoint, Run.enter, Pls.disarm, idleLatch]

theorem handRun_lastId {a : Nat} (k : CmdKind) (h : u.run.held = some a) :
    (handRun k u).run.lastCmd.map (fun c => c.1.id) = some u.run.nextId := by
  have hlast : (handRun k u).run.lastCmd.map Prod.fst = some { kind := k, addr := a, id := u.run.nextId } := by
    simp only [handRun, h]
    rw [tellReplaced_lastCmd]
    rfl
  have hid := congrArg (Option.map RunCmd.id) hlast
  rwa [Option.map_map] at hid

theorem enterFirstPoint_halts {a : Nat} (v : Vertical) (n : Int) (h : u.run.held = some a) :
    HandedOver .halt a (enterFirstPoint v n u) ∧
      (enterFirstPoint v n u).run.haltId = (enterFirstPoint v n u).run.lastCmd.map fun c => c.1.id := by
  refine ⟨handRun_handedOver .halt h, ?_⟩
  have hhalt : (enterFirstPoint v n u).run.haltId = some u.run.nextId := by simp [enterFirstPoint, Run.enter]
  rw [hhalt]
  unfold enterFirstPoint
  dsimp only
  rw [handRun_lastId (a := a) .halt (by exact h)]
  rfl

theorem enterFirstPoint_vertical (v : Vertical) (n : Int) (u : State) :
    ∃ w d, (enterFirstPoint v n u).run.vertical = some w ∧ w.surface = v.surface ∧ w.bottom = some n ∧
      d = n - v.surface.getD 0 + u.header.weightOffset ∧ w.depth = some d ∧ w.results = [] ∧
      (w.shallow = true ↔ d ≤ u.header.weightOffset) ∧
      (d ≤ u.header.weightOffset → w.points = [{ kind := .bottom, cable := n, shallow := false }]) ∧
      (u.header.weightOffset < d →
        w.points = placedPoints (methodOf u.header (planEntry u.plan v.entry)) (v.surface.getD 0) n d) ∧
      ∀ q ∈ w.points, q.cable ≤ n := by
  generalize hd : n - v.surface.getD 0 + u.header.weightOffset = d
  generalize hm : methodOf u.header (planEntry u.plan v.entry) = m
  have hvertical : (enterFirstPoint v n u).run.vertical =
      some
        { v with
          bottom := some n, depth := some d, shallow := decide (d ≤ u.header.weightOffset),
          points := pointsOf m (v.surface.getD 0) n d (decide (d ≤ u.header.weightOffset)), results := [] } := by
    simp [enterFirstPoint, Run.enter, hd, hm]
  refine ⟨_, d, hvertical, rfl, rfl, rfl, rfl, rfl, decide_eq_true_iff, fun hshallow => ?_, fun hdeep => ?_, fun q hq => ?_⟩
  · simp only [decide_eq_true hshallow, pointsOf_shallow]
  · simp only [decide_eq_false (not_le.mpr hdeep), pointsOf_deep _ _ _ (by omega : 0 ≤ d)]
  · by_cases hshallow : d ≤ u.header.weightOffset
    · simp only [decide_eq_true hshallow, pointsOf_shallow, List.mem_singleton] at hq
      rw [hq]
    · simp only [decide_eq_false hshallow, pointsOf_deep _ _ _ (by omega : 0 ≤ d)] at hq
      exact placedPoints_cable hq

/-! ## The two closures -/

theorem surfaceClosure_takes (hawake : s.resetLine = false) (hopen : s.pls.surfaceIn.closed = false)
    (haccepted : ClosureAccepted s .surface) (htakes : LatchTakes s.pls.surface s cable) :
    ∃ t, exec (.contactClosure .surface) s = .next t ∧ EventFrame [.pls, .lines, .run] s t ∧
      (s.pls.surface.state ≠ .armed → t.pls.surface = s.pls.surface ∧ t.run = s.run) ∧
      (s.pls.surface.state = .armed → s.run.state ≠ .surfaceSeek →
        t.pls.surface = { s.pls.surface with state := .latched, value := some { cable := cable, closedAt := s.now } } ∧
        t.run = s.run) ∧
      ∀ v, s.pls.surface.state = .armed → s.run.state = .surfaceSeek → s.run.vertical = some v →
        (∀ n age, cable = some (n, age) →
          t.pls.surface =
            { s.pls.surface with state := .latched, value := some { cable := cable, closedAt := s.now } } ∧
          t.run.state = .sound ∧ t.run.vertical = some { v with surface := some n } ∧
          t.pls.bottom = { state := .armed, armTime := some s.now, value := none } ∧
          t.run.cableAt = some (s.now + 1000 * s.header.cableTimeout)) ∧
        (cable = none → RunAborted .positionError s t) := by
  refine ⟨_, contactClosure_row (c := .surface) hawake hopen, ?_⟩
  rw [closeContact_accepted haccepted]
  generalize ({ closed := true, .. } : Input) = i
  refine ⟨acceptedClosure_eventFrame .., fun hunarmed => ?_, fun harmed haside => ?_, fun v harmed hstate hv => ?_⟩
  · rw [surfaceClosure_unarmed i hunarmed]
    simp [contactClosed]
  · rw [surfaceClosure_armed i harmed htakes, runSurfaceLatch_aside (by exact haside)]
    simp [surfaceTaken, contactClosed, latchedWith]
  · rw [surfaceClosure_armed i harmed htakes]
    obtain ⟨htaken, hnone⟩ := runSurfaceLatch_seeking (u := surfaceTaken i cable s) (cable := cable) (now := s.now)
      hstate hv
    refine ⟨fun n age hcable => ?_, fun hcable => ?_⟩
    · rw [htaken n age hcable]
      have hrun : (settle (enterSound v n (surfaceTaken i cable s))).run =
        (enterSound v n (surfaceTaken i cable s)).run := by simp
      have hpls : (settle (enterSound v n (surfaceTaken i cable s))).pls =
        (enterSound v n (surfaceTaken i cable s)).pls := by simp
      rw [hrun, hpls]
      exact ⟨rfl, rfl, rfl, rfl, rfl⟩
    · rw [hnone hcable]
      exact abortRun_settled .positionError (by rw [hstate]; rfl)

theorem bottomClosure_takes (hawake : s.resetLine = false) (hopen : s.pls.bottomIn.closed = false)
    (haccepted : ClosureAccepted s .bottom) (htakes : LatchTakes s.pls.bottom s cable) :
    ∃ t, exec (.contactClosure .bottom) s = .next t ∧ EventFrame [.pls, .lines, .run] s t ∧
      (s.pls.bottom.state ≠ .armed → t.pls.bottom = s.pls.bottom ∧ t.run = s.run) ∧
      (s.pls.bottom.state = .armed → s.run.state ≠ .sound →
        t.pls.bottom = { s.pls.bottom with state := .latched, value := some { cable := cable, closedAt := s.now } } ∧
        t.run = s.run) ∧
      ∀ v, s.pls.bottom.state = .armed → s.run.state = .sound → s.run.vertical = some v →
        (∀ n age, cable = some (n, age) →
          t.run.state = .pointSeek ∧ t.pls.surface.state = .idle ∧ t.pls.bottom.state = .idle ∧
          t.run.cableAt = some (s.now + 1000 * s.header.cableTimeout) ∧
          (∀ a, s.run.held = some a → HandedOver .halt a t ∧ t.run.haltId = t.run.lastCmd.map fun c => c.1.id) ∧
          ∃ w d, t.run.vertical = some w ∧ w.surface = v.surface ∧ w.bottom = some n ∧
            d = n - v.surface.getD 0 + s.header.weightOffset ∧ w.depth = some d ∧ w.results = [] ∧
            (w.shallow = true ↔ d ≤ s.header.weightOffset) ∧
            (d ≤ s.header.weightOffset → w.points = [{ kind := .bottom, cable := n, shallow := false }]) ∧
            (s.header.weightOffset < d →
              w.points = placedPoints (methodOf s.header (planEntry s.plan v.entry)) (v.surface.getD 0) n d) ∧
            ∀ q ∈ w.points, q.cable ≤ n) ∧
        (cable = none → RunAborted .positionError s t) := by
  refine ⟨_, contactClosure_row (c := .bottom) hawake hopen, ?_⟩
  rw [closeContact_accepted haccepted]
  generalize ({ closed := true, .. } : Input) = i
  refine ⟨acceptedClosure_eventFrame .., fun hunarmed => ?_, fun harmed haside => ?_, fun v harmed hstate hv => ?_⟩
  · rw [bottomClosure_unarmed i hunarmed]
    simp [contactClosed]
  · rw [bottomClosure_armed i harmed htakes, runBottomLatch_aside (by exact haside)]
    simp [bottomTaken, contactClosed, latchedWith]
  · rw [bottomClosure_armed i harmed htakes]
    obtain ⟨htaken, hnone⟩ := runBottomLatch_sounding (u := bottomTaken i cable s) (cable := cable) (now := s.now)
      hstate hv
    refine ⟨fun n age hcable => ?_, fun hcable => ?_⟩
    · rw [htaken n age hcable]
      have hcarried := settle_carriedOn (enterFirstPoint v n (bottomTaken i cable s))
      have hpls : (settle (enterFirstPoint v n (bottomTaken i cable s))).pls =
        (enterFirstPoint v n (bottomTaken i cable s)).pls := by simp
      obtain ⟨hseek, hsurface, hbottom, hcable⟩ := enterFirstPoint_entered v n (bottomTaken i cable s)
      rw [hpls, hcarried.run]
      refine ⟨hseek, hsurface, hbottom, hcable, fun a ha => ?_, enterFirstPoint_vertical v n (bottomTaken i cable s)⟩
      obtain ⟨hhanded, hid⟩ := enterFirstPoint_halts v n (u := bottomTaken i cable s) ha
      exact ⟨hhanded.carriedOn hcarried, hid⟩
    · rw [hnone hcable]
      exact abortRun_settled .positionError (by rw [hstate]; rfl)

end

/-- Settles O44. -/
theorem latchesTakeTheCableCount : Obligations.LatchesTakeTheCableCount := by
  unfold Obligations.LatchesTakeTheCableCount
  exact ⟨fun s cable hawake hopen haccepted htakes => surfaceClosure_takes hawake hopen haccepted htakes,
    fun s cable hawake hopen haccepted htakes => bottomClosure_takes hawake hopen haccepted htakes⟩

end Sys2Proof.Machine
end

section
/-! The timers of a run (R137, R138, R140, R147, R150, R151). -/

namespace Sys2Proof.Machine

set_option Elab.async false

section
variable {s u : State}

/-! ## A cause that has come by a timer (R150, R151) -/

/-- R151: the cause that comes to a run that is not working, the event having begun in `s`. -/
theorem abortRun_noted_settled (cause : RunOutcome) (hidle : s.run.state.working = false)
    (state : u.run.state = s.run.state := by rfl) (marker : u.run.marker = s.run.marker := by rfl)
    (record : u.run.record = s.run.record := by rfl) (pls : u.pls = s.pls := by rfl) :
    CauseNoted cause s (settle (abortRun cause u)) := by
  have hnoted := (abortRun_noted cause (s := u) (by rwa [state])).carriedOn (settle_carriedOn _) (by simp)
  obtain ⟨hstate, hmarker, hpls, hrecord⟩ := hnoted
  rw [state, record] at hrecord
  exact ⟨hstate.trans state, hmarker.trans marker, hpls.trans pls, hrecord⟩

/-- RUN with its traverse timer taken. -/
def traverseTaken (s : State) : State := s.setRun { s.run with traverseAt := none, traverseLapsed := false }

/-- RUN with its cable timer taken. -/
def cableTaken (s : State) : State := s.setRun { s.run with cableAt := none, cableLapsed := false }

theorem traverseTimeout_row (hawake : s.resetLine = false) (hdue : s.traverseDue = true) :
    exec .traverseTimeout s = .next (settle (abortRun .abortedTimeout (traverseTaken s))) := by
  have hexec : exec .traverseTimeout s = execTraverseTimeout s := rfl
  rw [hexec, execTraverseTimeout, taken_of_awake hawake, if_pos hdue]
  rfl

theorem cableTimeout_row (hawake : s.resetLine = false) (hdue : s.cableDue = true) :
    exec .cableTimeout s = .next (settle (abortRun .abortedTimeout (cableTaken s))) := by
  have hexec : exec .cableTimeout s = execCableTimeout s := rfl
  rw [hexec, execCableTimeout, taken_of_awake hawake, if_pos hdue]
  rfl

theorem timeout_eventFrame (s : State) :
    EventFrame [.pls, .run] s (settle (abortRun .abortedTimeout (traverseTaken s))) ∧
      EventFrame [.pls, .run] s (settle (abortRun .abortedTimeout (cableTaken s))) := by
  unfold traverseTaken cableTaken
  exact ⟨EventFrame.settle (.of_changes .of_blocks), EventFrame.settle (.of_changes .of_blocks)⟩

/-- The expiries that an abort leaves behind: those of the timers it stops. -/
theorem abortRun_lapsed (cause : RunOutcome) (u : State) :
    (u.run.traverseLapsed = false → u.run.traverseAt = none → (abortRun cause u).run.traverseLapsed = false) ∧
      (u.run.cableLapsed = false → u.run.cableAt = none → (abortRun cause u).run.cableLapsed = false) := by
  unfold abortRun
  split
  · simp +contextual [enterRetrieve, Run.enter, Run.stopTimers, Run.stopTraverse, Run.stopCable, dueAt]
  · split
    · exact ⟨fun h _ => h, fun h _ => h⟩
    · simp +contextual [addCause]

theorem traverseTimeout_lapsed (hawake : s.resetLine = false) (hlapsed : s.run.traverseLapsed = true) :
    ∃ t, exec .traverseTimeout s = .next t ∧ EventFrame [.pls, .run] s t ∧ t.run.traverseLapsed = false ∧
      (s.run.state.working = true → RunAborted .abortedTimeout s t) ∧
      (s.run.state.working = false → CauseNoted .abortedTimeout s t) := by
  refine ⟨_, traverseTimeout_row hawake (by simp [State.traverseDue, hlapsed]), (timeout_eventFrame s).1, ?_,
    fun hwork => abortRun_settled .abortedTimeout hwork, fun hidle => abortRun_noted_settled .abortedTimeout hidle⟩
  have hleft := (abortRun_lapsed .abortedTimeout (traverseTaken s)).1 rfl rfl
  simpa using hleft

theorem cableTimeout_lapsed (hawake : s.resetLine = false) (hlapsed : s.run.cableLapsed = true) :
    ∃ t, exec .cableTimeout s = .next t ∧ EventFrame [.pls, .run] s t ∧ t.run.cableLapsed = false ∧
      (s.run.state.working = true → RunAborted .abortedTimeout s t) ∧
      (s.run.state.working = false → CauseNoted .abortedTimeout s t) := by
  refine ⟨_, cableTimeout_row hawake (by simp [State.cableDue, hlapsed]), (timeout_eventFrame s).2, ?_,
    fun hwork => abortRun_settled .abortedTimeout hwork, fun hidle => abortRun_noted_settled .abortedTimeout hidle⟩
  have hleft := (abortRun_lapsed .abortedTimeout (cableTaken s)).2 rfl rfl
  simpa using hleft

/-- R109: the abort of a working run under a held grant that is not yet claimed. -/
theorem abortRun_claim (cause : RunOutcome) (hwork : u.run.state.working = true)
    (h : u.loop.grant.state = .held ∨ u.loop.grant.state = .closing) :
    (settle (abortRun cause u)).loop.grant.state = .claiming ∧
      (settle (abortRun cause u)).loop.grant.cause = some .runEngine ∧ ClaimOnItsWay (settle (abortRun cause u)) := by
  have hclaim := Loop.claim_of_held .runEngine h
  have hgrant : (abortRun cause u).loop.grant = (u.loop.claim .runEngine).grant ∧
      (abortRun cause u).loop.claimPlace = (u.loop.claim .runEngine).claimPlace := by
    rw [abortRun, if_pos hwork]
    simp
  rw [hclaim] at hgrant
  obtain ⟨hgrant, hplace⟩ := hgrant
  rw [settle_grant_of_held (by rw [hgrant]; rfl), hgrant]
  exact ⟨rfl, rfl, ClaimOnItsWay.settleFrom _ (.inl hplace)⟩

/-! ## The enquiry interval (R138, R147) -/

/-- R147: what is handed after an enquiry interval. -/
def enquiryKind (s : State) : CmdKind :=
  if s.run.state = .retrieve ∧ s.run.retrieveSent = false then .retrieve else .poll

theorem enquire_eq (s : State) : enquire s = handRun (enquiryKind s) (s.setRun { s.run with enquiryAt := none }) := by
  unfold enquire enquiryKind
  dsimp only
  split
  · rfl
  · rfl

theorem enquiry_hands {e a : Nat} (hawake : s.resetLine = false)
    (hstate : s.run.state = .verify ∨ s.run.state = .retrieve) (hat : s.run.enquiryAt = some e) (hpast : e ≤ s.now)
    (hheld : s.run.held = some a) :
    ∃ t, exec .enquiryInterval s = .next t ∧ EventFrame [.run] s t ∧ t.run.state = s.run.state ∧
      t.run.enquiryAt = none ∧ t.run.record = s.run.record ∧ HandedOver (enquiryKind s) a t := by
  have hdue : s.enquiryDue = true := by simpa [State.enquiryDue, hat, dueAt, hpast] using hstate
  have hrow : exec .enquiryInterval s = .next (settle (enquire s)) := by
    have hexec : exec .enquiryInterval s = execEnquiryInterval s := rfl
    rw [hexec, execEnquiryInterval, taken_of_awake hawake, if_pos hdue]
  rw [enquire_eq] at hrow
  refine ⟨_, hrow, EventFrame.settle (.of_changes .of_blocks), by simp, ?_, by simp,
    (handRun_handedOver _ (by exact hheld)).carriedOn (settle_carriedOn _)⟩
  simp [handRun, hheld]

end

/-- Settles O46. -/
theorem runTimersAbortAndEnquire : Obligations.RunTimersAbortAndEnquire := by
  unfold Obligations.RunTimersAbortAndEnquire
  refine ⟨fun s e hawake hstate hat hpast => ?_, fun s e hawake hstate hat hpast => ?_,
    fun s hawake hlapsed => traverseTimeout_lapsed hawake hlapsed,
    fun s hawake hlapsed => cableTimeout_lapsed hawake hlapsed, fun s hstate hdue => ?_,
    fun s e a hawake hstate hat hpast hheld => enquiry_hands hawake hstate hat hpast hheld⟩
  · have hdue : s.traverseDue = true :=
      (traverseDue_iff s).mpr (.inr ⟨by obtain h | h := hstate <;> rw [h] <;> rfl, by simpa [hat, dueAt] using hpast⟩)
    have hwork : s.run.state.working = true := by obtain h | h := hstate <;> rw [h] <;> rfl
    exact ⟨_, traverseTimeout_row hawake hdue, (timeout_eventFrame s).1, abortRun_settled .abortedTimeout hwork⟩
  · have hdue : s.cableDue = true :=
      (cableDue_iff s).mpr (.inr ⟨by obtain h | h | h | h := hstate <;> rw [h] <;> rfl,
        by simpa [hat, dueAt] using hpast⟩)
    have hwork : s.run.state.working = true := by obtain h | h | h | h := hstate <;> rw [h] <;> rfl
    exact ⟨_, cableTimeout_row hawake hdue, (timeout_eventFrame s).2, abortRun_settled .abortedTimeout hwork,
      fun hgrant => abortRun_claim (u := cableTaken s) .abortedTimeout hwork hgrant⟩
  · refine ⟨(enterSettle_timers s hstate).stand.2 hdue, ?_⟩
    rw [enterSettle_state]
    split <;> rfl

end Sys2Proof.Machine
end

section
/-! The ends of a retrieval and of CLOSE (R146, R147, R149, R156, R166). -/

namespace Sys2Proof.Machine

set_option Elab.async false

/-! ## A finish without adoption -/

theorem gradeOf_of_retrieveTimeout (o : RunOutcome) {f : GaugeFlags} (h : f.retrieveTimeout = true) :
    gradeOf o f = .poor := by
  refine if_neg fun ⟨_, hnone⟩ => ?_
  have htimeout : f.beyondFair.retrieveTimeout = false := by rw [hnone]; rfl
  have hkept : f.beyondFair.retrieveTimeout = f.retrieveTimeout := rfl
  simp [hkept, h] at htimeout

theorem shiftWanted_of_ungood {r : RunRec} {o : RunOutcome} {s : State} (h : gradeOf o (finishFlags r) ≠ .good) :
    shiftWanted r o s = false := by
  simp [shiftWanted, adoptable, h]

theorem finishRun_poorly {r : RunRec} {o : RunOutcome} (s : State) (h : gradeOf o (finishFlags r) = .poor) :
    FinishedPoor r o s (finishRun r o s) := by
  have hadoption : adoption r o s = (s, none) := adoption_of_unwanted (shiftWanted_of_ungood (by simp [h]))
  exact ⟨finishRun_over r o s, by rw [finishRun_rat, hadoption], finishRecord r o s, finishRun_store r o s, rfl, rfl, rfl,
    rfl, rfl, rfl, rfl, h, by simp [finishRecord, gaugeRecord, hadoption],
    by simp [finishRecord, gaugeRecord, hadoption]⟩

theorem finishRun_changes {r : RunRec} {o : RunOutcome} {s : State} (h : gradeOf o (finishFlags r) = .poor) :
    ChangesOnly [.loop, .ctl, .run, .store, .upl] s (finishRun r o s) := by
  obtain ⟨-, hrat, -⟩ := finishRun_poorly s h
  exact .of_blocks (rat := .inr hrat)

/-! ## What stands to the end of the event -/

theorem RunOver.settle {s u : State} (h : RunOver s u) : RunOver s (settle u) := by
  obtain ⟨hstate, hmarker, hheld, hrecord, htimers, hposition⟩ := h
  constructor <;> simpa

theorem FinishedPoor.settle {r : RunRec} {o : RunOutcome} {s u : State} (h : FinishedPoor r o s u) :
    FinishedPoor r o s (settle u) := by
  obtain ⟨hover, hrat, hgauge⟩ := h
  exact ⟨hover.settle, by simpa using hrat, by simpa using hgauge⟩

/-! ## The retrieve timer (R147) -/

/-- The run is finished as POOR with the flag RETRIEVE-TIMEOUT. -/
def FinishedLate (r : RunRec) (o : RunOutcome) (s t : State) : Prop :=
  FinishedPoor r o s t ∧
    ∃ g : GaugeRec, t.store = s.store.append (.gauging g) ∧ g.flags.retrieveTimeout = true

theorem FinishedLate.settle {r : RunRec} {o : RunOutcome} {s u : State} (h : FinishedLate r o s u) :
    FinishedLate r o s (settle u) :=
  ⟨h.1.settle, by simpa using h.2⟩

/-- A run finished with RUN as its retrieval, or CLOSE, has left it. -/
theorem finishRun_late {r r' : RunRec} (o : RunOutcome) {s : State} (x : Run) (hflag : r'.flags.retrieveTimeout = true)
    (plan : r.plan = r'.plan ∧ r.planId = r'.planId ∧ r.start = r'.start ∧ r.startValid = r'.startValid)
    (position : s.run.position = x.position) :
    FinishedLate r o s (finishRun r' o (s.setRun x)) ∧
      ChangesOnly [.loop, .ctl, .run, .store, .upl] s (finishRun r' o (s.setRun x)) := by
  have hpoor : gradeOf o (finishFlags r') = .poor := gradeOf_of_retrieveTimeout o hflag
  have hfinished := finishRun_poorly (s.setRun x) hpoor
  have ⟨_, hrat, _⟩ := hfinished
  exact ⟨⟨hfinished.of_start plan position rfl rfl rfl, finishRecord r' o (s.setRun x), finishRun_store r' o _, hflag⟩,
    .of_blocks (rat := .inr hrat)⟩

section
variable {s : State} {r : RunRec} (hr : s.run.record = some r)
include hr

theorem retrieveTimeout_of_complete (hfrom : r.fromMarker = false) (ho : r.outcome = some .complete) :
    FinishedLate r .complete s (endRetrieval false s) ∧
      ChangesOnly [.loop, .ctl, .run, .store, .upl] s (endRetrieval false s) := by
  rw [endRetrieval_of_run hr (.inl hfrom), if_pos ho]
  exact finishRun_late .complete _ rfl ⟨rfl, rfl, rfl, rfl⟩ rfl

theorem retrieveTimeout_of_unwritten {m : Marker} (hfrom : r.fromMarker = true) (hm : s.run.marker = some m)
    (hw : m.written = false) :
    FinishedLate r .abortedPower s (endRetrieval false s) ∧
      ChangesOnly [.loop, .ctl, .run, .store, .upl] s (endRetrieval false s) := by
  rw [endRetrieval_of_marker hr hfrom hm, endMarkedRetrieval_of_unwritten hw]
  exact finishRun_late .abortedPower _ rfl ⟨rfl, rfl, rfl, rfl⟩ rfl

theorem retrieveTimeout_of_empty {o : RunOutcome} (hfrom : r.fromMarker = false) (ho : r.outcome = some o)
    (hne : o ≠ .complete) (hnone : r.verticals = []) :
    FinishedLate r o s (endRetrieval false s) ∧
      ChangesOnly [.loop, .ctl, .run, .store, .upl] s (endRetrieval false s) := by
  have hverticals : (retrievedRec false r).verticals = [] := hnone
  have houtcome : (retrievedRec false r).outcome = some o := ho
  rw [endRetrieval_of_run hr (.inl hfrom), if_neg (by simp [ho, hne]), enterClose_of_aborted hverticals houtcome]
  exact finishRun_late o _ rfl ⟨rfl, rfl, rfl, rfl⟩ rfl

theorem retrieveTimeout_of_written {m : Marker} (hfrom : r.fromMarker = true) (hm : s.run.marker = some m)
    (hw : m.written = true) :
    (RunOver s (endRetrieval false s) ∧
      (endRetrieval false s).store =
        s.store.append
          (.notice
            { time := s.clk.time, valid := s.clk.valid,
              body := .runRetrieved m.planId m.start m.startValid s.clk.time false })) ∧
      ChangesOnly [.loop, .ctl, .run, .store, .upl] s (endRetrieval false s) := by
  rw [endRetrieval_of_marker hr hfrom hm]
  obtain ⟨⟨hstate, hmarker, hheld, hrecord, htimers, hposition⟩, hstore⟩ :=
    endMarkedRetrieval_of_written hw (retrievedRec false r) false (retrievedState false r s)
  refine ⟨⟨⟨hstate, hmarker, hheld, hrecord, htimers, hposition⟩, hstore⟩, ?_⟩
  rw [endMarkedRetrieval, if_pos hw, retrievedState]
  exact .of_blocks

theorem retrieveTimeout_of_verticals (hfrom : r.fromMarker = false) (ho : r.outcome ≠ some .complete)
    (hsome : r.verticals ≠ []) :
    endRetrieval false s =
      (retrievedState false r s).setRun (closingRun (retrievedRec false r) (retrievedState false r s)) := by
  have hverticals : (retrievedRec false r).verticals ≠ [] := hsome
  rw [endRetrieval_of_run hr (.inl hfrom), if_neg ho, enterClose_of_verticals hverticals]

/-- Only RUN, the store and UPL take part in the end of a retrieval that has an outcome, a vertical or its marker. -/
theorem retrieveTimeout_changes (hrun : r.fromMarker = false → r.outcome = none → r.verticals ≠ [])
    (hmarker : r.fromMarker = true → s.run.marker ≠ none) :
    ChangesOnly [.loop, .ctl, .run, .store, .upl] s (endRetrieval false s) := by
  cases hfrom : r.fromMarker with
  | true =>
    obtain ⟨m, hm⟩ := Option.ne_none_iff_exists'.mp (hmarker hfrom)
    cases hw : m.written with
    | true => exact (retrieveTimeout_of_written hr hfrom hm hw).2
    | false => exact (retrieveTimeout_of_unwritten hr hfrom hm hw).2
  | false =>
    by_cases hcomplete : r.outcome = some .complete
    · exact (retrieveTimeout_of_complete hr hfrom hcomplete).2
    by_cases hnone : r.verticals = []
    · cases ho : r.outcome with
      | none => exact absurd hnone (hrun hfrom ho)
      | some o => exact (retrieveTimeout_of_empty hr hfrom ho (by simpa [ho] using hcomplete) hnone).2
    · rw [retrieveTimeout_of_verticals hr hfrom hcomplete hnone, retrievedState]
      exact .of_blocks

end

theorem retrieveTimeout_row {s : State} {e : Nat} (hawake : s.resetLine = false) (hstate : s.run.state = .retrieve)
    (hat : s.run.retrieveAt = some e) (hpast : e ≤ s.now) :
    exec .retrieveTimeout s = .next (settle (endRetrieval false s)) := by
  have hdue : s.retrieveDue = true := by simp [State.retrieveDue, hstate, hat, dueAt, hpast]
  have hexec : exec .retrieveTimeout s = execRetrieveTimeout s := rfl
  rw [hexec, execRetrieveTimeout, taken_of_awake hawake, if_pos hdue]

/-! ## The answer of the inverse lookup (R146, R166) -/

/-- R165, R166: the figures of CLOSE with the answer taken in. -/
def Answered (c c' : Calc) (a : LookupAnswer) : Prop :=
  c'.asked = none ∧ c'.total = c.total ∧ c'.gaugeHeight = c.gaugeHeight ∧
  match a with
  | .noRating => c'.noRating = true ∧ c'.ratingId = c.ratingId ∧ c'.indicated = c.indicated
  | .outOfRating i => c'.outOfRating = true ∧ c'.ratingId = some i ∧ c'.indicated = c.indicated
  | .stage he i =>
    c'.ratingId = some i ∧
    if 100000000 < c.total then c'.outOfRating = true ∧ c'.indicated = c.indicated
    else c'.indicated = c.gaugeHeight.map fun g => he - g

theorem Calc.answer_answered (c : Calc) (a : LookupAnswer) : Answered c (c.answer a) a := by
  cases a with
  | noRating => exact ⟨rfl, rfl, rfl, rfl, rfl, rfl⟩
  | outOfRating i => exact ⟨rfl, rfl, rfl, rfl, rfl, rfl⟩
  | stage he i =>
    by_cases hmore : 100000000 < c.total
    · simp [Answered, Calc.answer, hmore]
    · simp [Answered, Calc.answer, hmore]

theorem endClose_of_aborted {r : RunRec} {o : RunOutcome} (c : Calc) (s : State) (ho : r.outcome = some o) :
    endClose r c s = finishRun { r with figures := some c } o s := by
  simp only [endClose, ho]

/-- RUN with the record of a run that CLOSE has made COMPLETE. -/
def completedState (r : RunRec) (c : Calc) (s : State) : State :=
  s.setRun { s.run with record := some { r with figures := some c, outcome := some .complete } }

theorem endClose_of_run {r : RunRec} (c : Calc) (s : State) (ho : r.outcome = none) :
    endClose r c s = enterRetrieve (completedState r c s) := by
  simp only [endClose, ho, completedState]

theorem enterRetrieve_completed_eventFrame (r : RunRec) (c : Calc) (s : State) :
    EventFrame [.run, .pls] s (enterRetrieve (completedState r c s)) := by
  rw [completedState]
  exact .of_changes .of_blocks

theorem completedState_header {r : RunRec} (c : Calc) {s : State} (hr : s.run.record = some r) :
    (completedState r c s).header = s.header :=
  State.header_congr rfl (by simp [completedState, hr])

theorem inverseLookup_row {s : State} {r : RunRec} {c : Calc} {q : Nat} (hawake : s.resetLine = false)
    (hstate : s.run.state = .close) (hr : s.run.record = some r) (hc : r.figures = some c) (hq : c.asked = some q) :
    exec .inverseLookup s = .next (settle (endClose r (c.answer (inverseLookup s.rat.live q)) s)) := by
  have hasked : s.lookupAsked = some (r, c, q) := by simp [State.lookupAsked, hstate, hr, hc, hq]
  have hexec : exec .inverseLookup s = execInverseLookup s := rfl
  rw [hexec, execInverseLookup, taken_of_awake hawake]
  simp only [hasked]

/-- Settles O47. -/
theorem retrievalAndCloseEndTheRun : Obligations.RetrievalAndCloseEndTheRun := by
  unfold Obligations.RetrievalAndCloseEndTheRun
  refine ⟨fun s e r hawake hstate hat hpast hr => ?_, fun s r c q hawake hstate hr hc hq => ?_⟩
  · refine ⟨_, retrieveTimeout_row hawake hstate hat hpast, EventFrame.settle (.of_changes .of_blocks),
      by constructor <;> simp, fun hrun hmarker => EventFrame.settle (.of_changes (retrieveTimeout_changes hr hrun hmarker)),
      fun hfrom ho => (retrieveTimeout_of_complete hr hfrom ho).1.settle,
      fun m hfrom hm hw => (retrieveTimeout_of_unwritten hr hfrom hm hw).1.settle, fun m hfrom hm hw => ?_,
      fun o hfrom ho hne hnone => (retrieveTimeout_of_empty hr hfrom ho hne hnone).1.settle, fun hfrom ho hsome => ?_⟩
    · obtain ⟨⟨hover, hstore⟩, -⟩ := retrieveTimeout_of_written hr hfrom hm hw
      exact ⟨hover.settle, by simpa using hstore⟩
    · rw [retrieveTimeout_of_verticals hr hfrom ho hsome]
      have hrun (u : State) : (settle u).run = u.run := by simp
      have hstore (u : State) : (settle u).store = u.store := by simp
      rw [hrun, hstore]
      exact ⟨rfl, rfl, rfl, rfl, _, rfl, rfl, rfl, rfl, rfl⟩
  · refine ⟨_, inverseLookup_row hawake hstate hr hc hq, EventFrame.settle (.of_changes .of_blocks),
      by constructor <;> simp, fun o ho hne => ?_, fun ho => ?_⟩
    · rw [endClose_of_aborted _ s ho]
      have hpoor := gradeOf_of_aborted hne (finishFlags { r with figures := some (c.answer (inverseLookup s.rat.live q)) })
      exact ⟨((finishRun_poor hne s).of_start ⟨rfl, rfl, rfl, rfl⟩ rfl rfl rfl rfl).settle,
        EventFrame.settle (.of_changes (finishRun_changes hpoor))⟩
    · rw [endClose_of_run _ s ho]
      have hbegun : RetrieveBegun s (enterRetrieve (completedState r (c.answer (inverseLookup s.rat.live q)) s)) :=
        (enterRetrieve_begun _).of_start rfl (completedState_header _ hr) rfl rfl
      obtain ⟨hasked, htotal, hheight, hindicated⟩ := c.answer_answered (inverseLookup s.rat.live q)
      refine ⟨hbegun.carriedOn (settle_carriedOn _) (by simp), (enterRetrieve_completed_eventFrame r _ s).settle,
        { r with figures := some (c.answer (inverseLookup s.rat.live q)), outcome := some .complete },
        c.answer (inverseLookup s.rat.live q), by simp [completedState], rfl, rfl, rfl, hasked, htotal, hheight, hindicated⟩

end Sys2Proof.Machine
end

section
/-! The rounded quotient (4.2), and what a line of breakpoints gives by it (R34, R35, R38). -/

namespace Sys2Proof.Machine

set_option Elab.async false

/-! ## The rounded quotient -/

/-- At or above 0 the quotient is the floor of the half-shifted one. -/
theorem roundDiv_bounds {n d : Int} (hd : 0 < d) (hn : 0 ≤ n) :
    2 * (roundDiv n d * d) ≤ 2 * n + d ∧ 2 * n + d < 2 * (roundDiv n d * d) + 2 * d := by
  have hlow := Int.ediv_mul_le (2 * n + d) (b := 2 * d) (by omega)
  have hhigh := Int.lt_ediv_add_one_mul_self (2 * n + d) (b := 2 * d) (by omega)
  rw [roundDiv, if_pos hn]
  constructor <;> linarith

theorem roundDiv_nonneg {n d : Int} (hd : 0 < d) (hn : 0 ≤ n) : 0 ≤ roundDiv n d := by
  rw [roundDiv, if_pos hn]
  exact Int.ediv_nonneg (by omega) (by omega)

theorem roundDiv_of_neg {n : Int} (d : Int) (hn : n < 0) : roundDiv n d = -roundDiv (-n) d := by
  rw [roundDiv, if_neg (by omega), roundDiv, if_pos (by omega)]

/-- 4.2: the quotient is the nearest integer. -/
theorem roundDiv_nearest (n : Int) {d : Int} (hd : 0 < d) :
    2 * |n - roundDiv n d * d| ≤ d ∧ (2 * |n - roundDiv n d * d| = d → |n| < |roundDiv n d * d|) := by
  by_cases hn : 0 ≤ n
  · obtain ⟨hlow, hhigh⟩ := roundDiv_bounds hd hn
    generalize roundDiv n d * d = x at *
    constructor
    · rw [abs_eq_max_neg]
      omega
    · simp only [abs_eq_max_neg]
      omega
  · obtain ⟨hlow, hhigh⟩ := roundDiv_bounds (n := -n) hd (by omega)
    rw [roundDiv_of_neg d (by omega), neg_mul]
    generalize roundDiv (-n) d * d = x at *
    constructor
    · rw [abs_eq_max_neg]
      omega
    · simp only [abs_eq_max_neg]
      omega

theorem roundDiv_mono {m n d : Int} (hd : 0 < d) (hm : 0 ≤ m) (h : m ≤ n) : roundDiv m d ≤ roundDiv n d := by
  rw [roundDiv, if_pos hm, roundDiv, if_pos (by omega)]
  exact Int.ediv_le_ediv (by omega) (by omega)

theorem roundDiv_mul {m d : Int} (hd : 0 < d) (hm : 0 ≤ m) : roundDiv (m * d) d = m := by
  rw [roundDiv, if_pos (by positivity), Int.ediv_eq_iff_of_pos (by omega)]
  constructor <;> linarith

theorem roundDiv_zero {d : Int} (hd : 0 < d) : roundDiv 0 d = 0 := by
  simpa using roundDiv_mul hd (le_refl 0)

/-- The nearest integer of two counts. -/
theorem roundDivNat_bounds (n : Nat) {d : Nat} (hd : 0 < d) :
    2 * d * roundDivNat n d ≤ 2 * n + d ∧ 2 * n + d < 2 * d * (roundDivNat n d + 1) :=
  ⟨Nat.mul_div_le _ _, Nat.lt_mul_div_succ _ (by omega)⟩

/-! ## The line through breakpoints -/

/-- The value at `x` on the segment from `p` to `q`. -/
def onSegment (p q : Int × Int) (x : Int) : Int := p.2 + roundDiv ((q.2 - p.2) * (x - p.1)) (q.1 - p.1)

/-- The value at `x` of the line through breakpoints, the last segment for all beyond the one before it. -/
def lineAt : List (Int × Int) → Int → Int
  | p :: q :: rest, x => if x < q.1 ∨ rest = [] then onSegment p q x else lineAt (q :: rest) x
  | [p], _ => p.2
  | [], _ => 0

/-- R34: a rating as a line from stage to discharge. -/
def ratingLine (ps : List (Int × Nat)) : List (Int × Int) := ps.map fun p => (p.1, (p.2 : Int))

/-- R38: a rating as a line from discharge to stage. -/
def inverseLine (ps : List (Int × Nat)) : List (Int × Int) := ps.map fun p => ((p.2 : Int), p.1)

theorem interpolate_eq_lineAt (ps : List (Int × Nat)) (x : Int) : interpolate ps x = lineAt (ratingLine ps) x := by
  induction ps with
  | nil => rfl
  | cons p rest ih =>
    cases rest with
    | nil => rfl
    | cons q rest =>
      rw [interpolate, ih]
      simp only [ratingLine, List.map_cons, lineAt, List.map_eq_nil_iff]
      rfl

theorem invert_eq_lineAt (ps : List (Int × Nat)) (q : Nat) : invert ps q = lineAt (inverseLine ps) q := by
  induction ps with
  | nil => rfl
  | cons p rest ih =>
    cases rest with
    | nil => rfl
    | cons r rest =>
      rw [invert, ih]
      simp only [inverseLine, List.map_cons, lineAt, List.map_eq_nil_iff, Nat.cast_lt]
      rfl

/-- The breakpoints of a line rise on both axes. -/
def Rising (ps : List (Int × Int)) : Prop := ps.Pairwise fun p q => p.1 < q.1 ∧ p.2 < q.2

theorem Rising.tail {p : Int × Int} {ps : List (Int × Int)} (h : Rising (p :: ps)) : Rising ps := List.Pairwise.of_cons h

theorem Rising.first_lt {p e : Int × Int} {ps : List (Int × Int)} (h : Rising (p :: ps)) (he : e ∈ ps) :
    p.1 < e.1 ∧ p.2 < e.2 :=
  (List.pairwise_cons.mp h).1 e he

theorem Rising.first_le {p e : Int × Int} {ps : List (Int × Int)} (h : Rising (p :: ps)) (he : e ∈ p :: ps) :
    p.1 ≤ e.1 ∧ p.2 ≤ e.2 := by
  obtain rfl | he := List.mem_cons.mp he
  · simp
  · obtain ⟨hx, hy⟩ := h.first_lt he
    exact ⟨hx.le, hy.le⟩

section
variable {p q : Int × Int} (hx : p.1 < q.1) (hy : p.2 < q.2)
include hx hy

theorem onSegment_mono {x y : Int} (hp : p.1 ≤ x) (h : x ≤ y) : onSegment p q x ≤ onSegment p q y := by
  unfold onSegment
  have hslope : 0 ≤ q.2 - p.2 := by omega
  have hstart : 0 ≤ (q.2 - p.2) * (x - p.1) := mul_nonneg hslope (by omega)
  have hmono : (q.2 - p.2) * (x - p.1) ≤ (q.2 - p.2) * (y - p.1) := mul_le_mul_of_nonneg_left (by omega) hslope
  have hround := roundDiv_mono (d := q.1 - p.1) (by omega) hstart hmono
  omega

omit hy in
theorem onSegment_first : onSegment p q p.1 = p.2 := by
  simp [onSegment, roundDiv_zero (d := q.1 - p.1) (by omega)]

theorem onSegment_last : onSegment p q q.1 = q.2 := by
  rw [onSegment, roundDiv_mul (by omega) (by omega)]
  omega

theorem onSegment_between {x : Int} (hp : p.1 ≤ x) (hq : x ≤ q.1) : p.2 ≤ onSegment p q x ∧ onSegment p q x ≤ q.2 := by
  have hfirst := onSegment_mono hx hy le_rfl hp
  have hlast := onSegment_mono hx hy hp hq
  rw [onSegment_first hx] at hfirst
  rw [onSegment_last hx hy] at hlast
  exact ⟨hfirst, hlast⟩

end

theorem lineAt_at {ps : List (Int × Int)} (h : Rising ps) {e : Int × Int} (he : e ∈ ps) : lineAt ps e.1 = e.2 := by
  induction ps with
  | nil => simp at he
  | cons p rest ih =>
    cases rest with
    | nil =>
      obtain rfl := List.mem_singleton.mp he
      rfl
    | cons q rest =>
      obtain ⟨hx, hy⟩ := h.first_lt (e := q) (by simp)
      unfold lineAt
      obtain rfl | he := List.mem_cons.mp he
      · rw [if_pos (.inl hx), onSegment_first hx]
      · obtain ⟨hqx, -⟩ := h.tail.first_le he
        split
        · next hseg =>
          have hnil : rest = [] := by
            obtain hlt | hnil := hseg
            · omega
            · exact hnil
          subst hnil
          obtain rfl := List.mem_singleton.mp he
          exact onSegment_last hx hy
        · exact ih h.tail he

theorem lineAt_between {ps : List (Int × Int)} (h : Rising ps) {i : Nat} {e f : Int × Int} (he : ps[i]? = some e)
    (hf : ps[i + 1]? = some f) {x : Int} (hlow : e.1 ≤ x) (hhigh : x < f.1) :
    lineAt ps x = onSegment e f x ∧ e.2 ≤ lineAt ps x ∧ lineAt ps x ≤ f.2 := by
  induction ps generalizing i with
  | nil => simp at he
  | cons p rest ih =>
    cases rest with
    | nil => simp at hf
    | cons q rest =>
      obtain ⟨hx, hy⟩ := h.first_lt (e := q) (by simp)
      unfold lineAt
      cases i with
      | zero =>
        obtain rfl : p = e := by simpa using he
        obtain rfl : q = f := by simpa using hf
        rw [if_pos (.inl hhigh)]
        exact ⟨rfl, onSegment_between hx hy hlow hhigh.le⟩
      | succ i =>
        have he : (q :: rest)[i]? = some e := he
        have hf : (q :: rest)[i + 1]? = some f := hf
        obtain ⟨hqx, -⟩ := h.tail.first_le (List.mem_of_getElem? he)
        have hmore : rest ≠ [] := by
          rintro rfl
          simp at hf
        rw [if_neg (by simp [hmore]; omega)]
        exact ih h.tail he hf

/-- Within the breakpoints the line stays within the values of the first and the last. -/
theorem lineAt_within {p l : Int × Int} {ps : List (Int × Int)} (h : Rising (p :: ps)) {x : Int} (hfirst : p.1 ≤ x)
    (hl : (p :: ps).getLast? = some l) (hlast : x ≤ l.1) : p.2 ≤ lineAt (p :: ps) x ∧ lineAt (p :: ps) x ≤ l.2 := by
  induction ps generalizing p with
  | nil =>
    obtain rfl : p = l := by simpa using hl
    exact ⟨le_rfl, le_rfl⟩
  | cons q rest ih =>
    obtain ⟨hx, hy⟩ := h.first_lt (e := q) (by simp)
    have hl : (q :: rest).getLast? = some l := by simpa using hl
    obtain ⟨hlx, hly⟩ := h.tail.first_le (List.mem_of_getLast? hl)
    unfold lineAt
    split
    · next hseg =>
      have hq : x ≤ q.1 := by
        obtain hlt | rfl := hseg
        · exact hlt.le
        · obtain rfl : q = l := by simpa using hl
          exact hlast
      obtain ⟨hlow, hhigh⟩ := onSegment_between hx hy hfirst hq
      exact ⟨hlow, by omega⟩
    · next hseg =>
      obtain ⟨hlow, hhigh⟩ := ih h.tail (by omega) hl
      exact ⟨by omega, hhigh⟩

end Sys2Proof.Machine
end

section
/-! The rating: the discharge below, between, at and above the breakpoints, and the inverse lookup (R34, R35, R37, R38). -/

namespace Sys2Proof.Machine

set_option Elab.async false

/-! ## The breakpoints of a good rating -/

section
variable {ps : List (Int × Nat)} (h : RatingGood ps)
include h

theorem RatingGood.rising : Rising (ratingLine ps) := by
  obtain ⟨-, hsorted, -⟩ := h
  refine List.pairwise_map.mpr (hsorted.imp fun ⟨hx, hy⟩ => ⟨hx, Nat.cast_lt.mpr hy⟩)

theorem RatingGood.inverse_rising : Rising (inverseLine ps) := by
  obtain ⟨-, hsorted, -⟩ := h
  refine List.pairwise_map.mpr (hsorted.imp fun ⟨hx, hy⟩ => ⟨Nat.cast_lt.mpr hy, hx⟩)

end

theorem lastSegment_eq {ps : List (Int × Nat)} {e f : Int × Nat} (he : ps[ps.length - 2]? = some e)
    (hf : ps[ps.length - 1]? = some f) (hlength : 2 ≤ ps.length) : lastSegment ps = (e, f) := by
  induction ps with
  | nil => simp at hf
  | cons p rest ih =>
    cases rest with
    | nil => simp at hlength
    | cons q rest =>
      cases rest with
      | nil =>
        obtain rfl : p = e := by simpa using he
        obtain rfl : q = f := by simpa using hf
        rfl
      | cons r rest =>
        have hshift (k : Nat) : (p :: q :: r :: rest)[k + 1]? = (q :: r :: rest)[k]? := rfl
        exact ih (by simpa [hshift] using he) (by simpa [hshift] using hf) (by simp)

/-- A good rating has a first breakpoint and a last segment, whose end is its last breakpoint. -/
structure Ends (ps : List (Int × Nat)) (p e f : Int × Nat) : Prop where
  first : ∃ rest, ps = p :: rest
  segment : lastSegment ps = (e, f)
  beforeLast : ps[ps.length - 2]? = some e
  last : ps[ps.length - 1]? = some f
  rise : e.1 < f.1 ∧ e.2 < f.2
  bound : f.2 ≤ 100000000

theorem RatingGood.ends {ps : List (Int × Nat)} (h : RatingGood ps) : ∃ p e f, Ends ps p e f := by
  obtain ⟨hlength, hsorted, hrange⟩ := h
  have he : ps[ps.length - 2]? = some ps[ps.length - 2] := List.getElem?_eq_getElem _
  have hf : ps[ps.length - 1]? = some ps[ps.length - 1] := List.getElem?_eq_getElem _
  obtain ⟨p, rest, hps⟩ := List.exists_cons_of_ne_nil (List.ne_nil_of_length_pos (by omega : 0 < ps.length))
  exact ⟨p, _, _, ⟨rest, hps⟩, lastSegment_eq he hf hlength, he, hf,
    List.pairwise_iff_getElem.mp hsorted _ _ _ _ (by omega), (hrange _ (List.getElem_mem _)).2.2⟩

theorem Ends.getLast? {ps : List (Int × Nat)} {p e f : Int × Nat} (h : Ends ps p e f) : ps.getLast? = some f := by
  rw [List.getLast?_eq_getElem?, h.last]

theorem Ends.head? {ps : List (Int × Nat)} {p e f : Int × Nat} (h : Ends ps p e f) : ps.head? = some p := by
  obtain ⟨rest, rfl⟩ := h.first
  rfl

theorem Ends.between {ps : List (Int × Nat)} {p e f x : Int × Nat} (hends : Ends ps p e f) (h : RatingGood ps)
    (hx : x ∈ ps) : (p.1 ≤ x.1 ∧ p.2 ≤ x.2) ∧ x.1 ≤ f.1 ∧ x.2 ≤ f.2 := by
  obtain ⟨-, hsorted, -⟩ := h
  have hmono : ps.Pairwise fun a b => a.1 ≤ b.1 ∧ a.2 ≤ b.2 := hsorted.imp fun ⟨ha, hb⟩ => ⟨ha.le, hb.le⟩
  obtain ⟨rest, rfl⟩ := hends.first
  refine ⟨?_, ?_⟩
  · obtain rfl | hx := List.mem_cons.mp hx
    · simp
    · exact (List.pairwise_cons.mp hmono).1 x hx
  · obtain ⟨init, hinit⟩ := List.getLast?_eq_some_iff.mp hends.getLast?
    rw [hinit] at hx hmono
    obtain hx | hx := List.mem_append.mp hx
    · exact (List.pairwise_append.mp hmono).2.2 x hx f (by simp)
    · obtain rfl := List.mem_singleton.mp hx
      simp

/-! ## The inverse lookup (R37, R38) -/

theorem inverseLookup_within {b : Bank} {p e f : Int × Nat} (hends : Ends b.points p e f) {q : Nat} (hlow : p.2 ≤ q)
    (hhigh : q ≤ f.2) : inverseLookup b q = .stage (lineAt (inverseLine b.points) q) b.ratingId := by
  obtain ⟨rest, hps⟩ := hends.first
  rw [← invert_eq_lineAt]
  simp only [inverseLookup, hends.segment]
  simp only [hps]
  rw [if_neg (by omega)]

theorem inverseLookup_outside {b : Bank} {p e f : Int × Nat} (hends : Ends b.points p e f) {q : Nat}
    (hout : q < p.2 ∨ f.2 < q) : inverseLookup b q = .outOfRating b.ratingId := by
  obtain ⟨rest, hps⟩ := hends.first
  simp only [inverseLookup, hends.segment]
  simp only [hps]
  rw [if_pos hout]

theorem inverseLookup_between {b : Bank} (h : RatingGood b.points) {i : Nat} {e f : Int × Nat} {q : Nat}
    (he : b.points[i]? = some e) (hf : b.points[i + 1]? = some f) (hlow : e.2 ≤ q) (hhigh : q < f.2) :
    ∃ x : Int, inverseLookup b q = .stage x b.ratingId ∧ e.1 ≤ x ∧ x ≤ f.1 ∧
      x = e.1 + roundDiv ((f.1 - e.1) * ((q : Int) - e.2)) ((f.2 : Int) - e.2) := by
  obtain ⟨p, _, l, hends⟩ := h.ends
  have hfirst := (hends.between h (List.mem_of_getElem? he)).1.2
  have hlast := (hends.between h (List.mem_of_getElem? hf)).2.2
  obtain ⟨hvalue, hbetween⟩ := lineAt_between (i := i) (e := ((e.2 : Int), e.1)) (f := ((f.2 : Int), f.1)) (x := q)
    h.inverse_rising (by simp [inverseLine, he]) (by simp [inverseLine, hf]) (by simpa using hlow) (by simpa using hhigh)
  exact ⟨_, inverseLookup_within hends (by omega) (by omega), hbetween.1, hbetween.2, hvalue⟩

/-! ## The discharge (R34, R35) -/

section
variable {b : Bank} {p e f : Int × Nat} (hends : Ends b.points p e f) (rec : Option ShiftRec) (h : Int)
include hends

theorem instantDischarge_rated :
    (instantDischarge b rec h).noRating = false ∧ (instantDischarge b rec h).ratingId = some b.ratingId := by
  obtain ⟨rest, hps⟩ := hends.first
  unfold instantDischarge
  simp only [hps]
  (repeat' split) <;> exact ⟨rfl, rfl⟩

theorem instantDischarge_below (hbelow : (instantDischarge b rec h).eff < p.1) :
    (instantDischarge b rec h).discharge = some 0 ∧ (instantDischarge b rec h).belowRating = true := by
  obtain ⟨rest, hps⟩ := hends.first
  obtain ⟨-, -, heff, -⟩ := instantDischarge_stage b rec h
  rw [heff] at hbelow
  simp only [instantDischarge, hps, if_pos hbelow]
  exact ⟨trivial, trivial⟩

theorem instantDischarge_within (hlow : p.1 ≤ (instantDischarge b rec h).eff)
    (hhigh : (instantDischarge b rec h).eff ≤ f.1) :
    (instantDischarge b rec h).discharge = some (lineAt (ratingLine b.points) (instantDischarge b rec h).eff).toNat ∧
      (instantDischarge b rec h).belowRating = false ∧ (instantDischarge b rec h).extrapolated = false := by
  obtain ⟨rest, hps⟩ := hends.first
  obtain ⟨-, -, heff, -⟩ := instantDischarge_stage b rec h
  rw [heff] at hlow hhigh ⊢
  rw [← interpolate_eq_lineAt]
  have hsegment := hends.segment
  rw [hps] at hsegment ⊢
  simp only [instantDischarge, hps, hsegment, if_neg (not_lt.mpr hlow), if_pos hhigh]
  exact ⟨trivial, trivial, trivial⟩

/-- The last segment extended to a stage, or to the limit (R35 step 1). -/
theorem extended_eq (x : Int) :
    extended b.points x = (f.2 : Int) + roundDiv (((f.2 : Int) - e.2) * (x - f.1)) (f.1 - e.1) := by
  simp only [extended, hends.segment]

theorem ceilingOf_eq : ceilingOf b = extended b.points (f.1 + b.limit) := by
  simp only [ceilingOf, hends.segment]

theorem extended_mono {x y : Int} (hx : f.1 ≤ x) (hxy : x ≤ y) : extended b.points x ≤ extended b.points y := by
  obtain ⟨hrise, hgrow⟩ := hends.rise
  rw [extended_eq hends, extended_eq hends]
  have hslope : (0 : Int) ≤ (f.2 : Int) - e.2 := by omega
  have hstart : 0 ≤ ((f.2 : Int) - e.2) * (x - f.1) := mul_nonneg hslope (by omega)
  have hround := roundDiv_mono (d := f.1 - e.1) (by omega) hstart
    (mul_le_mul_of_nonneg_left (by omega : x - f.1 ≤ y - f.1) hslope)
  omega

theorem le_extended {x : Int} (hx : f.1 ≤ x) : (f.2 : Int) ≤ extended b.points x := by
  obtain ⟨hrise, hgrow⟩ := hends.rise
  have hzero : extended b.points f.1 = f.2 := by
    rw [extended_eq hends, sub_self, mul_zero, roundDiv_zero (by omega), add_zero]
  rw [← hzero]
  exact extended_mono hends le_rfl hx

theorem instantDischarge_above (hfirst : p.1 ≤ f.1) (habove : f.1 < (instantDischarge b rec h).eff) :
    (instantDischarge b rec h).discharge =
        some (min (extended b.points (min (instantDischarge b rec h).eff (f.1 + b.limit))) 100000000).toNat ∧
      ((instantDischarge b rec h).extrapolated = true ↔
        extended b.points (min (instantDischarge b rec h).eff (f.1 + b.limit)) ≤ 100000000 ∧
          (instantDischarge b rec h).eff ≤ f.1 + b.limit) ∧
      ((instantDischarge b rec h).extrapLimit = true ↔
        100000000 < extended b.points (min (instantDischarge b rec h).eff (f.1 + b.limit)) ∨
          f.1 + b.limit < (instantDischarge b rec h).eff) := by
  obtain ⟨rest, hps⟩ := hends.first
  obtain ⟨-, -, heff, -⟩ := instantDischarge_stage b rec h
  rw [heff] at habove ⊢
  generalize hx : clampInt (-2000) 20000 (h + shiftAt rec h) = x at habove ⊢
  have hvalue : (if x ≤ f.1 + b.limit then extended b.points x else ceilingOf b) =
      extended b.points (min x (f.1 + b.limit)) := by
    split
    · next hin => rw [min_eq_left hin]
    · next hout => rw [min_eq_right (by omega), ceilingOf_eq hends]
  have hsegment := hends.segment
  rw [hps] at hsegment hvalue ⊢
  generalize extended (p :: rest) (min x (f.1 + b.limit)) = q at hvalue ⊢
  simp only [instantDischarge, hps, hsegment, hx, if_neg (show ¬ x < p.1 by omega), if_neg (show ¬ x ≤ f.1 by omega),
    decide_eq_true_eq, hvalue]
  by_cases hmost : dischargeMax < q
  · have hq : 100000000 < q := hmost
    simp only [if_pos hmost]
    exact ⟨by rw [min_eq_right hq.le]; rfl, by simp [hq], by simp [hq]⟩
  · have hq : q ≤ 100000000 := not_lt.mp hmost
    simp only [if_neg hmost]
    exact ⟨by rw [min_eq_left hq], by simp [hq], by simp [hq]⟩

theorem instantDischarge_le (hr : RatingGood b.points) :
    ∃ q, (instantDischarge b rec h).discharge = some q ∧ q ≤ 100000000 ∧ (q : Int) ≤ ceilingOf b := by
  have hrising := hr.rising
  have hfirst := (hends.between hr (List.mem_of_getElem? hends.last)).1
  have hbound := hends.bound
  have hceiling : (f.2 : Int) ≤ ceilingOf b := by
    rw [ceilingOf_eq hends]
    exact le_extended hends (by omega)
  by_cases hbelow : (instantDischarge b rec h).eff < p.1
  · exact ⟨0, (instantDischarge_below hends rec h hbelow).1, by omega, by omega⟩
  by_cases hin : (instantDischarge b rec h).eff ≤ f.1
  · refine ⟨_, (instantDischarge_within hends rec h (by omega) hin).1, ?_⟩
    have hlast : (ratingLine b.points).getLast? = some (f.1, (f.2 : Int)) := by simp [ratingLine, hends.getLast?]
    obtain ⟨rest, hps⟩ := hends.first
    rw [hps] at hrising hlast ⊢
    obtain ⟨-, hvalue⟩ := lineAt_within hrising (by simpa using not_lt.mp hbelow) hlast hin
    have hvalue : lineAt (ratingLine (p :: rest)) (instantDischarge b rec h).eff ≤ f.2 := hvalue
    omega
  · have habove : f.1 < (instantDischarge b rec h).eff := not_le.mp hin
    refine ⟨_, (instantDischarge_above hends rec h hfirst.1 habove).1, ?_⟩
    have htop : extended b.points (min (instantDischarge b rec h).eff (f.1 + b.limit)) ≤ ceilingOf b := by
      rw [ceilingOf_eq hends]
      exact extended_mono hends (by omega) (min_le_right _ _)
    omega

end

theorem instantDischarge_between {b : Bank} (hr : RatingGood b.points) (rec : Option ShiftRec) (h : Int) {i : Nat}
    {e f : Int × Nat} (he : b.points[i]? = some e) (hf : b.points[i + 1]? = some f)
    (hlow : e.1 ≤ (instantDischarge b rec h).eff) (hhigh : (instantDischarge b rec h).eff < f.1) :
    ∃ q : Nat, (instantDischarge b rec h).discharge = some q ∧
      (q : Int) = e.2 + roundDiv (((f.2 : Int) - e.2) * ((instantDischarge b rec h).eff - e.1)) (f.1 - e.1) ∧
      e.2 ≤ q ∧ q ≤ f.2 := by
  obtain ⟨p, _, l, hends⟩ := hr.ends
  have hfirst := (hends.between hr (List.mem_of_getElem? he)).1.1
  have hlast := (hends.between hr (List.mem_of_getElem? hf)).2.1
  obtain ⟨hdischarge, -⟩ := instantDischarge_within hends rec h (by omega) (by omega)
  obtain ⟨hvalue, hbetween⟩ := lineAt_between (i := i) (e := (e.1, (e.2 : Int))) (f := (f.1, (f.2 : Int)))
    hr.rising (by simp [ratingLine, he]) (by simp [ratingLine, hf]) hlow hhigh
  have hbetween : (e.2 : Int) ≤ lineAt (ratingLine b.points) (instantDischarge b rec h).eff ∧
      lineAt (ratingLine b.points) (instantDischarge b rec h).eff ≤ f.2 := hbetween
  refine ⟨_, hdischarge, ?_, by omega, by omega⟩
  rw [Int.toNat_of_nonneg (by omega), hvalue]
  rfl

/-- Settles O52. -/
theorem dischargeFollowsTheRating : Obligations.DischargeFollowsTheRating := by
  unfold Obligations.DischargeFollowsTheRating
  refine ⟨fun b q hempty => by simp only [inverseLookup, hempty], fun b q hr => ?_, fun b rec h hr => ?_⟩
  · obtain ⟨p, _, l, hends⟩ := hr.ends
    refine ⟨fun e f he hf hout => ?_, ?_, fun i e f he hf hlow hhigh => inverseLookup_between hr he hf hlow hhigh⟩
    · obtain rfl : p = e := by simpa [hends.head?] using he
      obtain rfl : l = f := by simpa [hends.getLast?] using hf
      exact inverseLookup_outside hends hout
    · rintro e he rfl
      have hmem : ((e.2 : Int), e.1) ∈ inverseLine b.points := List.mem_map.mpr ⟨e, he, rfl⟩
      obtain ⟨⟨-, hlow⟩, -, hhigh⟩ := hends.between hr he
      rw [inverseLookup_within hends hlow hhigh, lineAt_at hr.inverse_rising hmem]
  · obtain ⟨p, x, l, hends⟩ := hr.ends
    obtain ⟨hrated, hid⟩ := instantDischarge_rated hends rec h
    refine ⟨instantDischarge_le hends rec h hr, hrated, hid, fun e he hbelow => ?_, fun e he heff => ?_,
      fun i e f he hf hlow hhigh => instantDischarge_between hr rec h he hf hlow hhigh, fun e f he hf habove => ?_⟩
    · obtain rfl : p = e := by simpa [hends.head?] using he
      exact instantDischarge_below hends rec h hbelow
    · have hmem : (e.1, (e.2 : Int)) ∈ ratingLine b.points := List.mem_map.mpr ⟨e, he, rfl⟩
      obtain ⟨⟨hlow, -⟩, hhigh, -⟩ := hends.between hr he
      obtain ⟨hdischarge, hflags⟩ := instantDischarge_within hends rec h (by omega) (by omega)
      rw [heff, lineAt_at hr.rising hmem] at hdischarge
      exact ⟨by simpa using hdischarge, hflags⟩
    · obtain rfl : x = e := by simpa [hends.beforeLast] using he
      obtain rfl : l = f := by simpa [hends.last] using hf
      have hfirst := (hends.between hr (List.mem_of_getElem? hends.last)).1.1
      simpa only [extended_eq hends] using instantDischarge_above hends rec h hfirst habove

end Sys2Proof.Machine
end

section
/-! The gauging computation: points, means, panels and stages (R157 to R165). -/

namespace Sys2Proof.Machine

set_option Elab.async false

/-! ## The point velocity (R157, R158) -/

theorem pointResult_still {h : PlanHeader} {q : PointSpec} {r : RotorResult} (hstill : r.noRotation = true) :
    (pointResult h q r).velocity = 0 ∧ (pointResult h q r).segment = none ∧
      (pointResult h q r).velocityClamped = false := by
  simp [pointResult, hstill]

/-- The segment of the meter rating, with its two factors. -/
theorem meterVelocity_eq (h : PlanHeader) (r : RotorResult) :
    ∃ a b, (if h.nBreak * r.p * r.t ≤ r.n * 1000000 then meterSegment h r = 2 ∧ a = h.a2 ∧ b = h.b2
        else meterSegment h r = 1 ∧ a = h.a1 ∧ b = h.b1) ∧
      meterVelocity h r = a + roundDivNat (b * r.n) (r.p * r.t) := by
  by_cases hbreak : h.nBreak * r.p * r.t ≤ r.n * 1000000
  · simp [meterVelocity, meterSegment, hbreak]
  · simp [meterVelocity, meterSegment, hbreak]

theorem pointResult_turning {h : PlanHeader} {q : PointSpec} {r : RotorResult} (hturns : r.noRotation = false)
    (hd : 0 < r.p * r.t) :
    ∃ a b v, (if h.nBreak * r.p * r.t ≤ r.n * 1000000 then (pointResult h q r).segment = some 2 ∧ a = h.a2 ∧ b = h.b2
        else (pointResult h q r).segment = some 1 ∧ a = h.a1 ∧ b = h.b1) ∧
      2 * (r.p * r.t) * v ≤ 2 * (b * r.n) + r.p * r.t ∧ 2 * (b * r.n) + r.p * r.t < 2 * (r.p * r.t) * (v + 1) ∧
      (pointResult h q r).velocity = min (a + v) 10000 ∧ ((pointResult h q r).velocityClamped = true ↔ 10000 < a + v) := by
  obtain ⟨a, b, hsegment, hvelocity⟩ := meterVelocity_eq h r
  obtain ⟨hlow, hhigh⟩ := roundDivNat_bounds (b * r.n) hd
  exact ⟨a, b, roundDivNat (b * r.n) (r.p * r.t), by simpa [pointResult, hturns] using hsegment, hlow, hhigh,
    by simp [pointResult, hturns, hvelocity], by simp [pointResult, hturns, hvelocity]⟩

/-! ## The mean of a vertical (R160) -/

theorem roundDivNat_two (n : Nat) : roundDivNat n 2 = (n + 1) / 2 := by
  unfold roundDivNat
  omega

theorem roundDivNat_four (n : Nat) : roundDivNat n 4 = (n + 2) / 4 := by
  unfold roundDivNat
  omega

theorem roundDivNat_thousand (n : Nat) : roundDivNat n 1000 = (n + 500) / 1000 := by
  unfold roundDivNat
  omega

theorem roundDivNat_million (n : Nat) : roundDivNat n 1000000 = (n + 500000) / 1000000 := by
  unfold roundDivNat
  omega

/-! ## The panels (R161 to R163) -/

/-- R162: the panel of a vertical lies between its neighbours. -/
theorem panelsOf_getElem? (prev right : Nat) {vs : List DoneVert} {i : Nat} {v : DoneVert} (hv : vs[i]? = some v) :
    ∃ before after w, before = (if i = 0 then prev else (vs[i - 1]?.map DoneVert.x).getD 0) ∧
      after = (vs[i + 1]?.map DoneVert.x).getD right ∧ w = (after - before + 1) / 2 ∧
      (panelsOf prev right vs)[i]? = some (w, (v.mean * v.depth * w + 500000) / 1000000) := by
  induction vs generalizing prev i with
  | nil => simp at hv
  | cons u rest ih =>
    cases i with
    | zero =>
      obtain rfl : u = v := by simpa using hv
      refine ⟨_, _, _, rfl, rfl, rfl, ?_⟩
      simp [panelsOf, roundDivNat_two, roundDivNat_million, List.head?_eq_getElem?]
    | succ i =>
      obtain ⟨before, after, w, hbefore, hafter, hw, hpanel⟩ := ih u.x (i := i) (by simpa using hv)
      refine ⟨before, after, w, ?_, by simpa using hafter, hw, by simpa [panelsOf] using hpanel⟩
      cases i with
      | zero => simpa using hbefore
      | succ i => simpa using hbefore

/-! ## The stages of the walk (R164) -/

theorem greatest_spec {ls : List Int} (h : ls ≠ []) : greatest ls ∈ ls ∧ ∀ x ∈ ls, x ≤ greatest ls := by
  rw [← List.max?_eq_some_iff]
  cases ls with
  | nil => exact absurd rfl h
  | cons a rest => rw [List.max?_cons', greatest, List.foldl_cons, List.headD_cons, max_self]

theorem least_spec {ls : List Int} (h : ls ≠ []) : least ls ∈ ls ∧ ∀ x ∈ ls, least ls ≤ x := by
  rw [← List.min?_eq_some_iff]
  cases ls with
  | nil => exact absurd rfl h
  | cons a rest => rw [List.min?_cons', least, List.foldl_cons, List.headD_cons, min_self]

/-- R164: the spread of the stages is beyond a limit exactly where two of them are. -/
theorem lt_spread_iff {ls : List Int} (h : ls ≠ []) (limit : Int) :
    limit < greatest ls - least ls ↔ ∃ x ∈ ls, ∃ y ∈ ls, limit < x - y := by
  obtain ⟨hgreatest, hmost⟩ := greatest_spec h
  obtain ⟨hleast, hfewest⟩ := least_spec h
  constructor
  · exact fun hlimit => ⟨_, hgreatest, _, hleast, hlimit⟩
  · rintro ⟨x, hx, y, hy, hlimit⟩
    have hxmost := hmost x hx
    have hyfewest := hfewest y hy
    omega

section
variable (plan : List Byte) (vs : List DoneVert) (start : Option Int)

theorem closeFigures_stageChange :
    (closeFigures plan vs start).stageChange = start.bind fun a => (latchesOf vs).getLast?.map fun l => l - a := by
  unfold closeFigures
  dsimp only
  cases (latchesOf vs).getLast? <;> cases start <;> rfl

theorem closeFigures_without_stage (h : latchesOf vs = []) :
    (closeFigures plan vs start).gaugeHeight = none ∧ (closeFigures plan vs start).stageChange = none ∧
      (closeFigures plan vs start).unsteady = false ∧ ((closeFigures plan vs start).stageGap = true ↔ vs ≠ []) := by
  refine ⟨by simp [closeFigures, h], ?_, by simp [closeFigures, h], by simp [closeFigures, h]⟩
  rw [closeFigures_stageChange, h]
  cases start <;> rfl

theorem closeFigures_with_stage (h : latchesOf vs ≠ []) :
    (closeFigures plan vs start).stageGap = false ∧
      (∃ g : Int, (closeFigures plan vs start).gaugeHeight = some g ∧
        2 * |(latchesOf vs).sum - g * (latchesOf vs).length| ≤ (latchesOf vs).length ∧
        (2 * |(latchesOf vs).sum - g * (latchesOf vs).length| = (latchesOf vs).length →
          |(latchesOf vs).sum| < |g * (latchesOf vs).length|)) ∧
      ((closeFigures plan vs start).unsteady = true ↔
        ∃ x ∈ latchesOf vs, ∃ y ∈ latchesOf vs, ((planHeader plan).unsteadyLimit : Int) < x - y) := by
  have hlength : (0 : Int) < (latchesOf vs).length := by exact_mod_cast List.length_pos_of_ne_nil h
  rw [← lt_spread_iff h]
  exact ⟨by simp [closeFigures, h], ⟨_, by simp [closeFigures, h], roundDiv_nearest _ hlength⟩, by simp [closeFigures, h]⟩

end

end Sys2Proof.Machine
end

section
/-! The grade of a gauging, and the adoption of its shift (R30, R149, R167 to R170). -/

namespace Sys2Proof.Machine

set_option Elab.async false

/-! ## The flags and the grade (R167, R168) -/

/-- A flag of a union is one of its parts'. -/
theorem foldl_union_flag (p : VertFlags → Bool) (hp : ∀ a b, p (a.union b) = (p a || p b)) (vs : List DoneVert)
    (f : VertFlags) : p (vs.foldl (fun f v => f.union v.flags) f) = true ↔ p f = true ∨ ∃ v ∈ vs, p v.flags = true := by
  induction vs generalizing f with
  | nil => simp
  | cons v rest ih => simp [ih, hp, or_assoc]

/-- The flags of the verticals and their points. -/
def unitedFlags (r : RunRec) : VertFlags := r.verticals.foldl (fun f v => f.union v.flags) r.flags.verts

theorem unitedFlags_iff (p : VertFlags → Bool) (hp : ∀ a b, p (a.union b) = (p a || p b)) (r : RunRec) :
    p (unitedFlags r) = true ↔ p r.flags.verts = true ∨ ∃ v ∈ r.verticals, p v.flags = true :=
  foldl_union_flag p hp _ _

theorem finishFlags_verts (r : RunRec) : (finishFlags r).verts = unitedFlags r := rfl

section
variable {r : RunRec} {c : Calc} (hc : r.figures = some c)
include hc

theorem finishCalc_of_figures : finishCalc r = c := by simp [finishCalc, hc]

/-- R168: a flag that a FAIR gauging may not carry. -/
theorem beyondFair_iff : (finishFlags r).beyondFair = noGaugeFlags ↔ ¬ FlaggedPoor r c := by
  have hshort := unitedFlags_iff VertFlags.periodShort (fun _ _ => rfl) r
  have hcount := unitedFlags_iff VertFlags.countClamped (fun _ _ => rfl) r
  have hvelocity := unitedFlags_iff VertFlags.velocityClamped (fun _ _ => rfl) r
  have hexists : (∃ v ∈ r.verticals, v.flags.periodShort = true ∨ v.flags.countClamped = true ∨
        v.flags.velocityClamped = true) ↔
      (∃ v ∈ r.verticals, v.flags.periodShort = true) ∨ (∃ v ∈ r.verticals, v.flags.countClamped = true) ∨
        ∃ v ∈ r.verticals, v.flags.velocityClamped = true := by
    simp only [and_or_left, exists_or]
  unfold FlaggedPoor
  rw [hexists]
  simp only [ne_eq, finishFlags, finishCalc_of_figures hc, gaugeFlags, GaugeFlags.beyondFair, noGaugeFlags, noVertFlags,
    GaugeFlags.mk.injEq, VertFlags.mk.injEq]
  rw [← unitedFlags]
  simp only [← Bool.not_eq_true, Bool.or_eq_true, hshort, hcount, hvelocity, not_or, not_not]
  clear hshort hcount hvelocity hexists
  tauto

omit hc in
theorem flaggedFair_iff : ((finishFlags r).verts.shallowPoint || (finishFlags r).verts.shallowVertical ||
    (finishFlags r).verts.noRotation) = true ↔ FlaggedFair r := by
  have hpoint := unitedFlags_iff VertFlags.shallowPoint (fun _ _ => rfl) r
  have hvertical := unitedFlags_iff VertFlags.shallowVertical (fun _ _ => rfl) r
  have hstill := unitedFlags_iff VertFlags.noRotation (fun _ _ => rfl) r
  simp only [FlaggedFair, finishFlags_verts, Bool.or_eq_true, hpoint, hvertical, hstill, and_or_left, exists_or]
  simp only [or_assoc, or_comm, or_left_comm]

theorem gradeOf_of_poor (h : FlaggedPoor r c) : gradeOf .complete (finishFlags r) = .poor :=
  if_neg fun ⟨_, hnone⟩ => (beyondFair_iff hc).mp hnone h

theorem gradeOf_of_fair (h : ¬ FlaggedPoor r c) (hfair : FlaggedFair r) : gradeOf .complete (finishFlags r) = .fair := by
  rw [gradeOf, if_pos ⟨rfl, (beyondFair_iff hc).mpr h⟩, if_pos (flaggedFair_iff.mpr hfair)]

theorem gradeOf_of_good (h : ¬ FlaggedPoor r c) (hfair : ¬ FlaggedFair r) :
    gradeOf .complete (finishFlags r) = .good := by
  rw [gradeOf, if_pos ⟨rfl, (beyondFair_iff hc).mpr h⟩, if_neg (mt flaggedFair_iff.mp hfair)]

/-- R149, R170: a complete run below GOOD is finished without adoption. -/
theorem finishRun_complete {grade : Grade} (s : State) (h : gradeOf .complete (finishFlags r) = grade)
    (hgrade : grade ≠ .good) : FinishedComplete r c grade s (finishRun r .complete s) := by
  have hunwanted : shiftWanted r .complete s = false := shiftWanted_of_ungood (by rwa [h])
  have hadoption : adoption r .complete s = (s, none) := adoption_of_unwanted hunwanted
  have hcalc := finishCalc_of_figures hc
  exact ⟨finishRun_over r .complete s, by rw [finishRun_rat, hadoption], finishRecord r .complete s,
    finishRun_store r .complete s, rfl, rfl, rfl, rfl, rfl, rfl, rfl, h, by simp [finishRecord, gaugeRecord, hcalc],
    by simp [finishRecord, gaugeRecord, hcalc], by simp [finishRecord, gaugeRecord, hcalc],
    by simp [finishRecord, gaugeRecord, hcalc], by simp [finishRecord, gaugeRecord, hcalc],
    by simp [finishRecord, gaugeRecord, hadoption], by simp [finishRecord, gaugeRecord, hadoption],
    by simp [finishRecord, gaugeRecord, hunwanted]⟩

end

/-! ## The adoption (R30, R169) -/

/-- A shift within the adopt limit is one that a shift record may hold. -/
theorem shiftFault_of_within {x : Int} (h : |x| ≤ 2000) : shiftFault 1 [(0, x)] = none := by
  have hgood : shiftPointGood [(0, x)] 0 = true := by
    have hrange := abs_le.mp h
    rw [shiftPointGood_eq_true]
    exact ⟨by simp, by simp, hrange.1, hrange.2, by simp⟩
  simp [shiftFault, hgood]

theorem cfgAdoptLimit_le (c : List Byte) : cfgAdoptLimit c ≤ 2000 := by
  unfold cfgAdoptLimit clampNat
  split
  · omega
  · split <;> omega

section
variable {r : RunRec} {c : Calc} {s : State} (hc : r.figures = some c) (hgood : gradeOf .complete (finishFlags r) = .good)

include hc hgood in
theorem shiftWanted_iff : shiftWanted r .complete s = true ↔
    (planHeader (s.tbl.plan r.plan)).adopt = 1 ∧ c.indicated ≠ none := by
  simp [shiftWanted, hgood, adoptable, finishCalc_of_figures hc, Option.isSome_iff_ne_none, State.planOf]

include hc in
theorem shiftWithin_iff : shiftWithin r s = true ↔ |c.indicated.getD 0| ≤ (cfgAdoptLimit s.tbl.config : Int) := by
  rw [shiftWithin, finishCalc_of_figures hc, withinAdoptLimit, decide_eq_true_iff, Int.abs_eq_natAbs, Nat.cast_le]

include hc in
theorem adoption_of_wanted (hwanted : shiftWanted r .complete s = true) (hwithin : shiftWithin r s = true)
    (hvalid : s.clk.valid = true) :
    adoption r .complete s =
      (s.setRat
          { s.rat with
            shifts := (placeShift { start := s.clk.time, points := [(0, c.indicated.getD 0)] } s.rat.shifts).1 },
        some (placeShift { start := s.clk.time, points := [(0, c.indicated.getD 0)] } s.rat.shifts).2) := by
  have hlimit : |c.indicated.getD 0| ≤ 2000 := by
    have hle := (shiftWithin_iff hc).mp hwithin
    have hmost := cfgAdoptLimit_le s.tbl.config
    omega
  rw [adoption, if_pos (by simp [hwanted, hwithin, hvalid]), finishCalc_of_figures hc]
  simp only [adopt, shiftFault_of_within hlimit]

theorem adoption_of_not_all
    (h : ¬ (shiftWanted r .complete s = true ∧ shiftWithin r s = true ∧ s.clk.valid = true)) :
    adoption r .complete s = (s, none) := by
  rw [adoption, if_neg (by simpa [and_assoc] using h)]

include hc in
theorem adoption_rat_frame (hordered : ShiftsOrdered s.rat.shifts) :
    ShiftsOrdered (adoption r .complete s).1.rat.shifts ∧ (adoption r .complete s).1.rat.live = s.rat.live ∧
      (adoption r .complete s).1.rat.latest = s.rat.latest := by
  by_cases h : shiftWanted r .complete s = true ∧ shiftWithin r s = true ∧ s.clk.valid = true
  · obtain ⟨hwanted, hwithin, hvalid⟩ := h
    rw [adoption_of_wanted hc hwanted hwithin hvalid]
    exact ⟨hordered.placeShift _, rfl, rfl⟩
  · rw [adoption_of_not_all h]
    exact ⟨hordered, rfl, rfl⟩

end

/-! ## A run with no flag but ALTERNATE-USED -/

section
variable {r : RunRec} (hrun : r.flags = noGaugeFlags)
  (hverts : ∀ v ∈ r.verticals, { v.flags with alternateUsed := false } = noVertFlags)
include hrun hverts

theorem not_flaggedPoor {c : Calc} (hgap : c.stageGap = false) (hunsteady : c.unsteady = false)
    (hrating : c.noRating = false) (hout : c.outOfRating = false) : ¬ FlaggedPoor r c := by
  rintro (h | ⟨v, hv, hflag⟩ | h)
  · exact h (by rw [hrun]; rfl)
  · have hshort : v.flags.periodShort = false := congrArg VertFlags.periodShort (hverts v hv)
    have hcount : v.flags.countClamped = false := congrArg VertFlags.countClamped (hverts v hv)
    have hvelocity : v.flags.velocityClamped = false := congrArg VertFlags.velocityClamped (hverts v hv)
    simp [hshort, hcount, hvelocity] at hflag
  · simp [hgap, hunsteady, hrating, hout] at h

theorem not_flaggedFair : ¬ FlaggedFair r := by
  rintro (h | ⟨v, hv, hflag⟩)
  · simp [hrun, noGaugeFlags, noVertFlags] at h
  · have hpoint : v.flags.shallowPoint = false := congrArg VertFlags.shallowPoint (hverts v hv)
    have hvertical : v.flags.shallowVertical = false := congrArg VertFlags.shallowVertical (hverts v hv)
    have hstill : v.flags.noRotation = false := congrArg VertFlags.noRotation (hverts v hv)
    simp [hpoint, hvertical, hstill] at hflag

end

/-- Settles O48. -/
theorem goodGaugingAdoptsItsShift : Obligations.GoodGaugingAdoptsItsShift := by
  unfold Obligations.GoodGaugingAdoptsItsShift
  refine ⟨fun h q r => ?_, fun h m u v w vs => ?_, fun plan vs start => ?_, fun s r c hc => ?_,
    fun s r c hc hrun hverts hgap hunsteady hrating hout hordered => ?_⟩
  · exact ⟨rfl, rfl, rfl, rfl, rfl, rfl, rfl, rfl, rfl, rfl, pointResult_still, pointResult_turning⟩
  · exact ⟨rfl, rfl, roundDivNat_two _, roundDivNat_four _, roundDivNat_thousand _⟩
  · refine ⟨panelsOf_length .., rfl, fun i v hv => ?_, closeFigures_without_stage plan vs start, fun hstages => ?_, ?_,
      rfl, rfl, rfl, rfl⟩
    · obtain ⟨before, after, w, hbefore, hafter, hw, hpanel⟩ :=
        panelsOf_getElem? (planEntry plan 0).x (((lastEntry plan (u8 plan 42)).map PlanEntry.x).getD 0) hv
      exact ⟨before, after, w, _, hbefore, hafter, hpanel, hw, rfl⟩
    · obtain ⟨hgap, hheight, hunsteady⟩ := closeFigures_with_stage plan vs start hstages
      exact ⟨hgap, hheight, closeFigures_stageChange plan vs start, hunsteady⟩
    · rw [closeFigures_asked]
      simp only [List.isEmpty_iff]
  · exact ⟨fun hpoor => finishRun_complete hc s (gradeOf_of_poor hc hpoor) (by simp),
      fun hpoor hfair => finishRun_complete hc s (gradeOf_of_fair hc hpoor hfair) (by simp)⟩
  · have hgood := gradeOf_of_good hc (not_flaggedPoor hrun hverts hgap hunsteady hrating hout)
      (not_flaggedFair hrun hverts)
    have hcalc := finishCalc_of_figures hc
    obtain ⟨hshifts, hlive, hlatest⟩ := adoption_rat_frame hc hordered
    have hwanted := shiftWanted_iff (s := s) hc hgood
    have hwithin := shiftWithin_iff (s := s) hc
    dsimp only
    rw [← hwanted, ← hwithin, finishRun_rat]
    refine ⟨finishRun_over r .complete s, hshifts, hlive, hlatest, finishRecord r .complete s,
      finishRun_store r .complete s, rfl, hgood, ?_, ?_, ?_, rfl, fun hw hin hvalid => ?_, fun hnot => ?_, ?_⟩
    · simp [finishRecord, gaugeRecord, hcalc]
    · simp [finishRecord, gaugeRecord, hcalc]
    · simp [finishRecord, gaugeRecord, hcalc]
    · have hadopt := adoption_of_wanted hc hw hin hvalid
      refine ⟨by simp [finishRecord, gaugeRecord, hadopt], by simp [finishRecord, gaugeRecord, hin],
        by simp [finishRecord, gaugeRecord, hadopt], ?_⟩
      rw [hadopt]
      exact ((placeShift_spec hordered _).1 _).mpr (.inl rfl)
    · have hadopt := adoption_of_not_all hnot
      exact ⟨by simp [finishRecord, gaugeRecord, hadopt], by simp [finishRecord, gaugeRecord, hadopt], by rw [hadopt]⟩
    · simp [finishRecord, gaugeRecord]

end Sys2Proof.Machine
end

section
/-! The uplink transmitter: the choice of an item, its end, and the modem's lines (R173 to R180, R195). -/

namespace Sys2Proof.Machine

set_option Elab.async false

/-! ## The choice (R174, R177) -/

theorem uplinkSelect_of_empty {s : State} (hbuffer : s.upl.buffer = none) (hlink : s.lines.link = true) :
    (uplinkSelect s).upl.buffer = nextItem (cfgStationId s.tbl.config) s.store s.upl := by
  rw [uplinkSelect, if_pos (by simp [hbuffer, hlink])]
  rfl

section
variable {station : Nat} {store : Store} {u : Upl}

theorem nextItem_reply {r : Reply} (h : u.slot = some r) :
    nextItem station store u =
      some { cls := .reply, number := r.seq.toNat, frames := [replyFrame station r], elapsed := 0 } := by
  simp only [nextItem, h]

variable (hslot : u.slot = none)
include hslot

theorem nextItem_warning {r : StoreRec} (h : oldestUnsent store.records .warning = some r) :
    nextItem station store u = some (recordItem station .warning r) := by
  simp only [nextItem, hslot, h]

variable (hwarning : oldestUnsent store.records .warning = none)
include hwarning

theorem nextItem_forward {f : FwdItem} {fs : List FwdItem} (h : u.fwdQ = f :: fs) :
    nextItem station store u =
      some { cls := .forward, number := f.number, frames := [forwardFrame station f], elapsed := 0 } := by
  simp only [nextItem, hslot, hwarning, h]

variable (hforward : u.fwdQ = [])
include hforward

theorem nextItem_gauging {r : StoreRec} (h : oldestUnsent store.records .gauging = some r) :
    nextItem station store u = some (recordItem station .gauging r) := by
  simp only [nextItem, hslot, hwarning, hforward, h]

theorem nextItem_interval (hgauging : oldestUnsent store.records .gauging = none) :
    nextItem station store u = (oldestUnsent store.records .interval).map (recordItem station .interval) := by
  simp only [nextItem, hslot, hwarning, hforward, hgauging]

end

/-- R174: UPL has chosen where the buffer holds the next item with LINK high, and none with LINK low. -/
theorem BufferChosen.of_nextItem {t : State} (down : t.lines.link = false → t.upl.buffer = none)
    (up : t.lines.link = true → t.upl.buffer = nextItem (cfgStationId t.tbl.config) t.store t.upl) : BufferChosen t where
  down := down
  reply r hlink hslot := by rw [up hlink, nextItem_reply hslot]
  warning r hlink hslot hwarning := by
    rw [up hlink, nextItem_warning hslot hwarning]
    rfl
  forward f fs hlink hslot hwarning hforward := by rw [up hlink, nextItem_forward hslot hwarning hforward]
  gauging r hlink hslot hwarning hforward hgauging := by
    rw [up hlink, nextItem_gauging hslot hwarning hforward hgauging]
    rfl
  interval r hlink hslot hwarning hforward hgauging hinterval := by
    rw [up hlink, nextItem_interval hslot hwarning hforward hgauging, hinterval]
    rfl
  nothing hslot hforward hnone := by
    cases hlink : t.lines.link with
    | false => exact down hlink
    | true =>
      rw [up hlink, nextItem_interval hslot (hnone _ (.inl rfl)) hforward (hnone _ (.inr (.inl rfl))),
        hnone _ (.inr (.inr rfl))]
      rfl

theorem nextItem_congr {station : Nat} {store : Store} {u v : Upl} (slot : v.slot = u.slot) (fwdQ : v.fwdQ = u.fwdQ) :
    nextItem station store v = nextItem station store u := by
  simp only [nextItem, slot, fwdQ]

/-- R174: from an empty buffer a choice is made. -/
theorem uplinkSelect_chosen {s : State} (h : s.upl.buffer = none) : BufferChosen (uplinkSelect s) := by
  refine .of_nextItem (fun hlink => ?_) (fun hlink => ?_)
  · have hlow : s.lines.link = false := by simpa using hlink
    rw [uplinkSelect_of_linkLow hlow, h]
  · have hhigh : s.lines.link = true := by simpa using hlink
    rw [uplinkSelect_of_empty h hhigh, nextItem_congr (v := (uplinkSelect s).upl) (u := s.upl) (by simp) (by simp)]
    simp

/-- A choice made stands. -/
theorem BufferChosen.select {s : State} (h : BufferChosen s) : BufferChosen (uplinkSelect s) := by
  cases hbuffer : s.upl.buffer with
  | none => exact uplinkSelect_chosen hbuffer
  | some it => rwa [uplinkSelect, if_neg (by simp [hbuffer])]

theorem uplinkSelect_upl (s : State) : (uplinkSelect s).upl = { s.upl with buffer := (uplinkSelect s).upl.buffer } := by
  unfold uplinkSelect
  split <;> rfl

/-! ## The end of an item (R179) -/

/-- UPL with its buffer emptied and a waiting rate in effect. -/
def bufferFreed (s : State) : State := uplinkRateEffect (s.setUpl { s.upl with buffer := none })

theorem bufferFreed_buffer (s : State) : (bufferFreed s).upl.buffer = none := by simp [bufferFreed]

theorem bufferFreed_rate (s : State) :
    (bufferFreed s).upl.rate = if s.upl.assembling then s.upl.rate else cfgUplinkRate s.tbl.config := by
  cases hassembling : s.upl.assembling <;> simp [bufferFreed, uplinkRateEffect, hassembling]

@[simp] theorem bufferFreed_frame (s : State) :
    (bufferFreed s).clk = s.clk ∧ (bufferFreed s).tbl = s.tbl ∧ (bufferFreed s).store = s.store ∧
      (bufferFreed s).ctl = s.ctl ∧ (bufferFreed s).lines = s.lines ∧ (bufferFreed s).upl.slot = s.upl.slot ∧
      (bufferFreed s).upl.fwdQ = s.upl.fwdQ := by
  simp [bufferFreed]

theorem endItem_eq (it : TxItem) (s : State) : endItem it s = uplinkSelect (itemGone it (bufferFreed s)) := rfl

theorem endItem_rate (it : TxItem) (s : State) :
    (endItem it s).upl.rate = if s.upl.assembling then s.upl.rate else cfgUplinkRate s.tbl.config := by
  rw [← bufferFreed_rate, endItem_eq]
  simp

/-- CTL as the reply that an ended item held has gone (R195). -/
def replyGone (s : State) : State :=
  (s.setUpl { s.upl with slot := none }).setCtl
    { s.ctl with resetWait := s.ctl.resetWait.map fun w => { w with gone := w.gone || w.placed } }

section
variable {it : TxItem}

theorem itemGone_reply (h : it.cls = .reply) (s : State) : itemGone it s = offerPending (replyGone s) := by
  simp only [itemGone, h]
  rfl

theorem itemGone_forward (h : it.cls = .forward) (s : State) :
    itemGone it s =
      s.setUpl
        { s.upl with fwdQ := if it.dropped then s.upl.fwdQ else s.upl.fwdQ.filter fun f => f.number != it.number } := by
  simp only [itemGone, h]

theorem itemGone_record (h : it.cls = .warning ∨ it.cls = .gauging ∨ it.cls = .interval) (s : State) :
    itemGone it s = s.setStore (s.store.markSent it.number) := by
  obtain h | h | h := h <;> simp only [itemGone, h]

end

theorem offerPending_slot {s : State} {r : Reply} (h : s.ctl.pendingReply = some (.slot r)) (hslot : s.upl.slot = none) :
    offerPending s = placeReply r s := by
  simp only [offerPending, h, hslot, Option.isNone_none, if_true]

theorem offerPending_none {s : State} (h : ∀ r, s.ctl.pendingReply ≠ some (.slot r)) : offerPending s = s := by
  unfold offerPending
  split
  · next r hr => exact absurd hr (h r)
  · rfl

/-- R195, R189: a reply that has gone makes room for the pending one. -/
theorem endItem_reply {it : TxItem} (h : it.cls = .reply) (s : State) :
    BufferChosen (endItem it s) ∧ (endItem it s).store = s.store ∧ (endItem it s).upl.fwdQ = s.upl.fwdQ ∧
      (∀ r, s.ctl.pendingReply = some (.slot r) →
        (endItem it s).upl.slot = some r ∧ (endItem it s).ctl.pendingReply = none ∧ (endItem it s).ctl.inHand = none) ∧
      ((∀ r, s.ctl.pendingReply ≠ some (.slot r)) →
        (endItem it s).upl.slot = none ∧ (endItem it s).ctl.pendingReply = s.ctl.pendingReply ∧
        (endItem it s).ctl.resetWait = s.ctl.resetWait.map fun w => { w with gone := w.gone || w.placed }) := by
  rw [endItem_eq, itemGone_reply h]
  have hbuffer : (replyGone (bufferFreed s)).upl.buffer = none := bufferFreed_buffer s
  have hpending : (replyGone (bufferFreed s)).ctl.pendingReply = s.ctl.pendingReply := by simp [replyGone]
  refine ⟨?_, by simp [replyGone], by simp [replyGone], fun r hr => ?_, fun hnone => ?_⟩
  · by_cases hslot : ∃ r, s.ctl.pendingReply = some (.slot r)
    · obtain ⟨r, hr⟩ := hslot
      rw [offerPending_slot (by rw [hpending, hr]) rfl]
      exact (uplinkSelect_chosen (by exact hbuffer)).select
    · rw [offerPending_none (by simpa [hpending] using hslot)]
      exact uplinkSelect_chosen hbuffer
  · rw [offerPending_slot (by rw [hpending, hr]) rfl]
    simp [placeReply, placeInSlot]
  · rw [offerPending_none (by simpa [hpending] using hnone)]
    simp [replyGone]

theorem endItem_forward {it : TxItem} (h : it.cls = .forward) (s : State) :
    BufferChosen (endItem it s) ∧ (endItem it s).store = s.store ∧ (endItem it s).ctl = s.ctl ∧
      (endItem it s).upl.slot = s.upl.slot ∧
      (endItem it s).upl.fwdQ =
        if it.dropped then s.upl.fwdQ else s.upl.fwdQ.filter fun f => f.number ≠ it.number := by
  rw [endItem_eq, itemGone_forward h]
  refine ⟨uplinkSelect_chosen (bufferFreed_buffer s), by simp, by simp, by simp, ?_⟩
  simp [bne, beq_eq_decide]

theorem endItem_record {it : TxItem} (h : it.cls = .warning ∨ it.cls = .gauging ∨ it.cls = .interval) (s : State) :
    BufferChosen (endItem it s) ∧ (endItem it s).ctl = s.ctl ∧ (endItem it s).upl.slot = s.upl.slot ∧
      (endItem it s).upl.fwdQ = s.upl.fwdQ ∧
      (endItem it s).store.records =
        s.store.records.map fun r => if r.seq = it.number then { r with sent := true } else r := by
  rw [endItem_eq, itemGone_record h]
  exact ⟨uplinkSelect_chosen (bufferFreed_buffer s), by simp, by simp, by simp, by simp [Store.markSent]⟩

theorem uplinkItemEnd_row {s : State} {it : TxItem} (hawake : s.resetLine = false) (hbuffer : s.upl.buffer = some it)
    (hended : (it.frames.map List.length).sum * uplinkChar s.upl.rate ≤ it.elapsed) :
    exec .uplinkItemEnd s = .next (endItem it s) := by
  have hdue : s.itemEnded = true := by simp [State.itemEnded, hbuffer, TxItem.ended, TxItem.whole, hended]
  have hexec : exec .uplinkItemEnd s = execUplinkItemEnd s := rfl
  rw [hexec, execUplinkItemEnd, taken_of_awake hawake]
  simp only [hbuffer, hdue, if_true]

/-! ## LINK (R180, R184, R195) -/

/-- R180: what is still to go of a character in progress is less than a character, and ends it. -/
theorem inCourse_spec (it : TxItem) {cu : Nat} (hcu : 0 < cu) :
    it.inCourse cu < cu ∧ (it.elapsed + it.inCourse cu) % cu = 0 := by
  refine ⟨Nat.mod_lt _ hcu, ?_⟩
  have hle : it.elapsed % cu ≤ cu := (Nat.mod_lt _ hcu).le
  rw [TxItem.inCourse, Nat.add_mod, Nat.mod_mod, ← Nat.add_mod, ← Nat.mod_add_mod, Nat.add_sub_of_le hle, Nat.mod_self]

/-- The state with LINK low, before its item is abandoned. -/
def linkFallen (s : State) : State := s.setLines { s.lines with link := false }

/-- UPL with its item abandoned, if it had one. -/
def itemAbandoned (s : State) : State := s.upl.buffer.elim (linkFallen s) fun it => abandon it (linkFallen s)

theorem linkLow_eq (s : State) :
    linkLow s = uplinkRateEffect ((itemAbandoned s).setUpl (dropAssembly (itemAbandoned s).upl)) := by
  unfold linkLow itemAbandoned
  rw [← linkFallen]
  dsimp only
  have hbuffer : (linkFallen s).upl.buffer = s.upl.buffer := rfl
  rw [hbuffer]
  cases s.upl.buffer <;> rfl

theorem abandon_upl (it : TxItem) (s : State) :
    (abandon it s).upl = { s.upl with buffer := none, tail := s.upl.tail + it.inCourse (uplinkChar s.upl.rate) } := by
  unfold abandon
  dsimp only
  split <;> rfl

theorem abandon_resetWait (it : TxItem) (s : State) :
    (abandon it s).ctl.resetWait =
      if it.cls = .reply then s.ctl.resetWait.map fun w => { w with gone := w.gone || w.placed }
      else s.ctl.resetWait := by
  unfold abandon
  dsimp only
  split <;> rfl

theorem dropAssembly_eq (u : Upl) :
    (dropAssembly u).assembling = false ∧
      (dropAssembly u).linkLost = if u.assembling then inc16 u.linkLost else u.linkLost := by
  unfold dropAssembly
  split
  · exact ⟨rfl, rfl⟩
  · next h => exact ⟨by simpa using h, rfl⟩

section
variable (s : State)

theorem itemAbandoned_frame :
    (itemAbandoned s).lines = { s.lines with link := false } ∧ (itemAbandoned s).upl.buffer = none ∧
      (itemAbandoned s).upl.assembling = s.upl.assembling ∧ (itemAbandoned s).upl.linkLost = s.upl.linkLost := by
  unfold itemAbandoned
  cases hbuffer : s.upl.buffer with
  | none => exact ⟨rfl, hbuffer, rfl, rfl⟩
  | some it => exact ⟨by simp [linkFallen], by rw [Option.elim_some, abandon_upl], by simp [linkFallen], by simp [linkFallen]⟩

theorem itemAbandoned_resetWait :
    (itemAbandoned s).ctl.resetWait =
      if s.upl.buffer.map TxItem.cls = some .reply then
        s.ctl.resetWait.map fun w => { w with gone := w.gone || w.placed }
      else s.ctl.resetWait := by
  unfold itemAbandoned
  cases s.upl.buffer with
  | none => rfl
  | some it =>
    simp only [Option.elim_some, Option.map_some, Option.some.injEq]
    exact abandon_resetWait it (linkFallen s)

theorem linkLow_uplTail : (linkLow s).upl.tail = (itemAbandoned s).upl.tail := by simp [linkLow_eq]

end

/-- Settles O49. -/
theorem uplinkItemsEndAndAreAbandoned : Obligations.UplinkItemsEndAndAreAbandoned := by
  unfold Obligations.UplinkItemsEndAndAreAbandoned
  refine ⟨fun s it hawake hbuffer hended => ?_, fun s hawake => ?_, fun s hawake => ?_, fun s => ⟨rfl, rfl⟩⟩
  · have hchosen : BufferChosen (endItem it s) := by
      cases hcls : it.cls with
      | reply => exact (endItem_reply hcls s).1
      | forward => exact (endItem_forward hcls s).1
      | warning => exact (endItem_record (.inl hcls) s).1
      | gauging => exact (endItem_record (.inr (.inl hcls)) s).1
      | interval => exact (endItem_record (.inr (.inr hcls)) s).1
    refine ⟨_, uplinkItemEnd_row hawake hbuffer hended, .of_blocks, hchosen, by simp, by simp, by simp,
      endItem_rate it s, ?_⟩
    cases hcls : it.cls with
    | reply =>
      obtain ⟨-, hstore, hfwdQ, hslot, hnone⟩ := endItem_reply hcls s
      refine ⟨hstore, hfwdQ, ?_⟩
      cases hpending : s.ctl.pendingReply with
      | none => simpa [hpending] using hnone (by simp [hpending])
      | some p =>
        cases p with
        | slot r => exact hslot r hpending
        | fragments fs => simpa [hpending] using hnone (by simp [hpending])
    | forward => exact (endItem_forward hcls s).2
    | warning => exact (endItem_record (.inl hcls) s).2
    | gauging => exact (endItem_record (.inr (.inl hcls)) s).2
    | interval => exact (endItem_record (.inr (.inr hcls)) s).2
  · have hrow : exec .linkFall s = .next (linkLow s) := by
      have hexec : exec .linkFall s = execLinkFall s := rfl
      rw [hexec, execLinkFall, if_neg (by simp [hawake])]
    obtain ⟨hlines, hbuffer, hassembling, hlost⟩ := itemAbandoned_frame s
    obtain ⟨hhunting, hcount⟩ := dropAssembly_eq (itemAbandoned s).upl
    rw [hassembling, hlost] at hcount
    refine ⟨_, hrow, .of_blocks, ?_, ?_, by simp, by simp, ?_, ?_, fun hnone => ?_, fun it hit hcu => ?_, by simp, by simp, ?_⟩
    · simpa [linkLow_eq] using hlines
    · simpa [linkLow_eq] using hbuffer
    · simpa [linkLow_eq] using hhunting
    · simpa [linkLow_eq] using hcount
    · rw [linkLow_uplTail, itemAbandoned, hnone]
      rfl
    · obtain ⟨hless, hends⟩ := inCourse_spec it hcu
      refine ⟨_, hless, hends, ?_⟩
      rw [linkLow_uplTail, itemAbandoned, hit, Option.elim_some, abandon_upl]
      rfl
    · rw [← itemAbandoned_resetWait, linkLow_eq]
      simp
  · have hrow : exec .linkRise s = .next (uplinkSelect (s.setLines { s.lines with link := true })) := by
      have hexec : exec .linkRise s = execLinkRise s := rfl
      rw [hexec, execLinkRise, if_neg (by simp [hawake])]
    refine ⟨_, hrow, .of_blocks, by simp, uplinkSelect_upl _, fun hnone => uplinkSelect_chosen hnone, fun hsome => ?_⟩
    obtain ⟨it, hit⟩ := Option.ne_none_iff_exists'.mp hsome
    rw [hit]
    exact uplinkSelect_buffer (by exact hit)

end Sys2Proof.Machine
end

section
/-! Reception on the uplink: the hunt, the frames that end, and the requests they bring (R176, R184, R185, R188, R189). -/

namespace Sys2Proof.Machine

set_option Elab.async false

/-! ## The hunt (R184) -/

theorem syncPairReceived_row {s : State} (hawake : s.resetLine = false) (n : Nat) (found : Bool) :
    exec (.syncPairReceived { discarded := n, found := found }) s =
      .next
        (s.setUpl
          (if s.upl.assembling then { s.upl with lastChar := some s.now }
          else s.upl.hunted { discarded := n, found := found } s.now)) := by
  have hexec : exec (.syncPairReceived { discarded := n, found := found }) s =
    execSyncPairReceived { discarded := n, found := found } s := rfl
  rw [hexec, execSyncPairReceived, taken_of_awake hawake]

/-! ## Faults (R184) -/

theorem uplinkRateEffect_rate {s : State} (h : s.upl.assembling = false) :
    (uplinkRateEffect s).upl.rate = if s.upl.buffer = none then cfgUplinkRate s.tbl.config else s.upl.rate := by
  cases hbuffer : s.upl.buffer with
  | none => simp [uplinkRateEffect, h, hbuffer]
  | some it => simp [uplinkRateEffect, h, hbuffer]

theorem countFault_spec (u : Upl) (k : UplinkFault) :
    (u.countFault k).framing = (if k = .framing then inc16 u.framing else u.framing) ∧
      (u.countFault k).length = (if k = .length then inc16 u.length else u.length) ∧
      (u.countFault k).crc = (if k = .crc then inc16 u.crc else u.crc) ∧
      (u.countFault k).assembling = u.assembling ∧ (u.countFault k).rate = u.rate ∧
      (u.countFault k).buffer = u.buffer ∧ (u.countFault k).slot = u.slot ∧ (u.countFault k).gap = u.gap := by
  cases k <;> exact ⟨rfl, rfl, rfl, rfl, rfl, rfl, rfl, rfl⟩

theorem uplinkFrameError_row {s : State} (hawake : s.resetLine = false) (hassembling : s.upl.assembling = true)
    (k : UplinkFault) :
    exec (.uplinkFrameError k) s = .next (uplinkRateEffect (s.setUpl ((hunting s.upl).countFault k))) := by
  have hexec : exec (.uplinkFrameError k) s = execUplinkFrameError k s := rfl
  rw [hexec, execUplinkFrameError, taken_of_awake hawake, if_pos hassembling]

theorem uplinkReceiveGap_row {s : State} {last : Nat} (hawake : s.resetLine = false)
    (hassembling : s.upl.assembling = true) (hlast : s.upl.lastChar = some last) (hpast : last + 250 < s.now) :
    exec .uplinkReceiveGap s =
      .next (uplinkRateEffect (s.setUpl { hunting s.upl with gap := inc16 s.upl.gap })) := by
  have hdue : s.gapDue = true := by simp [State.gapDue, hassembling, hlast, hpast]
  have hexec : exec .uplinkReceiveGap s = execUplinkReceiveGap s := rfl
  rw [hexec, execUplinkReceiveGap, taken_of_awake hawake, if_pos hdue]

/-! ## A frame that has come whole (R184, R185, R188) -/

/-- What is done with a frame, the assembly hunting again. -/
def frameJudged (f : UplinkFrame) (s : State) : State :=
  (uplinkFault f).elim (judgeUplink f (s.setUpl (hunting s.upl))) fun k =>
    s.setUpl ((hunting s.upl).countFault k)

theorem endUplinkFrame_eq (f : UplinkFrame) (s : State) :
    endUplinkFrame f s = uplinkRateEffect (frameJudged f s) := by
  unfold endUplinkFrame frameJudged
  dsimp only
  cases uplinkFault f <;> rfl

theorem uplinkFrameReceived_row {s : State} (hawake : s.resetLine = false) (hassembling : s.upl.assembling = true)
    (f : UplinkFrame) : exec (.uplinkFrameReceived f) s = .next (settle (endUplinkFrame f s)) := by
  have hexec : exec (.uplinkFrameReceived f) s = execUplinkFrameReceived f s := rfl
  rw [hexec, execUplinkFrameReceived, taken_of_awake hawake, if_pos hassembling]

/-- A frame as its characters give it is sound (R184). -/
def CrcSound (f : UplinkFrame) : Prop :=
  f.crc = crc16 (beNat 2 f.station.toNat ++ beNat 1 f.kind.toNat ++ beNat 2 f.seq.toNat ++
    beNat 1 f.payload.length ++ f.payload)

section
variable {f : UplinkFrame} {s : State} (hlength : f.payload.length ≤ 200)
include hlength

theorem uplinkFault_of_sound (h : CrcSound f) : uplinkFault f = none := by
  rw [uplinkFault, if_neg (by omega)]
  exact if_neg (not_not.mpr h)

theorem uplinkFault_of_unsound (h : ¬ CrcSound f) : uplinkFault f = some .crc := by
  rw [uplinkFault, if_neg (by omega)]
  exact if_pos h

theorem frameJudged_unsound (h : ¬ CrcSound f) : frameJudged f s = s.setUpl ((hunting s.upl).countFault .crc) := by
  rw [frameJudged, uplinkFault_of_unsound hlength h]
  rfl

variable (h : CrcSound f)
include h

theorem frameJudged_foreign (hstation : f.station.toNat ≠ cfgStationId s.tbl.config ∧ f.station ≠ 0) :
    frameJudged f s = s.setUpl { hunting s.upl with foreign := inc16 s.upl.foreign } := by
  rw [frameJudged, uplinkFault_of_sound hlength h]
  exact if_pos hstation

theorem frameJudged_kind (hstation : ¬ (f.station.toNat ≠ cfgStationId s.tbl.config ∧ f.station ≠ 0))
    (hkind : f.kind ≠ 1) :
    frameJudged f s = s.setUpl { hunting s.upl with kindDiscards := inc16 s.upl.kindDiscards } := by
  rw [frameJudged, uplinkFault_of_sound hlength h]
  exact (if_neg hstation).trans (if_pos hkind)

theorem frameJudged_control (hstation : ¬ (f.station.toNat ≠ cfgStationId s.tbl.config ∧ f.station ≠ 0))
    (hkind : ¬ f.kind ≠ 1) :
    frameJudged f s = enqueue { origin := .uplink f.seq, payload := f.payload } (s.setUpl (hunting s.upl)) := by
  rw [frameJudged, uplinkFault_of_sound hlength h]
  exact (if_neg hstation).trans (if_neg hkind)

end

/-! ## A request of uplink origin (R185, R188, R189) -/

section
variable (seq : BitVec 16) (payload : List Byte) {u : State}

theorem enqueue_uplink_of_room (h : u.ctl.queue.length < 4) :
    (enqueue { origin := .uplink seq, payload := payload } u).ctl.queue =
        u.ctl.queue ++ [{ origin := .uplink seq, payload := payload }] ∧
      (enqueue { origin := .uplink seq, payload := payload } u).upl.slot = u.upl.slot ∧
      (enqueue { origin := .uplink seq, payload := payload } u).ctl.droppedBusy = u.ctl.droppedBusy ∧
      (enqueue { origin := .uplink seq, payload := payload } u).upl.ready =
        if 3 ≤ u.ctl.queue.length + 1 then false else if u.ctl.queue.length + 1 ≤ 1 then true else u.upl.ready := by
  rw [enqueue, if_pos h]
  simp [setQueue, readyAfter]

theorem enqueue_uplink_of_full (h : ¬ u.ctl.queue.length < 4) :
    (enqueue { origin := .uplink seq, payload := payload } u).ctl.queue = u.ctl.queue ∧
      (enqueue { origin := .uplink seq, payload := payload } u).upl.ready = u.upl.ready ∧
      if u.upl.slot = none then
        (enqueue { origin := .uplink seq, payload := payload } u).ctl.droppedBusy = u.ctl.droppedBusy ∧
        (enqueue { origin := .uplink seq, payload := payload } u).upl.slot =
          some { seq := seq, payload := [({ origin := .uplink seq, payload := payload } : Request).code, 1] }
      else
        (enqueue { origin := .uplink seq, payload := payload } u).upl.slot = u.upl.slot ∧
        (enqueue { origin := .uplink seq, payload := payload } u).ctl.droppedBusy = inc16 u.ctl.droppedBusy := by
  rw [enqueue, if_neg h]
  refine ⟨by simp, by simp, ?_⟩
  by_cases hslot : u.upl.slot = none
  · rw [if_pos hslot]
    simp [refuseBusy, hslot, placeInSlot]
    rfl
  · rw [if_neg hslot]
    simp [refuseBusy, hslot]

end

theorem enqueue_uplink_loop (seq : BitVec 16) (payload : List Byte) (u : State) :
    (enqueue { origin := .uplink seq, payload := payload } u).loop = u.loop := by
  by_cases hroom : u.ctl.queue.length < 4
  · rw [enqueue, if_pos hroom]
    rfl
  · rw [enqueue, if_neg hroom]
    by_cases hslot : u.upl.slot = none
    · simp [refuseBusy, hslot]
    · simp [refuseBusy, hslot]

/-- A frame of the uplink is nothing to LOOP before the end of its event. -/
theorem frameJudged_loop (f : UplinkFrame) (s : State) : (frameJudged f s).loop = s.loop := by
  unfold frameJudged
  cases uplinkFault f with
  | none =>
    rw [Option.elim_none, judgeUplink]
    split
    · rfl
    · split
      · rfl
      · exact enqueue_uplink_loop ..
  | some k => rfl

theorem frameJudged_hunting (f : UplinkFrame) (s : State) : (frameJudged f s).upl.assembling = false := by
  unfold frameJudged
  cases uplinkFault f with
  | none => simp [hunting]
  | some k => cases k <;> rfl

/-- Settles O50. -/
theorem uplinkFramesReachTheControlQueue : Obligations.UplinkFramesReachTheControlQueue := by
  unfold Obligations.UplinkFramesReachTheControlQueue
  refine ⟨fun s n found hawake => ?_, fun s hawake hassembling => ⟨fun k => ?_, fun last hlast hpast => ?_⟩,
    fun s f hawake hassembling hlength => ?_⟩
  · refine ⟨_, syncPairReceived_row hawake n found, .of_blocks, fun hhunting => ?_, fun hframe => ?_⟩
    · rw [if_neg (by simp [hhunting])]
      exact ⟨rfl, rfl⟩
    · rw [if_pos hframe]
      rfl
  · obtain ⟨hframing, hlen, hcrc, hhunting, hrate, hbuffer, hslot, hgap⟩ := countFault_spec (hunting s.upl) k
    refine ⟨_, uplinkFrameError_row hawake hassembling k, .of_blocks, ?_, ?_, ?_, ?_, ?_, ?_, ?_, ?_⟩
    · simp [hunting]
    · simp
    · simp
    · simp
    · simpa using hframing
    · simpa using hlen
    · simpa using hcrc
    · rw [uplinkRateEffect_rate (by exact hhunting)]
      simp
  · exact ⟨_, uplinkReceiveGap_row hawake hassembling hlast hpast, .of_blocks, by simp [hunting], by simp [hunting],
      by simp, by simp, by simp⟩
  · have hupl (u : State) : (settle u).upl = u.upl := by simp
    have hqueue (u : State) : (settle u).ctl.queue = u.ctl.queue := by simp
    have hdropped (u : State) : (settle u).ctl.droppedBusy = u.ctl.droppedBusy := by simp
    have hloop : (endUplinkFrame f s).loop = s.loop := by simp [endUplinkFrame_eq, frameJudged_loop]
    refine ⟨_, uplinkFrameReceived_row hawake hassembling f, .of_blocks, by constructor <;> simp [hloop], ?_, by simp, ?_⟩
    · rw [hupl, endUplinkFrame_eq]
      simpa using frameJudged_hunting f s
    rw [hupl, hqueue, hdropped, endUplinkFrame_eq]
    split
    · next hunsound =>
      rw [frameJudged_unsound hlength hunsound]
      exact ⟨by simp [Upl.countFault], by simp, by simp [Upl.countFault]⟩
    next hsound =>
    have hsound : CrcSound f := not_not.mp hsound
    split
    · next hstation =>
      rw [frameJudged_foreign hlength hsound hstation]
      simp
    next hstation =>
    split
    · next hkind =>
      rw [frameJudged_kind hlength hsound hstation hkind]
      simp
    next hkind =>
    rw [frameJudged_control hlength hsound hstation hkind]
    split
    · next hroom =>
      obtain ⟨hq, hs, hd, hr⟩ := enqueue_uplink_of_room f.seq f.payload (u := s.setUpl (hunting s.upl)) hroom
      exact ⟨by simpa using hq, by simpa using hs, by simpa using hd, by simpa using hr⟩
    · next hfull =>
      obtain ⟨hq, hr, hbusy⟩ := enqueue_uplink_of_full f.seq f.payload (u := s.setUpl (hunting s.upl)) hfull
      exact ⟨by simpa using hq, by simpa using hr, by simpa using hbusy⟩

end Sys2Proof.Machine
end

section
/-! A write to CHANNELS (R79, R81, R88, R193). -/

namespace Sys2Proof.Machine

set_option Elab.async false

/-! ## The polls at the end of an event (R79, R82) -/

/-- A poll but its due time: what R81 keeps or makes fresh. -/
structure Poll.MarksKept (p q : Poll) : Prop where
  missed : q.missed = p.missed
  last : q.last = p.last
  skipped : q.skipped = p.skipped

/-- R79: a poll moves on by a period exactly where it is the transaction that the end of the event opens. -/
theorem settleFrom_poll_due (t : Nat) {s : State} {ch : Nat} {p : Poll} (h : s.loop.poll? ch = some p) :
    ∃ q, (settleFrom t s).loop.poll? ch = some q ∧ p.MarksKept q ∧
      q.due =
        if s.loop.txn = none ∧ (settleFrom t s).loop.txn.map Txn.asker = some (.poll ch) then p.due + s.pollPeriod ch
        else p.due := by
  obtain ⟨-, hchosen⟩ | ⟨-, c, hchosen⟩ | ⟨hmay, k, q, hdue, hchosen⟩ := settleFrom_chosen t s
  · refine ⟨p, by rw [Loop.poll?_congr hchosen.sched, h], ⟨rfl, rfl, rfl⟩, (if_neg fun ⟨hfree, hasker⟩ => ?_).symm⟩
    have hon := hchosen.txn
    rw [hfree] at hon
    simp [hon.of_none] at hasker
  · refine ⟨p, by rw [Loop.poll?_congr hchosen.sched, h], ⟨rfl, rfl, rfl⟩, (if_neg fun ⟨hfree, hasker⟩ => ?_).symm⟩
    obtain ⟨ph, heq, -⟩ := hchosen.txn.of_some
    simp [heq] at hasker
  · obtain ⟨ph, heq, -⟩ := hchosen.txn.of_some
    rw [Loop.poll?_congr hchosen.sched]
    by_cases hk : ch = k
    · subst hk
      obtain rfl : p = q := by simpa [h] using poll?_of_earliestDue hdue
      exact ⟨_, Loop.poll?_setPoll_same _ h, ⟨rfl, rfl, rfl⟩,
        (if_pos ⟨Loop.txn_of_mayChoose hmay, by simp [heq]⟩).symm⟩
    · refine ⟨p, by rw [Loop.poll?_setPoll_ne _ hk, h], ⟨rfl, rfl, rfl⟩, (if_neg fun ⟨_, hasker⟩ => hk ?_).symm⟩
      simpa [heq, eq_comm] using hasker

theorem settleFrom_poll_none (t : Nat) {s : State} {ch : Nat} (h : s.loop.poll? ch = none) :
    (settleFrom t s).loop.poll? ch = none := by
  obtain ⟨-, hchosen⟩ | ⟨-, c, hchosen⟩ | ⟨-, k, q, hdue, hchosen⟩ := settleFrom_chosen t s <;>
    rw [Loop.poll?_congr hchosen.sched]
  · exact h
  · exact h
  · have hk : ch ≠ k := by
      rintro rfl
      simp [poll?_of_earliestDue hdue] at h
    rw [Loop.poll?_setPoll_ne _ hk, h]

/-! ## The schedule after the write (R81) -/

theorem activeIn_viewOf (t : List Byte) {i : Nat} (hi : i < 24) :
    activeIn (viewOf t) i = true ↔ treatmentOf t i = .active := by
  simp [activeIn, viewOf, List.getD_eq_getElem?_getD, hi]

/-- The polls of an entry that is ACTIVE after the write. -/
theorem pollAfterWrite_kept (now : Nat) (old new : ChanEntry) (p : Poll) :
    ∃ q, pollAfterWrite now true true old new (some p) = some q ∧ p.MarksKept q ∧
      q.due = if old.period = new.period ∧ old.phase = new.phase then p.due else now + 1000 * new.phase := by
  by_cases hsame : old.period = new.period ∧ old.phase = new.phase
  · exact ⟨p, by simp [pollAfterWrite, hsame], ⟨rfl, rfl, rfl⟩, (if_pos hsame).symm⟩
  · refine ⟨_, if_neg hsame, ⟨rfl, rfl, rfl⟩, (if_neg hsame).symm⟩

theorem pollAfterWrite_fresh (now : Nat) {before : Bool} (old new : ChanEntry) {p : Option Poll}
    (h : before = false ∨ p = none) :
    pollAfterWrite now before true old new p = some (newPoll (now + 1000 * new.phase)) := by
  obtain rfl | rfl := h
  · rfl
  · cases before <;> rfl

section
variable {old : List Byte} {s : State} {i : Nat} (hi : i < 24)
include hi

theorem channelsWritten_poll (old : List Byte) (s : State) :
    (channelsWritten old s).loop.poll? i =
      pollAfterWrite s.now (activeIn s.cht.view i) (activeIn (viewOf s.tbl.channels) i) (chanEntry old i) (s.chan i)
        (s.loop.poll? i) := by
  simp [channelsWritten, scheduleAfter, Loop.poll?, List.getD_eq_getElem?_getD, hi, State.now, State.chan]

theorem channelsWritten_poll_inactive (h : treatmentOf s.tbl.channels i ≠ .active) :
    (channelsWritten old s).loop.poll? i = none := by
  have hinactive : activeIn (viewOf s.tbl.channels) i = false := Bool.eq_false_iff.mpr (mt (activeIn_viewOf _ hi).mp h)
  rw [channelsWritten_poll hi, hinactive]
  rfl

end

/-- The state of a write to CHANNELS before its answer. -/
def channelsStored (off : Nat) (data : List Byte) (s : State) : State :=
  channelsWritten s.tbl.channels (s.setTbl { s.tbl with channels := writeBytes s.tbl.channels off data })

theorem writeTableChannels_row {s : State} {off : Nat} {data : List Byte} (h : Serving s (.writeTable 1 off data)) :
    exec .writeTableChannels s = .next (settle (answerWrite 1 off data (channelsStored off data s))) := by
  have hexec : exec .writeTableChannels s = execWriteTableChannels s := rfl
  rw [hexec, execWriteTableChannels, taken_of_awake h.awake]
  simp only [h.work]
  rfl

theorem channelsStored_workedOn (off : Nat) (data : List Byte) (s : State) :
    WorkedOn [.tbl, .cht] s (channelsStored off data s) := by
  unfold channelsStored channelsWritten
  exact { others := .of_blocks }

section
variable {s : State} {off : Nat} {data : List Byte}

/-- What the choice at the end of the write finds. -/
theorem answered_poll (i : Nat) :
    (answerWrite 1 off data (channelsStored off data s)).loop.poll? i = (channelsStored off data s).loop.poll? i ∧
      (answerWrite 1 off data (channelsStored off data s)).loop.txn = s.loop.txn ∧
      (answerWrite 1 off data (channelsStored off data s)).tbl =
        { s.tbl with channels := writeBytes s.tbl.channels off data } :=
  ⟨Loop.poll?_congr (by simp) i, by simp [channelsStored, channelsWritten], by simp [channelsStored, channelsWritten]⟩

/-- R81: the poll of an entry that is ACTIVE after the write, before the choice at the end of the event. -/
theorem channelsStored_poll {i : Nat} (hi : i < 24)
    (hactive : treatmentOf (writeBytes s.tbl.channels off data) i = .active) :
    ∃ p, (channelsStored off data s).loop.poll? i = some p ∧
      (∀ q, s.loop.poll? i = some q → activeIn s.cht.view i = true →
        q.MarksKept p ∧
        p.due =
          if (chanEntry s.tbl.channels i).period = (chanEntry (writeBytes s.tbl.channels off data) i).period ∧
              (chanEntry s.tbl.channels i).phase = (chanEntry (writeBytes s.tbl.channels off data) i).phase then q.due
          else s.clk.timebase + 1000 * (chanEntry (writeBytes s.tbl.channels off data) i).phase) ∧
      (activeIn s.cht.view i = false ∨ s.loop.poll? i = none →
        p = newPoll (s.clk.timebase + 1000 * (chanEntry (writeBytes s.tbl.channels off data) i).phase)) := by
  have hview := (activeIn_viewOf _ hi).mpr hactive
  rw [channelsStored, channelsWritten_poll hi, State.setTbl_tbl, hview]
  change ∃ p, pollAfterWrite s.clk.timebase (activeIn s.cht.view i) true (chanEntry s.tbl.channels i)
    (chanEntry (writeBytes s.tbl.channels off data) i) (s.loop.poll? i) = some p ∧ _
  cases hbefore : activeIn s.cht.view i with
  | false =>
    refine ⟨_, pollAfterWrite_fresh _ _ _ (.inl rfl), fun q hq h => ?_, fun _ => rfl⟩
    cases h
  | true =>
    cases hq : s.loop.poll? i with
    | none =>
      refine ⟨_, pollAfterWrite_fresh _ _ _ (.inr rfl), fun q h => ?_, fun _ => rfl⟩
      cases h
    | some q =>
      obtain ⟨p, hp, hmarks, hdue⟩ := pollAfterWrite_kept s.clk.timebase (chanEntry s.tbl.channels i)
        (chanEntry (writeBytes s.tbl.channels off data) i) q
      refine ⟨p, hp, fun q' hq' _ => ?_, by simp⟩
      cases hq'
      exact ⟨hmarks, hdue⟩

end

/-- Settles O15. -/
theorem writeTableChannelsRecomputesTheView : Obligations.WriteTableChannelsRecomputesTheView := by
  unfold Obligations.WriteTableChannelsRecomputesTheView
  intro s off data h hfits
  obtain ⟨hframe, hreplied⟩ := (channelsStored_workedOn off data s).answered h replyOk
    (beNat 1 1 ++ beNat 2 off ++ beNat 1 data.length)
  have htbl : (settle (answerWrite 1 off data (channelsStored off data s))).tbl =
      { s.tbl with channels := writeBytes s.tbl.channels off data } := by
    simp [channelsStored, channelsWritten]
  refine ⟨_, writeTableChannels_row h, .of_setBytes ⟨by decide, by decide, by decide⟩ hfits htbl
    (by simp [channelsStored, channelsWritten]) (by simp [channelsStored, channelsWritten]), hreplied, hframe, ?_, ?_,
    fun i hi => ?_⟩
  · simp [channelsStored, channelsWritten]
  · simp [channelsStored, channelsWritten]
  rw [htbl]
  obtain ⟨hpoll, htxn, htables⟩ := answered_poll (s := s) (off := off) (data := data) i
  refine ⟨fun hinactive => settleFrom_poll_none _ ?_, fun hactive => ?_⟩
  · rw [hpoll]
    exact channelsWritten_poll_inactive hi hinactive
  · obtain ⟨p, hp, hkept, hfresh⟩ := channelsStored_poll hi hactive
    obtain ⟨q, hq, ⟨hmissed, hlast, hskipped⟩, hdue⟩ :=
      settleFrom_poll_due (answerWrite 1 off data (channelsStored off data s)).fineNow (hpoll.trans hp)
    rw [State.pollPeriod, htxn, htables, ← settle] at hdue
    refine ⟨q, p.due, hq, hdue, ?_⟩
    rw [hmissed, hlast, hskipped]
    cases hbefore : activeIn s.cht.view i with
    | false =>
      rw [hfresh (.inl hbefore)]
      cases s.loop.poll? i <;> exact ⟨rfl, rfl, rfl, rfl⟩
    | true =>
      cases hold : s.loop.poll? i with
      | none =>
        rw [hfresh (.inr hold)]
        exact ⟨rfl, rfl, rfl, rfl⟩
      | some x =>
        obtain ⟨⟨hmissed, hlast, hskipped⟩, hdue⟩ := hkept x hold hbefore
        exact ⟨hmissed, hlast, hskipped, hdue⟩

end Sys2Proof.Machine
end

section
/-! A write to CONFIG: what each block does by a changed field (R5, R17, R52, R60, R65, R176). -/

namespace Sys2Proof.Machine

set_option Elab.async false

/-! ## The stale limit (R5) -/

/-- R5: a source that has come to its expiry is STALE. -/
def expireSource (src : Source) (s : State) : State := if s.staleDue src then becomeStale src s else s

theorem expireSource_source (src o : Source) (s : State) :
    (expireSource src s).stg.source o =
      if o = src ∧ s.staleDue src = true then { s.stg.source src with state := .stale, staleAt := none }
      else s.stg.source o := by
  unfold expireSource
  by_cases hdue : s.staleDue src = true
  · rw [if_pos hdue, becomeStale_source]
    by_cases ho : o = src
    · subst ho
      rw [if_pos ⟨rfl, hdue⟩]
      cases o <;> rfl
    · rw [if_neg (by simp [ho])]
      cases src <;> cases o <;> simp_all [staledStg, Stg.setSource, Stg.source]
  · rw [if_neg hdue, if_neg (by simp [hdue])]

theorem expireSource_now (src : Source) (s : State) : (expireSource src s).now = s.now := by
  unfold expireSource
  split <;> simp [State.now]

theorem staleDue_congr {s t : State} {src : Source} (source : t.stg.source src = s.stg.source src) (now : t.now = s.now) :
    t.staleDue src = s.staleDue src := by
  rw [State.staleDue, source, now, State.staleDue]

/-- The sources under the limit now in force. -/
def restaledState (s : State) : State :=
  s.setStg
    { s.stg with
      prim := s.stg.prim.restale (cfgStaleLimit s.tbl.config), sec := s.stg.sec.restale (cfgStaleLimit s.tbl.config) }

theorem restaledState_source (s : State) (src : Source) :
    (restaledState s).stg.source src = (s.stg.source src).restale (cfgStaleLimit s.tbl.config) := by
  cases src <;> rfl

theorem staleLimitChanged_eq (old : List Byte) (s : State) :
    staleLimitChanged old s =
      if cfgStaleLimit old = cfgStaleLimit s.tbl.config then s
      else expireSource .secondary (expireSource .primary (restaledState s)) := rfl

/-- R5: each source by its own timer, under the new limit. -/
theorem staleLimitChanged_source {old : List Byte} {s : State} (h : cfgStaleLimit old ≠ cfgStaleLimit s.tbl.config)
    (src : Source) :
    (staleLimitChanged old s).stg.source src =
      if (restaledState s).staleDue src = true then
        { (restaledState s).stg.source src with state := .stale, staleAt := none }
      else (restaledState s).stg.source src := by
  rw [staleLimitChanged_eq, if_neg h, expireSource_source]
  cases src with
  | primary =>
    rw [if_neg (by simp), expireSource_source]
    simp only [true_and]
  | secondary =>
    have hsource : (expireSource .primary (restaledState s)).stg.source .secondary =
        (restaledState s).stg.source .secondary := by rw [expireSource_source, if_neg (by simp)]
    rw [staleDue_congr hsource (expireSource_now _ _), hsource]
    simp only [true_and]

theorem SourceRec.restale_running {r : SourceRec} {x e : Nat} (hlast : r.lastTime = some x) (hat : r.staleAt = some e)
    (limit : Nat) : r.restale limit = { r with staleAt := some (x + limit) } := by
  simp only [SourceRec.restale, hlast, hat]

theorem staleLimitChanged_valid {old : List Byte} {s : State} (h : cfgStaleLimit old ≠ cfgStaleLimit s.tbl.config)
    {src : Source} {x e : Nat} (hvalid : (s.stg.source src).state = .valid) (hlast : (s.stg.source src).lastTime = some x)
    (hat : (s.stg.source src).staleAt = some e) :
    (staleLimitChanged old s).stg.source src =
      if x + cfgStaleLimit s.tbl.config ≤ s.now then { s.stg.source src with state := .stale, staleAt := none }
      else { s.stg.source src with staleAt := some (x + cfgStaleLimit s.tbl.config) } := by
  have hsource := (restaledState_source s src).trans (SourceRec.restale_running hlast hat _)
  have hdue : (restaledState s).staleDue src = true ↔ x + cfgStaleLimit s.tbl.config ≤ s.now := by
    have hnow : (restaledState s).now = s.now := rfl
    simp [State.staleDue, hsource, hvalid, dueAt, hnow]
  rw [staleLimitChanged_source h, hsource]
  simp only [hdue]

theorem staleLimitChanged_same {old : List Byte} {s : State} (h : cfgStaleLimit s.tbl.config = cfgStaleLimit old) :
    staleLimitChanged old s = s := if_pos h.symm

/-! ## The history step (R17) -/

theorem historyStepChanged_changed {old : List Byte} {s : State}
    (h : cfgHistoryStep s.tbl.config ≠ cfgHistoryStep old) :
    (historyStepChanged old s).stg.history = List.replicate 64 none ∧
      (historyStepChanged old s).stg.historyAt = s.clk.timebase + 1000 * cfgHistoryStep s.tbl.config := by
  rw [historyStepChanged, if_neg h.symm]
  exact ⟨rfl, rfl⟩

theorem historyStepChanged_same {old : List Byte} {s : State} (h : cfgHistoryStep s.tbl.config = cfgHistoryStep old) :
    historyStepChanged old s = s := if_pos h.symm

theorem historyStepChanged_stg (old : List Byte) (s : State) :
    (historyStepChanged old s).stg =
      { s.stg with
        history := (historyStepChanged old s).stg.history, historyAt := (historyStepChanged old s).stg.historyAt } := by
  unfold historyStepChanged
  split <;> rfl

/-! ## The stand-down time (R52) -/

section
variable {old : List Byte} {s : State}

theorem standDownChanged_none (h : s.wrn.standDown = none) : standDownChanged old s = s := by
  simp only [standDownChanged, h]

variable {d : StandDown} (h : s.wrn.standDown = some d)
include h

theorem standDownChanged_same (hsame : cfgStandDown s.tbl.config d.level = cfgStandDown old d.level) :
    standDownChanged old s = s := by
  simp only [standDownChanged, h]
  rw [if_pos hsame.symm]

theorem standDownChanged_later (hnew : cfgStandDown s.tbl.config d.level ≠ cfgStandDown old d.level)
    (hahead : s.now < d.start + cfgStandDown s.tbl.config d.level) :
    standDownChanged old s =
      s.setWrn { s.wrn with standDown := some { d with expiry := d.start + cfgStandDown s.tbl.config d.level } } := by
  simp only [standDownChanged, h]
  rw [if_neg hnew.symm, if_neg (by omega)]

theorem standDownChanged_past (hnew : cfgStandDown s.tbl.config d.level ≠ cfgStandDown old d.level)
    (hpast : d.start + cfgStandDown s.tbl.config d.level ≤ s.now) : standDownChanged old s = standDownFall s := by
  simp only [standDownChanged, h]
  rw [if_neg hnew.symm, if_pos hpast]

end

/-- An append is never nothing. -/
theorem Store.append_ne (st : Store) (c : Content) : st.append c ≠ st := by
  intro h
  have hnext : (st.nextSeq + 1) % 65536 = st.nextSeq := congrArg Store.nextSeq h
  omega

/-- UPL's buffer is as it was where no record was written. -/
theorem standDownChanged_buffer {old : List Byte} {s : State} (h : (standDownChanged old s).store = s.store) :
    (standDownChanged old s).upl.buffer = s.upl.buffer := by
  cases hd : s.wrn.standDown with
  | none => rw [standDownChanged_none hd]
  | some d =>
    by_cases hsame : cfgStandDown s.tbl.config d.level = cfgStandDown old d.level
    · rw [standDownChanged_same hd hsame]
    by_cases hpast : d.start + cfgStandDown s.tbl.config d.level ≤ s.now
    · rw [standDownChanged_past hd hsame hpast, standDownFall_store] at h
      exact absurd h (Store.append_ne _ _)
    · rw [standDownChanged_later hd hsame (by omega)]
      rfl

/-! ## The stop level (R60) -/

theorem stopLevelChanged_eq (old : List Byte) (s : State) :
    stopLevelChanged old s =
      if cfgStopLevel s.tbl.config ≤ s.wrn.level ∧ s.wrn.level < cfgStopLevel old then abortRun .abortedWarning s
      else s := by
  simp [stopLevelChanged, State.interlock]

theorem Loop.claim_held (l : Loop) (c : ClaimCause) : (l.claim c).grant.held = l.grant.held := by
  cases hstate : l.grant.state with
  | opening | claiming => cases c <;> simp [Loop.claim, hstate, Grant.held]
  | idle | held | closing => simp [Loop.claim, hstate, Grant.held]

theorem abortRun_held (cause : RunOutcome) (s : State) :
    (abortRun cause s).loop.grant.held = s.loop.grant.held := by
  unfold abortRun
  split
  · simpa using Loop.claim_held s.loop .runEngine
  · split
    · rfl
    · rfl

theorem stopLevelChanged_held (old : List Byte) (s : State) :
    (stopLevelChanged old s).loop.grant.held = s.loop.grant.held := by
  rw [stopLevelChanged_eq]
  split
  · exact abortRun_held ..
  · rfl

/-! ## The bit rates (R65, R176) -/

theorem rateEffect_rate (s : State) :
    (rateEffect s).loop.rate =
      if s.loop.txn = none ∧ s.loop.grant.held = false ∧ s.loop.tx = none then cfgLoopRate s.tbl.config
      else s.loop.rate := by
  simp only [rateEffect, Loop.pairFree, Bool.and_eq_true, Bool.not_eq_true', Option.isNone_iff_eq_none, and_assoc]
  split <;> rfl

theorem settle_rate (s : State) :
    (settle s).loop.rate =
      if s.loop.txn = none ∧ s.loop.grant.held = false ∧ s.loop.tx = none then cfgLoopRate s.tbl.config
      else s.loop.rate := by
  rw [← rateEffect_rate, settle, settleFrom]
  simp

theorem uplinkRateEffect_rate_eq (s : State) :
    (uplinkRateEffect s).upl.rate =
      if s.upl.buffer = none ∧ s.upl.assembling = false then cfgUplinkRate s.tbl.config else s.upl.rate := by
  simp only [uplinkRateEffect, Bool.and_eq_true, Bool.not_eq_true', Option.isNone_iff_eq_none]
  split <;> rfl

end Sys2Proof.Machine
end

section
/-! A write to CONFIG: its blocks put together (R193). -/

namespace Sys2Proof.Machine

set_option Elab.async false

/-- The state with the bytes of CONFIG written, and with the blocks that a changed field moves. -/
def configStored (off : Nat) (data : List Byte) (s : State) : State :=
  s.setTbl { s.tbl with config := writeBytes s.tbl.config off data }

def configActed (off : Nat) (data : List Byte) (s : State) : State :=
  configWritten s.tbl.config (configStored off data s)

theorem writeTableConfig_row {s : State} {off : Nat} {data : List Byte} (h : Serving s (.writeTable 0 off data)) :
    exec .writeTableConfig s = .next (settle (answerWrite 0 off data (configActed off data s))) := by
  have hexec : exec .writeTableConfig s = execWriteTableConfig s := rfl
  rw [hexec, execWriteTableConfig, taken_of_awake h.awake]
  simp only [h.work]
  rfl

theorem configActed_workedOn (off : Nat) (data : List Byte) (s : State) :
    WorkedOn [.tbl, .stg, .rat, .wrn, .pls, .run, .store] s (configActed off data s) := by
  unfold configActed configStored
  exact { others := .of_blocks }

/-! ## A write that leaves the stale limit -/

section
variable (off : Nat) (data : List Byte) (s : State)

/-- The state after the ring and the stand-down timer have acted. -/
def ringActed : State := historyStepChanged s.tbl.config (configStored off data s)

def timerActed : State := standDownChanged s.tbl.config (ringActed off data s)

theorem ringActed_frame :
    (ringActed off data s).clk = s.clk ∧ (ringActed off data s).tbl = (configStored off data s).tbl ∧
      (ringActed off data s).rat = s.rat ∧ (ringActed off data s).wrn = s.wrn ∧ (ringActed off data s).pls = s.pls ∧
      (ringActed off data s).run = s.run ∧ (ringActed off data s).loop = s.loop ∧
      (ringActed off data s).store = s.store ∧ (ringActed off data s).upl = s.upl := by
  simp [ringActed, configStored]

theorem timerActed_frame :
    (timerActed off data s).clk = s.clk ∧ (timerActed off data s).tbl = (configStored off data s).tbl ∧
      (timerActed off data s).stg = (ringActed off data s).stg ∧ (timerActed off data s).rat = s.rat ∧
      (timerActed off data s).pls = s.pls ∧ (timerActed off data s).run = s.run ∧
      (timerActed off data s).loop = s.loop ∧ (timerActed off data s).upl.assembling = s.upl.assembling ∧
      (timerActed off data s).upl.rate = s.upl.rate := by
  simp [timerActed, ringActed, configStored]

end

section
variable {off : Nat} {data : List Byte} {s : State}
  (h : cfgStaleLimit (configStored off data s).tbl.config = cfgStaleLimit s.tbl.config)

include h in
theorem configActed_eq :
    configActed off data s = uplinkRateEffect (stopLevelChanged s.tbl.config (timerActed off data s)) := by
  unfold configActed configWritten
  rw [staleLimitChanged_same h]
  rfl

/-- R52: WRN and the store after a changed stand-down time. -/
theorem timerActed_none (hnone : s.wrn.standDown = none) :
    (timerActed off data s).wrn = s.wrn ∧ (timerActed off data s).store = s.store := by
  obtain ⟨-, -, -, hwrn, -, -, -, hstore, -⟩ := ringActed_frame off data s
  rw [timerActed, standDownChanged_none (by rw [hwrn, hnone])]
  exact ⟨hwrn, hstore⟩

section
variable {d : StandDown} (hd : s.wrn.standDown = some d)
include hd

theorem timerActed_same
    (hsame : cfgStandDown (configStored off data s).tbl.config d.level = cfgStandDown s.tbl.config d.level) :
    (timerActed off data s).wrn = s.wrn ∧ (timerActed off data s).store = s.store := by
  obtain ⟨-, htbl, -, hwrn, -, -, -, hstore, -⟩ := ringActed_frame off data s
  rw [timerActed, standDownChanged_same (by rw [hwrn, hd]) (by rw [htbl, hsame])]
  exact ⟨hwrn, hstore⟩

theorem timerActed_later
    (hnew : cfgStandDown (configStored off data s).tbl.config d.level ≠ cfgStandDown s.tbl.config d.level)
    (hahead : s.now < d.start + cfgStandDown (configStored off data s).tbl.config d.level) :
    (timerActed off data s).wrn =
        { s.wrn with
          standDown :=
            some { d with expiry := d.start + cfgStandDown (configStored off data s).tbl.config d.level } } ∧
      (timerActed off data s).store = s.store := by
  obtain ⟨hclk, htbl, -, hwrn, -, -, -, hstore, -⟩ := ringActed_frame off data s
  have hnow : (ringActed off data s).now = s.now := by rw [State.now, hclk, State.now]
  rw [timerActed, standDownChanged_later (by rw [hwrn, hd]) (by rwa [htbl]) (by rwa [htbl, hnow]), State.setWrn_wrn, hwrn,
    htbl]
  exact ⟨rfl, hstore⟩

theorem timerActed_past
    (hnew : cfgStandDown (configStored off data s).tbl.config d.level ≠ cfgStandDown s.tbl.config d.level)
    (hpast : d.start + cfgStandDown (configStored off data s).tbl.config d.level ≤ s.now) :
    (timerActed off data s).wrn =
        { s.wrn with
          level := s.wrn.target, standDown := none, test := none, outputs := (timerActed off data s).wrn.outputs } ∧
      (timerActed off data s).store =
        s.store.append
          (.warning
            { time := s.clk.time, valid := s.clk.valid, old := s.wrn.level, new := s.wrn.target, cause := .standDown,
              stage := s.stg.selected.map Selected.mm, discharge := s.rat.latest.bind RatResult.discharge }) := by
  obtain ⟨hclk, htbl, hrat, hwrn, -, -, -, hstore, -⟩ := ringActed_frame off data s
  have hnow : (ringActed off data s).now = s.now := by rw [State.now, hclk, State.now]
  have hselected : (ringActed off data s).stg.selected = s.stg.selected := by simp [ringActed, configStored]
  rw [timerActed, standDownChanged_past (by rw [hwrn, hd]) (by rwa [htbl]) (by rwa [htbl, hnow]), standDownFall_wrn,
    standDownFall_store, hwrn, hstore]
  refine ⟨rfl, ?_⟩
  rw [levelRecord, hclk, hselected, hrat]

end

/-- R60: the interlock of a new stop level reaches RUN. -/
theorem stopLevelChanged_run (off : Nat) (data : List Byte) (s : State) :
    if cfgStopLevel (configStored off data s).tbl.config ≤ (timerActed off data s).wrn.level ∧
        (timerActed off data s).wrn.level < cfgStopLevel s.tbl.config then
      (s.run.state.working = true →
        RunAborted .abortedWarning s (stopLevelChanged s.tbl.config (timerActed off data s))) ∧
      (s.run.state.working = false →
        CauseNoted .abortedWarning s (stopLevelChanged s.tbl.config (timerActed off data s)))
    else
      (stopLevelChanged s.tbl.config (timerActed off data s)).run = s.run ∧
      (stopLevelChanged s.tbl.config (timerActed off data s)).pls = s.pls := by
  obtain ⟨hclk, htbl, -, -, hpls, hrun, -⟩ := timerActed_frame off data s
  rw [stopLevelChanged_eq, htbl]
  split
  · refine ⟨fun hwork => ?_, fun hstill => ?_⟩
    · have haborted := abortRun_aborted .abortedWarning (s := timerActed off data s) (by rwa [hrun])
      refine ⟨haborted.retrieve.of_start (by rw [State.now, hclk, State.now]) ?_ (by rw [hrun]) (by rw [hrun]), ?_⟩
      · exact (State.header_congr (s := configStored off data s) htbl (by rw [hrun]; rfl)).trans rfl
      · rw [haborted.record, hrun]
    · obtain ⟨hstate, hmarker, hplsKept, hrecord⟩ :=
        abortRun_noted .abortedWarning (s := timerActed off data s) (by rwa [hrun])
      rw [hrun] at hstate hmarker hrecord
      exact ⟨hstate, hmarker, hplsKept.trans hpls, hrecord⟩
  · exact ⟨hrun, hpls⟩

end

end Sys2Proof.Machine
end

section
/-! A write to CONFIG at the end of its event (R193). -/

namespace Sys2Proof.Machine

set_option Elab.async false

/-- The state that a write to CONFIG leaves. -/
def configEnded (off : Nat) (data : List Byte) (s : State) : State :=
  settle (answerWrite 0 off data (configActed off data s))

section
variable (off : Nat) (data : List Byte) (s : State)

theorem configEnded_frame :
    (configEnded off data s).tbl = (configStored off data s).tbl ∧
      (configEnded off data s).stg = (configActed off data s).stg ∧
      (configEnded off data s).rat = (configActed off data s).rat ∧
      (configEnded off data s).wrn = (configActed off data s).wrn ∧
      (configEnded off data s).pls = (configActed off data s).pls ∧
      (configEnded off data s).run = (configActed off data s).run ∧
      (configEnded off data s).store = (configActed off data s).store ∧
      (configEnded off data s).upl.rate = (configActed off data s).upl.rate := by
  simp [configEnded, configActed]

theorem configEnded_carriedOn : CarriedOn (configActed off data s) (configEnded off data s) :=
  (answer_carriedOn _ _ _).trans (settle_carriedOn _)

/-- R65: what the end of the event finds of LOOP. -/
theorem configEnded_loopRate (h : (configActed off data s).loop.grant.held = s.loop.grant.held) :
    (configEnded off data s).loop.rate =
      if s.loop.txn = none ∧ s.loop.grant.held = false ∧ s.loop.tx = none then
        cfgLoopRate (configStored off data s).tbl.config
      else s.loop.rate := by
  have hgrant : (answerWrite 0 off data (configActed off data s)).loop.grant = (configActed off data s).loop.grant := by
    simp
  rw [configEnded, settle_rate, hgrant, h]
  simp [configActed, configStored]

/-- R17: the ring and its timer. -/
theorem configActed_history :
    (cfgHistoryStep (configStored off data s).tbl.config ≠ cfgHistoryStep s.tbl.config →
      (configActed off data s).stg.history = List.replicate 64 none ∧
      (configActed off data s).stg.historyAt =
        s.clk.timebase + 1000 * cfgHistoryStep (configStored off data s).tbl.config) ∧
    (cfgHistoryStep (configStored off data s).tbl.config = cfgHistoryStep s.tbl.config →
      (configActed off data s).stg.history = s.stg.history ∧
      (configActed off data s).stg.historyAt = s.stg.historyAt) := by
  have hstg : (configActed off data s).stg =
      (historyStepChanged s.tbl.config (staleLimitChanged s.tbl.config (configStored off data s))).stg := by
    simp [configActed, configWritten]
  have htbl : (staleLimitChanged s.tbl.config (configStored off data s)).tbl = (configStored off data s).tbl := by simp
  rw [hstg]
  refine ⟨fun hnew => ?_, fun hsame => ?_⟩
  · rw [← htbl] at hnew ⊢
    simpa [configStored] using historyStepChanged_changed hnew
  · rw [← htbl] at hsame
    rw [historyStepChanged_same hsame]
    simp [configStored]

/-- R5: each VALID source under a new stale limit. -/
theorem configActed_source (src : Source) :
    (configActed off data s).stg.source src =
      (staleLimitChanged s.tbl.config (configStored off data s)).stg.source src :=
  Stg.source_congr (by simp [configActed, configWritten]) (by simp [configActed, configWritten]) src

end

section
variable {off : Nat} {data : List Byte} {s : State}
  (h : cfgStaleLimit (configStored off data s).tbl.config = cfgStaleLimit s.tbl.config)
include h

/-- The parts after a write that leaves the stale limit. -/
theorem configActed_parts :
    (configActed off data s).stg = (ringActed off data s).stg ∧ (configActed off data s).rat = s.rat ∧
      (configActed off data s).wrn = (timerActed off data s).wrn ∧
      (configActed off data s).store = (timerActed off data s).store ∧
      (configActed off data s).pls = (stopLevelChanged s.tbl.config (timerActed off data s)).pls := by
  obtain ⟨-, -, hstg, hrat, -⟩ := timerActed_frame off data s
  rw [configActed_eq h]
  simp [hstg, hrat]

theorem configActed_held : (configActed off data s).loop.grant.held = s.loop.grant.held := by
  obtain ⟨-, -, -, -, -, -, hloop, -⟩ := timerActed_frame off data s
  have heffect (u : State) : (uplinkRateEffect u).loop = u.loop := by simp
  rw [configActed_eq h, heffect, stopLevelChanged_held, hloop]

theorem configActed_stopLevel :
    CarriedOn (stopLevelChanged s.tbl.config (timerActed off data s)) (configActed off data s) := by
  rw [configActed_eq h]
  exact .of_places

/-- R176: the rate of the uplink where no record was written. -/
theorem configActed_uplinkRate (hstore : (timerActed off data s).store = s.store) :
    (configActed off data s).upl.rate =
      if s.upl.buffer = none ∧ s.upl.assembling = false then cfgUplinkRate (configStored off data s).tbl.config
      else s.upl.rate := by
  obtain ⟨-, -, -, -, -, -, -, hringStore, hringUpl⟩ := ringActed_frame off data s
  obtain ⟨-, htbl, -, -, -, -, -, hassembling, hrate⟩ := timerActed_frame off data s
  have hbuffer : (timerActed off data s).upl.buffer = s.upl.buffer := by
    rw [← hringUpl]
    exact standDownChanged_buffer (hstore.trans hringStore.symm)
  have hupl : (stopLevelChanged s.tbl.config (timerActed off data s)).upl = (timerActed off data s).upl := by simp
  have htables : (stopLevelChanged s.tbl.config (timerActed off data s)).tbl = (configStored off data s).tbl := by
    simp [htbl]
  rw [configActed_eq h, uplinkRateEffect_rate_eq, hupl, htables, hbuffer, hassembling, hrate]

end

/-- Settles O14. -/
theorem writeTableConfigStoresItsBytes : Obligations.WriteTableConfigStoresItsBytes := by
  unfold Obligations.WriteTableConfigStoresItsBytes
  intro s off data h hfits
  obtain ⟨⟨hothers, hctl, hline, hport, -⟩, hreplied⟩ := (configActed_workedOn off data s).answered h replyOk
    (beNat 1 0 ++ beNat 2 off ++ beNat 1 data.length)
  obtain ⟨htbl, hstg, hrat, hwrn, hpls, hrun, hstore, hrate⟩ := configEnded_frame off data s
  obtain ⟨hstep, hsteady⟩ := configActed_history off data s
  have hlive : (configEnded off data s).rat.live = s.rat.live := by simp [hrat, configActed, configStored]
  have hshifts : (configEnded off data s).rat.shifts = s.rat.shifts := by simp [hrat, configActed, configStored]
  refine ⟨configEnded off data s, writeTableConfig_row h,
    .of_setBytes ⟨by decide, by decide, by decide⟩ hfits htbl hlive hshifts, hreplied, fun b hb => hothers b ?_, hctl,
    hline, hport, hlive, hshifts, ?_, ?_, fun hlimit src x e hvalid hlast hat => ?_, fun hlimit => ?_⟩
  · cases b <;> simp_all
  · rwa [htbl, hstg]
  · rwa [htbl, hstg]
  · rw [htbl] at hlimit ⊢
    have hsource : (configEnded off data s).stg.source src = (configActed off data s).stg.source src := by rw [hstg]
    rw [hsource, configActed_source]
    exact staleLimitChanged_valid (s := configStored off data s) hlimit.symm hvalid hlast hat
  · rw [htbl] at hlimit ⊢
    obtain ⟨hstgActed, hratActed, hwrnActed, hstoreActed, hplsActed⟩ := configActed_parts hlimit
    rw [hwrnActed] at hwrn
    rw [hstoreActed] at hstore
    rw [hwrn, hstore]
    refine ⟨hrat.trans hratActed, ?_, fun hnone => timerActed_none hnone, fun d hd => ?_, ?_,
      configEnded_loopRate off data s (configActed_held hlimit), fun hkept => ?_⟩
    · rw [hstg, hstgActed]
      exact historyStepChanged_stg s.tbl.config (configStored off data s)
    · exact ⟨timerActed_same hd, timerActed_later hd, timerActed_past hd⟩
    · have hcarried := (configActed_stopLevel hlimit).trans (configEnded_carriedOn off data s)
      have hplsEnded := hpls.trans hplsActed
      have hreaches := stopLevelChanged_run off data s
      split at hreaches
      · next hlevel =>
        rw [if_pos hlevel]
        obtain ⟨haborted, hnoted⟩ := hreaches
        exact ⟨fun hwork => (haborted hwork).carriedOn hcarried hplsEnded,
          fun hstill => (hnoted hstill).carriedOn hcarried hplsEnded⟩
      · next hlevel =>
        rw [if_neg hlevel]
        obtain ⟨hrunKept, hplsKept⟩ := hreaches
        exact ⟨hcarried.run.trans hrunKept, hplsEnded.trans hplsKept⟩
    · rw [hrate]
      exact configActed_uplinkRate hlimit hkept

end Sys2Proof.Machine
end
